-- ==== Sys2Proof/Word.lean ====
section
/-!
DEFINITION. The word types of the device and their plainest arithmetic: bytes, 16-bit and 32-bit
words, 24-bit data words, and the widening of 24-bit data.
-/

set_option Elab.async false  -- the joined text is large: no thread per declaration

namespace Sys2Proof

/-- A byte. -/
abbrev Byte := BitVec 8
/-- A 16-bit half word. -/
abbrev Half := BitVec 16
/-- A 32-bit register word. -/
abbrev Word := BitVec 32
/-- A 24-bit data word: sequencer registers, colours, audio samples. -/
abbrev W24 := BitVec 24

end Sys2Proof
end

