-- ==== Sys2Proof/Syntax.lean ====
section
/-!
DEFINITION. The commands of the device: one constructor of `Instr` per row of the opcode table,
with the operands each needs. A row that stands for a host or bus access carries the data of that
access; a row that stands for an event whose time has come carries what only the outside of the
model knows of it (levels, replies, measured values).
-/

set_option Elab.async false  -- the joined text is large: no thread per declaration

namespace Sys2Proof

/-- What the end of a reset brings: the levels of the straps on GPIO0 to GPIO4 as sampled (R60), and the
other warm sources that coincided with the one the row names (R59). -/
structure Straps where
  refsel : Bool
  dealer : Bool
  smbAddr : BitVec 2
  jrnlSkip : Bool
  withPin : Bool := false
  withSoft : Bool := false
  withWdog : Bool := false
  deriving DecidableEq, Repr

/-- Header of a fetched descriptor, with the function and ring it came from (R89). -/
structure Hdr where
  fn : Fin 16
  ring : Fin 64
  flags : BitVec 8
  tag : BitVec 16
  trick : BitVec 32
  deriving DecidableEq, Repr

/-- A write that fails with HOST_WRITE (R71, R104): a poisoned one to the device; one of the device to host
memory for a ring's descriptor, or for a function without a ring (R373); or a log entry's (R106). -/
inductive WriteFault where
  | poisoned (fn : Fin 16)
  | ring (fn : Fin 16) (ring : Fin 64) (tag : BitVec 16)
  | data (fn : Fin 16)
  | log (fn : Fin 16)
  deriving DecidableEq, Repr

/-- Where a register write of the host lands: at an address of BAR0, at an offset of a function's BAR2 page,
or in the power state of a function's configuration space (R69, R73). -/
inductive WriteTo where
  | bar0 (addr : BitVec 24)
  | page (fn : Fin 16) (off : BitVec 12)
  | power (fn : Fin 16)
  deriving DecidableEq, Repr

/-- How a read of host memory ended (R71). -/
inductive HostRead where
  | ok (bytes : List Byte)
  | busError (addr : BitVec 64)
  | timeout (addr : BitVec 64)
  deriving DecidableEq, Repr

/-- The host-written fields of a doorbell record (R84). -/
structure DbRec where
  prod : BitVec 16
  cqCons : BitVec 16
  kseq : BitVec 32
  hostFlags : BitVec 16
  deriving DecidableEq, Repr

/-- A doorbell-record read: the record, or failure (R104 code 0x04). -/
inductive DbRead where
  | ok (r : DbRec)
  | failed
  deriving DecidableEq, Repr

/-- What a completed host read was for: a fetched slot's source, or the descriptor fetch of a ring. -/
inductive ReadFor where
  | slot (id : Nat)
  | fetch (fn : Fin 16) (ring : Fin 64)
  deriving DecidableEq, Repr

/-- The PLLs and audio dividers with a lock bit (R21). -/
inductive Pll where
  | root | aclk48 | aclk44
  deriving DecidableEq, Repr

/-- A unit failure (R7, R461): a PLL that loses lock, DRAM whose full training fails, or the unit of a
UNIT code whose SRAM repair is exhausted. -/
inductive UnitFault where
  | pll (p : Pll)
  | dramTraining
  | sramRepair (unit : Byte)
  deriving DecidableEq, Repr

/-- The way a TRUMP_CMD arrives (R233). -/
inductive TrumpVia where
  | host (h : Hdr)
  | smbus
  deriving DecidableEq, Repr

/-- Sink capabilities read from DPCD (R309, R312). -/
structure SinkCaps where
  rate : BitVec 4
  lanes : BitVec 2
  prSu : Bool
  alpm : Bool
  lttpr : BitVec 4
  granX : BitVec 14
  granY : BitVec 14
  bad : Bool
  deriving DecidableEq, Repr

/-- An AUX reply (R311). -/
inductive AuxReply where
  | ack (bytes : List Byte)
  | nak
  | defer
  | timeout
  deriving DecidableEq, Repr

/-- The first failed access of a Sluice channel (R341): a host read of source data, the zero-length
read of a drained channel, or DRAM. -/
inductive AccessFail where
  | hostSource (addr : BitVec 64) (timeout : Bool)
  | hostZero (addr : BitVec 64) (timeout : Bool)
  | dram (addr : BitVec 40)
  deriving DecidableEq, Repr

/-- What WALL_INFO carries (R386): the reference head's D and F (as TS_CLK), totals, the full wall
frame count, the lease and the dealer's WALL_SEQ. -/
structure WallInfo where
  clk : Word
  hTotal : Nat
  vTotal : Nat
  frame : Word
  lease : Nat
  seq : Word
  deriving DecidableEq, Repr

/-- What the boot read of the flash gave (R419, R425): SFDP readable, and for each slot whether its
bytes read back as the flash was left. -/
structure FlashRead where
  sfdp : Bool
  slot0 : Bool
  slot1 : Bool
  deriving DecidableEq, Repr

/-- The commands, one constructor per row of the opcode table. -/
inductive Instr where
  /-- PWR_OK_RISE (R50). -/
  | pwrOkRise (straps : Straps) (resetLow : Bool)
  /-- PWR_OK_FALL (R51). -/
  | pwrOkFall
  /-- RESET_N_PULSE (R55). -/
  | resetNPulse (ns : Nat) (straps : Straps)
  /-- GLB_RESET_WARM (R54). -/
  | glbResetWarm (value : Word) (straps : Straps)
  /-- WATCHDOG_EXPIRY (R54). -/
  | watchdogExpiry (straps : Straps)
  /-- PLL_LOCK (R21). -/
  | pllLock (pll : Pll)
  /-- REF_LOST (R25). -/
  | refLost
  /-- HOLDOVER_EXPIRY (R25). -/
  | holdoverExpiry
  /-- SLEW_END (R25). -/
  | slewEnd
  /-- REF_RETURN (R25). -/
  | refReturn
  /-- TEMP_MEASUREMENT (R64). -/
  | tempMeasurement (readings : Vector (BitVec 11) 8)
  /-- FREEZE_N_ASSERT (R56). -/
  | freezeNAssert (ns : Nat)
  /-- FREEZE_N_RELEASE (R56). -/
  | freezeNRelease
  /-- HOST_LOSS_EXPIRY (R32). -/
  | hostLossExpiry
  /-- PERST_N_ASSERT (R107). -/
  | perstNAssert
  /-- PCIE_LINK_DOWN (R107). -/
  | pcieLinkDown
  /-- PF_FLR (R107). -/
  | pfFlr
  /-- VF_FLR (R108). -/
  | vfFlr (fn : Fin 16)
  /-- POISONED_WRITE (R71). -/
  | poisonedWrite (w : WriteFault) (addr : BitVec 64)
  /-- REGISTER_WRITE (R15). -/
  | registerWrite (dest : WriteTo) (value : Word) (be : BitVec 4)
  /-- FRAME_READ (R465). -/
  | frameRead (n : Fin 6)
  /-- QUOTA_WRITE (R78). -/
  | quotaWrite (fn : Fin 16) (value : BitVec 13)
  /-- VEC_COUNT_WRITE (R78). -/
  | vecCountWrite (fn : Fin 16) (value : Word)
  /-- LIMIT_WRITE (R138). -/
  | limitWrite (fn : Fin 16) (value : BitVec 7)
  /-- MEM_POOL_WRITE (R150). -/
  | memPoolWrite (units : BitVec 10)
  /-- RING_ENABLE (R82). -/
  | ringEnable (fn : Fin 16) (ring : Fin 64) (value : Word)
  /-- RING_DISABLE (R83). -/
  | ringDisable (fn : Fin 16) (ring : Fin 64) (value : Word)
  /-- KNOCK (R86). -/
  | knock (fn : Fin 16) (value : Word)
  /-- KNOCK_STORM_END (R104). -/
  | knockStormEnd (fn : Fin 16) (ring : Fin 64)
  /-- DOORBELL_POLL (R86). -/
  | doorbellPoll
  /-- DOORBELL_RECORD_READ (R87). -/
  | doorbellRecordRead (fn : Fin 16) (ring : Fin 64) (r : DbRead)
  /-- STALE_RECORD_REREAD (R87). -/
  | staleRecordReread (fn : Fin 16) (ring : Fin 64)
  /-- CQ_FULL (R104). -/
  | cqFull (fn : Fin 16) (ring : Fin 64)
  /-- HOLDOFF_EXPIRY (R99). -/
  | holdoffExpiry (fn : Fin 16) (ring : Fin 64)
  /-- LEASE_EXPIRED (R102). -/
  | leaseExpired (fn : Fin 16)
  /-- FN_REREG (R103). -/
  | fnRereg (fn : Fin 16) (value : Word)
  /-- UNKNOWN_TYPE (R91). -/
  | unknownType (type : Byte) (h : Hdr) (payload : BitVec 448)
  /-- NOP (R90). -/
  | nop (h : Hdr)
  /-- TRICK_BEGIN (R113). -/
  | trickBegin (h : Hdr) (payload : BitVec 448)
  /-- TRICK_COMMIT_NEXT (R126). -/
  | trickCommitNext (h : Hdr) (payload : BitVec 448)
  /-- TRICK_COMMIT_AT (R118). -/
  | trickCommitAt (h : Hdr) (payload : BitVec 448)
  /-- TRICK_COMMIT_DISCARD (R117). -/
  | trickCommitDiscard (h : Hdr) (payload : BitVec 448)
  /-- REG_WRITE (R94). -/
  | regWrite (h : Hdr) (payload : BitVec 448)
  /-- MAP_UPDATE (R189). -/
  | mapUpdate (h : Hdr) (payload : BitVec 448)
  /-- DECK_UPDATE (R211). -/
  | deckUpdate (h : Hdr) (payload : BitVec 448)
  /-- PATTERN_LOAD (R172). -/
  | patternLoad (h : Hdr) (payload : BitVec 448)
  /-- PALETTE_LOAD (R188). -/
  | paletteLoad (h : Hdr) (payload : BitVec 448)
  /-- SEQ_LOAD (R290). -/
  | seqLoad (h : Hdr) (payload : BitVec 448)
  /-- BLIT_LIST (R317). -/
  | blitList (h : Hdr) (payload : BitVec 448)
  /-- SLUICE (R335). -/
  | sluice (h : Hdr) (payload : BitVec 448)
  /-- AUDIO_STREAM (R353). -/
  | audioStream (h : Hdr) (payload : BitVec 448)
  /-- GRAPH_LOAD (R364). -/
  | graphLoad (h : Hdr) (payload : BitVec 448)
  /-- FENCE (R95). -/
  | fence (h : Hdr) (payload : BitVec 448)
  /-- QUERY_REGISTER (R76). -/
  | queryRegister (h : Hdr) (payload : BitVec 448)
  /-- QUERY_MODE (R469). -/
  | queryMode (h : Hdr) (payload : BitVec 448)
  /-- QUERY_SLOTS (R469). -/
  | querySlots (h : Hdr) (payload : BitVec 448)
  /-- QUERY_FN_STATUS (R469). -/
  | queryFnStatus (h : Hdr) (payload : BitVec 448)
  /-- QUERY_LAST_TRICK (R137). -/
  | queryLastTrick (h : Hdr) (payload : BitVec 448)
  /-- LAT_TOL (R96). -/
  | latTol (h : Hdr) (payload : BitVec 448)
  /-- JOURNAL_STORE (R421). -/
  | journalStore (h : Hdr) (payload : BitVec 448)
  /-- COMMIT_CUTOFF (R125). -/
  | commitCutoff (n : Fin 6)
  /-- APPLICATION_END (R110). -/
  | applicationEnd
  /-- NO_HEAD_APPLY (R131). -/
  | noHeadApply
  /-- FRAME_WRAP (R130). -/
  | frameWrap (n : Fin 6)
  /-- TARN_SCRUB (R143). -/
  | tarnScrub (corrected : List Nat) (uncorrectable : List Nat)
  /-- BAR4_READ (R155). -/
  | bar4Read (off : BitVec 26) (len : Nat)
  /-- BAR4_WRITE (R155). -/
  | bar4Write (off : BitVec 26) (bytes : List (Option Byte))
  /-- COMPOSE_LINE_START (R245). -/
  | composeLineStart (n : Fin 6) (scanLine : Nat)
  /-- COMPOSE_CHUNK (R247). -/
  | composeChunk (n : Fin 6)
  /-- EVALUATION_END (R205). -/
  | evaluationEnd (n : Fin 6)
  /-- SCAN_CHUNK (R251). -/
  | scanChunk (n : Fin 6)
  /-- FRAME_TICK (R252). -/
  | frameTick (n : Fin 6)
  /-- TRUMP_SIGNATURE_CHECK (R236). -/
  | trumpSignatureCheck (n : Fin 6)
  /-- WB_BUFFER_COMPLETE (R242). -/
  | wbBufferComplete (n : Fin 6) (k : Fin 4)
  /-- HOLD_LAST (R472). -/
  | holdLast (n : Fin 6)
  /-- HOLD_WRITE (R472). -/
  | holdWrite (n : Fin 6) (bits : BitVec 4)
  /-- DMG_ADD_RECT (R259). -/
  | dmgAddRect (n : Fin 6)
  /-- DMG_ADD_ALL (R259). -/
  | dmgAddAll (n : Fin 6)
  /-- TRUMP_KEY_LO_WRITE (R231). -/
  | trumpKeyLoWrite (value : Word)
  /-- KEY_PRESENTATION (R231). -/
  | keyPresentation (hi : Word)
  /-- SESSION_CLOSE (R232). -/
  | sessionClose
  /-- REKEY (R231). -/
  | rekey
  /-- SESSION_TIMEOUT (R232). -/
  | sessionTimeout
  /-- LOCKOUT_END (R231). -/
  | lockoutEnd
  /-- TRUMP_ACK (R238). -/
  | trumpAck (via : TrumpVia) (n : Fin 6)
  /-- TRUMP_RELEASE (R238). -/
  | trumpRelease (via : TrumpVia) (n : Fin 6)
  /-- TP_OPEN (R234). -/
  | tpOpen (pec : Bool) (key : BitVec 64) (head : Byte)
  /-- TP_DATA (R234). -/
  | tpData (pec : Bool) (off : BitVec 24) (data : List Byte)
  /-- TP_REG (R234). -/
  | tpReg (pec : Bool) (index : Byte) (value : Word)
  /-- TP_COMMIT (R234). -/
  | tpCommit (pec : Bool)
  /-- TP_ABORT (R234). -/
  | tpAbort (pec : Bool)
  /-- TP_CLOSE (R234). -/
  | tpClose (pec : Bool)
  /-- TP_STATUS (R235). -/
  | tpStatus (pec : Bool)
  /-- TP_LEASE_EXPIRY (R235). -/
  | tpLeaseExpiry
  /-- HALT (R292). -/
  | seqHalt (q : Fin 8)
  /-- ADD (R281). -/
  | seqAdd (q : Fin 8) (gd : Fin 16) (ga : Fin 16) (gb : Fin 16)
  /-- SUB (R281). -/
  | seqSub (q : Fin 8) (gd : Fin 16) (ga : Fin 16) (gb : Fin 16)
  /-- AND (R281). -/
  | seqAnd (q : Fin 8) (gd : Fin 16) (ga : Fin 16) (gb : Fin 16)
  /-- OR (R281). -/
  | seqOr (q : Fin 8) (gd : Fin 16) (ga : Fin 16) (gb : Fin 16)
  /-- XOR (R281). -/
  | seqXor (q : Fin 8) (gd : Fin 16) (ga : Fin 16) (gb : Fin 16)
  /-- SHL (R281). -/
  | seqShl (q : Fin 8) (gd : Fin 16) (ga : Fin 16) (gb : Fin 16)
  /-- SHR (R281). -/
  | seqShr (q : Fin 8) (gd : Fin 16) (ga : Fin 16) (gb : Fin 16)
  /-- SAR (R281). -/
  | seqSar (q : Fin 8) (gd : Fin 16) (ga : Fin 16) (gb : Fin 16)
  /-- MUL (R281). -/
  | seqMul (q : Fin 8) (gd : Fin 16) (ga : Fin 16) (gb : Fin 16)
  /-- MULF (R281). -/
  | seqMulf (q : Fin 8) (gd : Fin 16) (ga : Fin 16) (gb : Fin 16)
  /-- CMP (R282). -/
  | seqCmp (q : Fin 8) (ga : Fin 16) (gb : Fin 16)
  /-- MOV (R281). -/
  | seqMov (q : Fin 8) (gd : Fin 16) (ga : Fin 16)
  /-- LDI (R281). -/
  | seqLdi (q : Fin 8) (gd : Fin 16) (imm : BitVec 14)
  /-- LUI (R281). -/
  | seqLui (q : Fin 8) (gd : Fin 16) (imm : BitVec 10)
  /-- ADDI (R281). -/
  | seqAddi (q : Fin 8) (gd : Fin 16) (imm : BitVec 14)
  /-- ANDI (R281). -/
  | seqAndi (q : Fin 8) (gd : Fin 16) (imm : BitVec 14)
  /-- ORI (R281). -/
  | seqOri (q : Fin 8) (gd : Fin 16) (imm : BitVec 14)
  /-- CMPI (R282). -/
  | seqCmpi (q : Fin 8) (gd : Fin 16) (imm : BitVec 14)
  /-- SHLI (R281). -/
  | seqShli (q : Fin 8) (gd : Fin 16) (ga : Fin 16) (sh : BitVec 5)
  /-- SHRI (R281). -/
  | seqShri (q : Fin 8) (gd : Fin 16) (ga : Fin 16) (sh : BitVec 5)
  /-- SARI (R281). -/
  | seqSari (q : Fin 8) (gd : Fin 16) (ga : Fin 16) (sh : BitVec 5)
  /-- LD (R281). -/
  | seqLd (q : Fin 8) (gd : Fin 16) (ga : Fin 16) (off : BitVec 10)
  /-- ST (R281). -/
  | seqSt (q : Fin 8) (gs : Fin 16) (ga : Fin 16) (off : BitVec 10)
  /-- LDA (R281). -/
  | seqLda (q : Fin 8) (gd : Fin 16) (addr : BitVec 12)
  /-- STA (R281). -/
  | seqSta (q : Fin 8) (gs : Fin 16) (addr : BitVec 12)
  /-- BR (R283). -/
  | seqBr (q : Fin 8) (cond : BitVec 4) (target : BitVec 14)
  /-- DBNZ (R281). -/
  | seqDbnz (q : Fin 8) (gd : Fin 16) (target : BitVec 14)
  /-- CALL (R281). -/
  | seqCall (q : Fin 8) (target : BitVec 14)
  /-- RET (R281). -/
  | seqRet (q : Fin 8)
  /-- WAITL (R269). -/
  | seqWaitl (q : Fin 8) (line : BitVec 14)
  /-- WAITLC (R269). -/
  | seqWaitlc (q : Fin 8) (ga : Fin 16)
  /-- WAITC (R269). -/
  | seqWaitc (q : Fin 8) (col : BitVec 10)
  /-- WAITN (R269). -/
  | seqWaitn (q : Fin 8) (n : BitVec 14)
  /-- BEAM_WAIT_RELEASE (R271). -/
  | beamWaitRelease (q : Fin 8)
  /-- WAITT (R272). -/
  | seqWaitt (q : Fin 8) (ch : Fin 16) (ev : BitVec 2)
  /-- BEAM (R286). -/
  | seqBeam (q : Fin 8) (gd : Fin 16) (sel : BitVec 2)
  /-- SYNC (R285). -/
  | seqSync (q : Fin 8) (j : Fin 8)
  /-- SIG (R285). -/
  | seqSig (q : Fin 8) (k : Fin 8)
  /-- MOVE (R279). -/
  | seqMove (q : Fin 8) (gs : Fin 16) (w : Fin 4) (idx : BitVec 12)
  /-- MOVEX (R279). -/
  | seqMovex (q : Fin 8) (gs : Fin 16) (w : Fin 4) (idx : BitVec 12)
  /-- MOVEB (R281). -/
  | seqMoveb (q : Fin 8) (n : Fin 16) (w : Fin 4) (idx : BitVec 12)
  /-- MOVEBX (R281). -/
  | seqMovebx (q : Fin 8) (n : Fin 16) (w : Fin 4) (idx : BitVec 12)
  /-- LANDING_QUEUE_ENTRY (R273). -/
  | landingQueueEntry (q : Fin 8)
  /-- VOICE_ON (R350). -/
  | voiceOn (q : Fin 8) (index : BitVec 6) (gs : Fin 16)
  /-- VOICE_OFF (R350). -/
  | voiceOff (q : Fin 8) (index : BitVec 6) (gs : Fin 16)
  /-- RAMP_START (R351). -/
  | rampStart (q : Fin 8) (index : BitVec 6) (gs : Fin 16)
  /-- RAMP_STOP (R351). -/
  | rampStop (q : Fin 8) (index : BitVec 6) (gs : Fin 16)
  /-- RAISE (R287). -/
  | seqRaise (q : Fin 8) (code : Byte)
  /-- RESERVED_OPCODE (R288). -/
  | reservedOpcode (q : Fin 8)
  /-- PROGRAM_START (R295). -/
  | programStart (q : Fin 8)
  /-- CMD_HALT (R293). -/
  | cmdHalt (q : Fin 8)
  /-- CMD_RESTART (R293). -/
  | cmdRestart (q : Fin 8)
  /-- BLANKING_CHANGE_START (R304). -/
  | blankingChangeStart (n : Fin 6)
  /-- PGCLK_RELOCK (R304). -/
  | pgclkRelock (n : Fin 6)
  /-- LINK_TRAINING_DONE (R305). -/
  | linkTrainingDone (n : Fin 6) (ok : Bool)
  /-- TRAINING_RETRY (R310). -/
  | trainingRetry (n : Fin 6)
  /-- COMPOSITION_RESTART (R253). -/
  | compositionRestart (n : Fin 6)
  /-- HPD_PLUG (R309). -/
  | hpdPlug (n : Fin 6) (caps : SinkCaps)
  /-- HPD_UNPLUG (R309). -/
  | hpdUnplug (n : Fin 6)
  /-- IRQ_HPD (R309). -/
  | irqHpd (n : Fin 6) (lostLock : Bool)
  /-- HPD_BOUNCE_END (R312). -/
  | hpdBounceEnd (n : Fin 6)
  /-- RETRAIN (R310). -/
  | retrain (n : Fin 6)
  /-- AUX_NATIVE_WRITE (R311). -/
  | auxNativeWrite (n : Fin 6) (len : Fin 16) (addr : BitVec 20)
  /-- AUX_NATIVE_READ (R311). -/
  | auxNativeRead (n : Fin 6) (len : Fin 16) (addr : BitVec 20)
  /-- AUX_I2C_WRITE (R311). -/
  | auxI2cWrite (n : Fin 6) (middle : Bool) (len : Fin 16) (addr : BitVec 20)
  /-- AUX_I2C_READ (R311). -/
  | auxI2cRead (n : Fin 6) (middle : Bool) (len : Fin 16) (addr : BitVec 20)
  /-- AUX_REPLY (R311). -/
  | auxReply (n : Fin 6) (r : AuxReply)
  /-- AUX_RETRY (R311). -/
  | auxRetry (n : Fin 6)
  /-- AUX_STORM_END (R312). -/
  | auxStormEnd (n : Fin 6)
  /-- LIST_READ_DONE (R317). -/
  | listReadDone (c : Fin 8) (r : HostRead)
  /-- FILL (R322). -/
  | bltFill (c : Fin 8)
  /-- COPY (R322). -/
  | bltCopy (c : Fin 8)
  /-- COPY_KEY (R322). -/
  | bltCopyKey (c : Fin 8)
  /-- BLEND (R323). -/
  | bltBlend (c : Fin 8)
  /-- EXPAND (R322). -/
  | bltExpand (c : Fin 8)
  /-- RACE_ROW_RELEASE (R331). -/
  | raceRowRelease (c : Fin 8)
  /-- WATERMARK (R330). -/
  | bltWatermark (c : Fin 8)
  /-- BLIT_LIST_COMPLETE (R320). -/
  | blitListComplete (c : Fin 8)
  /-- CHANNEL_GRANT (R336). -/
  | channelGrant (c : Fin 32)
  /-- STAGING_BUFFER_GRANT (R339). -/
  | stagingBufferGrant (c : Fin 32)
  /-- SLUICE_BURST (R344). -/
  | sluiceBurst (c : Fin 32) (data : List Byte)
  /-- SLUICE_DRAIN_DONE (R340). -/
  | sluiceDrainDone (c : Fin 32)
  /-- SLUICE_ACCESS_FAIL (R341). -/
  | sluiceAccessFail (c : Fin 32) (f : AccessFail)
  /-- CHANNEL_LEASE_EXPIRY (R342). -/
  | channelLeaseExpiry (c : Fin 32)
  /-- AUDIO_SAMPLE_TICK (R347). -/
  | audioSampleTick (d : Fin 3) (behind : Bool) (ins : List (Nat × W24))
  /-- PLAYER_READ_DONE (R353). -/
  | playerReadDone (p : Fin 16) (r : HostRead)
  /-- MIX_END (R358). -/
  | mixEnd (d : Fin 3)
  /-- MIX_CLR (R358). -/
  | mixClr (d : Fin 3)
  /-- MIX_LD (R358). -/
  | mixLd (d : Fin 3) (x : BitVec 10)
  /-- MIX_ST (R358). -/
  | mixSt (d : Fin 3) (x : BitVec 10)
  /-- MIX_ADD (R358). -/
  | mixAdd (d : Fin 3) (x : BitVec 10)
  /-- MIX_SUB (R358). -/
  | mixSub (d : Fin 3) (x : BitVec 10)
  /-- MIX_MUL (R358). -/
  | mixMul (d : Fin 3) (x : BitVec 10) (y : BitVec 10)
  /-- MIX_MAC (R358). -/
  | mixMac (d : Fin 3) (x : BitVec 10) (y : BitVec 10)
  /-- MIX_MULR (R358). -/
  | mixMulr (d : Fin 3) (x : BitVec 10) (y : BitVec 10)
  /-- MIX_MACR (R358). -/
  | mixMacr (d : Fin 3) (x : BitVec 10) (y : BitVec 10)
  /-- MIX_IN (R362). -/
  | mixIn (d : Fin 3) (x : BitVec 10)
  /-- MIX_OUT (R362). -/
  | mixOut (d : Fin 3) (x : BitVec 10)
  /-- MIX_BIQ (R359). -/
  | mixBiq (d : Fin 3) (x : BitVec 10) (y : BitVec 10)
  /-- MIX_DWR (R360). -/
  | mixDwr (d : Fin 3) (x : BitVec 10)
  /-- MIX_DRD (R360). -/
  | mixDrd (d : Fin 3) (x : BitVec 10) (y : BitVec 10)
  /-- MIX_LIM (R361). -/
  | mixLim (d : Fin 3) (x : BitVec 10)
  /-- MIX_SHR (R358). -/
  | mixShr (d : Fin 3) (n : BitVec 6)
  /-- MIX_SAT (R358). -/
  | mixSat (d : Fin 3)
  /-- RAMP_SET (R367). -/
  | rampSet (value : Word)
  /-- COEF_SET (R368). -/
  | coefSet (value : Word)
  /-- SINK_SILENT (R371). -/
  | sinkSilent (k : Fin 17)
  /-- CAPTURE_PERIOD (R373). -/
  | capturePeriod (r : Fin 8)
  /-- HEADSET_PLUG (R374). -/
  | headsetPlug
  /-- TYPE_DONE (R374). -/
  | typeDone (ctiaOhm : Nat) (omtpOhm : Nat)
  /-- HEADSET_UNPLUG (R374). -/
  | headsetUnplug
  /-- BUTTON (R375). -/
  | button (ohm : Nat) (ms : Nat)
  /-- PORT_BLOCK_LOCK (R382). -/
  | portBlockLock (port : Fin 5)
  /-- MEASURE_DONE (R382). -/
  | measureDone (port : Fin 5) (freqOk : Bool)
  /-- TRAINING_FAILURE (R382). -/
  | trainingFailure (port : Fin 5)
  /-- PORT_RETRAIN (R382). -/
  | portRetrain (port : Fin 5)
  /-- BLOCK_LOCK_LOSS (R382). -/
  | blockLockLoss (port : Fin 5)
  /-- REPLAY_TIMEOUT (R383). -/
  | replayTimeout (port : Fin 5)
  /-- ACK_INTERVAL (R383). -/
  | ackInterval (port : Fin 5)
  /-- FREEZE_REPEAT (R383). -/
  | freezeRepeat
  /-- TICK (R386). -/
  | cwyTick (w : BitVec 16) (remain : BitVec 32) (delay : Nat)
  /-- WALL_TICK (R387). -/
  | wallTick (dev : Int)
  /-- ACK (R383). -/
  | cwyAck (port : Fin 5) (lseq : BitVec 16)
  /-- NAK (R383). -/
  | cwyNak (port : Fin 5) (lseq : BitVec 16)
  /-- PROBE (R382). -/
  | cwyProbe (port : Fin 5) (ts : BitVec 48) (turn : BitVec 24)
  /-- ECHO (R382). -/
  | cwyEcho (port : Fin 5) (turn : BitVec 24) (rtt : Nat)
  /-- FREEZE (R402). -/
  | cwyFreeze (port : Fin 5) (id : BitVec 14)
  /-- THAW (R402). -/
  | cwyThaw (port : Fin 5) (id : BitVec 14)
  /-- HELLO (R389). -/
  | cwyHello (port : Fin 5) (lseq : BitVec 16) (dealer : Bool) (id : BitVec 14) (path : BitVec 17) (state : BitVec 4)
  /-- WALL_INFO (R386). -/
  | cwyWallInfo (lseq : BitVec 16) (w : WallInfo)
  /-- ALIVE (R398). -/
  | cwyAlive (port : Fin 5) (lseq : BitVec 16) (id : BitVec 14) (state : BitVec 4) (joined : Nat) (benched : Nat)
  /-- DESC (R390). -/
  | cwyDesc (lseq : BitVec 16) (trick : Word) (index : Nat) (type : Byte) (h : Hdr) (payload : BitVec 448)
  /-- DATA (R390). -/
  | cwyData (lseq : BitVec 16) (trick : Word) (index : Nat) (off : Nat) (bytes : List Byte)
  /-- END (R394). -/
  | cwyEnd (lseq : BitVec 16) (trick : Word) (count : Nat) (crcOk : Bool)
  /-- PREPARE (R393). -/
  | cwyPrepare (lseq : BitVec 16) (trick : Word) (w : Word)
  /-- READY (R394). -/
  | cwyReady (port : Fin 5) (lseq : BitVec 16) (trick : Word) (count : Nat) (fail : Option (BitVec 14))
  /-- COMMIT (R397). -/
  | cwyCommit (lseq : BitVec 16) (trick : Word) (w : Word)
  /-- DEFER (R395). -/
  | cwyDefer (lseq : BitVec 16) (trick : Word) (w : Word) (n : Nat)
  /-- DISCARD (R395). -/
  | cwyDiscard (lseq : BitVec 16) (trick : Word)
  /-- SWEEP (R398). -/
  | cwySweep (lseq : BitVec 16) (trick : Word)
  /-- BENCH (R399). -/
  | cwyBench (lseq : BitVec 16) (reason : BitVec 4) (frame : Word)
  /-- BENCHED (R398). -/
  | cwyBenched (port : Fin 5) (lseq : BitVec 16) (id : BitVec 14) (reason : BitVec 4) (hands : Nat)
  /-- REJOIN (R401). -/
  | cwyRejoin (lseq : BitVec 16) (id : BitVec 14) (trick : Word)
  /-- SET_ID (R380). -/
  | cwySetId (lseq : BitVec 16) (path : BitVec 17) (id : BitVec 14)
  /-- EVENT (R403). -/
  | cwyEvent (port : Fin 5) (lseq : BitVec 16) (id : BitVec 14) (code : Byte) (evPort : Byte) (frame : Word)
  /-- BAD_TOKEN (R384). -/
  | badToken (port : Fin 5) (lseq : BitVec 16)
  /-- DECISION_POINT (R395). -/
  | decisionPoint
  /-- CHILD_SILENT (R398). -/
  | childSilent (port : Fin 5)
  /-- FLAP_HOLD_END (R384). -/
  | flapHoldEnd (port : Fin 5)
  /-- CWY_SETID (R380). -/
  | cwySetidWrite (value : Word)
  /-- CWY_REJOIN (R401). -/
  | cwyRejoinWrite (value : Word)
  /-- DOZE_IDLE_EXPIRY (R406). -/
  | dozeIdleExpiry
  /-- SLUMBER_IDLE_EXPIRY (R406). -/
  | slumberIdleExpiry
  /-- ENTRY_STEP_END (R411). -/
  | entryStepEnd
  /-- WAKE_EVENT (R407). -/
  | wakeEvent (src : BitVec 8)
  /-- EXIT_STEP (R415). -/
  | exitStep (crcOk : Bool)
  /-- JOURNAL_SNAPSHOT (R422). -/
  | journalSnapshot
  /-- SNAPSHOT_COPY_END (R422). -/
  | snapshotCopyEnd
  /-- FLASH_OP_DONE (R423). -/
  | flashOpDone (ok : Bool) (off : Nat)
  /-- FLASH_TIMEOUT (R424). -/
  | flashTimeout (off : Nat)
  /-- SLOT_CHOICE (R419). -/
  | slotChoice (f : FlashRead)
  /-- EARLY_LOADED (R427). -/
  | earlyLoaded (earlyOk : Bool) (trumpOk : Bool)
  /-- SCENE_RESTORE (R428). -/
  | sceneRestore (configOk : Bool) (sceneOk : Bool)
  /-- BOOT_END (R426). -/
  | bootEnd
  /-- TIMER_TICK (R432). -/
  | timerTick (ticks : BitVec 16) (caps : BitVec 16) (pins : Word)
  /-- TIMER_CAPTURE (R436). -/
  | timerCapture (caps : BitVec 16) (pins : Word)
  /-- CAP_READ (R436). -/
  | capRead (n : Fin 16)
  /-- COUNT_WRITE (R433). -/
  | countWrite (n : Fin 16) (value : Word)
  /-- TMR_START (R438). -/
  | tmrStart (mask : Word)
  /-- TMR_STOP (R438). -/
  | tmrStop (mask : Word)
  /-- TMR_RESET (R438). -/
  | tmrReset (mask : Word)
  /-- GPIO_OUT_SET (R444). -/
  | gpioOutSet (value : Word)
  /-- GPIO_OUT_CLR (R444). -/
  | gpioOutClr (value : Word)
  /-- PATTERN_MATCH_EVENT (R445). -/
  | patternMatchEvent (u : Fin 8) (levels : Word)
  /-- PMC_START (R452). -/
  | pmcStart (mask : Word)
  /-- PMC_STOP (R452). -/
  | pmcStop (mask : Word)
  /-- COUNTER_OVERFLOW (R448). -/
  | counterOverflow (k : Fin 32) (n : BitVec 48)
  /-- CTR_LO_READ (R452). -/
  | ctrLoRead (k : Fin 32)
  /-- USER_CTR_READ (R454). -/
  | userCtrRead (fn : Fin 16) (k : Fin 32) (high : Bool)
  /-- FRZ_SET (R455). -/
  | frzSet (value : Word)
  /-- FRZ_RELEASE (R455). -/
  | frzRelease (value : Word)
  /-- FREEZE_ENTRY (R456). -/
  | freezeEntry
  /-- FREEZE_RELEASED (R459). -/
  | freezeReleased
  /-- FREEZE_RESTART_DONE (R459). -/
  | freezeRestartDone
  /-- RD_DATA_READ (R458). -/
  | rdDataRead
  /-- JTAG_FRZ_SEL (R458). -/
  | jtagFrzSel (value : Word)
  /-- FRZ_DATA (R458). -/
  | frzData
  /-- FRZ_SEL (R458). -/
  | frzSel (pec : Bool) (value : Word)
  /-- FRZ_READ (R458). -/
  | frzRead (pec : Bool) (words : Nat)
  /-- FRZ_STAT (R458). -/
  | frzStat (pec : Bool)
  /-- PCIE_LINK_UP (R32). -/
  | pcieLinkUp
  /-- PACKET_CRC_FAILURE (R383). -/
  | packetCrcFailure (port : Fin 5)
  /-- LINK_LOSS (R312). -/
  | linkLoss (n : Fin 6)
  /-- PLL_LOCK_LOSS (R7). -/
  | pllLockLoss (u : UnitFault)
  /-- HOST_READ_COMPLETION (R71). -/
  | hostReadCompletion (target : ReadFor) (r : HostRead)
  /-- NUMVFS_WRITE (R8). -/
  | numvfsWrite (num : Nat) (enable : Bool)
  deriving DecidableEq, Repr

end Sys2Proof
end

