-- ==== Sys2Proof/Decode.lean ====
section
/-!
DEFINITION. The commands that a word of the opcode table spells: no row gives bits, so no word does.
-/

set_option Elab.async false  -- the joined text is large: no thread per declaration

namespace Sys2Proof

/-- The command a word of `nbits` bits spells by the table. -/
def decodeTableWord (_nbits _w : Nat) : Option Instr := none

end Sys2Proof
end

