-- ==== Sys2Proof/Config.lean ====
section
/-!
DEFINITION. What is fixed at manufacture (the three parts, R1 to R8) and the free values: opaque
constants without a body, one for each place where the manual leaves a value open. No proof can
see what a free value is, so a claim holds whatever it is.
-/

set_option Elab.async false  -- the joined text is large: no thread per declaration

namespace Sys2Proof

/-- The three parts of the family. -/
inductive Part where
  | mva2460 | mva2440 | mva2420
  deriving DecidableEq, Repr

/-- Heads present; always the lowest-numbered ones (R2). -/
def Part.heads : Part → Nat
  | .mva2460 => 6 | .mva2440 => 4 | .mva2420 => 2

/-- Downstream Causeway ports present (R2). -/
def Part.cwyDown : Part → Nat
  | .mva2460 => 4 | .mva2440 => 2 | .mva2420 => 0

/-- Blitter present. -/
def Part.blt : Part → Bool
  | .mva2420 => false | _ => true

/-- Analog headset present. -/
def Part.headset : Part → Bool
  | .mva2460 => true | _ => false

/-- SR-IOV virtual functions supported (VF_MAX, R8). -/
def Part.vfMax : Part → Nat
  | .mva2420 => 7 | _ => 15

/-- On-package DRAM in GiB. -/
def Part.dramGib : Part → Nat
  | .mva2460 => 8 | _ => 4

/-- GLB_UNIT_PRESENT, the whole values of R6. -/
def Part.unitPresent : Part → Word
  | .mva2460 => 0x008F7F3F | .mva2440 => 0x004F330F | .mva2420 => 0x00471003

/-- DRAM size in bytes. -/
def Part.dramBytes (p : Part) : Nat := p.dramGib * 0x40000000

/-- The host-usable DRAM: all but the top 128 MiB (R157). -/
def Part.dramUsable (p : Part) : Nat := p.dramBytes - 0x8000000

namespace Config

/-- FREE VALUE. Content of a byte of memory the manual calls undefined (R35, R158) or gives no
power-on content; `stamp` tells one such occasion from another. -/
opaque freeByte : (stamp addr : Nat) → Byte

/-- FREE VALUE. Whether a RESET_N pulse of 20 ns to 100 ns resets the device (R55). -/
opaque shortPulseResets : (stamp : Nat) → Bool

/-- FREE VALUE. A word the manual leaves undefined; `stamp` is the state's free counter. -/
opaque freeWord : (stamp : Nat) → Word

/-- FREE VALUE. A choice between two outcomes that the manual leaves open. -/
opaque freeBool : (stamp : Nat) → Bool

/-- FREE VALUE. Whether a straight-line value between two integers is rounded up (R350, R366 to
R368 give the line and its ends, not the rounding between them). -/
opaque roundUp : (stamp index : Nat) → Bool

/-- FREE VALUE. A sample that leaves a rate converter (R352, R356, R369 give its quality, not its
filter), from the newest sample that entered it. -/
opaque convert : (stamp index : Nat) → (newest : Int) → Int

/-- FREE VALUE. The rounding of one release step of a limiter between the bounds of R361 (log entry 91). -/
opaque limGain : (stamp index : Nat) → Nat

/-- FREE VALUE. Bytes of a packet's payload short of source data, by TYPE: R389 names what a payload
holds, not its layout. -/
opaque cwyLen : (type : Nat) → Nat

/-- FREE VALUE. Bytes of a journal section whose format the manual does not give, by kind (R420). -/
opaque sectionBytes : (kind : Nat) → Nat

/-- FREE VALUE. The stepping value GLB_PART [23:16] reports, fixed at manufacture (R20, R467). -/
opaque stepping : BitVec 8

/-- FREE VALUE. GPIO_STAT.BANK_3V3: the supply of each pin bank as the board gives it and the device
senses it. -/
opaque bank3v3 : BitVec 4

end Config

end Sys2Proof
end

