-- ==== Sys2Proof/Machine/RegMap.lean ====
section
/-!
DEFINITION. The register map: one constructor of `RegId` per register (array) of the
manual, its BAR0 offset, array strides, commit class (R15), access masks (R14) and Cold
values (R16), and one `Fld` per named field. Per-head registers drop the `HDn_` prefix; the
head sink registers are `SINK_*` and the audio sinks `ASINK_STAT`, `SINK_LIM`, `SINK_SIL`.
-/

set_option Elab.async false  -- the joined text is large: no thread per declaration

namespace Sys2Proof.Machine

/-- The registers of the manual, an array counted once. -/
inductive RegId where
  | GLB_ID | GLB_PART | GLB_CAP0 | GLB_CAP1 | GLB_UNIT_PRESENT | GLB_CAP2 | GLB_MODE | GLB_FB_CTL
  | GLB_CLK_STATUS | GLB_RESET | GLB_RESET_CAUSE | GLB_STRAPS | GLB_TEMP | GLB_TRUMP_KEY_LO
  | GLB_TRUMP_KEY_HI | GLB_TRUMP_SESSION | HIF_CTL | HIF_STATUS | HIF_FN_CTL | HIF_FN_TYPES
  | HIF_FN_SLOTS | HIF_FN_LAT | HIF_FN_TARN | HIF_FN_DRAM | HIF_PMAP_RANGE | HIF_PMAP_MASK
  | HIF_RING_SQ_LO | HIF_RING_SQ_HI | HIF_RING_CQ_LO | HIF_RING_CQ_HI | HIF_RING_DB_LO
  | HIF_RING_DB_HI | HIF_RING_CTL | HIF_RING_STATUS | TRK_STATUS | TRK_MISSED | TRK_FN_OPEN
  | TRK_HD_CTL | TRK_HD_LAST_ID | TRK_HD_LAST_INFO | TRK_HD_LATE | MEM_POOL | MEM_POOL_STATUS
  | MEM_STAGE_CLASH | MEM_ECC | MEM_FEN_ERR | MEM_FN_POOL | MEM_TRUMP_HD | MEM_AP_CTL | HEAD_CTL
  | HEAD_STAT | FRAME | BEAM_COMP | BEAM_SCAN | TS_H | TS_HSYNC | TS_V | TS_VSYNC | TS_CLK
  | TS_LINK | PAL_BASE | PLANE_STAT | PL_CTL | PL_SCROLL_X | PL_SCROLL_Y | PL_CSCROLL | PL_MAP
  | PL_MAPDIM | PL_PAT | PL_PALX | PL_SURF_LO | PL_SURF_HI | PL_SURF_DIM | PL_SURF_PITCH | AFF_A
  | AFF_B | AFF_C | AFF_D | AFF_OX_HI | AFF_OX_LO | AFF_OY_HI | AFF_OY_LO | OBJ_CTL | OBJ_DECK
  | OBJ_COUNT | OBJ_OFS | OBJ_STAT | OBJ_OVF_TOTAL | OBJ_OVF_FIRST | OBJ_OVF_PREV | OBJ_DEMAND
  | MELD_CTL | MELD_BG | MELD_CONST | MELD_KEY0 | MELD_KMASK0 | MELD_KEY1 | MELD_KMASK1
  | MELD_FSHED | MELD_STAT | MELD_STEP | WIN_X | WIN_Y | TRUMP_CTL | TRUMP_SRC | TRUMP_POS
  | TRUMP_SIG | TRUMP_SIG_LAST | TRUMP_MISMATCH | TRUMP_FB_BG | TRUMP_CMD | TRUMP_STAT | SINK_CTL
  | SINK_RING | SINK_WB_LO | SINK_WB_HI | SINK_WB_CFG | SINK_WB_HOLD | SINK_WB_STATUS | SINK_STAT
  | PACE_CTL | PACE_STAT | PACE_LATE | PACE_SHED_TOTAL | PACE_LOW_TOTAL | PACE_UNDER_TOTAL
  | PACE_SLIP_TOTAL | PACE_UNDER_FIRST | PACE_PREV | DMG_CTL | DMG_X | DMG_Y | DMG_ADD | DMG_STAT
  | DMG_RECT_X | DMG_RECT_Y | DP_CTL | DP_STAT | DP_ERR | DP_AUX_CMD | DP_AUX_STAT | DP_AUX_DATA
  | DP_AUD | SEQ_CTL | SEQ_CMD | SEQ_STAT | SEQ_TAG | SEQ_WIN | SEQ_IRQ | SEQ_RAISE | SEQ_LATE
  | SEQ_SKIP | SEQ_DROP | SEQ_G | BLT_STATUS | BLT_RACE_LATE | BLT_CTL | BLT_STAT | BLT_IRQ
  | BLT_WM0 | BLT_WM1 | BLT_WM2 | SLU_STATUS | SLU_STAGE | SLU_FENCED | SLU_CTL | SLU_STAT
  | SLU_REMAIN | SLU_FAIL_LO | SLU_FAIL_HI | AUD_STAT | AUD_RAMP_SET | AUD_RAMP_VAL | AUD_DOM_CTL
  | AUD_DOM_STAT | AUD_DOM_UNDER | AUD_DOM_DLY | AUD_COEF_SET | AUD_COEF_VAL | AUD_RAMP
  | VOICE_WAVE | VOICE_PITCH | VOICE_ENV_AD | VOICE_ENV_SR | VOICE_VOL | VOICE_STAT | PLAY_CTL
  | PLAY_RATE | PLAY_STAT | SINK_LIM | SINK_SIL | ASINK_STAT | CAP_CTL | CAP_BASE_LO
  | CAP_BASE_HI | CAP_REC_LO | CAP_REC_HI | BR_CTL | BR_STAT | TDM_CTL | HS_CTL | HS_STAT
  | HS_IRQ | CWY_CTL | CWY_ID | CWY_STAT | CWY_WALL_CTL | CWY_WALL_FRAME | CWY_BENCH_FRAME
  | CWY_TREE | CWY_MAX_PATH | CWY_DEFERS | CWY_LATE | CWY_REJOIN | CWY_SETID_PATH | CWY_SETID
  | CWY_WALL_SEQ | CWY_BENCH_NEXT | CWY_PORT_CTL | CWY_PORT_STAT | CWY_PORT_LAT | CWY_PORT_ERR
  | CWY_VIEW_CTL | CWY_VIEW_XY | CWY_VIEW_DECK | CWY_BENCH_HD | CWY_BENCH_SIG | CWY_BENCH_REC0
  | CWY_BENCH_REC1 | PWR_CTL | PWR_IDLE | PWR_STAT | PWR_WAKE | PWR_TOL | PWR_DOZES
  | PWR_SLUMBERS | PWR_ABORTS | JOURNAL_STATUS | JOURNAL_SEQ | JOURNAL_ABORT_SEQ | JOURNAL_FAIL
  | JOURNAL_EARLY | JOURNAL_RANGE_LO | JOURNAL_RANGE_HI | TMR_CTL | TMR_IN | TMR_COUNT | TMR_TOP
  | TMR_CMP | TMR_CAP | TMR_STAT | TMR_IRQ | TMR_START | TMR_STOP | TMR_RESET | GPIO_PIN
  | GPIO_IN | GPIO_OUT | GPIO_OUT_SET | GPIO_OUT_CLR | GPIO_STAT | GPIO_PM_STAT | GPIO_IRQ
  | GPIO_PM_MASK | GPIO_PM_VALUE | GPIO_PM_CTL | PMC_START | PMC_STOP | PMC_OVF | PMC_USER_EN
  | PMC_IRQ | PMC_CFG | PMC_FILT | PMC_ALO | PMC_AHI | PMC_LO | PMC_HI | DBG_FRZ_CTL
  | DBG_FRZ_STAT | DBG_FRZ_ENTRY | DBG_FRZ_DROPS | DBG_FRZ_DROP_FIRST | DBG_RD_ADDR | DBG_RD_DATA
  | DBG_FLT_NEXT | DBG_FLT_LOST | DBG_FLT_PRIOR | DBG_FLT_PEND | DBG_FLT_MASK | DBG_FLT_IRQ
  | VLG_QUARANTINE_COUNT | VLG_BASE_LO | VLG_BASE_HI | VLG_FN_CTL | VLG_TOTAL | VLG_SEQ
  | VLG_DROP
  deriving DecidableEq, Repr

/-- Commit class of a register's writable fields (R15); no register mixes `trick` with another. -/
inductive Cls where
  | now | trick | line | none
  deriving DecidableEq, Repr

/-- One row of the map. `rw` are the bits a write sets, `w1c` the bits a written 1 clears, `wo` the
bits that only trigger; `kept` is the part restored from the journal or Peat (R16). -/
structure RegRow where
  base : Nat
  n1 : Nat
  s1 : Nat
  n2 : Nat
  s2 : Nat
  cls : Cls
  rw : BitVec 32
  w1c : BitVec 32
  wo : BitVec 32
  cold : BitVec 32
  kept : BitVec 32
  deriving DecidableEq, Repr

/-- A field of a register: indices of the array instance and the bit range. -/
structure Fld where
  id : RegId
  i : Nat
  j : Nat
  hi : Nat
  lo : Nat
  deriving DecidableEq, Repr

/-- The map, row by row as the chapters give the registers. -/
def RegId.row : RegId → RegRow
  | .GLB_ID => ⟨0x0, 1, 0x0, 1, 0x0, .none, 0x0, 0x0, 0x0, 0x1D7C24A0, 0x0⟩
  | .GLB_PART => ⟨0x4, 1, 0x0, 1, 0x0, .none, 0x0, 0x0, 0x0, 0x0, 0x0⟩
  | .GLB_CAP0 => ⟨0x8, 1, 0x0, 1, 0x0, .none, 0x0, 0x0, 0x0, 0x8102000, 0x0⟩
  | .GLB_CAP1 => ⟨0xC, 1, 0x0, 1, 0x0, .none, 0x0, 0x0, 0x0, 0x10004010, 0x0⟩
  | .GLB_UNIT_PRESENT => ⟨0x10, 1, 0x0, 1, 0x0, .none, 0x0, 0x0, 0x0, 0x1000, 0x0⟩
  | .GLB_CAP2 => ⟨0x14, 1, 0x0, 1, 0x0, .none, 0x0, 0x0, 0x0, 0x40101008, 0x0⟩
  | .GLB_MODE => ⟨0x20, 1, 0x0, 1, 0x0, .none, 0x0, 0x0, 0x0, 0x1, 0x0⟩
  | .GLB_FB_CTL => ⟨0x24, 1, 0x0, 1, 0x0, .trick, 0xFF, 0x0, 0x0, 0x0, 0xFF⟩
  | .GLB_CLK_STATUS => ⟨0x30, 1, 0x0, 1, 0x0, .now, 0x0, 0x1000, 0x0, 0x0, 0x0⟩
  | .GLB_RESET => ⟨0x40, 1, 0x0, 1, 0x0, .now, 0x0, 0x0, 0xFFFF0001, 0x0, 0x0⟩
  | .GLB_RESET_CAUSE => ⟨0x44, 1, 0x0, 1, 0x0, .now, 0x0, 0x1F, 0x0, 0x1, 0x0⟩
  | .GLB_STRAPS => ⟨0x48, 1, 0x0, 1, 0x0, .none, 0x0, 0x0, 0x0, 0x0, 0x0⟩
  | .GLB_TEMP => ⟨0x50, 1, 0x0, 1, 0x0, .now, 0x0, 0xC0000000, 0x0, 0x200000, 0x0⟩
  | .GLB_TRUMP_KEY_LO => ⟨0x100, 1, 0x0, 1, 0x0, .now, 0x0, 0x0, 0xFFFFFFFF, 0x0, 0x0⟩
  | .GLB_TRUMP_KEY_HI => ⟨0x104, 1, 0x0, 1, 0x0, .now, 0x0, 0x0, 0xFFFFFFFF, 0x0, 0x0⟩
  | .GLB_TRUMP_SESSION => ⟨0x108, 1, 0x0, 1, 0x0, .now, 0xFF, 0x0, 0x30000000, 0xA, 0xFF⟩
  | .HIF_CTL => ⟨0x10000, 1, 0x0, 1, 0x0, .now, 0x3FF0001, 0x0, 0x0, 0x640000, 0x0⟩
  | .HIF_STATUS => ⟨0x10004, 1, 0x0, 1, 0x0, .now, 0x0, 0x2000, 0x0, 0x0, 0x0⟩
  | .HIF_FN_CTL => ⟨0x11000, 16, 0x20, 1, 0x0, .now, 0x80FF3F7F, 0x0, 0x0, 0x190000, 0x0⟩
  | .HIF_FN_TYPES => ⟨0x11004, 16, 0x20, 1, 0x0, .now, 0x1FFFE, 0x0, 0x0, 0x1, 0x0⟩
  | .HIF_FN_SLOTS => ⟨0x11008, 16, 0x20, 1, 0x0, .now, 0x1FFF, 0x0, 0x0, 0x0, 0x0⟩
  | .HIF_FN_LAT => ⟨0x1100C, 16, 0x20, 1, 0x0, .none, 0x0, 0x0, 0x0, 0xFFFFFFFF, 0x0⟩
  | .HIF_FN_TARN => ⟨0x11010, 16, 0x20, 1, 0x0, .now, 0x3FF07FF, 0x0, 0x0, 0x0, 0x0⟩
  | .HIF_FN_DRAM => ⟨0x11014, 16, 0x20, 1, 0x0, .now, 0x1FFF3FFF, 0x0, 0x0, 0x0, 0x0⟩
  | .HIF_PMAP_RANGE => ⟨0x14000, 16, 0x400, 128, 0x8, .now, 0xFFFFFFFD, 0x0, 0x0, 0x0, 0x0⟩
  | .HIF_PMAP_MASK => ⟨0x14004, 16, 0x400, 128, 0x8, .now, 0xFFFFFFFF, 0x0, 0x0, 0x0, 0x0⟩
  | .HIF_RING_SQ_LO => ⟨0x18000, 16, 0x800, 64, 0x20, .now, 0xFFFFF000, 0x0, 0x0, 0x0, 0x0⟩
  | .HIF_RING_SQ_HI => ⟨0x18004, 16, 0x800, 64, 0x20, .now, 0xFFFFFFFF, 0x0, 0x0, 0x0, 0x0⟩
  | .HIF_RING_CQ_LO => ⟨0x18008, 16, 0x800, 64, 0x20, .now, 0xFFFFF000, 0x0, 0x0, 0x0, 0x0⟩
  | .HIF_RING_CQ_HI => ⟨0x1800C, 16, 0x800, 64, 0x20, .now, 0xFFFFFFFF, 0x0, 0x0, 0x0, 0x0⟩
  | .HIF_RING_DB_LO => ⟨0x18010, 16, 0x800, 64, 0x20, .now, 0xFFFFFFF0, 0x0, 0x0, 0x0, 0x0⟩
  | .HIF_RING_DB_HI => ⟨0x18014, 16, 0x800, 64, 0x20, .now, 0xFFFFFFFF, 0x0, 0x0, 0x0, 0x0⟩
  | .HIF_RING_CTL => ⟨0x18018, 16, 0x800, 64, 0x20, .now, 0x9FFFFF00, 0x0, 0x0, 0x0, 0x0⟩
  | .HIF_RING_STATUS => ⟨0x1801C, 16, 0x800, 64, 0x20, .none, 0x0, 0x0, 0x0, 0x0, 0x0⟩
  | .TRK_STATUS => ⟨0x20000, 1, 0x0, 1, 0x0, .now, 0x0, 0x80000000, 0x0, 0x0, 0x0⟩
  | .TRK_MISSED => ⟨0x20004, 1, 0x0, 1, 0x0, .none, 0x0, 0x0, 0x0, 0x0, 0x0⟩
  | .TRK_FN_OPEN => ⟨0x20040, 16, 0x4, 1, 0x0, .now, 0x7F, 0x0, 0x0, 0x0, 0x0⟩
  | .TRK_HD_CTL => ⟨0x20100, 6, 0x20, 1, 0x0, .trick, 0x3F, 0x0, 0x0, 0x3, 0x3F⟩
  | .TRK_HD_LAST_ID => ⟨0x20104, 6, 0x20, 1, 0x0, .none, 0x0, 0x0, 0x0, 0x0, 0x0⟩
  | .TRK_HD_LAST_INFO => ⟨0x20108, 6, 0x20, 1, 0x0, .none, 0x0, 0x0, 0x0, 0x0, 0x0⟩
  | .TRK_HD_LATE => ⟨0x2010C, 6, 0x20, 1, 0x0, .none, 0x0, 0x0, 0x0, 0x0, 0x0⟩
  | .MEM_POOL => ⟨0x30000, 1, 0x0, 1, 0x0, .now, 0x3FF, 0x0, 0x0, 0x40, 0x3FF⟩
  | .MEM_POOL_STATUS => ⟨0x30004, 1, 0x0, 1, 0x0, .now, 0x0, 0xC0000000, 0x0, 0x400, 0x0⟩
  | .MEM_STAGE_CLASH => ⟨0x30008, 1, 0x0, 1, 0x0, .none, 0x0, 0x0, 0x0, 0x0, 0x0⟩
  | .MEM_ECC => ⟨0x3000C, 1, 0x0, 1, 0x0, .none, 0x0, 0x0, 0x0, 0x0, 0x0⟩
  | .MEM_FEN_ERR => ⟨0x30010, 1, 0x0, 1, 0x0, .none, 0x0, 0x0, 0x0, 0x0, 0x0⟩
  | .MEM_FN_POOL => ⟨0x30100, 16, 0x4, 1, 0x0, .now, 0x3FFF, 0x0, 0x0, 0x0, 0x0⟩
  | .MEM_TRUMP_HD => ⟨0x30200, 6, 0x4, 1, 0x0, .trick, 0x3FF00FF, 0x0, 0x0, 0x0, 0x3FF00FF⟩
  | .MEM_AP_CTL => ⟨0x30300, 4, 0x4, 1, 0x0, .now, 0x8001FFFF, 0x0, 0x0, 0x0, 0x0⟩
  | .HEAD_CTL => ⟨0x100000, 6, 0x20000, 1, 0x0, .trick, 0x80000000, 0x0, 0x0, 0x0, 0x80000000⟩
  | .HEAD_STAT => ⟨0x100004, 6, 0x20000, 1, 0x0, .now, 0x0, 0xC000000, 0x0, 0x0, 0x0⟩
  | .FRAME => ⟨0x100008, 6, 0x20000, 1, 0x0, .none, 0x0, 0x0, 0x0, 0x0, 0x0⟩
  | .BEAM_COMP => ⟨0x10000C, 6, 0x20000, 1, 0x0, .none, 0x0, 0x0, 0x0, 0x0, 0x0⟩
  | .BEAM_SCAN => ⟨0x100010, 6, 0x20000, 1, 0x0, .none, 0x0, 0x0, 0x0, 0x0, 0x0⟩
  | .TS_H => ⟨0x100020, 6, 0x20000, 1, 0x0, .trick, 0x3FFF3FFF, 0x0, 0x0, 0x0, 0x3FFF3FFF⟩
  | .TS_HSYNC => ⟨0x100024, 6, 0x20000, 1, 0x0, .trick, 0x83FF3FFF, 0x0, 0x0, 0x0, 0x83FF3FFF⟩
  | .TS_V => ⟨0x100028, 6, 0x20000, 1, 0x0, .trick, 0x3FFF3FFF, 0x0, 0x0, 0x0, 0x3FFF3FFF⟩
  | .TS_VSYNC => ⟨0x10002C, 6, 0x20000, 1, 0x0, .trick, 0x83FF3FFF, 0x0, 0x0, 0x0, 0x83FF3FFF⟩
  | .TS_CLK => ⟨0x100030, 6, 0x20000, 1, 0x0, .trick, 0xFFFFFFFF, 0x0, 0x0, 0x0, 0xFFFFFFFF⟩
  | .TS_LINK => ⟨0x100034, 6, 0x20000, 1, 0x0, .trick, 0x7013F, 0x0, 0x0, 0x70020, 0x7013F⟩
  | .PAL_BASE => ⟨0x100380, 6, 0x20000, 1, 0x0, .line, 0xFFFFF, 0x0, 0x0, 0x0, 0xFFFFF⟩
  | .PLANE_STAT => ⟨0x100384, 6, 0x20000, 1, 0x0, .now, 0x0, 0xFFFFFFFF, 0x0, 0x0, 0x0⟩
  | .PL_CTL => ⟨0x100400, 6, 0x20000, 16, 0x40, .trick, 0x80013B71, 0x0, 0x0, 0x830, 0x80013B71⟩
  | .PL_SCROLL_X => ⟨0x100404, 6, 0x20000, 16, 0x40, .line, 0xFFFF, 0x0, 0x0, 0x0, 0xFFFF⟩
  | .PL_SCROLL_Y => ⟨0x100408, 6, 0x20000, 16, 0x40, .line, 0xFFFF, 0x0, 0x0, 0x0, 0xFFFF⟩
  | .PL_CSCROLL => ⟨0x10040C, 6, 0x20000, 16, 0x40, .line, 0x8FFFFF, 0x0, 0x0, 0x0, 0x8FFFFF⟩
  | .PL_MAP => ⟨0x100410, 6, 0x20000, 16, 0x40, .line, 0xFFFFF, 0x0, 0x0, 0x0, 0xFFFFF⟩
  | .PL_MAPDIM => ⟨0x100414, 6, 0x20000, 16, 0x40, .trick, 0xFF, 0x0, 0x0, 0x44, 0xFF⟩
  | .PL_PAT => ⟨0x100418, 6, 0x20000, 16, 0x40, .line, 0xFFFFF, 0x0, 0x0, 0x0, 0xFFFFF⟩
  | .PL_PALX => ⟨0x10041C, 6, 0x20000, 16, 0x40, .line, 0xFF0FFF, 0x0, 0x0, 0x3F0000, 0xFF0FFF⟩
  | .PL_SURF_LO => ⟨0x100420, 6, 0x20000, 16, 0x40, .trick, 0xFFFFFFFF, 0x0, 0x0, 0x0, 0xFFFFFFFF⟩
  | .PL_SURF_HI => ⟨0x100424, 6, 0x20000, 16, 0x40, .trick, 0xFF, 0x0, 0x0, 0x0, 0xFF⟩
  | .PL_SURF_DIM => ⟨0x100428, 6, 0x20000, 16, 0x40, .trick, 0x3FFF3FFF, 0x0, 0x0, 0x0, 0x3FFF3FFF⟩
  | .PL_SURF_PITCH => ⟨0x10042C, 6, 0x20000, 16, 0x40, .trick, 0x7FF, 0x0, 0x0, 0x1, 0x7FF⟩
  | .AFF_A => ⟨0x100800, 6, 0x20000, 2, 0x20, .line, 0xFFFFFF, 0x0, 0x0, 0x10000, 0xFFFFFF⟩
  | .AFF_B => ⟨0x100804, 6, 0x20000, 2, 0x20, .line, 0xFFFFFF, 0x0, 0x0, 0x0, 0xFFFFFF⟩
  | .AFF_C => ⟨0x100808, 6, 0x20000, 2, 0x20, .line, 0xFFFFFF, 0x0, 0x0, 0x0, 0xFFFFFF⟩
  | .AFF_D => ⟨0x10080C, 6, 0x20000, 2, 0x20, .line, 0xFFFFFF, 0x0, 0x0, 0x10000, 0xFFFFFF⟩
  | .AFF_OX_HI => ⟨0x100810, 6, 0x20000, 2, 0x20, .line, 0xFFFFFF, 0x0, 0x0, 0x0, 0xFFFFFF⟩
  | .AFF_OX_LO => ⟨0x100814, 6, 0x20000, 2, 0x20, .line, 0xFF, 0x0, 0x0, 0x0, 0xFF⟩
  | .AFF_OY_HI => ⟨0x100818, 6, 0x20000, 2, 0x20, .line, 0xFFFFFF, 0x0, 0x0, 0x0, 0xFFFFFF⟩
  | .AFF_OY_LO => ⟨0x10081C, 6, 0x20000, 2, 0x20, .line, 0xFF, 0x0, 0x0, 0x0, 0xFF⟩
  | .OBJ_CTL => ⟨0x100900, 6, 0x20000, 1, 0x0, .trick, 0x80000000, 0x0, 0x0, 0x0, 0x80000000⟩
  | .OBJ_DECK => ⟨0x100904, 6, 0x20000, 1, 0x0, .line, 0xFFFFF, 0x0, 0x0, 0x0, 0xFFFFF⟩
  | .OBJ_COUNT => ⟨0x100908, 6, 0x20000, 1, 0x0, .line, 0x1FFFF, 0x0, 0x0, 0x0, 0x1FFFF⟩
  | .OBJ_OFS => ⟨0x10090C, 6, 0x20000, 1, 0x0, .line, 0x3FFF3FFF, 0x0, 0x0, 0x0, 0x3FFF3FFF⟩
  | .OBJ_STAT => ⟨0x100910, 6, 0x20000, 1, 0x0, .now, 0x0, 0x7, 0x0, 0x0, 0x0⟩
  | .OBJ_OVF_TOTAL => ⟨0x100914, 6, 0x20000, 1, 0x0, .none, 0x0, 0x0, 0x0, 0x0, 0x0⟩
  | .OBJ_OVF_FIRST => ⟨0x100918, 6, 0x20000, 1, 0x0, .none, 0x0, 0x0, 0x0, 0x0, 0x0⟩
  | .OBJ_OVF_PREV => ⟨0x10091C, 6, 0x20000, 1, 0x0, .none, 0x0, 0x0, 0x0, 0xFFFF, 0x0⟩
  | .OBJ_DEMAND => ⟨0x100920, 6, 0x20000, 1, 0x0, .none, 0x0, 0x0, 0x0, 0x0, 0x0⟩
  | .MELD_CTL => ⟨0x100A00, 6, 0x20000, 1, 0x0, .line, 0x8000001F, 0x0, 0x0, 0x0, 0x8000001F⟩
  | .MELD_BG => ⟨0x100A04, 6, 0x20000, 1, 0x0, .line, 0xFFFFFF, 0x0, 0x0, 0x0, 0xFFFFFF⟩
  | .MELD_CONST => ⟨0x100A08, 6, 0x20000, 1, 0x0, .line, 0xFFFFFF, 0x0, 0x0, 0x0, 0xFFFFFF⟩
  | .MELD_KEY0 => ⟨0x100A0C, 6, 0x20000, 1, 0x0, .line, 0xFFFFFF, 0x0, 0x0, 0x0, 0xFFFFFF⟩
  | .MELD_KMASK0 => ⟨0x100A10, 6, 0x20000, 1, 0x0, .line, 0xFFFFFF, 0x0, 0x0, 0xFFFFFF, 0xFFFFFF⟩
  | .MELD_KEY1 => ⟨0x100A14, 6, 0x20000, 1, 0x0, .line, 0xFFFFFF, 0x0, 0x0, 0x0, 0xFFFFFF⟩
  | .MELD_KMASK1 => ⟨0x100A18, 6, 0x20000, 1, 0x0, .line, 0xFFFFFF, 0x0, 0x0, 0xFFFFFF, 0xFFFFFF⟩
  | .MELD_FSHED => ⟨0x100A1C, 6, 0x20000, 1, 0x0, .line, 0xFFFFFF, 0x0, 0x0, 0x0, 0xFFFFFF⟩
  | .MELD_STAT => ⟨0x100A20, 6, 0x20000, 1, 0x0, .now, 0x0, 0x1, 0x0, 0x0, 0x0⟩
  | .MELD_STEP => ⟨0x100A40, 6, 0x20000, 32, 0x4, .line, 0x1FFFFFFF, 0x0, 0x0, 0xFC00F20, 0x1FFFFFFF⟩
  | .WIN_X => ⟨0x100AC0, 6, 0x20000, 8, 0x8, .line, 0x3FFF3FFF, 0x0, 0x0, 0x1, 0x3FFF3FFF⟩
  | .WIN_Y => ⟨0x100AC4, 6, 0x20000, 8, 0x8, .line, 0x3FFF3FFF, 0x0, 0x0, 0x1, 0x3FFF3FFF⟩
  | .TRUMP_CTL => ⟨0x100B00, 6, 0x20000, 1, 0x0, .trick, 0xE33F0000, 0x0, 0x0, 0x3F0000, 0xE33F0000⟩
  | .TRUMP_SRC => ⟨0x100B04, 6, 0x20000, 1, 0x0, .trick, 0x7FF07FF, 0x0, 0x0, 0x0, 0x7FF07FF⟩
  | .TRUMP_POS => ⟨0x100B08, 6, 0x20000, 1, 0x0, .trick, 0x3FFF3FFF, 0x0, 0x0, 0x0, 0x3FFF3FFF⟩
  | .TRUMP_SIG => ⟨0x100B0C, 6, 0x20000, 1, 0x0, .trick, 0xFFFFFFFF, 0x0, 0x0, 0x0, 0xFFFFFFFF⟩
  | .TRUMP_SIG_LAST => ⟨0x100B10, 6, 0x20000, 1, 0x0, .none, 0x0, 0x0, 0x0, 0x0, 0x0⟩
  | .TRUMP_MISMATCH => ⟨0x100B14, 6, 0x20000, 1, 0x0, .none, 0x0, 0x0, 0x0, 0x0, 0x0⟩
  | .TRUMP_FB_BG => ⟨0x100B18, 6, 0x20000, 1, 0x0, .trick, 0xFFFFFF, 0x0, 0x0, 0x0, 0xFFFFFF⟩
  | .TRUMP_CMD => ⟨0x100B1C, 6, 0x20000, 1, 0x0, .now, 0x0, 0x0, 0x3, 0x0, 0x0⟩
  | .TRUMP_STAT => ⟨0x100B20, 6, 0x20000, 1, 0x0, .now, 0x0, 0x20000000, 0x0, 0x0, 0x0⟩
  | .SINK_CTL => ⟨0x100C00, 6, 0x20000, 1, 0x0, .trick, 0x103, 0x0, 0x0, 0x0, 0x103⟩
  | .SINK_RING => ⟨0x100C04, 6, 0x20000, 1, 0x0, .trick, 0x7FFFFFF, 0x0, 0x0, 0x2000000, 0x7FFFFFF⟩
  | .SINK_WB_LO => ⟨0x100C08, 6, 0x20000, 1, 0x0, .trick, 0xFFFFFFFF, 0x0, 0x0, 0x0, 0xFFFFFFFF⟩
  | .SINK_WB_HI => ⟨0x100C0C, 6, 0x20000, 1, 0x0, .trick, 0xFF, 0x0, 0x0, 0x0, 0xFF⟩
  | .SINK_WB_CFG => ⟨0x100C10, 6, 0x20000, 1, 0x0, .trick, 0x30FFF, 0x0, 0x0, 0x10020, 0x30FFF⟩
  | .SINK_WB_HOLD => ⟨0x100C14, 6, 0x20000, 1, 0x0, .now, 0xF, 0x0, 0x100, 0x0, 0x0⟩
  | .SINK_WB_STATUS => ⟨0x100C18, 6, 0x20000, 1, 0x0, .none, 0x0, 0x0, 0x0, 0x0, 0x0⟩
  | .SINK_STAT => ⟨0x100C1C, 6, 0x20000, 1, 0x0, .now, 0x0, 0x1, 0x0, 0x0, 0x0⟩
  | .PACE_CTL => ⟨0x100D00, 6, 0x20000, 1, 0x0, .trick, 0x3F3F3F00, 0x0, 0x0, 0x10040200, 0x3F3F3F00⟩
  | .PACE_STAT => ⟨0x100D04, 6, 0x20000, 1, 0x0, .now, 0x0, 0xF0000000, 0x0, 0x0, 0x0⟩
  | .PACE_LATE => ⟨0x100D08, 6, 0x20000, 1, 0x0, .none, 0x0, 0x0, 0x0, 0x0, 0x0⟩
  | .PACE_SHED_TOTAL => ⟨0x100D0C, 6, 0x20000, 1, 0x0, .none, 0x0, 0x0, 0x0, 0x0, 0x0⟩
  | .PACE_LOW_TOTAL => ⟨0x100D10, 6, 0x20000, 1, 0x0, .none, 0x0, 0x0, 0x0, 0x0, 0x0⟩
  | .PACE_UNDER_TOTAL => ⟨0x100D14, 6, 0x20000, 1, 0x0, .none, 0x0, 0x0, 0x0, 0x0, 0x0⟩
  | .PACE_SLIP_TOTAL => ⟨0x100D18, 6, 0x20000, 1, 0x0, .none, 0x0, 0x0, 0x0, 0x0, 0x0⟩
  | .PACE_UNDER_FIRST => ⟨0x100D1C, 6, 0x20000, 1, 0x0, .none, 0x0, 0x0, 0x0, 0x0, 0x0⟩
  | .PACE_PREV => ⟨0x100D20, 6, 0x20000, 1, 0x0, .none, 0x0, 0x0, 0x0, 0x0, 0x0⟩
  | .DMG_CTL => ⟨0x100D40, 6, 0x20000, 1, 0x0, .trick, 0xF, 0x0, 0x0, 0x4, 0xF⟩
  | .DMG_X => ⟨0x100D44, 6, 0x20000, 1, 0x0, .now, 0x3FFF3FFF, 0x0, 0x0, 0x1, 0x0⟩
  | .DMG_Y => ⟨0x100D48, 6, 0x20000, 1, 0x0, .now, 0x3FFF3FFF, 0x0, 0x0, 0x1, 0x0⟩
  | .DMG_ADD => ⟨0x100D4C, 6, 0x20000, 1, 0x0, .now, 0x0, 0x0, 0x3, 0x0, 0x0⟩
  | .DMG_STAT => ⟨0x100D50, 6, 0x20000, 1, 0x0, .none, 0x0, 0x0, 0x0, 0x0, 0x0⟩
  | .DMG_RECT_X => ⟨0x100D80, 6, 0x20000, 8, 0x8, .none, 0x0, 0x0, 0x0, 0x0, 0x0⟩
  | .DMG_RECT_Y => ⟨0x100D84, 6, 0x20000, 8, 0x8, .none, 0x0, 0x0, 0x0, 0x0, 0x0⟩
  | .DP_CTL => ⟨0x101000, 6, 0x20000, 1, 0x0, .now, 0x1F, 0x0, 0x80000000, 0x0, 0x1F⟩
  | .DP_STAT => ⟨0x101004, 6, 0x20000, 1, 0x0, .none, 0x0, 0x0, 0x0, 0x0, 0x0⟩
  | .DP_ERR => ⟨0x101008, 6, 0x20000, 1, 0x0, .none, 0x0, 0x0, 0x0, 0x0, 0x0⟩
  | .DP_AUX_CMD => ⟨0x101100, 6, 0x20000, 1, 0x0, .now, 0x0, 0x0, 0xFF0FFFFF, 0x0, 0x0⟩
  | .DP_AUX_STAT => ⟨0x101104, 6, 0x20000, 1, 0x0, .none, 0x0, 0x0, 0x0, 0x0, 0x0⟩
  | .DP_AUX_DATA => ⟨0x101110, 6, 0x20000, 4, 0x4, .now, 0xFFFFFFFF, 0x0, 0x0, 0x0, 0x0⟩
  | .DP_AUD => ⟨0x101200, 6, 0x20000, 1, 0x0, .trick, 0x870F0000, 0x0, 0x0, 0x1020000, 0x870F0000⟩
  | .SEQ_CTL => ⟨0x200000, 8, 0x4000, 1, 0x0, .trick, 0xCF703FFF, 0x0, 0x0, 0x2000000, 0xCF703FFF⟩
  | .SEQ_CMD => ⟨0x200004, 8, 0x4000, 1, 0x0, .now, 0x0, 0x0, 0x3, 0x0, 0x0⟩
  | .SEQ_STAT => ⟨0x200008, 8, 0x4000, 1, 0x0, .now, 0x0, 0x10000000, 0x0, 0x0, 0x0⟩
  | .SEQ_TAG => ⟨0x20000C, 8, 0x4000, 1, 0x0, .none, 0x0, 0x0, 0x0, 0x0, 0x0⟩
  | .SEQ_WIN => ⟨0x200010, 8, 0x4000, 4, 0x4, .trick, 0x3FF, 0x0, 0x0, 0x0, 0x3FF⟩
  | .SEQ_IRQ => ⟨0x200020, 8, 0x4000, 1, 0x0, .now, 0x8F00003F, 0x0, 0x0, 0x0, 0x0⟩
  | .SEQ_RAISE => ⟨0x200024, 8, 0x4000, 1, 0x0, .now, 0x0, 0xC0000000, 0x0, 0x0, 0x0⟩
  | .SEQ_LATE => ⟨0x200028, 8, 0x4000, 1, 0x0, .none, 0x0, 0x0, 0x0, 0x0, 0x0⟩
  | .SEQ_SKIP => ⟨0x20002C, 8, 0x4000, 1, 0x0, .none, 0x0, 0x0, 0x0, 0x0, 0x0⟩
  | .SEQ_DROP => ⟨0x200030, 8, 0x4000, 1, 0x0, .none, 0x0, 0x0, 0x0, 0x0, 0x0⟩
  | .SEQ_G => ⟨0x200040, 8, 0x4000, 16, 0x4, .none, 0x0, 0x0, 0x0, 0x0, 0x0⟩
  | .BLT_STATUS => ⟨0x240000, 1, 0x0, 1, 0x0, .none, 0x0, 0x0, 0x0, 0x0, 0x0⟩
  | .BLT_RACE_LATE => ⟨0x240004, 1, 0x0, 1, 0x0, .none, 0x0, 0x0, 0x0, 0x0, 0x0⟩
  | .BLT_CTL => ⟨0x240100, 8, 0x20, 1, 0x0, .now, 0x1F0003, 0x0, 0x0, 0x100000, 0x0⟩
  | .BLT_STAT => ⟨0x240104, 8, 0x20, 1, 0x0, .now, 0x0, 0xE0000000, 0x0, 0x0, 0x0⟩
  | .BLT_IRQ => ⟨0x240108, 8, 0x20, 1, 0x0, .now, 0x8F00003F, 0x0, 0x0, 0x0, 0x0⟩
  | .BLT_WM0 => ⟨0x24010C, 8, 0x20, 1, 0x0, .none, 0x0, 0x0, 0x0, 0x0, 0x0⟩
  | .BLT_WM1 => ⟨0x240110, 8, 0x20, 1, 0x0, .none, 0x0, 0x0, 0x0, 0x0, 0x0⟩
  | .BLT_WM2 => ⟨0x240114, 8, 0x20, 1, 0x0, .none, 0x0, 0x0, 0x0, 0x0, 0x0⟩
  | .SLU_STATUS => ⟨0x250000, 1, 0x0, 1, 0x0, .none, 0x0, 0x0, 0x0, 0x0, 0x0⟩
  | .SLU_STAGE => ⟨0x250004, 1, 0x0, 1, 0x0, .none, 0x0, 0x0, 0x0, 0x0, 0x0⟩
  | .SLU_FENCED => ⟨0x250008, 1, 0x0, 1, 0x0, .none, 0x0, 0x0, 0x0, 0x0, 0x0⟩
  | .SLU_CTL => ⟨0x250100, 32, 0x20, 1, 0x0, .now, 0x1FFF03, 0x0, 0x0, 0x101400, 0x0⟩
  | .SLU_STAT => ⟨0x250104, 32, 0x20, 1, 0x0, .now, 0x0, 0x20000000, 0x0, 0x0, 0x0⟩
  | .SLU_REMAIN => ⟨0x250108, 32, 0x20, 1, 0x0, .none, 0x0, 0x0, 0x0, 0x0, 0x0⟩
  | .SLU_FAIL_LO => ⟨0x25010C, 32, 0x20, 1, 0x0, .none, 0x0, 0x0, 0x0, 0x0, 0x0⟩
  | .SLU_FAIL_HI => ⟨0x250110, 32, 0x20, 1, 0x0, .none, 0x0, 0x0, 0x0, 0x0, 0x0⟩
  | .AUD_STAT => ⟨0x260000, 1, 0x0, 1, 0x0, .now, 0x0, 0x80000000, 0x0, 0x0, 0x0⟩
  | .AUD_RAMP_SET => ⟨0x260008, 1, 0x0, 1, 0x0, .now, 0x0, 0x0, 0x83FF0000, 0x0, 0x0⟩
  | .AUD_RAMP_VAL => ⟨0x26000C, 1, 0x0, 1, 0x0, .now, 0xFFFFFF, 0x0, 0x0, 0x0, 0x0⟩
  | .AUD_DOM_CTL => ⟨0x260010, 3, 0x10, 1, 0x0, .trick, 0x83070001, 0x0, 0x0, 0x0, 0x83070001⟩
  | .AUD_DOM_STAT => ⟨0x260014, 3, 0x10, 1, 0x0, .now, 0x0, 0x60000000, 0x0, 0x0, 0x0⟩
  | .AUD_DOM_UNDER => ⟨0x260018, 3, 0x10, 1, 0x0, .none, 0x0, 0x0, 0x0, 0x0, 0x0⟩
  | .AUD_DOM_DLY => ⟨0x26001C, 3, 0x10, 1, 0x0, .trick, 0x3FF00FF, 0x0, 0x0, 0x0, 0x3FF00FF⟩
  | .AUD_COEF_SET => ⟨0x260040, 1, 0x0, 1, 0x0, .now, 0x0, 0x0, 0x830003FF, 0x0, 0x0⟩
  | .AUD_COEF_VAL => ⟨0x260044, 1, 0x0, 1, 0x0, .now, 0xFFFFFF, 0x0, 0x0, 0x0, 0x0⟩
  | .AUD_RAMP => ⟨0x261000, 3, 0x400, 256, 0x4, .none, 0x0, 0x0, 0x0, 0x0, 0x0⟩
  | .VOICE_WAVE => ⟨0x262000, 64, 0x20, 1, 0x0, .line, 0xF8FFFFF, 0x0, 0x0, 0x0, 0xF8FFFFF⟩
  | .VOICE_PITCH => ⟨0x262004, 64, 0x20, 1, 0x0, .line, 0xFFFFFF, 0x0, 0x0, 0x0, 0xFFFFFF⟩
  | .VOICE_ENV_AD => ⟨0x262008, 64, 0x20, 1, 0x0, .line, 0xFFFFFF, 0x0, 0x0, 0x0, 0xFFFFFF⟩
  | .VOICE_ENV_SR => ⟨0x26200C, 64, 0x20, 1, 0x0, .line, 0xFF0FFF, 0x0, 0x0, 0x0, 0xFF0FFF⟩
  | .VOICE_VOL => ⟨0x262010, 64, 0x20, 1, 0x0, .line, 0xFF, 0x0, 0x0, 0xFF, 0xFF⟩
  | .VOICE_STAT => ⟨0x262014, 64, 0x20, 1, 0x0, .now, 0x0, 0x10000000, 0x0, 0x0, 0x0⟩
  | .PLAY_CTL => ⟨0x263000, 16, 0x20, 1, 0x0, .trick, 0x801F0770, 0x0, 0x0, 0x100110, 0x0⟩
  | .PLAY_RATE => ⟨0x263004, 16, 0x20, 1, 0x0, .trick, 0x3FFFF, 0x0, 0x0, 0xBB80, 0x0⟩
  | .PLAY_STAT => ⟨0x263008, 16, 0x20, 1, 0x0, .now, 0x0, 0x20000000, 0x0, 0x0, 0x0⟩
  | .SINK_LIM => ⟨0x264000, 17, 0x20, 1, 0x0, .now, 0x80FF00FF, 0x0, 0x0, 0xA0002, 0x80FF00FF⟩
  | .SINK_SIL => ⟨0x264004, 17, 0x20, 1, 0x0, .now, 0x80FF00FF, 0x0, 0x0, 0x80320060, 0x80FF00FF⟩
  | .ASINK_STAT => ⟨0x264008, 17, 0x20, 1, 0x0, .now, 0x0, 0x30000000, 0x0, 0x3000000, 0x0⟩
  | .CAP_CTL => ⟨0x264400, 8, 0x20, 1, 0x0, .now, 0xB1FFFF3F, 0x0, 0x0, 0xA0000, 0x0⟩
  | .CAP_BASE_LO => ⟨0x264404, 8, 0x20, 1, 0x0, .now, 0xFFFFF000, 0x0, 0x0, 0x0, 0x0⟩
  | .CAP_BASE_HI => ⟨0x264408, 8, 0x20, 1, 0x0, .now, 0xFFFFFFFF, 0x0, 0x0, 0x0, 0x0⟩
  | .CAP_REC_LO => ⟨0x26440C, 8, 0x20, 1, 0x0, .now, 0xFFFFFFF8, 0x0, 0x0, 0x0, 0x0⟩
  | .CAP_REC_HI => ⟨0x264410, 8, 0x20, 1, 0x0, .now, 0xFFFFFFFF, 0x0, 0x0, 0x0, 0x0⟩
  | .BR_CTL => ⟨0x265000, 16, 0x10, 1, 0x0, .trick, 0x83030000, 0x0, 0x0, 0x0, 0x83030000⟩
  | .BR_STAT => ⟨0x265004, 16, 0x10, 1, 0x0, .none, 0x0, 0x0, 0x0, 0x0, 0x0⟩
  | .TDM_CTL => ⟨0x265800, 2, 0x10, 1, 0x0, .trick, 0x8103FFFF, 0x0, 0x0, 0x0, 0x8103FFFF⟩
  | .HS_CTL => ⟨0x266000, 1, 0x0, 1, 0x0, .trick, 0xF01F0F00, 0x0, 0x0, 0x0, 0xF01F0F00⟩
  | .HS_STAT => ⟨0x266004, 1, 0x0, 1, 0x0, .now, 0x0, 0xF0000, 0x0, 0x0, 0x0⟩
  | .HS_IRQ => ⟨0x266008, 1, 0x0, 1, 0x0, .now, 0x8F00003F, 0x0, 0x0, 0x0, 0x0⟩
  | .CWY_CTL => ⟨0x280000, 1, 0x0, 1, 0x0, .now, 0xB0000000, 0x0, 0x0, 0x90000000, 0xB0000000⟩
  | .CWY_ID => ⟨0x280004, 1, 0x0, 1, 0x0, .now, 0x3FFF, 0x0, 0x0, 0x0, 0x3FFF⟩
  | .CWY_STAT => ⟨0x280008, 1, 0x0, 1, 0x0, .now, 0x0, 0x6000000, 0x0, 0x0, 0x0⟩
  | .CWY_WALL_CTL => ⟨0x28000C, 1, 0x0, 1, 0x0, .trick, 0x73FF0FF, 0x0, 0x0, 0x60003, 0x73FF0FF⟩
  | .CWY_WALL_FRAME => ⟨0x280010, 1, 0x0, 1, 0x0, .none, 0x0, 0x0, 0x0, 0x0, 0x0⟩
  | .CWY_BENCH_FRAME => ⟨0x280014, 1, 0x0, 1, 0x0, .none, 0x0, 0x0, 0x0, 0x0, 0x0⟩
  | .CWY_TREE => ⟨0x280018, 1, 0x0, 1, 0x0, .none, 0x0, 0x0, 0x0, 0x0, 0x0⟩
  | .CWY_MAX_PATH => ⟨0x28001C, 1, 0x0, 1, 0x0, .none, 0x0, 0x0, 0x0, 0x0, 0x0⟩
  | .CWY_DEFERS => ⟨0x280020, 1, 0x0, 1, 0x0, .none, 0x0, 0x0, 0x0, 0x0, 0x0⟩
  | .CWY_LATE => ⟨0x280024, 1, 0x0, 1, 0x0, .none, 0x0, 0x0, 0x0, 0x0, 0x0⟩
  | .CWY_REJOIN => ⟨0x280028, 1, 0x0, 1, 0x0, .now, 0x0, 0x0, 0x80003FFF, 0x0, 0x0⟩
  | .CWY_SETID_PATH => ⟨0x28002C, 1, 0x0, 1, 0x0, .now, 0x1FFFF, 0x0, 0x0, 0x0, 0x0⟩
  | .CWY_SETID => ⟨0x280030, 1, 0x0, 1, 0x0, .now, 0x0, 0x0, 0x80003FFF, 0x0, 0x0⟩
  | .CWY_WALL_SEQ => ⟨0x280034, 1, 0x0, 1, 0x0, .none, 0x0, 0x0, 0x0, 0x0, 0x0⟩
  | .CWY_BENCH_NEXT => ⟨0x280038, 1, 0x0, 1, 0x0, .none, 0x0, 0x0, 0x0, 0x0, 0x0⟩
  | .CWY_PORT_CTL => ⟨0x280100, 5, 0x20, 1, 0x0, .now, 0x8003FFFF, 0x0, 0x0, 0x80000000, 0x8003FFFF⟩
  | .CWY_PORT_STAT => ⟨0x280104, 5, 0x20, 1, 0x0, .none, 0x0, 0x0, 0x0, 0x0, 0x0⟩
  | .CWY_PORT_LAT => ⟨0x280108, 5, 0x20, 1, 0x0, .none, 0x0, 0x0, 0x0, 0x0, 0x0⟩
  | .CWY_PORT_ERR => ⟨0x28010C, 5, 0x20, 1, 0x0, .none, 0x0, 0x0, 0x0, 0x0, 0x0⟩
  | .CWY_VIEW_CTL => ⟨0x280200, 6, 0x10, 1, 0x0, .trick, 0x80070000, 0x0, 0x0, 0x0, 0x80070000⟩
  | .CWY_VIEW_XY => ⟨0x280204, 6, 0x10, 1, 0x0, .trick, 0xFFFFFFFF, 0x0, 0x0, 0x0, 0xFFFFFFFF⟩
  | .CWY_VIEW_DECK => ⟨0x280208, 6, 0x10, 1, 0x0, .trick, 0xFFFFF, 0x0, 0x0, 0x0, 0xFFFFF⟩
  | .CWY_BENCH_HD => ⟨0x280300, 6, 0x8, 1, 0x0, .trick, 0x8000007F, 0x0, 0x0, 0x0, 0x8000007F⟩
  | .CWY_BENCH_SIG => ⟨0x280304, 6, 0x8, 1, 0x0, .trick, 0xFFFFFFFF, 0x0, 0x0, 0x0, 0xFFFFFFFF⟩
  | .CWY_BENCH_REC0 => ⟨0x280400, 64, 0x8, 1, 0x0, .none, 0x0, 0x0, 0x0, 0x0, 0x0⟩
  | .CWY_BENCH_REC1 => ⟨0x280404, 64, 0x8, 1, 0x0, .none, 0x0, 0x0, 0x0, 0x0, 0x0⟩
  | .PWR_CTL => ⟨0x290000, 1, 0x0, 1, 0x0, .now, 0x3, 0x0, 0x0, 0x2, 0x3⟩
  | .PWR_IDLE => ⟨0x290004, 1, 0x0, 1, 0x0, .now, 0xFF03FF, 0x0, 0x0, 0x140032, 0xFF03FF⟩
  | .PWR_STAT => ⟨0x290008, 1, 0x0, 1, 0x0, .now, 0x0, 0x80000000, 0x0, 0x0, 0x0⟩
  | .PWR_WAKE => ⟨0x29000C, 1, 0x0, 1, 0x0, .none, 0x0, 0x0, 0x0, 0x0, 0x0⟩
  | .PWR_TOL => ⟨0x290010, 1, 0x0, 1, 0x0, .none, 0x0, 0x0, 0x0, 0xFFFFFFFF, 0x0⟩
  | .PWR_DOZES => ⟨0x290014, 1, 0x0, 1, 0x0, .none, 0x0, 0x0, 0x0, 0x0, 0x0⟩
  | .PWR_SLUMBERS => ⟨0x290018, 1, 0x0, 1, 0x0, .none, 0x0, 0x0, 0x0, 0x0, 0x0⟩
  | .PWR_ABORTS => ⟨0x29001C, 1, 0x0, 1, 0x0, .none, 0x0, 0x0, 0x0, 0x0, 0x0⟩
  | .JOURNAL_STATUS => ⟨0x290100, 1, 0x0, 1, 0x0, .now, 0x0, 0x30000000, 0x0, 0x0, 0x0⟩
  | .JOURNAL_SEQ => ⟨0x290104, 1, 0x0, 1, 0x0, .none, 0x0, 0x0, 0x0, 0x0, 0x0⟩
  | .JOURNAL_ABORT_SEQ => ⟨0x290108, 1, 0x0, 1, 0x0, .none, 0x0, 0x0, 0x0, 0x0, 0x0⟩
  | .JOURNAL_FAIL => ⟨0x29010C, 1, 0x0, 1, 0x0, .none, 0x0, 0x0, 0x0, 0x0, 0x0⟩
  | .JOURNAL_EARLY => ⟨0x290110, 1, 0x0, 1, 0x0, .now, 0x800FFFFF, 0x0, 0x0, 0x0, 0x800FFFFF⟩
  | .JOURNAL_RANGE_LO => ⟨0x290120, 16, 0x8, 1, 0x0, .now, 0xC001FFFF, 0x0, 0x0, 0x0, 0xC001FFFF⟩
  | .JOURNAL_RANGE_HI => ⟨0x290124, 16, 0x8, 1, 0x0, .now, 0xFF, 0x0, 0x0, 0x0, 0xFF⟩
  | .TMR_CTL => ⟨0x2A0000, 16, 0x20, 1, 0x0, .trick, 0xFFFFFFFF, 0x0, 0x0, 0x0, 0xFFFFFFFF⟩
  | .TMR_IN => ⟨0x2A0004, 16, 0x20, 1, 0x0, .trick, 0xFFFFF007, 0x0, 0x0, 0x0, 0xFFFFF007⟩
  | .TMR_COUNT => ⟨0x2A0008, 16, 0x20, 1, 0x0, .now, 0xFFFFFF, 0x0, 0x0, 0x0, 0x0⟩
  | .TMR_TOP => ⟨0x2A000C, 16, 0x20, 1, 0x0, .line, 0xFFFFFF, 0x0, 0x0, 0xFFFFFF, 0xFFFFFF⟩
  | .TMR_CMP => ⟨0x2A0010, 16, 0x20, 1, 0x0, .line, 0xFFFFFF, 0x0, 0x0, 0xFFFFFF, 0xFFFFFF⟩
  | .TMR_CAP => ⟨0x2A0014, 16, 0x20, 1, 0x0, .none, 0x0, 0x0, 0x0, 0x0, 0x0⟩
  | .TMR_STAT => ⟨0x2A0018, 16, 0x20, 1, 0x0, .now, 0x0, 0xF8000000, 0x0, 0x0, 0x0⟩
  | .TMR_IRQ => ⟨0x2A0400, 1, 0x0, 1, 0x0, .now, 0x8F00003F, 0x0, 0x0, 0x0, 0x0⟩
  | .TMR_START => ⟨0x2A0404, 1, 0x0, 1, 0x0, .now, 0x0, 0x0, 0xFFFF, 0x0, 0x0⟩
  | .TMR_STOP => ⟨0x2A0408, 1, 0x0, 1, 0x0, .now, 0x0, 0x0, 0xFFFF, 0x0, 0x0⟩
  | .TMR_RESET => ⟨0x2A040C, 1, 0x0, 1, 0x0, .now, 0x0, 0x0, 0xFFFF, 0x0, 0x0⟩
  | .GPIO_PIN => ⟨0x2B0000, 32, 0x4, 1, 0x0, .trick, 0xFFFF0000, 0x0, 0x0, 0x430000, 0xFFFF0000⟩
  | .GPIO_IN => ⟨0x2B0080, 1, 0x0, 1, 0x0, .none, 0x0, 0x0, 0x0, 0x0, 0x0⟩
  | .GPIO_OUT => ⟨0x2B0084, 1, 0x0, 1, 0x0, .line, 0xFFFFFFFF, 0x0, 0x0, 0x0, 0xFFFFFFFF⟩
  | .GPIO_OUT_SET => ⟨0x2B0088, 1, 0x0, 1, 0x0, .now, 0x0, 0x0, 0xFFFFFFFF, 0x0, 0x0⟩
  | .GPIO_OUT_CLR => ⟨0x2B008C, 1, 0x0, 1, 0x0, .now, 0x0, 0x0, 0xFFFFFFFF, 0x0, 0x0⟩
  | .GPIO_STAT => ⟨0x2B0090, 1, 0x0, 1, 0x0, .now, 0x0, 0xC0000000, 0x0, 0x0, 0x0⟩
  | .GPIO_PM_STAT => ⟨0x2B0094, 1, 0x0, 1, 0x0, .now, 0x0, 0xFF, 0x0, 0x0, 0x0⟩
  | .GPIO_IRQ => ⟨0x2B0098, 1, 0x0, 1, 0x0, .now, 0x8F00003F, 0x0, 0x0, 0x0, 0x0⟩
  | .GPIO_PM_MASK => ⟨0x2B0100, 8, 0x10, 1, 0x0, .trick, 0xFFFFFFFF, 0x0, 0x0, 0x0, 0xFFFFFFFF⟩
  | .GPIO_PM_VALUE => ⟨0x2B0104, 8, 0x10, 1, 0x0, .trick, 0xFFFFFFFF, 0x0, 0x0, 0x0, 0xFFFFFFFF⟩
  | .GPIO_PM_CTL => ⟨0x2B0108, 8, 0x10, 1, 0x0, .trick, 0xC00000FF, 0x0, 0x0, 0x0, 0xC00000FF⟩
  | .PMC_START => ⟨0x2C0000, 1, 0x0, 1, 0x0, .now, 0x0, 0x0, 0xFFFFFFFF, 0x0, 0x0⟩
  | .PMC_STOP => ⟨0x2C0004, 1, 0x0, 1, 0x0, .now, 0x0, 0x0, 0xFFFFFFFF, 0x0, 0x0⟩
  | .PMC_OVF => ⟨0x2C0008, 1, 0x0, 1, 0x0, .now, 0x0, 0xFFFFFFFF, 0x0, 0x0, 0x0⟩
  | .PMC_USER_EN => ⟨0x2C000C, 1, 0x0, 1, 0x0, .now, 0xFFFF, 0x0, 0x0, 0x0, 0x0⟩
  | .PMC_IRQ => ⟨0x2C0010, 1, 0x0, 1, 0x0, .now, 0x8F00003F, 0x0, 0x0, 0x0, 0x0⟩
  | .PMC_CFG => ⟨0x2C0100, 32, 0x20, 1, 0x0, .now, 0xFFFFFF00, 0x0, 0x0, 0x2000000, 0x0⟩
  | .PMC_FILT => ⟨0x2C0104, 32, 0x20, 1, 0x0, .now, 0xFFFF3F00, 0x0, 0x0, 0x0, 0x0⟩
  | .PMC_ALO => ⟨0x2C0108, 32, 0x20, 1, 0x0, .now, 0xFFFFFF, 0x0, 0x0, 0x0, 0x0⟩
  | .PMC_AHI => ⟨0x2C010C, 32, 0x20, 1, 0x0, .now, 0xFFFFFF, 0x0, 0x0, 0x0, 0x0⟩
  | .PMC_LO => ⟨0x2C0110, 32, 0x20, 1, 0x0, .now, 0xFFFFFFFF, 0x0, 0x0, 0x0, 0x0⟩
  | .PMC_HI => ⟨0x2C0114, 32, 0x20, 1, 0x0, .now, 0xFFFF, 0x0, 0x0, 0x0, 0x0⟩
  | .DBG_FRZ_CTL => ⟨0x2D0000, 1, 0x0, 1, 0x0, .now, 0x0, 0x0, 0xFFFF0003, 0x0, 0x0⟩
  | .DBG_FRZ_STAT => ⟨0x2D0004, 1, 0x0, 1, 0x0, .none, 0x0, 0x0, 0x0, 0x0, 0x0⟩
  | .DBG_FRZ_ENTRY => ⟨0x2D0008, 1, 0x0, 1, 0x0, .none, 0x0, 0x0, 0x0, 0x0, 0x0⟩
  | .DBG_FRZ_DROPS => ⟨0x2D000C, 1, 0x0, 1, 0x0, .none, 0x0, 0x0, 0x0, 0x0, 0x0⟩
  | .DBG_FRZ_DROP_FIRST => ⟨0x2D0010, 1, 0x0, 1, 0x0, .none, 0x0, 0x0, 0x0, 0x0, 0x0⟩
  | .DBG_RD_ADDR => ⟨0x2D0020, 1, 0x0, 1, 0x0, .now, 0xF0FFFFFF, 0x0, 0x0, 0x0, 0x0⟩
  | .DBG_RD_DATA => ⟨0x2D0024, 1, 0x0, 1, 0x0, .none, 0x0, 0x0, 0x0, 0x0, 0x0⟩
  | .DBG_FLT_NEXT => ⟨0x2D0100, 1, 0x0, 1, 0x0, .none, 0x0, 0x0, 0x0, 0x0, 0x0⟩
  | .DBG_FLT_LOST => ⟨0x2D0104, 1, 0x0, 1, 0x0, .none, 0x0, 0x0, 0x0, 0x0, 0x0⟩
  | .DBG_FLT_PRIOR => ⟨0x2D0108, 1, 0x0, 1, 0x0, .none, 0x0, 0x0, 0x0, 0x0, 0x0⟩
  | .DBG_FLT_PEND => ⟨0x2D010C, 1, 0x0, 1, 0x0, .now, 0x0, 0x1, 0x0, 0x0, 0x0⟩
  | .DBG_FLT_MASK => ⟨0x2D0110, 4, 0x4, 1, 0x0, .now, 0xFFFFFFFF, 0x0, 0x0, 0x0, 0x0⟩
  | .DBG_FLT_IRQ => ⟨0x2D0120, 1, 0x0, 1, 0x0, .now, 0x8F00003F, 0x0, 0x0, 0x0, 0x0⟩
  | .VLG_QUARANTINE_COUNT => ⟨0x2E0000, 1, 0x0, 1, 0x0, .now, 0xFF, 0x0, 0x0, 0x10, 0x0⟩
  | .VLG_BASE_LO => ⟨0x2E0100, 16, 0x20, 1, 0x0, .now, 0xFFFFF001, 0x0, 0x0, 0x0, 0x0⟩
  | .VLG_BASE_HI => ⟨0x2E0104, 16, 0x20, 1, 0x0, .now, 0xFFFFFFFF, 0x0, 0x0, 0x0, 0x0⟩
  | .VLG_FN_CTL => ⟨0x2E0108, 16, 0x20, 1, 0x0, .now, 0xBF, 0x0, 0x0, 0x0, 0x0⟩
  | .VLG_TOTAL => ⟨0x2E010C, 16, 0x20, 1, 0x0, .none, 0x0, 0x0, 0x0, 0x0, 0x0⟩
  | .VLG_SEQ => ⟨0x2E0110, 16, 0x20, 1, 0x0, .none, 0x0, 0x0, 0x0, 0x0, 0x0⟩
  | .VLG_DROP => ⟨0x2E0114, 16, 0x20, 1, 0x0, .none, 0x0, 0x0, 0x0, 0x0, 0x0⟩

/-- Registers of the map, part 0. -/
def regPart0 : List RegId :=
  [.GLB_ID, .GLB_PART, .GLB_CAP0, .GLB_CAP1, .GLB_UNIT_PRESENT, .GLB_CAP2, .GLB_MODE, .GLB_FB_CTL, .GLB_CLK_STATUS, .GLB_RESET, .GLB_RESET_CAUSE, .GLB_STRAPS, .GLB_TEMP, .GLB_TRUMP_KEY_LO, .GLB_TRUMP_KEY_HI, .GLB_TRUMP_SESSION, .HIF_CTL, .HIF_STATUS, .HIF_FN_CTL, .HIF_FN_TYPES, .HIF_FN_SLOTS, .HIF_FN_LAT, .HIF_FN_TARN, .HIF_FN_DRAM, .HIF_PMAP_RANGE, .HIF_PMAP_MASK, .HIF_RING_SQ_LO, .HIF_RING_SQ_HI, .HIF_RING_CQ_LO, .HIF_RING_CQ_HI, .HIF_RING_DB_LO, .HIF_RING_DB_HI, .HIF_RING_CTL, .HIF_RING_STATUS, .TRK_STATUS, .TRK_MISSED, .TRK_FN_OPEN, .TRK_HD_CTL, .TRK_HD_LAST_ID, .TRK_HD_LAST_INFO]

/-- Registers of the map, part 1. -/
def regPart1 : List RegId :=
  [.TRK_HD_LATE, .MEM_POOL, .MEM_POOL_STATUS, .MEM_STAGE_CLASH, .MEM_ECC, .MEM_FEN_ERR, .MEM_FN_POOL, .MEM_TRUMP_HD, .MEM_AP_CTL, .HEAD_CTL, .HEAD_STAT, .FRAME, .BEAM_COMP, .BEAM_SCAN, .TS_H, .TS_HSYNC, .TS_V, .TS_VSYNC, .TS_CLK, .TS_LINK, .PAL_BASE, .PLANE_STAT, .PL_CTL, .PL_SCROLL_X, .PL_SCROLL_Y, .PL_CSCROLL, .PL_MAP, .PL_MAPDIM, .PL_PAT, .PL_PALX, .PL_SURF_LO, .PL_SURF_HI, .PL_SURF_DIM, .PL_SURF_PITCH, .AFF_A, .AFF_B, .AFF_C, .AFF_D, .AFF_OX_HI, .AFF_OX_LO]

/-- Registers of the map, part 2. -/
def regPart2 : List RegId :=
  [.AFF_OY_HI, .AFF_OY_LO, .OBJ_CTL, .OBJ_DECK, .OBJ_COUNT, .OBJ_OFS, .OBJ_STAT, .OBJ_OVF_TOTAL, .OBJ_OVF_FIRST, .OBJ_OVF_PREV, .OBJ_DEMAND, .MELD_CTL, .MELD_BG, .MELD_CONST, .MELD_KEY0, .MELD_KMASK0, .MELD_KEY1, .MELD_KMASK1, .MELD_FSHED, .MELD_STAT, .MELD_STEP, .WIN_X, .WIN_Y, .TRUMP_CTL, .TRUMP_SRC, .TRUMP_POS, .TRUMP_SIG, .TRUMP_SIG_LAST, .TRUMP_MISMATCH, .TRUMP_FB_BG, .TRUMP_CMD, .TRUMP_STAT, .SINK_CTL, .SINK_RING, .SINK_WB_LO, .SINK_WB_HI, .SINK_WB_CFG, .SINK_WB_HOLD, .SINK_WB_STATUS, .SINK_STAT]

/-- Registers of the map, part 3. -/
def regPart3 : List RegId :=
  [.PACE_CTL, .PACE_STAT, .PACE_LATE, .PACE_SHED_TOTAL, .PACE_LOW_TOTAL, .PACE_UNDER_TOTAL, .PACE_SLIP_TOTAL, .PACE_UNDER_FIRST, .PACE_PREV, .DMG_CTL, .DMG_X, .DMG_Y, .DMG_ADD, .DMG_STAT, .DMG_RECT_X, .DMG_RECT_Y, .DP_CTL, .DP_STAT, .DP_ERR, .DP_AUX_CMD, .DP_AUX_STAT, .DP_AUX_DATA, .DP_AUD, .SEQ_CTL, .SEQ_CMD, .SEQ_STAT, .SEQ_TAG, .SEQ_WIN, .SEQ_IRQ, .SEQ_RAISE, .SEQ_LATE, .SEQ_SKIP, .SEQ_DROP, .SEQ_G, .BLT_STATUS, .BLT_RACE_LATE, .BLT_CTL, .BLT_STAT, .BLT_IRQ, .BLT_WM0]

/-- Registers of the map, part 4. -/
def regPart4 : List RegId :=
  [.BLT_WM1, .BLT_WM2, .SLU_STATUS, .SLU_STAGE, .SLU_FENCED, .SLU_CTL, .SLU_STAT, .SLU_REMAIN, .SLU_FAIL_LO, .SLU_FAIL_HI, .AUD_STAT, .AUD_RAMP_SET, .AUD_RAMP_VAL, .AUD_DOM_CTL, .AUD_DOM_STAT, .AUD_DOM_UNDER, .AUD_DOM_DLY, .AUD_COEF_SET, .AUD_COEF_VAL, .AUD_RAMP, .VOICE_WAVE, .VOICE_PITCH, .VOICE_ENV_AD, .VOICE_ENV_SR, .VOICE_VOL, .VOICE_STAT, .PLAY_CTL, .PLAY_RATE, .PLAY_STAT, .SINK_LIM, .SINK_SIL, .ASINK_STAT, .CAP_CTL, .CAP_BASE_LO, .CAP_BASE_HI, .CAP_REC_LO, .CAP_REC_HI, .BR_CTL, .BR_STAT, .TDM_CTL]

/-- Registers of the map, part 5. -/
def regPart5 : List RegId :=
  [.HS_CTL, .HS_STAT, .HS_IRQ, .CWY_CTL, .CWY_ID, .CWY_STAT, .CWY_WALL_CTL, .CWY_WALL_FRAME, .CWY_BENCH_FRAME, .CWY_TREE, .CWY_MAX_PATH, .CWY_DEFERS, .CWY_LATE, .CWY_REJOIN, .CWY_SETID_PATH, .CWY_SETID, .CWY_WALL_SEQ, .CWY_BENCH_NEXT, .CWY_PORT_CTL, .CWY_PORT_STAT, .CWY_PORT_LAT, .CWY_PORT_ERR, .CWY_VIEW_CTL, .CWY_VIEW_XY, .CWY_VIEW_DECK, .CWY_BENCH_HD, .CWY_BENCH_SIG, .CWY_BENCH_REC0, .CWY_BENCH_REC1, .PWR_CTL, .PWR_IDLE, .PWR_STAT, .PWR_WAKE, .PWR_TOL, .PWR_DOZES, .PWR_SLUMBERS, .PWR_ABORTS, .JOURNAL_STATUS, .JOURNAL_SEQ, .JOURNAL_ABORT_SEQ]

/-- Registers of the map, part 6. -/
def regPart6 : List RegId :=
  [.JOURNAL_FAIL, .JOURNAL_EARLY, .JOURNAL_RANGE_LO, .JOURNAL_RANGE_HI, .TMR_CTL, .TMR_IN, .TMR_COUNT, .TMR_TOP, .TMR_CMP, .TMR_CAP, .TMR_STAT, .TMR_IRQ, .TMR_START, .TMR_STOP, .TMR_RESET, .GPIO_PIN, .GPIO_IN, .GPIO_OUT, .GPIO_OUT_SET, .GPIO_OUT_CLR, .GPIO_STAT, .GPIO_PM_STAT, .GPIO_IRQ, .GPIO_PM_MASK, .GPIO_PM_VALUE, .GPIO_PM_CTL, .PMC_START, .PMC_STOP, .PMC_OVF, .PMC_USER_EN, .PMC_IRQ, .PMC_CFG, .PMC_FILT, .PMC_ALO, .PMC_AHI, .PMC_LO, .PMC_HI, .DBG_FRZ_CTL, .DBG_FRZ_STAT, .DBG_FRZ_ENTRY]

/-- Registers of the map, part 7. -/
def regPart7 : List RegId :=
  [.DBG_FRZ_DROPS, .DBG_FRZ_DROP_FIRST, .DBG_RD_ADDR, .DBG_RD_DATA, .DBG_FLT_NEXT, .DBG_FLT_LOST, .DBG_FLT_PRIOR, .DBG_FLT_PEND, .DBG_FLT_MASK, .DBG_FLT_IRQ, .VLG_QUARANTINE_COUNT, .VLG_BASE_LO, .VLG_BASE_HI, .VLG_FN_CTL, .VLG_TOTAL, .VLG_SEQ, .VLG_DROP]

/-- Every register of the map. -/
def allRegs : List RegId :=
  List.flatten [regPart0, regPart1, regPart2, regPart3, regPart4, regPart5, regPart6, regPart7]


namespace F
abbrev GLB_ID_VENDOR : Fld := ⟨.GLB_ID, 0, 0, 31, 16⟩
abbrev GLB_ID_DEVICE : Fld := ⟨.GLB_ID, 0, 0, 15, 0⟩
abbrev GLB_PART_MAJOR : Fld := ⟨.GLB_PART, 0, 0, 23, 20⟩
abbrev GLB_PART_MINOR : Fld := ⟨.GLB_PART, 0, 0, 19, 16⟩
abbrev GLB_PART_PART : Fld := ⟨.GLB_PART, 0, 0, 15, 0⟩
abbrev GLB_CAP0_SEQ : Fld := ⟨.GLB_CAP0, 0, 0, 31, 24⟩
abbrev GLB_CAP0_PLANES : Fld := ⟨.GLB_CAP0, 0, 0, 23, 16⟩
abbrev GLB_CAP0_SLU_CH : Fld := ⟨.GLB_CAP0, 0, 0, 15, 8⟩
abbrev GLB_CAP0_BLT_CTX : Fld := ⟨.GLB_CAP0, 0, 0, 7, 0⟩
abbrev GLB_CAP1_SLOTS : Fld := ⟨.GLB_CAP1, 0, 0, 28, 16⟩
abbrev GLB_CAP1_OPEN : Fld := ⟨.GLB_CAP1, 0, 0, 14, 8⟩
abbrev GLB_CAP1_STAGED : Fld := ⟨.GLB_CAP1, 0, 0, 4, 0⟩
abbrev GLB_UNIT_PRESENT_DRAM_GIB : Fld := ⟨.GLB_UNIT_PRESENT, 0, 0, 23, 20⟩
abbrev GLB_UNIT_PRESENT_VF_MAX : Fld := ⟨.GLB_UNIT_PRESENT, 0, 0, 19, 16⟩
abbrev GLB_UNIT_PRESENT_HEADSET : Fld := ⟨.GLB_UNIT_PRESENT, 0, 0, 14, 14⟩
abbrev GLB_UNIT_PRESENT_BLT : Fld := ⟨.GLB_UNIT_PRESENT, 0, 0, 13, 13⟩
abbrev GLB_UNIT_PRESENT_CWY_UP : Fld := ⟨.GLB_UNIT_PRESENT, 0, 0, 12, 12⟩
abbrev GLB_UNIT_PRESENT_CWY_DN : Fld := ⟨.GLB_UNIT_PRESENT, 0, 0, 11, 8⟩
abbrev GLB_UNIT_PRESENT_HEAD : Fld := ⟨.GLB_UNIT_PRESENT, 0, 0, 5, 0⟩
abbrev GLB_CAP2_VOICES : Fld := ⟨.GLB_CAP2, 0, 0, 31, 24⟩
abbrev GLB_CAP2_PLAYERS : Fld := ⟨.GLB_CAP2, 0, 0, 23, 16⟩
abbrev GLB_CAP2_BRIDGES : Fld := ⟨.GLB_CAP2, 0, 0, 15, 8⟩
abbrev GLB_CAP2_CAP_RINGS : Fld := ⟨.GLB_CAP2, 0, 0, 7, 0⟩
abbrev GLB_MODE_HEAD_FB : Fld := ⟨.GLB_MODE, 0, 0, 27, 22⟩
abbrev GLB_MODE_HEAD_COAST : Fld := ⟨.GLB_MODE, 0, 0, 21, 16⟩
abbrev GLB_MODE_LAST_CAUSE : Fld := ⟨.GLB_MODE, 0, 0, 11, 8⟩
abbrev GLB_MODE_PREV : Fld := ⟨.GLB_MODE, 0, 0, 6, 4⟩
abbrev GLB_MODE_MODE : Fld := ⟨.GLB_MODE, 0, 0, 2, 0⟩
abbrev GLB_FB_CTL_HOSTLOSS_S : Fld := ⟨.GLB_FB_CTL, 0, 0, 7, 0⟩
abbrev GLB_CLK_STATUS_REF_LOST : Fld := ⟨.GLB_CLK_STATUS, 0, 0, 12, 12⟩
abbrev GLB_CLK_STATUS_HOLDOVER : Fld := ⟨.GLB_CLK_STATUS, 0, 0, 11, 11⟩
abbrev GLB_CLK_STATUS_ROOT_SRC : Fld := ⟨.GLB_CLK_STATUS, 0, 0, 10, 9⟩
abbrev GLB_CLK_STATUS_REF_STRAP : Fld := ⟨.GLB_CLK_STATUS, 0, 0, 8, 8⟩
abbrev GLB_CLK_STATUS_AON_OK : Fld := ⟨.GLB_CLK_STATUS, 0, 0, 3, 3⟩
abbrev GLB_CLK_STATUS_ACLK44_LOCK : Fld := ⟨.GLB_CLK_STATUS, 0, 0, 2, 2⟩
abbrev GLB_CLK_STATUS_ACLK48_LOCK : Fld := ⟨.GLB_CLK_STATUS, 0, 0, 1, 1⟩
abbrev GLB_CLK_STATUS_ROOT_LOCK : Fld := ⟨.GLB_CLK_STATUS, 0, 0, 0, 0⟩
abbrev GLB_RESET_KEY : Fld := ⟨.GLB_RESET, 0, 0, 31, 16⟩
abbrev GLB_RESET_WARM : Fld := ⟨.GLB_RESET, 0, 0, 0, 0⟩
abbrev GLB_RESET_CAUSE_HIF : Fld := ⟨.GLB_RESET_CAUSE, 0, 0, 4, 4⟩
abbrev GLB_RESET_CAUSE_WDOG : Fld := ⟨.GLB_RESET_CAUSE, 0, 0, 3, 3⟩
abbrev GLB_RESET_CAUSE_SOFT : Fld := ⟨.GLB_RESET_CAUSE, 0, 0, 2, 2⟩
abbrev GLB_RESET_CAUSE_PIN : Fld := ⟨.GLB_RESET_CAUSE, 0, 0, 1, 1⟩
abbrev GLB_RESET_CAUSE_COLD : Fld := ⟨.GLB_RESET_CAUSE, 0, 0, 0, 0⟩
abbrev GLB_STRAPS_JRNL_SKIP : Fld := ⟨.GLB_STRAPS, 0, 0, 4, 4⟩
abbrev GLB_STRAPS_SMB_ADDR : Fld := ⟨.GLB_STRAPS, 0, 0, 3, 2⟩
abbrev GLB_STRAPS_DEALER : Fld := ⟨.GLB_STRAPS, 0, 0, 1, 1⟩
abbrev GLB_STRAPS_REFSEL : Fld := ⟨.GLB_STRAPS, 0, 0, 0, 0⟩
abbrev GLB_TEMP_OVER : Fld := ⟨.GLB_TEMP, 0, 0, 31, 31⟩
abbrev GLB_TEMP_UNDER : Fld := ⟨.GLB_TEMP, 0, 0, 30, 30⟩
abbrev GLB_TEMP_TEMP_MAX : Fld := ⟨.GLB_TEMP, 0, 0, 21, 11⟩
abbrev GLB_TEMP_TEMP_NOW : Fld := ⟨.GLB_TEMP, 0, 0, 10, 0⟩
abbrev GLB_TRUMP_KEY_LO_KEY : Fld := ⟨.GLB_TRUMP_KEY_LO, 0, 0, 31, 0⟩
abbrev GLB_TRUMP_KEY_HI_KEY : Fld := ⟨.GLB_TRUMP_KEY_HI, 0, 0, 31, 0⟩
abbrev GLB_TRUMP_SESSION_OPEN : Fld := ⟨.GLB_TRUMP_SESSION, 0, 0, 31, 31⟩
abbrev GLB_TRUMP_SESSION_LOCKOUT : Fld := ⟨.GLB_TRUMP_SESSION, 0, 0, 30, 30⟩
abbrev GLB_TRUMP_SESSION_CLOSE : Fld := ⟨.GLB_TRUMP_SESSION, 0, 0, 29, 29⟩
abbrev GLB_TRUMP_SESSION_REKEY : Fld := ⟨.GLB_TRUMP_SESSION, 0, 0, 28, 28⟩
abbrev GLB_TRUMP_SESSION_BAD : Fld := ⟨.GLB_TRUMP_SESSION, 0, 0, 27, 26⟩
abbrev GLB_TRUMP_SESSION_UNPROV : Fld := ⟨.GLB_TRUMP_SESSION, 0, 0, 25, 25⟩
abbrev GLB_TRUMP_SESSION_TIMEOUT : Fld := ⟨.GLB_TRUMP_SESSION, 0, 0, 7, 0⟩
abbrev HIF_CTL_POLL_US : Fld := ⟨.HIF_CTL, 0, 0, 25, 16⟩
abbrev HIF_CTL_RO_EN : Fld := ⟨.HIF_CTL, 0, 0, 0, 0⟩
abbrev HIF_STATUS_QUOTA_ERR : Fld := ⟨.HIF_STATUS, 0, 0, 13, 13⟩
abbrev HIF_STATUS_SLOTS_USED : Fld := ⟨.HIF_STATUS, 0, 0, 12, 0⟩
abbrev HIF_FN_CTL_EN (i : Nat) : Fld := ⟨.HIF_FN_CTL, i, 0, 31, 31⟩
abbrev HIF_FN_CTL_FENCED (i : Nat) : Fld := ⟨.HIF_FN_CTL, i, 0, 30, 30⟩
abbrev HIF_FN_CTL_LEASE (i : Nat) : Fld := ⟨.HIF_FN_CTL, i, 0, 23, 16⟩
abbrev HIF_FN_CTL_HEADS (i : Nat) : Fld := ⟨.HIF_FN_CTL, i, 0, 13, 8⟩
abbrev HIF_FN_CTL_VEC_COUNT (i : Nat) : Fld := ⟨.HIF_FN_CTL, i, 0, 6, 0⟩
abbrev HIF_FN_TYPES_TYPES (i : Nat) : Fld := ⟨.HIF_FN_TYPES, i, 0, 16, 1⟩
abbrev HIF_FN_TYPES_NOP (i : Nat) : Fld := ⟨.HIF_FN_TYPES, i, 0, 0, 0⟩
abbrev HIF_FN_SLOTS_IN_USE (i : Nat) : Fld := ⟨.HIF_FN_SLOTS, i, 0, 28, 16⟩
abbrev HIF_FN_SLOTS_QUOTA (i : Nat) : Fld := ⟨.HIF_FN_SLOTS, i, 0, 12, 0⟩
abbrev HIF_FN_LAT_TOL_US (i : Nat) : Fld := ⟨.HIF_FN_LAT, i, 0, 31, 0⟩
abbrev HIF_FN_TARN_BASE (i : Nat) : Fld := ⟨.HIF_FN_TARN, i, 0, 25, 16⟩
abbrev HIF_FN_TARN_SIZE (i : Nat) : Fld := ⟨.HIF_FN_TARN, i, 0, 10, 0⟩
abbrev HIF_FN_DRAM_BASE (i : Nat) : Fld := ⟨.HIF_FN_DRAM, i, 0, 28, 16⟩
abbrev HIF_FN_DRAM_SIZE (i : Nat) : Fld := ⟨.HIF_FN_DRAM, i, 0, 13, 0⟩
abbrev HIF_PMAP_RANGE_COUNT (i j : Nat) : Fld := ⟨.HIF_PMAP_RANGE, i, j, 31, 24⟩
abbrev HIF_PMAP_RANGE_OFFSET (i j : Nat) : Fld := ⟨.HIF_PMAP_RANGE, i, j, 23, 2⟩
abbrev HIF_PMAP_RANGE_VALID (i j : Nat) : Fld := ⟨.HIF_PMAP_RANGE, i, j, 0, 0⟩
abbrev HIF_PMAP_MASK_MASK (i j : Nat) : Fld := ⟨.HIF_PMAP_MASK, i, j, 31, 0⟩
abbrev HIF_RING_SQ_LO_ADDR (i j : Nat) : Fld := ⟨.HIF_RING_SQ_LO, i, j, 31, 12⟩
abbrev HIF_RING_SQ_HI_ADDR (i j : Nat) : Fld := ⟨.HIF_RING_SQ_HI, i, j, 31, 0⟩
abbrev HIF_RING_CQ_LO_ADDR (i j : Nat) : Fld := ⟨.HIF_RING_CQ_LO, i, j, 31, 12⟩
abbrev HIF_RING_CQ_HI_ADDR (i j : Nat) : Fld := ⟨.HIF_RING_CQ_HI, i, j, 31, 0⟩
abbrev HIF_RING_DB_LO_ADDR (i j : Nat) : Fld := ⟨.HIF_RING_DB_LO, i, j, 31, 4⟩
abbrev HIF_RING_DB_HI_ADDR (i j : Nat) : Fld := ⟨.HIF_RING_DB_HI, i, j, 31, 0⟩
abbrev HIF_RING_CTL_EN (i j : Nat) : Fld := ⟨.HIF_RING_CTL, i, j, 31, 31⟩
abbrev HIF_RING_CTL_LOG2N (i j : Nat) : Fld := ⟨.HIF_RING_CTL, i, j, 28, 24⟩
abbrev HIF_RING_CTL_PRIO (i j : Nat) : Fld := ⟨.HIF_RING_CTL, i, j, 23, 22⟩
abbrev HIF_RING_CTL_VECTOR (i j : Nat) : Fld := ⟨.HIF_RING_CTL, i, j, 21, 16⟩
abbrev HIF_RING_CTL_HOLDOFF_US (i j : Nat) : Fld := ⟨.HIF_RING_CTL, i, j, 15, 8⟩
abbrev HIF_RING_STATUS_ACTIVE (i j : Nat) : Fld := ⟨.HIF_RING_STATUS, i, j, 31, 31⟩
abbrev HIF_RING_STATUS_QUAR (i j : Nat) : Fld := ⟨.HIF_RING_STATUS, i, j, 30, 30⟩
abbrev HIF_RING_STATUS_CFG_ERR (i j : Nat) : Fld := ⟨.HIF_RING_STATUS, i, j, 29, 29⟩
abbrev HIF_RING_STATUS_VCOUNT (i j : Nat) : Fld := ⟨.HIF_RING_STATUS, i, j, 23, 16⟩
abbrev HIF_RING_STATUS_CONS (i j : Nat) : Fld := ⟨.HIF_RING_STATUS, i, j, 15, 0⟩
abbrev TRK_STATUS_LIMIT_ERR : Fld := ⟨.TRK_STATUS, 0, 0, 31, 31⟩
abbrev TRK_STATUS_STAGED : Fld := ⟨.TRK_STATUS, 0, 0, 20, 16⟩
abbrev TRK_STATUS_OPEN : Fld := ⟨.TRK_STATUS, 0, 0, 6, 0⟩
abbrev TRK_MISSED_COUNT : Fld := ⟨.TRK_MISSED, 0, 0, 31, 0⟩
abbrev TRK_FN_OPEN_IN_USE (i : Nat) : Fld := ⟨.TRK_FN_OPEN, i, 0, 22, 16⟩
abbrev TRK_FN_OPEN_LIMIT (i : Nat) : Fld := ⟨.TRK_FN_OPEN, i, 0, 6, 0⟩
abbrev TRK_HD_CTL_CUTOFF_LINES (i : Nat) : Fld := ⟨.TRK_HD_CTL, i, 0, 5, 0⟩
abbrev TRK_HD_LAST_ID_ID (i : Nat) : Fld := ⟨.TRK_HD_LAST_ID, i, 0, 31, 0⟩
abbrev TRK_HD_LAST_INFO_RESTORED (i : Nat) : Fld := ⟨.TRK_HD_LAST_INFO, i, 0, 31, 31⟩
abbrev TRK_HD_LAST_INFO_IMPLICIT (i : Nat) : Fld := ⟨.TRK_HD_LAST_INFO, i, 0, 30, 30⟩
abbrev TRK_HD_LAST_INFO_FN (i : Nat) : Fld := ⟨.TRK_HD_LAST_INFO, i, 0, 27, 24⟩
abbrev TRK_HD_LAST_INFO_FRAME (i : Nat) : Fld := ⟨.TRK_HD_LAST_INFO, i, 0, 23, 0⟩
abbrev TRK_HD_LATE_COUNT (i : Nat) : Fld := ⟨.TRK_HD_LATE, i, 0, 31, 0⟩
abbrev MEM_POOL_UNITS : Fld := ⟨.MEM_POOL, 0, 0, 9, 0⟩
abbrev MEM_POOL_STATUS_CFG_ERR : Fld := ⟨.MEM_POOL_STATUS, 0, 0, 31, 31⟩
abbrev MEM_POOL_STATUS_TRUMP_ERR : Fld := ⟨.MEM_POOL_STATUS, 0, 0, 30, 30⟩
abbrev MEM_POOL_STATUS_FREE : Fld := ⟨.MEM_POOL_STATUS, 0, 0, 13, 0⟩
abbrev MEM_STAGE_CLASH_COUNT : Fld := ⟨.MEM_STAGE_CLASH, 0, 0, 31, 0⟩
abbrev MEM_ECC_UNCORR : Fld := ⟨.MEM_ECC, 0, 0, 31, 16⟩
abbrev MEM_ECC_CORR : Fld := ⟨.MEM_ECC, 0, 0, 15, 0⟩
abbrev MEM_FEN_ERR_COUNT : Fld := ⟨.MEM_FEN_ERR, 0, 0, 31, 0⟩
abbrev MEM_FN_POOL_IN_USE (i : Nat) : Fld := ⟨.MEM_FN_POOL, i, 0, 29, 16⟩
abbrev MEM_FN_POOL_LIMIT (i : Nat) : Fld := ⟨.MEM_FN_POOL, i, 0, 13, 0⟩
abbrev MEM_TRUMP_HD_BASE (i : Nat) : Fld := ⟨.MEM_TRUMP_HD, i, 0, 25, 16⟩
abbrev MEM_TRUMP_HD_SIZE (i : Nat) : Fld := ⟨.MEM_TRUMP_HD, i, 0, 7, 0⟩
abbrev MEM_AP_CTL_TARGET (i : Nat) : Fld := ⟨.MEM_AP_CTL, i, 0, 31, 31⟩
abbrev MEM_AP_CTL_BASE (i : Nat) : Fld := ⟨.MEM_AP_CTL, i, 0, 16, 0⟩
abbrev HEAD_CTL_EN (i : Nat) : Fld := ⟨.HEAD_CTL, i, 0, 31, 31⟩
abbrev HEAD_STAT_STATE (i : Nat) : Fld := ⟨.HEAD_STAT, i, 0, 31, 29⟩
abbrev HEAD_STAT_TS_PENDING (i : Nat) : Fld := ⟨.HEAD_STAT, i, 0, 28, 28⟩
abbrev HEAD_STAT_LOCK_LOST (i : Nat) : Fld := ⟨.HEAD_STAT, i, 0, 27, 27⟩
abbrev HEAD_STAT_TS_ERR (i : Nat) : Fld := ⟨.HEAD_STAT, i, 0, 26, 26⟩
abbrev HEAD_STAT_TS_REASON (i : Nat) : Fld := ⟨.HEAD_STAT, i, 0, 19, 16⟩
abbrev FRAME_COUNT (i : Nat) : Fld := ⟨.FRAME, i, 0, 31, 0⟩
abbrev BEAM_COMP_SCAN_FRAME (i : Nat) : Fld := ⟨.BEAM_COMP, i, 0, 31, 16⟩
abbrev BEAM_COMP_LINE (i : Nat) : Fld := ⟨.BEAM_COMP, i, 0, 13, 0⟩
abbrev BEAM_SCAN_LINE (i : Nat) : Fld := ⟨.BEAM_SCAN, i, 0, 29, 16⟩
abbrev BEAM_SCAN_PIXEL (i : Nat) : Fld := ⟨.BEAM_SCAN, i, 0, 13, 0⟩
abbrev TS_H_TOTAL (i : Nat) : Fld := ⟨.TS_H, i, 0, 29, 16⟩
abbrev TS_H_ACTIVE (i : Nat) : Fld := ⟨.TS_H, i, 0, 13, 0⟩
abbrev TS_HSYNC_POL (i : Nat) : Fld := ⟨.TS_HSYNC, i, 0, 31, 31⟩
abbrev TS_HSYNC_WIDTH (i : Nat) : Fld := ⟨.TS_HSYNC, i, 0, 25, 16⟩
abbrev TS_HSYNC_START (i : Nat) : Fld := ⟨.TS_HSYNC, i, 0, 13, 0⟩
abbrev TS_V_TOTAL (i : Nat) : Fld := ⟨.TS_V, i, 0, 29, 16⟩
abbrev TS_V_ACTIVE (i : Nat) : Fld := ⟨.TS_V, i, 0, 13, 0⟩
abbrev TS_VSYNC_POL (i : Nat) : Fld := ⟨.TS_VSYNC, i, 0, 31, 31⟩
abbrev TS_VSYNC_WIDTH (i : Nat) : Fld := ⟨.TS_VSYNC, i, 0, 25, 16⟩
abbrev TS_VSYNC_START (i : Nat) : Fld := ⟨.TS_VSYNC, i, 0, 13, 0⟩
abbrev TS_CLK_D (i : Nat) : Fld := ⟨.TS_CLK, i, 0, 31, 24⟩
abbrev TS_CLK_F (i : Nat) : Fld := ⟨.TS_CLK, i, 0, 23, 0⟩
abbrev TS_LINK_LOCK (i : Nat) : Fld := ⟨.TS_LINK, i, 0, 18, 16⟩
abbrev TS_LINK_MODE (i : Nat) : Fld := ⟨.TS_LINK, i, 0, 8, 8⟩
abbrev TS_LINK_LANES (i : Nat) : Fld := ⟨.TS_LINK, i, 0, 5, 4⟩
abbrev TS_LINK_RATE (i : Nat) : Fld := ⟨.TS_LINK, i, 0, 3, 0⟩
abbrev PAL_BASE_BASE (i : Nat) : Fld := ⟨.PAL_BASE, i, 0, 19, 0⟩
abbrev PLANE_STAT_FETCH (i : Nat) : Fld := ⟨.PLANE_STAT, i, 0, 31, 16⟩
abbrev PLANE_STAT_CFG (i : Nat) : Fld := ⟨.PLANE_STAT, i, 0, 15, 0⟩
abbrev PL_CTL_EN (i j : Nat) : Fld := ⟨.PL_CTL, i, j, 31, 31⟩
abbrev PL_CTL_AFFINE (i j : Nat) : Fld := ⟨.PL_CTL, i, j, 16, 16⟩
abbrev PL_CTL_EDGE (i j : Nat) : Fld := ⟨.PL_CTL, i, j, 13, 12⟩
abbrev PL_CTL_KEY_EN (i j : Nat) : Fld := ⟨.PL_CTL, i, j, 11, 11⟩
abbrev PL_CTL_TILE (i j : Nat) : Fld := ⟨.PL_CTL, i, j, 9, 8⟩
abbrev PL_CTL_FMT (i j : Nat) : Fld := ⟨.PL_CTL, i, j, 6, 4⟩
abbrev PL_CTL_MODE (i j : Nat) : Fld := ⟨.PL_CTL, i, j, 0, 0⟩
abbrev PL_SCROLL_X_X (i j : Nat) : Fld := ⟨.PL_SCROLL_X, i, j, 15, 0⟩
abbrev PL_SCROLL_Y_Y (i j : Nat) : Fld := ⟨.PL_SCROLL_Y, i, j, 15, 0⟩
abbrev PL_CSCROLL_EN (i j : Nat) : Fld := ⟨.PL_CSCROLL, i, j, 23, 23⟩
abbrev PL_CSCROLL_BASE (i j : Nat) : Fld := ⟨.PL_CSCROLL, i, j, 19, 0⟩
abbrev PL_MAP_BASE (i j : Nat) : Fld := ⟨.PL_MAP, i, j, 19, 0⟩
abbrev PL_MAPDIM_H_LOG2 (i j : Nat) : Fld := ⟨.PL_MAPDIM, i, j, 7, 4⟩
abbrev PL_MAPDIM_W_LOG2 (i j : Nat) : Fld := ⟨.PL_MAPDIM, i, j, 3, 0⟩
abbrev PL_PAT_BASE (i j : Nat) : Fld := ⟨.PL_PAT, i, j, 19, 0⟩
abbrev PL_PALX_PRIO (i j : Nat) : Fld := ⟨.PL_PALX, i, j, 23, 22⟩
abbrev PL_PALX_ALPHA (i j : Nat) : Fld := ⟨.PL_PALX, i, j, 21, 16⟩
abbrev PL_PALX_BANK (i j : Nat) : Fld := ⟨.PL_PALX, i, j, 11, 8⟩
abbrev PL_PALX_IDX_OFS (i j : Nat) : Fld := ⟨.PL_PALX, i, j, 7, 0⟩
abbrev PL_SURF_LO_ADDR (i j : Nat) : Fld := ⟨.PL_SURF_LO, i, j, 31, 0⟩
abbrev PL_SURF_HI_ADDR (i j : Nat) : Fld := ⟨.PL_SURF_HI, i, j, 7, 0⟩
abbrev PL_SURF_DIM_HEIGHT (i j : Nat) : Fld := ⟨.PL_SURF_DIM, i, j, 29, 16⟩
abbrev PL_SURF_DIM_WIDTH (i j : Nat) : Fld := ⟨.PL_SURF_DIM, i, j, 13, 0⟩
abbrev PL_SURF_PITCH_PITCH (i j : Nat) : Fld := ⟨.PL_SURF_PITCH, i, j, 10, 0⟩
abbrev AFF_A_V (i j : Nat) : Fld := ⟨.AFF_A, i, j, 23, 0⟩
abbrev AFF_B_V (i j : Nat) : Fld := ⟨.AFF_B, i, j, 23, 0⟩
abbrev AFF_C_V (i j : Nat) : Fld := ⟨.AFF_C, i, j, 23, 0⟩
abbrev AFF_D_V (i j : Nat) : Fld := ⟨.AFF_D, i, j, 23, 0⟩
abbrev AFF_OX_HI_V (i j : Nat) : Fld := ⟨.AFF_OX_HI, i, j, 23, 0⟩
abbrev AFF_OX_LO_V (i j : Nat) : Fld := ⟨.AFF_OX_LO, i, j, 7, 0⟩
abbrev AFF_OY_HI_V (i j : Nat) : Fld := ⟨.AFF_OY_HI, i, j, 23, 0⟩
abbrev AFF_OY_LO_V (i j : Nat) : Fld := ⟨.AFF_OY_LO, i, j, 7, 0⟩
abbrev OBJ_CTL_EN (i : Nat) : Fld := ⟨.OBJ_CTL, i, 0, 31, 31⟩
abbrev OBJ_DECK_BASE (i : Nat) : Fld := ⟨.OBJ_DECK, i, 0, 19, 0⟩
abbrev OBJ_COUNT_COUNT (i : Nat) : Fld := ⟨.OBJ_COUNT, i, 0, 16, 0⟩
abbrev OBJ_OFS_OFS_Y (i : Nat) : Fld := ⟨.OBJ_OFS, i, 0, 29, 16⟩
abbrev OBJ_OFS_OFS_X (i : Nat) : Fld := ⟨.OBJ_OFS, i, 0, 13, 0⟩
abbrev OBJ_STAT_OVF (i : Nat) : Fld := ⟨.OBJ_STAT, i, 0, 2, 2⟩
abbrev OBJ_STAT_FETCH (i : Nat) : Fld := ⟨.OBJ_STAT, i, 0, 1, 1⟩
abbrev OBJ_STAT_CFG (i : Nat) : Fld := ⟨.OBJ_STAT, i, 0, 0, 0⟩
abbrev OBJ_OVF_TOTAL_COUNT (i : Nat) : Fld := ⟨.OBJ_OVF_TOTAL, i, 0, 31, 0⟩
abbrev OBJ_OVF_FIRST_FRAME (i : Nat) : Fld := ⟨.OBJ_OVF_FIRST, i, 0, 31, 16⟩
abbrev OBJ_OVF_FIRST_LINE (i : Nat) : Fld := ⟨.OBJ_OVF_FIRST, i, 0, 15, 0⟩
abbrev OBJ_OVF_PREV_LINES (i : Nat) : Fld := ⟨.OBJ_OVF_PREV, i, 0, 31, 16⟩
abbrev OBJ_OVF_PREV_FIRST (i : Nat) : Fld := ⟨.OBJ_OVF_PREV, i, 0, 15, 0⟩
abbrev OBJ_DEMAND_MAX (i : Nat) : Fld := ⟨.OBJ_DEMAND, i, 0, 16, 0⟩
abbrev MELD_CTL_LIST_EN (i : Nat) : Fld := ⟨.MELD_CTL, i, 0, 31, 31⟩
abbrev MELD_CTL_STEPS (i : Nat) : Fld := ⟨.MELD_CTL, i, 0, 4, 0⟩
abbrev MELD_BG_COLOUR (i : Nat) : Fld := ⟨.MELD_BG, i, 0, 23, 0⟩
abbrev MELD_CONST_COLOUR (i : Nat) : Fld := ⟨.MELD_CONST, i, 0, 23, 0⟩
abbrev MELD_KEY0_COLOUR (i : Nat) : Fld := ⟨.MELD_KEY0, i, 0, 23, 0⟩
abbrev MELD_KMASK0_COLOUR (i : Nat) : Fld := ⟨.MELD_KMASK0, i, 0, 23, 0⟩
abbrev MELD_KEY1_COLOUR (i : Nat) : Fld := ⟨.MELD_KEY1, i, 0, 23, 0⟩
abbrev MELD_KMASK1_COLOUR (i : Nat) : Fld := ⟨.MELD_KMASK1, i, 0, 23, 0⟩
abbrev MELD_FSHED_GROUPS (i : Nat) : Fld := ⟨.MELD_FSHED, i, 0, 23, 16⟩
abbrev MELD_FSHED_PLANES (i : Nat) : Fld := ⟨.MELD_FSHED, i, 0, 15, 0⟩
abbrev MELD_STAT_CFG (i : Nat) : Fld := ⟨.MELD_STAT, i, 0, 0, 0⟩
abbrev MELD_STEP_KSEL (i j : Nat) : Fld := ⟨.MELD_STEP, i, j, 28, 28⟩
abbrev MELD_STEP_ALPHA (i j : Nat) : Fld := ⟨.MELD_STEP, i, j, 27, 22⟩
abbrev MELD_STEP_SHED (i j : Nat) : Fld := ⟨.MELD_STEP, i, j, 21, 21⟩
abbrev MELD_STEP_WSENSE (i j : Nat) : Fld := ⟨.MELD_STEP, i, j, 20, 20⟩
abbrev MELD_STEP_WMASK (i j : Nat) : Fld := ⟨.MELD_STEP, i, j, 19, 12⟩
abbrev MELD_STEP_PRIO_MASK (i j : Nat) : Fld := ⟨.MELD_STEP, i, j, 11, 8⟩
abbrev MELD_STEP_OP (i j : Nat) : Fld := ⟨.MELD_STEP, i, j, 7, 5⟩
abbrev MELD_STEP_SRC (i j : Nat) : Fld := ⟨.MELD_STEP, i, j, 4, 0⟩
abbrev WIN_X_RIGHT (i j : Nat) : Fld := ⟨.WIN_X, i, j, 29, 16⟩
abbrev WIN_X_LEFT (i j : Nat) : Fld := ⟨.WIN_X, i, j, 13, 0⟩
abbrev WIN_Y_BOTTOM (i j : Nat) : Fld := ⟨.WIN_Y, i, j, 29, 16⟩
abbrev WIN_Y_TOP (i j : Nat) : Fld := ⟨.WIN_Y, i, j, 13, 0⟩
abbrev TRUMP_CTL_EN (i : Nat) : Fld := ⟨.TRUMP_CTL, i, 0, 31, 31⟩
abbrev TRUMP_CTL_FB_EN (i : Nat) : Fld := ⟨.TRUMP_CTL, i, 0, 30, 30⟩
abbrev TRUMP_CTL_SMB_EXCL (i : Nat) : Fld := ⟨.TRUMP_CTL, i, 0, 29, 29⟩
abbrev TRUMP_CTL_SCALE (i : Nat) : Fld := ⟨.TRUMP_CTL, i, 0, 25, 24⟩
abbrev TRUMP_CTL_FLOOR (i : Nat) : Fld := ⟨.TRUMP_CTL, i, 0, 21, 16⟩
abbrev TRUMP_SRC_HEIGHT (i : Nat) : Fld := ⟨.TRUMP_SRC, i, 0, 26, 16⟩
abbrev TRUMP_SRC_WIDTH (i : Nat) : Fld := ⟨.TRUMP_SRC, i, 0, 10, 0⟩
abbrev TRUMP_POS_Y (i : Nat) : Fld := ⟨.TRUMP_POS, i, 0, 29, 16⟩
abbrev TRUMP_POS_X (i : Nat) : Fld := ⟨.TRUMP_POS, i, 0, 13, 0⟩
abbrev TRUMP_SIG_SIG (i : Nat) : Fld := ⟨.TRUMP_SIG, i, 0, 31, 0⟩
abbrev TRUMP_SIG_LAST_SIG (i : Nat) : Fld := ⟨.TRUMP_SIG_LAST, i, 0, 31, 0⟩
abbrev TRUMP_MISMATCH_COUNT (i : Nat) : Fld := ⟨.TRUMP_MISMATCH, i, 0, 31, 0⟩
abbrev TRUMP_FB_BG_COLOUR (i : Nat) : Fld := ⟨.TRUMP_FB_BG, i, 0, 23, 0⟩
abbrev TRUMP_CMD_RELEASE (i : Nat) : Fld := ⟨.TRUMP_CMD, i, 0, 1, 1⟩
abbrev TRUMP_CMD_ACK (i : Nat) : Fld := ⟨.TRUMP_CMD, i, 0, 0, 0⟩
abbrev TRUMP_STAT_FAIL (i : Nat) : Fld := ⟨.TRUMP_STAT, i, 0, 31, 31⟩
abbrev TRUMP_STAT_FB (i : Nat) : Fld := ⟨.TRUMP_STAT, i, 0, 30, 30⟩
abbrev TRUMP_STAT_CFG (i : Nat) : Fld := ⟨.TRUMP_STAT, i, 0, 29, 29⟩
abbrev TRUMP_STAT_SMB_HELD (i : Nat) : Fld := ⟨.TRUMP_STAT, i, 0, 28, 28⟩
abbrev TRUMP_STAT_MISS_RUN (i : Nat) : Fld := ⟨.TRUMP_STAT, i, 0, 27, 26⟩
abbrev TRUMP_STAT_MATCH_RUN (i : Nat) : Fld := ⟨.TRUMP_STAT, i, 0, 25, 24⟩
abbrev TRUMP_STAT_FAIL_FRAME (i : Nat) : Fld := ⟨.TRUMP_STAT, i, 0, 23, 0⟩
abbrev SINK_CTL_WB_EN (i : Nat) : Fld := ⟨.SINK_CTL, i, 0, 8, 8⟩
abbrev SINK_CTL_PATH (i : Nat) : Fld := ⟨.SINK_CTL, i, 0, 1, 0⟩
abbrev SINK_RING_LINES (i : Nat) : Fld := ⟨.SINK_RING, i, 0, 26, 20⟩
abbrev SINK_RING_BASE (i : Nat) : Fld := ⟨.SINK_RING, i, 0, 19, 0⟩
abbrev SINK_WB_LO_ADDR (i : Nat) : Fld := ⟨.SINK_WB_LO, i, 0, 31, 0⟩
abbrev SINK_WB_HI_ADDR (i : Nat) : Fld := ⟨.SINK_WB_HI, i, 0, 7, 0⟩
abbrev SINK_WB_CFG_COUNT (i : Nat) : Fld := ⟨.SINK_WB_CFG, i, 0, 17, 16⟩
abbrev SINK_WB_CFG_STRIDE (i : Nat) : Fld := ⟨.SINK_WB_CFG, i, 0, 11, 0⟩
abbrev SINK_WB_HOLD_HOLD_LAST (i : Nat) : Fld := ⟨.SINK_WB_HOLD, i, 0, 8, 8⟩
abbrev SINK_WB_HOLD_HOLD (i : Nat) : Fld := ⟨.SINK_WB_HOLD, i, 0, 3, 0⟩
abbrev SINK_WB_STATUS_VALID (i : Nat) : Fld := ⟨.SINK_WB_STATUS, i, 0, 31, 31⟩
abbrev SINK_WB_STATUS_LAST (i : Nat) : Fld := ⟨.SINK_WB_STATUS, i, 0, 25, 24⟩
abbrev SINK_WB_STATUS_FRAME (i : Nat) : Fld := ⟨.SINK_WB_STATUS, i, 0, 23, 0⟩
abbrev SINK_STAT_WB_SKIP (i : Nat) : Fld := ⟨.SINK_STAT, i, 0, 31, 16⟩
abbrev SINK_STAT_CFG (i : Nat) : Fld := ⟨.SINK_STAT, i, 0, 0, 0⟩
abbrev PACE_CTL_TARGET (i : Nat) : Fld := ⟨.PACE_CTL, i, 0, 29, 24⟩
abbrev PACE_CTL_SHED (i : Nat) : Fld := ⟨.PACE_CTL, i, 0, 21, 16⟩
abbrev PACE_CTL_MIN (i : Nat) : Fld := ⟨.PACE_CTL, i, 0, 13, 8⟩
abbrev PACE_STAT_UNDER (i : Nat) : Fld := ⟨.PACE_STAT, i, 0, 31, 31⟩
abbrev PACE_STAT_LOW (i : Nat) : Fld := ⟨.PACE_STAT, i, 0, 30, 30⟩
abbrev PACE_STAT_SHED (i : Nat) : Fld := ⟨.PACE_STAT, i, 0, 29, 29⟩
abbrev PACE_STAT_SLIP (i : Nat) : Fld := ⟨.PACE_STAT, i, 0, 28, 28⟩
abbrev PACE_STAT_CFG (i : Nat) : Fld := ⟨.PACE_STAT, i, 0, 27, 27⟩
abbrev PACE_STAT_LEAD (i : Nat) : Fld := ⟨.PACE_STAT, i, 0, 7, 0⟩
abbrev PACE_LATE_COUNT (i : Nat) : Fld := ⟨.PACE_LATE, i, 0, 31, 0⟩
abbrev PACE_SHED_TOTAL_COUNT (i : Nat) : Fld := ⟨.PACE_SHED_TOTAL, i, 0, 31, 0⟩
abbrev PACE_LOW_TOTAL_COUNT (i : Nat) : Fld := ⟨.PACE_LOW_TOTAL, i, 0, 31, 0⟩
abbrev PACE_UNDER_TOTAL_COUNT (i : Nat) : Fld := ⟨.PACE_UNDER_TOTAL, i, 0, 31, 0⟩
abbrev PACE_SLIP_TOTAL_COUNT (i : Nat) : Fld := ⟨.PACE_SLIP_TOTAL, i, 0, 31, 0⟩
abbrev PACE_UNDER_FIRST_FRAME (i : Nat) : Fld := ⟨.PACE_UNDER_FIRST, i, 0, 31, 16⟩
abbrev PACE_UNDER_FIRST_LINE (i : Nat) : Fld := ⟨.PACE_UNDER_FIRST, i, 0, 15, 0⟩
abbrev PACE_PREV_MIN_LEAD (i : Nat) : Fld := ⟨.PACE_PREV, i, 0, 31, 24⟩
abbrev PACE_PREV_SHED_LINES (i : Nat) : Fld := ⟨.PACE_PREV, i, 0, 23, 12⟩
abbrev PACE_PREV_UNDER_LINES (i : Nat) : Fld := ⟨.PACE_PREV, i, 0, 11, 0⟩
abbrev DMG_CTL_COAST_FRAMES (i : Nat) : Fld := ⟨.DMG_CTL, i, 0, 3, 0⟩
abbrev DMG_X_RIGHT (i : Nat) : Fld := ⟨.DMG_X, i, 0, 29, 16⟩
abbrev DMG_X_LEFT (i : Nat) : Fld := ⟨.DMG_X, i, 0, 13, 0⟩
abbrev DMG_Y_BOTTOM (i : Nat) : Fld := ⟨.DMG_Y, i, 0, 29, 16⟩
abbrev DMG_Y_TOP (i : Nat) : Fld := ⟨.DMG_Y, i, 0, 13, 0⟩
abbrev DMG_ADD_ALL (i : Nat) : Fld := ⟨.DMG_ADD, i, 0, 1, 1⟩
abbrev DMG_ADD_RECT (i : Nat) : Fld := ⟨.DMG_ADD, i, 0, 0, 0⟩
abbrev DMG_STAT_RECTS (i : Nat) : Fld := ⟨.DMG_STAT, i, 0, 31, 28⟩
abbrev DMG_STAT_RUN (i : Nat) : Fld := ⟨.DMG_STAT, i, 0, 27, 24⟩
abbrev DMG_STAT_WHOLE (i : Nat) : Fld := ⟨.DMG_STAT, i, 0, 23, 23⟩
abbrev DMG_STAT_CELLS (i : Nat) : Fld := ⟨.DMG_STAT, i, 0, 15, 0⟩
abbrev DMG_RECT_X_RIGHT (i j : Nat) : Fld := ⟨.DMG_RECT_X, i, j, 29, 16⟩
abbrev DMG_RECT_X_LEFT (i j : Nat) : Fld := ⟨.DMG_RECT_X, i, j, 13, 0⟩
abbrev DMG_RECT_Y_BOTTOM (i j : Nat) : Fld := ⟨.DMG_RECT_Y, i, j, 29, 16⟩
abbrev DMG_RECT_Y_TOP (i j : Nat) : Fld := ⟨.DMG_RECT_Y, i, j, 13, 0⟩
abbrev DP_CTL_RETRAIN (i : Nat) : Fld := ⟨.DP_CTL, i, 0, 31, 31⟩
abbrev DP_CTL_AUX_POL (i : Nat) : Fld := ⟨.DP_CTL, i, 0, 4, 4⟩
abbrev DP_CTL_LANE_POL (i : Nat) : Fld := ⟨.DP_CTL, i, 0, 3, 0⟩
abbrev DP_STAT_HPD (i : Nat) : Fld := ⟨.DP_STAT, i, 0, 31, 31⟩
abbrev DP_STAT_TRAINED (i : Nat) : Fld := ⟨.DP_STAT, i, 0, 30, 30⟩
abbrev DP_STAT_PR_SU (i : Nat) : Fld := ⟨.DP_STAT, i, 0, 29, 29⟩
abbrev DP_STAT_ALPM (i : Nat) : Fld := ⟨.DP_STAT, i, 0, 28, 28⟩
abbrev DP_STAT_LTTPR (i : Nat) : Fld := ⟨.DP_STAT, i, 0, 27, 24⟩
abbrev DP_STAT_SINK_RATE (i : Nat) : Fld := ⟨.DP_STAT, i, 0, 23, 20⟩
abbrev DP_STAT_SINK_LANES (i : Nat) : Fld := ⟨.DP_STAT, i, 0, 19, 18⟩
abbrev DP_ERR_TRAIN_FAIL (i : Nat) : Fld := ⟨.DP_ERR, i, 0, 31, 24⟩
abbrev DP_ERR_LINK_LOSS (i : Nat) : Fld := ⟨.DP_ERR, i, 0, 23, 16⟩
abbrev DP_ERR_HPD_BOUNCE (i : Nat) : Fld := ⟨.DP_ERR, i, 0, 15, 8⟩
abbrev DP_ERR_AUX_STORM (i : Nat) : Fld := ⟨.DP_ERR, i, 0, 7, 0⟩
abbrev DP_AUX_CMD_GO (i : Nat) : Fld := ⟨.DP_AUX_CMD, i, 0, 31, 31⟩
abbrev DP_AUX_CMD_REQ (i : Nat) : Fld := ⟨.DP_AUX_CMD, i, 0, 30, 28⟩
abbrev DP_AUX_CMD_LEN (i : Nat) : Fld := ⟨.DP_AUX_CMD, i, 0, 27, 24⟩
abbrev DP_AUX_CMD_ADDR (i : Nat) : Fld := ⟨.DP_AUX_CMD, i, 0, 19, 0⟩
abbrev DP_AUX_STAT_BUSY (i : Nat) : Fld := ⟨.DP_AUX_STAT, i, 0, 31, 31⟩
abbrev DP_AUX_STAT_RESULT (i : Nat) : Fld := ⟨.DP_AUX_STAT, i, 0, 30, 28⟩
abbrev DP_AUX_STAT_BYTES (i : Nat) : Fld := ⟨.DP_AUX_STAT, i, 0, 20, 16⟩
abbrev DP_AUX_DATA_DATA (i j : Nat) : Fld := ⟨.DP_AUX_DATA, i, j, 31, 0⟩
abbrev DP_AUD_EN (i : Nat) : Fld := ⟨.DP_AUD, i, 0, 31, 31⟩
abbrev DP_AUD_CHANNELS (i : Nat) : Fld := ⟨.DP_AUD, i, 0, 26, 24⟩
abbrev DP_AUD_RATE (i : Nat) : Fld := ⟨.DP_AUD, i, 0, 19, 16⟩
abbrev SEQ_CTL_EN (i : Nat) : Fld := ⟨.SEQ_CTL, i, 0, 31, 31⟩
abbrev SEQ_CTL_FRAME (i : Nat) : Fld := ⟨.SEQ_CTL, i, 0, 30, 30⟩
abbrev SEQ_CTL_AHEAD (i : Nat) : Fld := ⟨.SEQ_CTL, i, 0, 27, 24⟩
abbrev SEQ_CTL_BEAM_HD (i : Nat) : Fld := ⟨.SEQ_CTL, i, 0, 22, 20⟩
abbrev SEQ_CTL_ENTRY (i : Nat) : Fld := ⟨.SEQ_CTL, i, 0, 13, 0⟩
abbrev SEQ_CMD_RESTART (i : Nat) : Fld := ⟨.SEQ_CMD, i, 0, 1, 1⟩
abbrev SEQ_CMD_HALT (i : Nat) : Fld := ⟨.SEQ_CMD, i, 0, 0, 0⟩
abbrev SEQ_STAT_STATE (i : Nat) : Fld := ⟨.SEQ_STAT, i, 0, 31, 29⟩
abbrev SEQ_STAT_LATE (i : Nat) : Fld := ⟨.SEQ_STAT, i, 0, 28, 28⟩
abbrev SEQ_STAT_FAULT (i : Nat) : Fld := ⟨.SEQ_STAT, i, 0, 20, 16⟩
abbrev SEQ_STAT_PC (i : Nat) : Fld := ⟨.SEQ_STAT, i, 0, 13, 0⟩
abbrev SEQ_TAG_VALID (i : Nat) : Fld := ⟨.SEQ_TAG, i, 0, 31, 31⟩
abbrev SEQ_TAG_COL (i : Nat) : Fld := ⟨.SEQ_TAG, i, 0, 25, 16⟩
abbrev SEQ_TAG_LINE (i : Nat) : Fld := ⟨.SEQ_TAG, i, 0, 13, 0⟩
abbrev SEQ_WIN_BASE (i j : Nat) : Fld := ⟨.SEQ_WIN, i, j, 9, 0⟩
abbrev SEQ_IRQ_EN (i : Nat) : Fld := ⟨.SEQ_IRQ, i, 0, 31, 31⟩
abbrev SEQ_IRQ_FN (i : Nat) : Fld := ⟨.SEQ_IRQ, i, 0, 27, 24⟩
abbrev SEQ_IRQ_VECTOR (i : Nat) : Fld := ⟨.SEQ_IRQ, i, 0, 5, 0⟩
abbrev SEQ_RAISE_PEND (i : Nat) : Fld := ⟨.SEQ_RAISE, i, 0, 31, 31⟩
abbrev SEQ_RAISE_FAULT (i : Nat) : Fld := ⟨.SEQ_RAISE, i, 0, 30, 30⟩
abbrev SEQ_RAISE_COUNT (i : Nat) : Fld := ⟨.SEQ_RAISE, i, 0, 23, 16⟩
abbrev SEQ_RAISE_CODE (i : Nat) : Fld := ⟨.SEQ_RAISE, i, 0, 7, 0⟩
abbrev SEQ_LATE_COUNT (i : Nat) : Fld := ⟨.SEQ_LATE, i, 0, 31, 0⟩
abbrev SEQ_SKIP_COUNT (i : Nat) : Fld := ⟨.SEQ_SKIP, i, 0, 31, 0⟩
abbrev SEQ_DROP_COUNT (i : Nat) : Fld := ⟨.SEQ_DROP, i, 0, 31, 0⟩
abbrev SEQ_G_VALUE (i j : Nat) : Fld := ⟨.SEQ_G, i, j, 23, 0⟩
abbrev BLT_STATUS_RACE_WAIT : Fld := ⟨.BLT_STATUS, 0, 0, 15, 8⟩
abbrev BLT_STATUS_BUSY : Fld := ⟨.BLT_STATUS, 0, 0, 7, 0⟩
abbrev BLT_RACE_LATE_COUNT : Fld := ⟨.BLT_RACE_LATE, 0, 0, 31, 0⟩
abbrev BLT_CTL_OWNER (i : Nat) : Fld := ⟨.BLT_CTL, i, 0, 20, 16⟩
abbrev BLT_CTL_PRIO (i : Nat) : Fld := ⟨.BLT_CTL, i, 0, 1, 0⟩
abbrev BLT_STAT_FEN (i : Nat) : Fld := ⟨.BLT_STAT, i, 0, 31, 31⟩
abbrev BLT_STAT_RACE_LATE (i : Nat) : Fld := ⟨.BLT_STAT, i, 0, 30, 30⟩
abbrev BLT_STAT_WM (i : Nat) : Fld := ⟨.BLT_STAT, i, 0, 29, 29⟩
abbrev BLT_STAT_CMD (i : Nat) : Fld := ⟨.BLT_STAT, i, 0, 9, 0⟩
abbrev BLT_IRQ_EN (i : Nat) : Fld := ⟨.BLT_IRQ, i, 0, 31, 31⟩
abbrev BLT_IRQ_FN (i : Nat) : Fld := ⟨.BLT_IRQ, i, 0, 27, 24⟩
abbrev BLT_IRQ_VECTOR (i : Nat) : Fld := ⟨.BLT_IRQ, i, 0, 5, 0⟩
abbrev BLT_WM0_FRAME (i : Nat) : Fld := ⟨.BLT_WM0, i, 0, 31, 0⟩
abbrev BLT_WM1_LINE (i : Nat) : Fld := ⟨.BLT_WM1, i, 0, 31, 16⟩
abbrev BLT_WM1_PIXEL (i : Nat) : Fld := ⟨.BLT_WM1, i, 0, 13, 0⟩
abbrev BLT_WM2_CMD (i : Nat) : Fld := ⟨.BLT_WM2, i, 0, 25, 16⟩
abbrev BLT_WM2_ROW (i : Nat) : Fld := ⟨.BLT_WM2, i, 0, 13, 0⟩
abbrev SLU_STATUS_BUSY : Fld := ⟨.SLU_STATUS, 0, 0, 31, 0⟩
abbrev SLU_STAGE_BUSY : Fld := ⟨.SLU_STAGE, 0, 0, 31, 31⟩
abbrev SLU_STAGE_CH : Fld := ⟨.SLU_STAGE, 0, 0, 4, 0⟩
abbrev SLU_FENCED_FN : Fld := ⟨.SLU_FENCED, 0, 0, 15, 0⟩
abbrev SLU_CTL_OWNER (i : Nat) : Fld := ⟨.SLU_CTL, i, 0, 20, 16⟩
abbrev SLU_CTL_LEASE_MS (i : Nat) : Fld := ⟨.SLU_CTL, i, 0, 15, 8⟩
abbrev SLU_CTL_PRIO (i : Nat) : Fld := ⟨.SLU_CTL, i, 0, 1, 0⟩
abbrev SLU_STAT_STATE (i : Nat) : Fld := ⟨.SLU_STAT, i, 0, 31, 30⟩
abbrev SLU_STAT_ERR (i : Nat) : Fld := ⟨.SLU_STAT, i, 0, 29, 29⟩
abbrev SLU_STAT_FN (i : Nat) : Fld := ⟨.SLU_STAT, i, 0, 19, 16⟩
abbrev SLU_REMAIN_BYTES (i : Nat) : Fld := ⟨.SLU_REMAIN, i, 0, 31, 0⟩
abbrev SLU_FAIL_LO_ADDR (i : Nat) : Fld := ⟨.SLU_FAIL_LO, i, 0, 31, 0⟩
abbrev SLU_FAIL_HI_ADDR (i : Nat) : Fld := ⟨.SLU_FAIL_HI, i, 0, 31, 0⟩
abbrev AUD_STAT_GRAPH_ERR : Fld := ⟨.AUD_STAT, 0, 0, 31, 31⟩
abbrev AUD_STAT_ERR_REASON : Fld := ⟨.AUD_STAT, 0, 0, 27, 24⟩
abbrev AUD_STAT_PENDING : Fld := ⟨.AUD_STAT, 0, 0, 18, 16⟩
abbrev AUD_STAT_KEY_IGN : Fld := ⟨.AUD_STAT, 0, 0, 15, 0⟩
abbrev AUD_RAMP_SET_GO : Fld := ⟨.AUD_RAMP_SET, 0, 0, 31, 31⟩
abbrev AUD_RAMP_SET_DOM : Fld := ⟨.AUD_RAMP_SET, 0, 0, 25, 24⟩
abbrev AUD_RAMP_SET_SLOT : Fld := ⟨.AUD_RAMP_SET, 0, 0, 23, 16⟩
abbrev AUD_RAMP_VAL_VAL : Fld := ⟨.AUD_RAMP_VAL, 0, 0, 23, 0⟩
abbrev AUD_DOM_CTL_EN (i : Nat) : Fld := ⟨.AUD_DOM_CTL, i, 0, 31, 31⟩
abbrev AUD_DOM_CTL_LDIV (i : Nat) : Fld := ⟨.AUD_DOM_CTL, i, 0, 25, 24⟩
abbrev AUD_DOM_CTL_HEAD (i : Nat) : Fld := ⟨.AUD_DOM_CTL, i, 0, 18, 16⟩
abbrev AUD_DOM_CTL_RATE (i : Nat) : Fld := ⟨.AUD_DOM_CTL, i, 0, 0, 0⟩
abbrev AUD_DOM_STAT_RUN (i : Nat) : Fld := ⟨.AUD_DOM_STAT, i, 0, 31, 31⟩
abbrev AUD_DOM_STAT_UNDER (i : Nat) : Fld := ⟨.AUD_DOM_STAT, i, 0, 30, 30⟩
abbrev AUD_DOM_STAT_SAT (i : Nat) : Fld := ⟨.AUD_DOM_STAT, i, 0, 29, 29⟩
abbrev AUD_DOM_STAT_RATE_HZ (i : Nat) : Fld := ⟨.AUD_DOM_STAT, i, 0, 23, 0⟩
abbrev AUD_DOM_UNDER_COUNT (i : Nat) : Fld := ⟨.AUD_DOM_UNDER, i, 0, 31, 0⟩
abbrev AUD_DOM_DLY_BASE (i : Nat) : Fld := ⟨.AUD_DOM_DLY, i, 0, 25, 16⟩
abbrev AUD_DOM_DLY_SIZE (i : Nat) : Fld := ⟨.AUD_DOM_DLY, i, 0, 7, 0⟩
abbrev AUD_COEF_SET_GO : Fld := ⟨.AUD_COEF_SET, 0, 0, 31, 31⟩
abbrev AUD_COEF_SET_DOM : Fld := ⟨.AUD_COEF_SET, 0, 0, 25, 24⟩
abbrev AUD_COEF_SET_INDEX : Fld := ⟨.AUD_COEF_SET, 0, 0, 9, 0⟩
abbrev AUD_COEF_VAL_VAL : Fld := ⟨.AUD_COEF_VAL, 0, 0, 23, 0⟩
abbrev AUD_RAMP_MOVING (i j : Nat) : Fld := ⟨.AUD_RAMP, i, j, 31, 31⟩
abbrev AUD_RAMP_G (i j : Nat) : Fld := ⟨.AUD_RAMP, i, j, 23, 0⟩
abbrev VOICE_WAVE_LOG2N (i : Nat) : Fld := ⟨.VOICE_WAVE, i, 0, 27, 24⟩
abbrev VOICE_WAVE_NOISE (i : Nat) : Fld := ⟨.VOICE_WAVE, i, 0, 23, 23⟩
abbrev VOICE_WAVE_BASE (i : Nat) : Fld := ⟨.VOICE_WAVE, i, 0, 19, 0⟩
abbrev VOICE_PITCH_PITCH (i : Nat) : Fld := ⟨.VOICE_PITCH, i, 0, 23, 0⟩
abbrev VOICE_ENV_AD_ATTACK (i : Nat) : Fld := ⟨.VOICE_ENV_AD, i, 0, 23, 12⟩
abbrev VOICE_ENV_AD_DECAY (i : Nat) : Fld := ⟨.VOICE_ENV_AD, i, 0, 11, 0⟩
abbrev VOICE_ENV_SR_SUSTAIN (i : Nat) : Fld := ⟨.VOICE_ENV_SR, i, 0, 23, 16⟩
abbrev VOICE_ENV_SR_RELEASE (i : Nat) : Fld := ⟨.VOICE_ENV_SR, i, 0, 11, 0⟩
abbrev VOICE_VOL_VOL (i : Nat) : Fld := ⟨.VOICE_VOL, i, 0, 7, 0⟩
abbrev VOICE_STAT_STAGE (i : Nat) : Fld := ⟨.VOICE_STAT, i, 0, 31, 29⟩
abbrev VOICE_STAT_CFG (i : Nat) : Fld := ⟨.VOICE_STAT, i, 0, 28, 28⟩
abbrev VOICE_STAT_E (i : Nat) : Fld := ⟨.VOICE_STAT, i, 0, 23, 0⟩
abbrev PLAY_CTL_EN (i : Nat) : Fld := ⟨.PLAY_CTL, i, 0, 31, 31⟩
abbrev PLAY_CTL_OWNER (i : Nat) : Fld := ⟨.PLAY_CTL, i, 0, 20, 16⟩
abbrev PLAY_CTL_CHANNELS (i : Nat) : Fld := ⟨.PLAY_CTL, i, 0, 10, 8⟩
abbrev PLAY_CTL_DOMAIN (i : Nat) : Fld := ⟨.PLAY_CTL, i, 0, 6, 6⟩
abbrev PLAY_CTL_FMT (i : Nat) : Fld := ⟨.PLAY_CTL, i, 0, 5, 4⟩
abbrev PLAY_RATE_HZ (i : Nat) : Fld := ⟨.PLAY_RATE, i, 0, 17, 0⟩
abbrev PLAY_STAT_STATE (i : Nat) : Fld := ⟨.PLAY_STAT, i, 0, 31, 30⟩
abbrev PLAY_STAT_CFG (i : Nat) : Fld := ⟨.PLAY_STAT, i, 0, 29, 29⟩
abbrev PLAY_STAT_QUEUED (i : Nat) : Fld := ⟨.PLAY_STAT, i, 0, 22, 16⟩
abbrev PLAY_STAT_DRY_COUNT (i : Nat) : Fld := ⟨.PLAY_STAT, i, 0, 15, 0⟩
abbrev SINK_LIM_BYPASS (i : Nat) : Fld := ⟨.SINK_LIM, i, 0, 31, 31⟩
abbrev SINK_LIM_REL (i : Nat) : Fld := ⟨.SINK_LIM, i, 0, 23, 16⟩
abbrev SINK_LIM_THRESH (i : Nat) : Fld := ⟨.SINK_LIM, i, 0, 7, 0⟩
abbrev SINK_SIL_EN (i : Nat) : Fld := ⟨.SINK_SIL, i, 0, 31, 31⟩
abbrev SINK_SIL_HOLD (i : Nat) : Fld := ⟨.SINK_SIL, i, 0, 23, 16⟩
abbrev SINK_SIL_LEVEL (i : Nat) : Fld := ⟨.SINK_SIL, i, 0, 7, 0⟩
abbrev ASINK_STAT_ACTIVE (i : Nat) : Fld := ⟨.ASINK_STAT, i, 0, 31, 31⟩
abbrev ASINK_STAT_SILENT (i : Nat) : Fld := ⟨.ASINK_STAT, i, 0, 30, 30⟩
abbrev ASINK_STAT_LIM (i : Nat) : Fld := ⟨.ASINK_STAT, i, 0, 29, 29⟩
abbrev ASINK_STAT_CFG (i : Nat) : Fld := ⟨.ASINK_STAT, i, 0, 28, 28⟩
abbrev ASINK_STAT_DOMAIN (i : Nat) : Fld := ⟨.ASINK_STAT, i, 0, 25, 24⟩
abbrev CAP_CTL_EN (i : Nat) : Fld := ⟨.CAP_CTL, i, 0, 31, 31⟩
abbrev CAP_CTL_CHANNELS (i : Nat) : Fld := ⟨.CAP_CTL, i, 0, 29, 28⟩
abbrev CAP_CTL_DOMAIN (i : Nat) : Fld := ⟨.CAP_CTL, i, 0, 24, 24⟩
abbrev CAP_CTL_PERIOD_MS (i : Nat) : Fld := ⟨.CAP_CTL, i, 0, 23, 16⟩
abbrev CAP_CTL_FN (i : Nat) : Fld := ⟨.CAP_CTL, i, 0, 15, 12⟩
abbrev CAP_CTL_LOG2SIZE (i : Nat) : Fld := ⟨.CAP_CTL, i, 0, 11, 8⟩
abbrev CAP_CTL_VECTOR (i : Nat) : Fld := ⟨.CAP_CTL, i, 0, 5, 0⟩
abbrev CAP_BASE_LO_ADDR (i : Nat) : Fld := ⟨.CAP_BASE_LO, i, 0, 31, 12⟩
abbrev CAP_BASE_HI_ADDR (i : Nat) : Fld := ⟨.CAP_BASE_HI, i, 0, 31, 0⟩
abbrev CAP_REC_LO_ADDR (i : Nat) : Fld := ⟨.CAP_REC_LO, i, 0, 31, 3⟩
abbrev CAP_REC_HI_ADDR (i : Nat) : Fld := ⟨.CAP_REC_HI, i, 0, 31, 0⟩
abbrev BR_CTL_EN (i : Nat) : Fld := ⟨.BR_CTL, i, 0, 31, 31⟩
abbrev BR_CTL_DST (i : Nat) : Fld := ⟨.BR_CTL, i, 0, 25, 24⟩
abbrev BR_CTL_SRC (i : Nat) : Fld := ⟨.BR_CTL, i, 0, 17, 16⟩
abbrev BR_STAT_FILLED (i : Nat) : Fld := ⟨.BR_STAT, i, 0, 31, 31⟩
abbrev BR_STAT_CLIP (i : Nat) : Fld := ⟨.BR_STAT, i, 0, 15, 0⟩
abbrev TDM_CTL_EN (i : Nat) : Fld := ⟨.TDM_CTL, i, 0, 31, 31⟩
abbrev TDM_CTL_DOMAIN (i : Nat) : Fld := ⟨.TDM_CTL, i, 0, 24, 24⟩
abbrev TDM_CTL_FS_POL (i : Nat) : Fld := ⟨.TDM_CTL, i, 0, 17, 17⟩
abbrev TDM_CTL_BCLK_EDGE (i : Nat) : Fld := ⟨.TDM_CTL, i, 0, 16, 16⟩
abbrev TDM_CTL_OUT_SLOTS (i : Nat) : Fld := ⟨.TDM_CTL, i, 0, 15, 8⟩
abbrev TDM_CTL_IN_SLOTS (i : Nat) : Fld := ⟨.TDM_CTL, i, 0, 7, 0⟩
abbrev HS_CTL_EN : Fld := ⟨.HS_CTL, 0, 0, 31, 31⟩
abbrev HS_CTL_DET_POL : Fld := ⟨.HS_CTL, 0, 0, 30, 30⟩
abbrev HS_CTL_BIAS : Fld := ⟨.HS_CTL, 0, 0, 29, 29⟩
abbrev HS_CTL_FB_EN : Fld := ⟨.HS_CTL, 0, 0, 28, 28⟩
abbrev HS_CTL_FB_SINK : Fld := ⟨.HS_CTL, 0, 0, 20, 16⟩
abbrev HS_CTL_MIC_GAIN : Fld := ⟨.HS_CTL, 0, 0, 11, 8⟩
abbrev HS_STAT_PLUGGED : Fld := ⟨.HS_STAT, 0, 0, 31, 31⟩
abbrev HS_STAT_TYPE : Fld := ⟨.HS_STAT, 0, 0, 30, 28⟩
abbrev HS_STAT_MIC_CLASS : Fld := ⟨.HS_STAT, 0, 0, 27, 26⟩
abbrev HS_STAT_BUTTONS : Fld := ⟨.HS_STAT, 0, 0, 23, 20⟩
abbrev HS_STAT_EVENT : Fld := ⟨.HS_STAT, 0, 0, 19, 16⟩
abbrev HS_IRQ_EN : Fld := ⟨.HS_IRQ, 0, 0, 31, 31⟩
abbrev HS_IRQ_FN : Fld := ⟨.HS_IRQ, 0, 0, 27, 24⟩
abbrev HS_IRQ_VECTOR : Fld := ⟨.HS_IRQ, 0, 0, 5, 0⟩
abbrev CWY_CTL_EN : Fld := ⟨.CWY_CTL, 0, 0, 31, 31⟩
abbrev CWY_CTL_ROLE : Fld := ⟨.CWY_CTL, 0, 0, 30, 30⟩
abbrev CWY_CTL_FRZ_UP : Fld := ⟨.CWY_CTL, 0, 0, 29, 29⟩
abbrev CWY_CTL_FRZ_DOWN : Fld := ⟨.CWY_CTL, 0, 0, 28, 28⟩
abbrev CWY_ID_PATH : Fld := ⟨.CWY_ID, 0, 0, 30, 14⟩
abbrev CWY_ID_ID : Fld := ⟨.CWY_ID, 0, 0, 13, 0⟩
abbrev CWY_STAT_STATE : Fld := ⟨.CWY_STAT, 0, 0, 31, 28⟩
abbrev CWY_STAT_TRACKING : Fld := ⟨.CWY_STAT, 0, 0, 27, 27⟩
abbrev CWY_STAT_FREQ_ERR : Fld := ⟨.CWY_STAT, 0, 0, 26, 26⟩
abbrev CWY_STAT_VIEW_ERR : Fld := ⟨.CWY_STAT, 0, 0, 25, 25⟩
abbrev CWY_STAT_BENCH_REASON : Fld := ⟨.CWY_STAT, 0, 0, 23, 20⟩
abbrev CWY_WALL_CTL_REF_HD : Fld := ⟨.CWY_WALL_CTL, 0, 0, 26, 24⟩
abbrev CWY_WALL_CTL_DECIDE_LINES : Fld := ⟨.CWY_WALL_CTL, 0, 0, 21, 12⟩
abbrev CWY_WALL_CTL_LEASE_FRAMES : Fld := ⟨.CWY_WALL_CTL, 0, 0, 7, 0⟩
abbrev CWY_WALL_FRAME_COUNT : Fld := ⟨.CWY_WALL_FRAME, 0, 0, 31, 0⟩
abbrev CWY_BENCH_FRAME_COUNT : Fld := ⟨.CWY_BENCH_FRAME, 0, 0, 31, 0⟩
abbrev CWY_TREE_BENCHED : Fld := ⟨.CWY_TREE, 0, 0, 29, 16⟩
abbrev CWY_TREE_JOINED : Fld := ⟨.CWY_TREE, 0, 0, 13, 0⟩
abbrev CWY_MAX_PATH_NS : Fld := ⟨.CWY_MAX_PATH, 0, 0, 19, 0⟩
abbrev CWY_DEFERS_COUNT : Fld := ⟨.CWY_DEFERS, 0, 0, 31, 0⟩
abbrev CWY_LATE_COUNT : Fld := ⟨.CWY_LATE, 0, 0, 31, 0⟩
abbrev CWY_REJOIN_GO : Fld := ⟨.CWY_REJOIN, 0, 0, 31, 31⟩
abbrev CWY_REJOIN_ID : Fld := ⟨.CWY_REJOIN, 0, 0, 13, 0⟩
abbrev CWY_SETID_PATH_PATH : Fld := ⟨.CWY_SETID_PATH, 0, 0, 16, 0⟩
abbrev CWY_SETID_GO : Fld := ⟨.CWY_SETID, 0, 0, 31, 31⟩
abbrev CWY_SETID_ID : Fld := ⟨.CWY_SETID, 0, 0, 13, 0⟩
abbrev CWY_WALL_SEQ_COUNT : Fld := ⟨.CWY_WALL_SEQ, 0, 0, 31, 0⟩
abbrev CWY_BENCH_NEXT_INDEX : Fld := ⟨.CWY_BENCH_NEXT, 0, 0, 5, 0⟩
abbrev CWY_PORT_CTL_EN (i : Nat) : Fld := ⟨.CWY_PORT_CTL, i, 0, 31, 31⟩
abbrev CWY_PORT_CTL_RX_POL (i : Nat) : Fld := ⟨.CWY_PORT_CTL, i, 0, 17, 17⟩
abbrev CWY_PORT_CTL_TX_POL (i : Nat) : Fld := ⟨.CWY_PORT_CTL, i, 0, 16, 16⟩
abbrev CWY_PORT_CTL_HOP_TRIM (i : Nat) : Fld := ⟨.CWY_PORT_CTL, i, 0, 15, 0⟩
abbrev CWY_PORT_STAT_STATE (i : Nat) : Fld := ⟨.CWY_PORT_STAT, i, 0, 31, 29⟩
abbrev CWY_PORT_STAT_BENCHED (i : Nat) : Fld := ⟨.CWY_PORT_STAT, i, 0, 28, 28⟩
abbrev CWY_PORT_STAT_PEER_ID (i : Nat) : Fld := ⟨.CWY_PORT_STAT, i, 0, 13, 0⟩
abbrev CWY_PORT_LAT_L (i : Nat) : Fld := ⟨.CWY_PORT_LAT, i, 0, 23, 0⟩
abbrev CWY_PORT_ERR_CRC_BURST (i : Nat) : Fld := ⟨.CWY_PORT_ERR, i, 0, 31, 24⟩
abbrev CWY_PORT_ERR_BAD_TOKEN (i : Nat) : Fld := ⟨.CWY_PORT_ERR, i, 0, 23, 16⟩
abbrev CWY_PORT_ERR_FLAP (i : Nat) : Fld := ⟨.CWY_PORT_ERR, i, 0, 15, 8⟩
abbrev CWY_PORT_ERR_OVERFLOW (i : Nat) : Fld := ⟨.CWY_PORT_ERR, i, 0, 7, 0⟩
abbrev CWY_VIEW_CTL_EN (i : Nat) : Fld := ⟨.CWY_VIEW_CTL, i, 0, 31, 31⟩
abbrev CWY_VIEW_CTL_WHEAD (i : Nat) : Fld := ⟨.CWY_VIEW_CTL, i, 0, 18, 16⟩
abbrev CWY_VIEW_XY_VY (i : Nat) : Fld := ⟨.CWY_VIEW_XY, i, 0, 31, 16⟩
abbrev CWY_VIEW_XY_VX (i : Nat) : Fld := ⟨.CWY_VIEW_XY, i, 0, 15, 0⟩
abbrev CWY_VIEW_DECK_BASE (i : Nat) : Fld := ⟨.CWY_VIEW_DECK, i, 0, 19, 0⟩
abbrev CWY_BENCH_HD_EN (i : Nat) : Fld := ⟨.CWY_BENCH_HD, i, 0, 31, 31⟩
abbrev CWY_BENCH_HD_OFS (i : Nat) : Fld := ⟨.CWY_BENCH_HD, i, 0, 6, 0⟩
abbrev CWY_BENCH_SIG_CRC (i : Nat) : Fld := ⟨.CWY_BENCH_SIG, i, 0, 31, 0⟩
abbrev CWY_BENCH_REC0_REASON (i : Nat) : Fld := ⟨.CWY_BENCH_REC0, i, 0, 31, 28⟩
abbrev CWY_BENCH_REC0_ID (i : Nat) : Fld := ⟨.CWY_BENCH_REC0, i, 0, 13, 0⟩
abbrev CWY_BENCH_REC1_FRAME (i : Nat) : Fld := ⟨.CWY_BENCH_REC1, i, 0, 31, 0⟩
abbrev PWR_CTL_MAX_MODE : Fld := ⟨.PWR_CTL, 0, 0, 1, 0⟩
abbrev PWR_IDLE_SLUMBER_DS : Fld := ⟨.PWR_IDLE, 0, 0, 23, 16⟩
abbrev PWR_IDLE_DOZE_MS : Fld := ⟨.PWR_IDLE, 0, 0, 9, 0⟩
abbrev PWR_STAT_PEAT_ERR : Fld := ⟨.PWR_STAT, 0, 0, 31, 31⟩
abbrev PWR_STAT_ENTRY : Fld := ⟨.PWR_STAT, 0, 0, 30, 28⟩
abbrev PWR_STAT_BLOCK : Fld := ⟨.PWR_STAT, 0, 0, 27, 16⟩
abbrev PWR_WAKE_LAST_SRC : Fld := ⟨.PWR_WAKE, 0, 0, 23, 16⟩
abbrev PWR_WAKE_ABORT_PT : Fld := ⟨.PWR_WAKE, 0, 0, 15, 8⟩
abbrev PWR_TOL_T : Fld := ⟨.PWR_TOL, 0, 0, 31, 0⟩
abbrev PWR_DOZES_COUNT : Fld := ⟨.PWR_DOZES, 0, 0, 31, 0⟩
abbrev PWR_SLUMBERS_COUNT : Fld := ⟨.PWR_SLUMBERS, 0, 0, 31, 0⟩
abbrev PWR_ABORTS_COUNT : Fld := ⟨.PWR_ABORTS, 0, 0, 31, 0⟩
abbrev JOURNAL_STATUS_VALID : Fld := ⟨.JOURNAL_STATUS, 0, 0, 31, 31⟩
abbrev JOURNAL_STATUS_BUSY : Fld := ⟨.JOURNAL_STATUS, 0, 0, 30, 30⟩
abbrev JOURNAL_STATUS_ABORTED : Fld := ⟨.JOURNAL_STATUS, 0, 0, 29, 29⟩
abbrev JOURNAL_STATUS_FAILED : Fld := ⟨.JOURNAL_STATUS, 0, 0, 28, 28⟩
abbrev JOURNAL_STATUS_SKIPPED : Fld := ⟨.JOURNAL_STATUS, 0, 0, 27, 27⟩
abbrev JOURNAL_STATUS_SFDP_ERR : Fld := ⟨.JOURNAL_STATUS, 0, 0, 26, 26⟩
abbrev JOURNAL_STATUS_SLOT : Fld := ⟨.JOURNAL_STATUS, 0, 0, 25, 25⟩
abbrev JOURNAL_STATUS_BOOT : Fld := ⟨.JOURNAL_STATUS, 0, 0, 23, 20⟩
abbrev JOURNAL_STATUS_ORIGIN : Fld := ⟨.JOURNAL_STATUS, 0, 0, 19, 16⟩
abbrev JOURNAL_STATUS_PROGRESS : Fld := ⟨.JOURNAL_STATUS, 0, 0, 15, 0⟩
abbrev JOURNAL_SEQ_V : Fld := ⟨.JOURNAL_SEQ, 0, 0, 31, 0⟩
abbrev JOURNAL_ABORT_SEQ_V : Fld := ⟨.JOURNAL_ABORT_SEQ, 0, 0, 31, 0⟩
abbrev JOURNAL_FAIL_V : Fld := ⟨.JOURNAL_FAIL, 0, 0, 31, 0⟩
abbrev JOURNAL_EARLY_EN : Fld := ⟨.JOURNAL_EARLY, 0, 0, 31, 31⟩
abbrev JOURNAL_EARLY_BASE : Fld := ⟨.JOURNAL_EARLY, 0, 0, 19, 0⟩
abbrev JOURNAL_RANGE_LO_EN (i : Nat) : Fld := ⟨.JOURNAL_RANGE_LO, i, 0, 31, 31⟩
abbrev JOURNAL_RANGE_LO_MEM (i : Nat) : Fld := ⟨.JOURNAL_RANGE_LO, i, 0, 30, 30⟩
abbrev JOURNAL_RANGE_LO_BASE (i : Nat) : Fld := ⟨.JOURNAL_RANGE_LO, i, 0, 16, 0⟩
abbrev JOURNAL_RANGE_HI_SIZE (i : Nat) : Fld := ⟨.JOURNAL_RANGE_HI, i, 0, 7, 0⟩
abbrev TMR_CTL_RUN (i : Nat) : Fld := ⟨.TMR_CTL, i, 0, 31, 31⟩
abbrev TMR_CTL_UPDN (i : Nat) : Fld := ⟨.TMR_CTL, i, 0, 30, 30⟩
abbrev TMR_CTL_SRC (i : Nat) : Fld := ⟨.TMR_CTL, i, 0, 29, 27⟩
abbrev TMR_CTL_BEAM (i : Nat) : Fld := ⟨.TMR_CTL, i, 0, 26, 26⟩
abbrev TMR_CTL_HEAD (i : Nat) : Fld := ⟨.TMR_CTL, i, 0, 25, 23⟩
abbrev TMR_CTL_MATCH_ACT (i : Nat) : Fld := ⟨.TMR_CTL, i, 0, 22, 20⟩
abbrev TMR_CTL_OVF_ACT (i : Nat) : Fld := ⟨.TMR_CTL, i, 0, 19, 17⟩
abbrev TMR_CTL_OUT_MODE (i : Nat) : Fld := ⟨.TMR_CTL, i, 0, 16, 15⟩
abbrev TMR_CTL_LINK (i : Nat) : Fld := ⟨.TMR_CTL, i, 0, 14, 11⟩
abbrev TMR_CTL_PRE (i : Nat) : Fld := ⟨.TMR_CTL, i, 0, 10, 0⟩
abbrev TMR_IN_GATE_EN (i : Nat) : Fld := ⟨.TMR_IN, i, 0, 31, 31⟩
abbrev TMR_IN_GATE_LVL (i : Nat) : Fld := ⟨.TMR_IN, i, 0, 30, 30⟩
abbrev TMR_IN_GATE_IN (i : Nat) : Fld := ⟨.TMR_IN, i, 0, 29, 26⟩
abbrev TMR_IN_CAP_SRC (i : Nat) : Fld := ⟨.TMR_IN, i, 0, 25, 24⟩
abbrev TMR_IN_CAP_EDGE (i : Nat) : Fld := ⟨.TMR_IN, i, 0, 23, 22⟩
abbrev TMR_IN_CAP_IN (i : Nat) : Fld := ⟨.TMR_IN, i, 0, 21, 18⟩
abbrev TMR_IN_CLK_EDGE (i : Nat) : Fld := ⟨.TMR_IN, i, 0, 17, 16⟩
abbrev TMR_IN_CLK_IN (i : Nat) : Fld := ⟨.TMR_IN, i, 0, 15, 12⟩
abbrev TMR_IN_IE_CAP (i : Nat) : Fld := ⟨.TMR_IN, i, 0, 2, 2⟩
abbrev TMR_IN_IE_OVF (i : Nat) : Fld := ⟨.TMR_IN, i, 0, 1, 1⟩
abbrev TMR_IN_IE_MATCH (i : Nat) : Fld := ⟨.TMR_IN, i, 0, 0, 0⟩
abbrev TMR_COUNT_DOWN (i : Nat) : Fld := ⟨.TMR_COUNT, i, 0, 31, 31⟩
abbrev TMR_COUNT_COUNT (i : Nat) : Fld := ⟨.TMR_COUNT, i, 0, 23, 0⟩
abbrev TMR_TOP_TOP (i : Nat) : Fld := ⟨.TMR_TOP, i, 0, 23, 0⟩
abbrev TMR_CMP_CMP (i : Nat) : Fld := ⟨.TMR_CMP, i, 0, 23, 0⟩
abbrev TMR_CAP_VALID (i : Nat) : Fld := ⟨.TMR_CAP, i, 0, 31, 31⟩
abbrev TMR_CAP_LEFT (i : Nat) : Fld := ⟨.TMR_CAP, i, 0, 26, 24⟩
abbrev TMR_CAP_VALUE (i : Nat) : Fld := ⟨.TMR_CAP, i, 0, 23, 0⟩
abbrev TMR_STAT_MATCH (i : Nat) : Fld := ⟨.TMR_STAT, i, 0, 31, 31⟩
abbrev TMR_STAT_OVF (i : Nat) : Fld := ⟨.TMR_STAT, i, 0, 30, 30⟩
abbrev TMR_STAT_CAP (i : Nat) : Fld := ⟨.TMR_STAT, i, 0, 29, 29⟩
abbrev TMR_STAT_CAP_OVR (i : Nat) : Fld := ⟨.TMR_STAT, i, 0, 28, 28⟩
abbrev TMR_STAT_CFG (i : Nat) : Fld := ⟨.TMR_STAT, i, 0, 27, 27⟩
abbrev TMR_STAT_OUT (i : Nat) : Fld := ⟨.TMR_STAT, i, 0, 26, 26⟩
abbrev TMR_IRQ_EN : Fld := ⟨.TMR_IRQ, 0, 0, 31, 31⟩
abbrev TMR_IRQ_FN : Fld := ⟨.TMR_IRQ, 0, 0, 27, 24⟩
abbrev TMR_IRQ_VECTOR : Fld := ⟨.TMR_IRQ, 0, 0, 5, 0⟩
abbrev TMR_START_MASK : Fld := ⟨.TMR_START, 0, 0, 15, 0⟩
abbrev TMR_STOP_MASK : Fld := ⟨.TMR_STOP, 0, 0, 15, 0⟩
abbrev TMR_RESET_MASK : Fld := ⟨.TMR_RESET, 0, 0, 15, 0⟩
abbrev GPIO_PIN_FN_EN (i : Nat) : Fld := ⟨.GPIO_PIN, i, 0, 31, 24⟩
abbrev GPIO_PIN_PULL (i : Nat) : Fld := ⟨.GPIO_PIN, i, 0, 23, 22⟩
abbrev GPIO_PIN_OD (i : Nat) : Fld := ⟨.GPIO_PIN, i, 0, 21, 21⟩
abbrev GPIO_PIN_DIR (i : Nat) : Fld := ⟨.GPIO_PIN, i, 0, 20, 20⟩
abbrev GPIO_PIN_WAKE_EN (i : Nat) : Fld := ⟨.GPIO_PIN, i, 0, 19, 19⟩
abbrev GPIO_PIN_WAKE_LVL (i : Nat) : Fld := ⟨.GPIO_PIN, i, 0, 18, 18⟩
abbrev GPIO_PIN_SLEEP (i : Nat) : Fld := ⟨.GPIO_PIN, i, 0, 17, 16⟩
abbrev GPIO_IN_LEVEL : Fld := ⟨.GPIO_IN, 0, 0, 31, 0⟩
abbrev GPIO_OUT_OUT : Fld := ⟨.GPIO_OUT, 0, 0, 31, 0⟩
abbrev GPIO_OUT_SET_MASK : Fld := ⟨.GPIO_OUT_SET, 0, 0, 31, 0⟩
abbrev GPIO_OUT_CLR_MASK : Fld := ⟨.GPIO_OUT_CLR, 0, 0, 31, 0⟩
abbrev GPIO_STAT_CFG : Fld := ⟨.GPIO_STAT, 0, 0, 31, 31⟩
abbrev GPIO_STAT_CONFLICT : Fld := ⟨.GPIO_STAT, 0, 0, 30, 30⟩
abbrev GPIO_STAT_BANK_3V3 : Fld := ⟨.GPIO_STAT, 0, 0, 3, 0⟩
abbrev GPIO_PM_STAT_COND : Fld := ⟨.GPIO_PM_STAT, 0, 0, 15, 8⟩
abbrev GPIO_PM_STAT_EVENT : Fld := ⟨.GPIO_PM_STAT, 0, 0, 7, 0⟩
abbrev GPIO_IRQ_EN : Fld := ⟨.GPIO_IRQ, 0, 0, 31, 31⟩
abbrev GPIO_IRQ_FN : Fld := ⟨.GPIO_IRQ, 0, 0, 27, 24⟩
abbrev GPIO_IRQ_VECTOR : Fld := ⟨.GPIO_IRQ, 0, 0, 5, 0⟩
abbrev GPIO_PM_MASK_MASK (i : Nat) : Fld := ⟨.GPIO_PM_MASK, i, 0, 31, 0⟩
abbrev GPIO_PM_VALUE_VALUE (i : Nat) : Fld := ⟨.GPIO_PM_VALUE, i, 0, 31, 0⟩
abbrev GPIO_PM_CTL_EN (i : Nat) : Fld := ⟨.GPIO_PM_CTL, i, 0, 31, 31⟩
abbrev GPIO_PM_CTL_IE (i : Nat) : Fld := ⟨.GPIO_PM_CTL, i, 0, 30, 30⟩
abbrev GPIO_PM_CTL_FILTER (i : Nat) : Fld := ⟨.GPIO_PM_CTL, i, 0, 7, 0⟩
abbrev PMC_START_MASK : Fld := ⟨.PMC_START, 0, 0, 31, 0⟩
abbrev PMC_STOP_MASK : Fld := ⟨.PMC_STOP, 0, 0, 31, 0⟩
abbrev PMC_OVF_OVF : Fld := ⟨.PMC_OVF, 0, 0, 31, 0⟩
abbrev PMC_USER_EN_FN : Fld := ⟨.PMC_USER_EN, 0, 0, 15, 0⟩
abbrev PMC_IRQ_EN : Fld := ⟨.PMC_IRQ, 0, 0, 31, 31⟩
abbrev PMC_IRQ_FN : Fld := ⟨.PMC_IRQ, 0, 0, 27, 24⟩
abbrev PMC_IRQ_VECTOR : Fld := ⟨.PMC_IRQ, 0, 0, 5, 0⟩
abbrev PMC_CFG_EN (i : Nat) : Fld := ⟨.PMC_CFG, i, 0, 31, 31⟩
abbrev PMC_CFG_CHAIN (i : Nat) : Fld := ⟨.PMC_CFG, i, 0, 30, 30⟩
abbrev PMC_CFG_OVF_IE (i : Nat) : Fld := ⟨.PMC_CFG, i, 0, 29, 29⟩
abbrev PMC_CFG_FN_EN (i : Nat) : Fld := ⟨.PMC_CFG, i, 0, 28, 28⟩
abbrev PMC_CFG_MST_EN (i : Nat) : Fld := ⟨.PMC_CFG, i, 0, 27, 27⟩
abbrev PMC_CFG_ADDR_EN (i : Nat) : Fld := ⟨.PMC_CFG, i, 0, 26, 26⟩
abbrev PMC_CFG_OWNER (i : Nat) : Fld := ⟨.PMC_CFG, i, 0, 25, 21⟩
abbrev PMC_CFG_INST (i : Nat) : Fld := ⟨.PMC_CFG, i, 0, 20, 16⟩
abbrev PMC_CFG_EVENT (i : Nat) : Fld := ⟨.PMC_CFG, i, 0, 15, 8⟩
abbrev PMC_FILT_FN_MASK (i : Nat) : Fld := ⟨.PMC_FILT, i, 0, 31, 16⟩
abbrev PMC_FILT_MASTER (i : Nat) : Fld := ⟨.PMC_FILT, i, 0, 13, 8⟩
abbrev PMC_ALO_ADDR (i : Nat) : Fld := ⟨.PMC_ALO, i, 0, 23, 0⟩
abbrev PMC_AHI_ADDR (i : Nat) : Fld := ⟨.PMC_AHI, i, 0, 23, 0⟩
abbrev PMC_LO_LO (i : Nat) : Fld := ⟨.PMC_LO, i, 0, 31, 0⟩
abbrev PMC_HI_HI (i : Nat) : Fld := ⟨.PMC_HI, i, 0, 15, 0⟩
abbrev DBG_FRZ_CTL_KEY : Fld := ⟨.DBG_FRZ_CTL, 0, 0, 31, 16⟩
abbrev DBG_FRZ_CTL_RELEASE : Fld := ⟨.DBG_FRZ_CTL, 0, 0, 1, 1⟩
abbrev DBG_FRZ_CTL_SET : Fld := ⟨.DBG_FRZ_CTL, 0, 0, 0, 0⟩
abbrev DBG_FRZ_STAT_FROZEN : Fld := ⟨.DBG_FRZ_STAT, 0, 0, 31, 31⟩
abbrev DBG_FRZ_STAT_SRC : Fld := ⟨.DBG_FRZ_STAT, 0, 0, 18, 16⟩
abbrev DBG_FRZ_ENTRY_V : Fld := ⟨.DBG_FRZ_ENTRY, 0, 0, 31, 0⟩
abbrev DBG_FRZ_DROPS_V : Fld := ⟨.DBG_FRZ_DROPS, 0, 0, 31, 0⟩
abbrev DBG_FRZ_DROP_FIRST_V : Fld := ⟨.DBG_FRZ_DROP_FIRST, 0, 0, 31, 0⟩
abbrev DBG_RD_ADDR_SPACE : Fld := ⟨.DBG_RD_ADDR, 0, 0, 31, 28⟩
abbrev DBG_RD_ADDR_ADDR : Fld := ⟨.DBG_RD_ADDR, 0, 0, 23, 0⟩
abbrev DBG_RD_DATA_WORD : Fld := ⟨.DBG_RD_DATA, 0, 0, 31, 0⟩
abbrev DBG_FLT_NEXT_SEQ : Fld := ⟨.DBG_FLT_NEXT, 0, 0, 31, 0⟩
abbrev DBG_FLT_LOST_COUNT : Fld := ⟨.DBG_FLT_LOST, 0, 0, 31, 0⟩
abbrev DBG_FLT_PRIOR_COUNT : Fld := ⟨.DBG_FLT_PRIOR, 0, 0, 6, 0⟩
abbrev DBG_FLT_PEND_PEND : Fld := ⟨.DBG_FLT_PEND, 0, 0, 0, 0⟩
abbrev DBG_FLT_MASK_MASK (i : Nat) : Fld := ⟨.DBG_FLT_MASK, i, 0, 31, 0⟩
abbrev DBG_FLT_IRQ_EN : Fld := ⟨.DBG_FLT_IRQ, 0, 0, 31, 31⟩
abbrev DBG_FLT_IRQ_FN : Fld := ⟨.DBG_FLT_IRQ, 0, 0, 27, 24⟩
abbrev DBG_FLT_IRQ_VECTOR : Fld := ⟨.DBG_FLT_IRQ, 0, 0, 5, 0⟩
abbrev VLG_QUARANTINE_COUNT_COUNT : Fld := ⟨.VLG_QUARANTINE_COUNT, 0, 0, 7, 0⟩
abbrev VLG_BASE_LO_ADDR (i : Nat) : Fld := ⟨.VLG_BASE_LO, i, 0, 31, 12⟩
abbrev VLG_BASE_LO_EN (i : Nat) : Fld := ⟨.VLG_BASE_LO, i, 0, 0, 0⟩
abbrev VLG_BASE_HI_ADDR (i : Nat) : Fld := ⟨.VLG_BASE_HI, i, 0, 31, 0⟩
abbrev VLG_FN_CTL_IRQ_EN (i : Nat) : Fld := ⟨.VLG_FN_CTL, i, 0, 7, 7⟩
abbrev VLG_FN_CTL_VECTOR (i : Nat) : Fld := ⟨.VLG_FN_CTL, i, 0, 5, 0⟩
abbrev VLG_TOTAL_COUNT (i : Nat) : Fld := ⟨.VLG_TOTAL, i, 0, 31, 0⟩
abbrev VLG_SEQ_COUNT (i : Nat) : Fld := ⟨.VLG_SEQ, i, 0, 31, 0⟩
abbrev VLG_DROP_COUNT (i : Nat) : Fld := ⟨.VLG_DROP, i, 0, 31, 0⟩
end F

end Sys2Proof.Machine
end

