-- ==== Sys2Proof/Machine/State.lean ====
section
/-!
DEFINITION. The state of the device as plain data: every register (a sparse store over the map's
Cold values), every memory, queue, buffer, beam and mode the manual gives it, the commands waiting,
and what the device has sent. `State.reset` is the state right after PWR_OK rises (R16, R50).
-/

set_option Elab.async false  -- the joined text is large: no thread per declaration

namespace Sys2Proof.Machine

/-- One broadcast item of a wall trick: a descriptor or some of its source bytes (R389, R390). -/
inductive WallItem where
  | desc (index : Nat) (type : Byte) (h : Hdr) (payload : BitVec 448)
  | data (index off : Nat) (bytes : List Byte)
  deriving DecidableEq, Repr

/-- The packets of R389. -/
inductive Pkt where
  | hello (dealer : Bool) (id path : Nat) (units : Word) (state : Nat)
  | wallInfo (w : WallInfo)
  | alive (id state joined benched : Nat)
  | item (trick : Word) (x : WallItem)
  | endT (trick : Word) (count : Nat)
  | prepare (trick w : Word)
  | ready (trick : Word) (count : Nat) (fail : Option Nat)
  | commit (trick w : Word)
  | defer (trick w : Word) (n : Nat)
  | discard (trick : Word)
  | sweep (trick : Word)
  | bench (reason : Nat) (frame : Word)
  | benched (id reason hands : Nat)
  | rejoin (id : Nat) (trick : Word)
  | setId (path id : Nat)
  | event (id code port : Nat) (frame : Word)
  deriving DecidableEq, Repr

/-- What a port sends: control blocks and packets with their LSEQ. -/
inductive CwyTok where
  | pkt (lseq : Nat) (p : Pkt)
  | tick (w : Half) (remain : Word)
  | ack (lseq : Nat)
  | nak (lseq : Nat)
  | probe
  | echo (turn : Nat) (ts : Nat)
  | freeze (id : Nat)
  | thaw (id : Nat)
  deriving DecidableEq, Repr

/-- The eight operating modes (R28). -/
inductive Mode where
  | off | bringUp | run | coast | doze | slumber | freeze | fallback
  deriving DecidableEq, Repr

/-- GLB_MODE encoding of a mode. -/
def Mode.code : Mode → Nat
  | .off => 0 | .bringUp => 1 | .run => 2 | .coast => 3
  | .doze => 4 | .slumber => 5 | .freeze => 6 | .fallback => 7

/-- A sparse word store: address and word, addresses strictly rising. -/
abbrev SMap := List (Nat × BitVec 32)

/-- What an unlisted byte of a region reads as: zero (R150) or a free value (R35, R158). -/
inductive Fill where
  | zero
  | free (stamp : Nat)
  deriving DecidableEq, Repr

/-- A run of device addresses `lo` up to but not including `hi`, and what its unlisted bytes read as. -/
structure Region where
  lo : Nat
  hi : Nat
  fill : Fill
  deriving DecidableEq, Repr

/-- Device memory by 40-bit device address (R140): listed bytes, and the fill of unlisted ones
(first matching region). -/
structure DevMem where
  cells : List Host.Cell := []
  bg : List Region := []
  deriving DecidableEq, Repr

/-- A 4 KiB Tarn page held apart from the committed content: a pool page of a trick (R145) or a
replaced page some heads still read (R146). `page` is the Tarn offset divided by 4,096. -/
structure PageImg where
  page : Nat
  img : DevMem
  deriving DecidableEq, Repr

/-- A replaced page and the heads that have not yet wrapped past it (R146). `snap`: a journal
snapshot still copies it (R422). -/
structure OldPage where
  page : Nat
  img : DevMem
  heads : BitVec 6
  snap : Bool := false
  deriving DecidableEq, Repr

/-- A 16-byte completion entry, less its phase bit, which is set when it is written (R97). -/
structure Cpl where
  tag : BitVec 16
  status : Nat
  frame : Word
  line : Nat
  pixel : Nat
  detail : Word
  irq : Bool
  deriving DecidableEq, Repr

/-- What the device sends out of itself, in order: the model's record of its bus and pin activity. -/
inductive Out where
  /-- A write to host memory. -/
  | hostWrite (addr : Nat) (bytes : List Byte)
  /-- A read request to host memory, answered by a later command. -/
  | hostRead (addr len : Nat)
  /-- A vector of a function is signalled; its table entry turns it into a write, or holds it (R73). -/
  | msix (fn vec : Nat)
  /-- An LTR message: the tolerance reported in microseconds, or that there is no requirement (R70). -/
  | ltr (us : Option Nat)
  /-- An AER report (R71). -/
  | aer
  /-- The answer of a BAR0 or BAR2 read. -/
  | regData (v : Word)
  /-- The answer of a BAR4 read. -/
  | bar4Data (bytes : List Byte)
  /-- Pixels the scan beam sends: head, line, first pixel, RGB888 words. -/
  | scan (head line x : Nat) (px : List W24)
  /-- A row of an update rectangle pushed to a command-mode sink. -/
  | push (head line x : Nat) (px : List W24)
  /-- An AUX request on a head's channel. -/
  | aux (head req addr : Nat) (data : List Byte)
  /-- The head's transmitter starts link training. -/
  | train (head : Nat)
  /-- A Causeway control block or packet, by port. -/
  | cwy (port : Nat) (t : CwyTok)
  /-- An SMBus block-read answer. -/
  | smb (bytes : List Byte)
  /-- The captured 33-bit FRZ_DATA register. -/
  | jtag (v : BitVec 33)
  /-- The audio InfoFrame of a frame, with the Maud and Naud values that go with the pair of its sample-rate and
  link-rate codes: head, channels, the two codes (R316). -/
  | audioInfo (head channels rate linkRate : Nat)
  /-- A sample a sink sends: sink, channel count words. -/
  | audio (sink : Nat) (samples : List W24)
  /-- A QSPI operation started: 0 erase, 1 program, 2 read back; flash offset. -/
  | qspi (op off : Nat)
  deriving DecidableEq, Repr

/-- A fault-ring entry (R461). -/
structure Flt where
  code : Nat
  prior : Bool
  unit : Nat
  index : Nat
  seq : Nat
  frame : Word
  line : Nat
  pixel : Nat
  detail : BitVec 64
  time : Nat
  orig : Nat
  deriving DecidableEq, Repr

/-- Reference state of the root PLL (R24, R25). -/
inductive RefPhase where
  /-- Running from the source ROOT_SRC names. -/
  | locked
  /-- Holding the last frequency after loss of the source in use. -/
  | holdover
  /-- Slewing to the local or crystal reference after holdover. -/
  | slewAway
  /-- Slewing to the PCIe reference or the recovered clock. -/
  | slewTo
  deriving DecidableEq, Repr

/-- Device-wide state: mode control, resets, clocks, control balls, freeze sources. -/
structure Glob where
  mode : Mode := .bringUp
  prev : Mode := .off
  cause : Nat := 0
  /-- RESET_N has been low since PWR_OK rose (R55). -/
  heldInReset : Bool := false
  /-- Mode FREEZE was entered from (R33). -/
  frozenFrom : Mode := .bringUp
  /-- Freeze sources (R455). -/
  frzPin : Bool := false
  frzReg : Bool := false
  frzCwy : Bool := false
  /-- A freeze has been released and the 100 µs restart is under way (R459, R460). -/
  restarting : Bool := false
  /-- Sources seen in the present freeze and always-on periods at entry, for its record (R461). -/
  frzSeen : Nat := 0
  frzClock : Nat := 0
  /-- A host-interface reset came during FREEZE and is applied at release (R457); the virtual functions
  reset meanwhile, by bit. -/
  hifResetPending : Bool := false
  flrPending : BitVec 16 := 0
  /-- LAST_CAUSE of the head that entered FALLBACK last (R29). -/
  fbLast : Nat := 0x9
  ref : RefPhase := .locked
  /-- The reference that was lost is the Causeway one (R24). -/
  refCwy : Bool := false
  /-- The root tracks the upstream port (R24). -/
  tracking : Bool := false
  /-- PCIe reference declared lost and not returned (R25). -/
  pcieRefLost : Bool := false
  /-- Temperature readings above and below the limits at the last measurement (R64). -/
  tempOver : Bool := false
  tempUnder : Bool := false
  /-- The host-loss timer expired in BRING-UP and is held (R32). -/
  hostLossHeld : Bool := false
  /-- It expired in sleep or on the way there: FALLBACK follows the wake, with no head enabled too (R29, R32). -/
  hostLossWake : Bool := false
  deriving DecidableEq, Repr

/-- Phase of a ring's enable (R82, R83): `draining` while EN is cleared and slots remain. -/
inductive RingPhase where
  | off | on | draining
  deriving DecidableEq, Repr

/-- A completion waiting for room, and the slot that holds it. -/
structure Held where
  slot : Nat
  cpl : Cpl
  deriving DecidableEq, Repr

/-- One of a function's 64 rings (R80 to R88, R99, R104). -/
structure RingSt where
  phase : RingPhase := .off
  sq : Nat := 0
  cq : Nat := 0
  db : Nat := 0
  log2n : Nat := 0
  cons : Nat := 0
  prod : Nat := 0
  cqProd : Nat := 0
  cqCons : Nat := 0
  cqPhase : Bool := true
  kseq : Word := 0
  noIrq : Bool := false
  pause : Bool := false
  /-- A doorbell-record read is outstanding. -/
  reading : Bool := false
  /-- The last record read failed (R101, R104). -/
  unreadable : Bool := false
  /-- PROD or CQ_CONS was out of range in the last record (one lasting occurrence, R104). -/
  indexBad : Bool := false
  /-- Knocked KSEQ awaiting a record that is not behind it, and re-reads left (R87). -/
  knocked : Option Half := none
  rereads : Nat := 0
  /-- A knock recorded in BRING-UP, DOZE or SLUMBER (R86). -/
  knockWaiting : Bool := false
  quar : Bool := false
  cfgErr : Bool := false
  vcount : Nat := 0
  /-- Times (FCLK) of the latest knocks with one KSEQ, newest first, and that KSEQ (R104). -/
  stormSeq : Half := 0
  stormTimes : List Nat := []
  stormIgnore : Bool := false
  held : List Held := []
  /-- CQ_FULL logged for the present hold. -/
  cqFullLogged : Bool := false
  /-- A holdoff runs, and an entry was written during it (R99). -/
  holdoff : Bool := false
  holdoffDue : Bool := false
  /-- Code and time of the last log of each of codes 0x03 to 0x06 (R104). -/
  lastLog : List (Nat × Nat) := []
  deriving DecidableEq, Repr

/-- How the checks of R91 ended a descriptor: a violation with its code and the log's DETAIL, where
the manual gives one, or a status that logs none. -/
inductive Verdict where
  | viol (status code : Nat) (detail : Option Nat)
  | plain (status : Nat) (detail : Word)
  deriving DecidableEq, Repr

/-- What a descriptor slot is waiting for or doing (R100). -/
inductive SlotSt where
  /-- BARRIER, or behind a descriptor that has not started (R93). -/
  | waitStart
  /-- As `waitStart`; it failed a check at its fetch and ends when it starts. -/
  | failing (v : Verdict)
  /-- A host read of its source data is outstanding. -/
  | waitHost
  /-- Its data has arrived and it waits for pool pages (R147). -/
  | waitPages (data : List Byte)
  /-- It waits for a sequencer or mix shadow bank. -/
  | waitBank (data : List Byte)
  /-- It waits for a blitter context or a Sluice channel. -/
  | waitUnit
  /-- The unit named by its type is running it. -/
  | running
  /-- A FENCE waiting for its scope (ids of slots) and frame. -/
  | fence (scope : List Nat)
  /-- A TRICK_COMMIT waiting for its trick. -/
  | commit
  /-- A JOURNAL_STORE waiting for a running store to end. -/
  | journal
  /-- Completed; its entry waits for room (R81). -/
  | held
  deriving DecidableEq, Repr

/-- A descriptor in flight. `trick` is the key of the open trick it named when fetched (R92). -/
structure Slot where
  id : Nat
  hdr : Hdr
  type : Nat
  payload : BitVec 448
  st : SlotSt
  trick : Option Nat := none
  /-- HIF_FN_CTL, HIF_FN_TARN and HIF_FN_DRAM of its function as they stood at the fetch (R79). -/
  ctl : Word := 0
  tarn : Word := 0
  dram : Word := 0
  /-- What the permission map of the fetch gives: for each REG_WRITE pair, or for the register a QUERY
  reads, the mask of writable bits, or none where no entry admits the address (R75, R76, R79). -/
  masks : List (Option Word) := []
  /-- The Sluice channels, or blitter contexts, whose OWNER admitted the function at the fetch (R79). -/
  chans : Word := 0
  /-- The trick opened after the fetch: a failure spoils nothing (R92). -/
  joined : Bool := false
  deriving DecidableEq, Repr

/-- Host-interface state beyond its registers. `fenced` has bit f for function f (R102), `d3hot` for a
function in D3hot (R69). `fnTurn` is the function served last, `ringTurn` the ring served last of each
function and PRIO (R88). -/
structure Hif where
  linkUp : Bool := false
  perst : Bool := false
  vfEnable : Bool := false
  numVfs : Nat := 0
  d3hot : BitVec 16 := 0
  fenced : BitVec 16 := 0
  fnTurn : Nat := 15
  ringTurn : List (Nat × Nat) := []
  rings : List (Nat × RingSt) := []
  slots : List Slot := []
  nextSlot : Nat := 0
  deriving DecidableEq, Repr

/-- Owner of a trick: a function, or one of the device's own sources. -/
inductive Owner where
  | fn (f : Fin 16)
  | smbus
  | wall
  | boot
  | implicit
  deriving DecidableEq, Repr

/-- A staged register write. -/
structure RegW where
  id : RegId
  i : Nat
  j : Nat
  value : Word
  mask : Word
  deriving DecidableEq, Repr

/-- Life of a trick before commitment (R110, R116, R119). -/
inductive TrickPhase where
  | opened
  | closing
  /-- Closed and complete, waiting for one of the 16 staged places. -/
  | waitPlace
  | staged
  /-- Queued for or under application. -/
  | applying
  deriving DecidableEq, Repr

/-- MODE of a TRICK_COMMIT, and the wall commit in its place (R135). -/
inductive CommitMode where
  | next
  | atFrame (target : Word)
  | discard
  deriving DecidableEq, Repr

/-- A damage box of a head in pixels: left, top, right, bottom, all included. -/
structure Box where
  l : Nat
  t : Nat
  r : Nat
  b : Nat
  deriving DecidableEq, Repr

/-- What a staged descriptor marks at the application (R214, R255, R256): a map entry by Tarn offset,
a deck entry by its deck base and index with its words before the write, any other staged range, or
a clash of pages with the heads of both tricks (R148). -/
inductive StageMark where
  | mapEntry (addr : Nat)
  | deckEntry (base idx : Nat) (old : List W24)
  | range (lo len : Nat)
  | clash (heads : BitVec 6)
  deriving DecidableEq, Repr

/-- A trick not yet committed (R110 to R119). `key` names it inside the model; `spoil` is the
status and detail of the first spoiling descriptor (R92); writes and pages are held apart from
the committed state until application. -/
structure Trick where
  key : Nat
  owner : Owner
  id : Word
  heads : BitVec 6 := 0
  wall : Bool := false
  phase : TrickPhase := .opened
  spoil : Option (Nat × Word) := none
  writes : List RegW := []
  pages : List PageImg := []
  marks : List StageMark := []
  mode : CommitMode := .next
  commitSlot : Option Nat := none
  /-- Anchor head, fixed when staged (R131); none: no head of the device was enabled. -/
  anchor : Option (Fin 6) := none
  /-- Target frame of the anchor (R126). -/
  target : Word := 0
  missed : Bool := false
  /-- Order in which tricks became staged (R125). -/
  order : Nat := 0
  /-- Wall tricks (R393 to R397): END and PREPARE sent; COMMIT sent or received; deferrals so far;
  the first target; forwarded descriptors so far; only the rejoining hands receive it (R401). -/
  announced : Bool := false
  wallGo : Bool := false
  defers : Nat := 0
  firstW : Word := 0
  sent : Nat := 0
  resync : Bool := false
  deriving DecidableEq, Repr

/-- A committed trick some head has still to show (R132, R471), or whose TRICK_COMMIT waits. -/
structure Shown where
  key : Nat
  owner : Owner
  id : Word
  /-- Heads that have still to wrap into the frame that shows it. -/
  pending : BitVec 6
  missed : Bool
  anchor : Option (Fin 6)
  /-- Anchor-head frame from which it is visible (DETAIL of DONE_DEFERRED). -/
  frame : Word
  commitSlot : Option Nat
  deriving DecidableEq, Repr

/-- The trick unit. `queue` holds the keys due at cutoffs reached, first under application. -/
structure Trk where
  tricks : List Trick := []
  nextKey : Nat := 0
  nextOrder : Nat := 0
  queue : List Nat := []
  shown : List Shown := []
  deriving DecidableEq, Repr

/-- The DEBUG block beyond its registers: fault ring, Peat mirror (newest last), readout addresses. -/
structure Dbg where
  ring : List Flt := []
  mirror : List Flt := []
  /-- Entries raised while DRAM was in self-refresh, to be copied into the ring (R462). -/
  defer : List Flt := []
  /-- Times (ms) of the entries of the present rate window (R461). -/
  recent : List Nat := []
  jtagSel : Word := 0
  smbSel : Word := 0
  deriving DecidableEq, Repr

/-- Performance counters: 48-bit values, latched high halves for BAR0 and for each function. `anyDone` has
the counters whose ANY code has counted the present FCLK cycle (R449). -/
structure Pmc where
  count : Vector (BitVec 48) 32 := Vector.replicate 32 0
  anyDone : BitVec 32 := 0
  latch : Vector (BitVec 16) 32 := Vector.replicate 32 0
  latched : BitVec 32 := 0
  userLatch : List (Nat × BitVec 16) := []
  deriving DecidableEq, Repr

/-- A timing set: the six TS registers of a head as committed or active (R298). -/
structure Timing where
  h : Word
  hsync : Word
  v : Word
  vsync : Word
  clk : Word
  link : Word
  deriving DecidableEq, Repr

/-- Steps of a blanking change (R304): `s1` video ending, `s2` relock, `s3` training, `s4` the
blank frame up to the fresh start of composition, `s5` up to the resume frame's tick. -/
inductive BlankStep where
  | none | s1 | s2 | s3 | s4 | s5
  deriving DecidableEq, Repr

/-- Why a head is in FALLBACK (R29). -/
inductive FbCause where
  | trump | hostLoss | restore
  deriving DecidableEq, Repr

/-- An object selected for a line: deck index and the four words of its entry (R196). -/
structure ObjSel where
  idx : Nat
  w0 : W24
  w1 : W24
  w2 : W24
  w3 : W24
  deriving DecidableEq, Repr

/-- What one evaluation found: intersecting objects, a base in breach of R210, deck index of the first
breach of R209, and the first entry beyond Tarn. -/
structure EvalRec where
  hits : Nat := 0
  badBase : Bool := false
  breach : Option Nat := none
  fetch : Option Nat := none
  deriving DecidableEq, Repr

/-- What a compose frame was made with: active size and committed TRUMP_SIG (R236, R303). -/
structure FrameInfo where
  frame : Word := 0
  w : Nat := 0
  h : Nat := 0
  sig : Word := 0
  deriving DecidableEq, Repr

/-- A write-back buffer (R242): what it holds, and whether that is complete. -/
structure WbBuf where
  info : FrameInfo := {}
  full : Bool := false
  deriving DecidableEq, Repr

/-- A set of damage marks: whole area, or cells (column, row) of 256 × 16 pixels (R254). -/
structure Dmg where
  whole : Bool := false
  cells : List (Nat × Nat) := []
  deriving DecidableEq, Repr

/-- Sink registers a side of the head works with: SINK_CTL, SINK_RING, WB_LO, WB_HI, WB_CFG (R243). -/
structure SinkCfg where
  ctl : Word := 0
  ring : Word := 0x02000000
  lo : Word := 0
  hi : Word := 0
  cfg : Word := 0x00010020
  deriving DecidableEq, Repr

/-- A sequencer write in a head's landing queue (R273). `tag` is its target line, column and
frame when tagged; `seq` the sequencer that issued it. -/
structure Landing where
  seq : Fin 8
  addr : Nat
  value : Word
  tag : Option (Nat × Nat × Word)
  deriving DecidableEq, Repr

/-- An AUX transaction in progress (R311). -/
structure Aux where
  req : Nat
  len : Nat
  addr : Nat
  defers : Nat := 0
  timeouts : Nat := 0
  /-- Waiting for the 400 µs retry, not for a reply. -/
  waiting : Bool := false
  deriving DecidableEq, Repr

/-- A validated FEN header (R167). -/
structure FenHdr where
  fmt : Nat
  w : Nat
  h : Nat
  table : Nat
  data : Nat
  size : Nat
  deriving DecidableEq, Repr

/-- First-in-frame marks for fault records (R170, R193, R208, R210, R226, R250). -/
structure Seen where
  plane : Bool := false
  objCfg : Bool := false
  objOvf : Bool := false
  meld : Bool := false
  fenRec : Bool := false
  fen : List Nat := []
  /-- Verdicts on the headers of FEN surfaces, by address: one per surface and frame (R170). -/
  hdrs : List (Nat × Option FenHdr) := []
  low : Bool := false
  sink : Bool := false
  deriving DecidableEq, Repr

/-- Scan side of a head: the scan or virtual beam, what was sent, the running check (R236, R251, R263). -/
structure ScanSt where
  /-- Scan beam: frame whose tick last occurred, line, pixel. -/
  scanFrame : Word := 0
  scanLine : Nat := 0
  scanPixel : Nat := 0
  /-- The scan line has begun: it has not while the beam is in the blanking after the line before. -/
  scanOn : Bool := false
  /-- Latched beam registers (R465 row FRAME_READ). -/
  latchComp : Word := 0
  latchScan : Word := 0
  /-- The rest of the scan line repeats the last pixel (R251), and that pixel with its mask bit. -/
  underrun : Bool := false
  lastPix : W24 := 0
  lastMask : Bool := false
  /-- Chunks sent in the frame being scanned and in the one before: line, pixel, content. -/
  sentCur : List (Nat × Nat × List (W24 × Bool)) := []
  sentPrev : List (Nat × Nat × List (W24 × Bool)) := []
  /-- Video is sent, and has been for the whole of the frame being scanned. -/
  video : Bool := false
  sentWhole : Bool := false
  /-- Running CRC-32 over the trump-opaque pixels sent, and whether there was one (R236). -/
  crc : Word := 0xFFFFFFFF
  crcAny : Bool := false
  /-- The frame under the scan beam is a composed or replayed one (not a blank frame). -/
  scanReal : Bool := false
  /-- The check of R236 has been made for the frame being scanned. -/
  checked : Bool := false
  /-- Rectangles still to be pushed in this frame, widened (R313). -/
  pushing : List Box := []
  /-- Scan-out replays a write-back buffer, and which: the one that was LAST at the tick (R243, R263). -/
  replay : Bool := false
  replayBuf : Option (Fin 4) := none
  /-- The first underrun line of the frame being scanned has been recorded (R251). -/
  underSeen : Bool := false
  deriving DecidableEq, Repr

/-- Sinks and write-back buffers of a head (R239 to R243). -/
structure SinkSt where
  /-- The sink of the frame being composed, and of the frame being scanned, is unusable: scan-out sends the
  previous frame again (end of the sink registers). -/
  sinkBad : Bool := false
  sinkBadS : Bool := false
  /-- Sink settings the composer and the scan side use (R243). -/
  sinkC : SinkCfg := {}
  sinkS : SinkCfg := {}
  /-- Lines in the direct link FIFO, newest first: line and its pixels with mask bits (R240). -/
  fifo : List (Nat × List (W24 × Bool)) := []
  wb : Vector WbBuf 4 := Vector.replicate 4 {}
  wbCur : Option (Fin 4) := none
  wbPrev : Option (Fin 4) := none
  /-- The buffer chosen last (R242). -/
  wbTurn : Option (Fin 4) := none
  wbLast : Option (Fin 4) := none
  deriving DecidableEq, Repr

/-- DisplayPort transmitter, sink and AUX channel (R305, R309 to R316). -/
structure DpSt where
  /-- Step 3 is needed in the running sequence, and retries left in immediate succession (R305). -/
  needTrain : Bool := false
  retries : Nat := 0
  /-- Transmitter and sink. -/
  hpd : Bool := false
  trained : Bool := false
  training : Bool := false
  /-- A failure awaits its 1 s retry. -/
  retryWait : Bool := false
  hpdIgnored : Bool := false
  plugTimes : List Nat := []
  auxFails : List Nat := []
  auxSuspended : Bool := false
  aux : Option Aux := none
  /-- Sink capabilities read from DPCD. -/
  sinkRate : Nat := 0
  sinkLanes : Nat := 0
  prSu : Bool := false
  alpm : Bool := false
  lttpr : Nat := 0
  granX : Nat := 0
  granY : Nat := 0
  /-- Panel Replay enabled; the first full frame has been sent (R313). -/
  prOn : Bool := false
  /-- Times of the last fault record of each DP_SINK kind 1 to 5. -/
  dpRec : List (Nat × Nat) := []
  /-- DP audio settings in force (R316), and the change waiting for the frame tick. -/
  dpAud : Word := 0x01020000
  /-- An accepted DP_AUD change and the frame whose tick puts it in force (R316). -/
  dpAudPend : Option (Word × Word) := none
  /-- Main link in the ALPM low-power state (R314). -/
  alpmSleep : Bool := false
  audMuted : Bool := true
  deriving DecidableEq, Repr

/-- Object lists and evaluation of a head (R203 to R206). -/
structure EvalSt where
  /-- Objects of the line being composed, and of the line evaluated next. -/
  objs : List ObjSel := []
  evalLine : Option Nat := none
  evalObjs : List ObjSel := []
  /-- OBJ_DECK, OBJ_COUNT and OBJ_OFS sampled at the start of the evaluation in progress (R206). -/
  evalDeck : Word := 0
  evalCount : Word := 0
  evalOfs : Word := 0
  /-- Line whose list `evalObjs` is or becomes, and what its evaluation found at its start (R206, R213). -/
  evalFor : Option Nat := none
  found : EvalRec := {}
  /-- Findings of the evaluation of line 0 made before the wrap, recorded at the wrap. -/
  eval0 : Option EvalRec := none
  /-- OBJ_OFS in force for the object list of the line being composed. -/
  objOfs : Word := 0
  deriving DecidableEq, Repr

/-- Totals and first-in-frame marks of the frame being composed. -/
structure TotSt where
  /-- Frame totals, copied to the PREV registers at the wrap. -/
  minLead : Int := 127
  shedLines : Nat := 0
  underLines : Nat := 0
  ovfLines : Nat := 0
  ovfFirst : Nat := 0xFFFF
  demand : Nat := 0
  seen : Seen := {}
  deriving DecidableEq, Repr

/-- A head: beams, evaluation, pacing, sink, damage, trump check, transmitter. -/
structure HeadSt where
  /-- The active timing set; none while no valid set has ever been active (R306). -/
  ts : Option Timing := none
  /-- Enabled in the sense of R306. -/
  enabled : Bool := false
  /-- A disable has been applied: composing stops at the wrap, the head is off at the tick after. -/
  disabling : Bool := false
  disableWrapped : Bool := false
  blank : BlankStep := .none
  /-- The staged timing-set slot: a valid committed set not yet active. -/
  tsNext : Option Timing := none
  /-- Beams run. -/
  beams : Bool := false
  /-- Compose beam: frame count, line, chunks of the line written, composing that line. -/
  frame : Word := 0
  line : Nat := 0
  chunk : Nat := 0
  composing : Bool := false
  /-- Work on `line` has started (R245). -/
  lineOn : Bool := false
  /-- The cutoff of frame + 1 has been reached: the application window is open (R124). -/
  inWindow : Bool := false
  /-- The frame made by the next wrap is composed (not the blank frame, disabled, …). -/
  skipRest : Bool := false
  /-- The TRICK that makes the next frame is a blanking change: the wrap does not take place. -/
  noWrap : Bool := false
  /-- The compose beam stands at (f, 0, 0) and waits for applications (R130). -/
  wrapWait : Bool := false
  /-- PACE_CTL as the pacer works with it, from the last frame tick (R253). -/
  paceW : Word := 0x10040200
  /-- The lock was lost and the head runs free (R308). -/
  lockFree : Bool := false
  /-- Composition starts afresh at the next wrap (R253). -/
  fresh : Bool := false
  /-- This frame is being composed (false in the blank frame, while coasting, in a clean frame). -/
  active : Bool := false
  /-- Every line of this frame is composed, whatever its damage set holds (R264). -/
  full : Bool := false
  marked : Bool := false
  /-- Planes in breach on the line being composed: transparent for the whole line (R191). -/
  badPl : BitVec 16 := 0
  info : FrameInfo := {}
  prevInfo : FrameInfo := {}
  coast : Bool := false
  /-- A mismatch asks the head to stop coasting at the next wrap (R264). -/
  stopCoast : Bool := false
  /-- Composer ungated: a mark for the frame to come has been made (R264). -/
  ungated : Bool := false
  fb : Bool := false
  fbEnter : Bool := false
  fbLeave : Bool := false
  fbCause : FbCause := .trump
  /-- BRING-UP: only the early plane and the trump plane are composed (R427), until the scene's wrap. -/
  early : Bool := false
  /-- The bench indicator takes the trump source's place (R399). -/
  bench : Bool := false
  dmg : Dmg := {}
  closed : Dmg := {}
  emptyRun : Nat := 0
  rects : List Box := []
  queue : List Landing := []
  /-- Held affine fractions, by plane and axis, bits 0 OX14, 1 OY14, 2 OX15, 3 OY15 (R186). -/
  affHeld : Vector (Option (BitVec 8)) 4 := Vector.replicate 4 none
  sc : ScanSt := {}
  sk : SinkSt := {}
  dp : DpSt := {}
  ev : EvalSt := {}
  tot : TotSt := {}
  deriving DecidableEq, Repr

/-- SMBus trump path and trump key state (R231 to R235). -/
structure TrumpSt where
  key : BitVec 64 := 0
  keyLo : Word := 0
  armed : Bool := false
  /-- A presentation has already been recorded in this lockout. -/
  lockRec : Bool := false
  held : Option (Fin 6) := none
  result : Nat := 0
  pecFails : Nat := 0
  /-- Key of the path's batch, an open trick of the owner `smbus`. -/
  batch : Option Nat := none
  /-- MEM_TRUMP value set earlier in the batch. -/
  region : Option Word := none
  revoked : Bool := false
  deriving DecidableEq, Repr

/-- STATE of a sequencer (SEQn_STAT). `waitBeam` holds the target; its flag says the wait belongs
to HALT with FRAME 1, which shows as IDLE and restarts at ENTRY (R292). -/
inductive SeqRun where
  | halted
  | running
  | waitBeam (frame : Word) (line col : Nat) (halt : Bool)
  | waitTimer (ch : Fin 16) (ev : Nat)
  | waitSync (j : Fin 8)
  | stalled
  | faulted
  | idle
  deriving DecidableEq, Repr

/-- A program memory and a data memory; unlisted words are 0. -/
structure SeqBank where
  prog : List (Nat × W24) := []
  data : List (Nat × W24) := []
  deriving DecidableEq, Repr

/-- A write or key issued and not yet arrived, 3 SCLK cycles (R273, R278, R284). -/
structure Issued where
  addr : Nat
  value : Word
  tag : Option (Nat × Nat × Word)
  deriving DecidableEq, Repr

/-- A program start owed to a sequencer: from the release point of line 0 of a frame, or at once. -/
structure Owed where
  frame : Option Word
  /-- A pending bank becomes active with it. -/
  bank : Bool
  deriving DecidableEq, Repr

/-- A sequencer (R265). `tag` is line, column and frame. -/
structure SeqSt where
  g : Vector W24 16 := Vector.replicate 16 0
  z : Bool := false
  n : Bool := false
  c : Bool := false
  v : Bool := false
  pc : Nat := 0
  stack : List Nat := []
  bank : SeqBank := {}
  /-- Shadow bank held by the trick of this key. -/
  shadow : Option (Nat × SeqBank) := none
  /-- A committed bank not yet active (R291). -/
  pendBank : Option SeqBank := none
  owed : Option Owed := none
  tag : Option (Nat × Nat × Word) := none
  timerLatch : BitVec 48 := 0
  sigLatch : BitVec 8 := 0
  run : SeqRun := .halted
  fault : Nat := 0
  issued : List Issued := []
  /-- Free entries a stalled sequencer waits for, by head (R277), and AHEAD of the wait in progress (R271). -/
  need : List (Fin 6 × Nat) := []
  ahead : Nat := 1
  /-- A stop owed at the release point of line 0 of a frame: EN went to 0 (R293). -/
  stopAt : Option (Option Word) := none
  lateSeen : Bool := false
  deriving DecidableEq, Repr

/-- What a KEY does (R284), or a sequencer's write of an audio register on its way to the next
sample (R348). -/
inductive KeyAct where
  | voiceOn | voiceOff | rampStart | rampStop
  | write (addr : Nat) (value : Word)
  deriving DecidableEq, Repr

/-- A key queued at the audio engine: its sequencer, and its line-domain position when tagged. -/
structure Key where
  seq : Fin 8
  act : KeyAct
  index : Nat
  param : W24
  tag : Option (Word × Nat)
  late : Bool := false
  deriving DecidableEq, Repr

/-- A blitter context (R319): the slot of its list, the commands as read, the command in progress
and how far it is. `rows` counts rows done; `base` is F of R331 at the command's start. -/
structure BltCtx where
  slot : Option Nat := none
  /-- The list is being read (R317 step 2). -/
  reading : Bool := false
  cmds : List (BitVec 512) := []
  idx : Nat := 0
  started : Bool := false
  rows : Nat := 0
  base : Word := 0
  waiting : Bool := false
  raceSeen : Bool := false
  /-- The header of the FEN source of the command in progress, validated at its start (R328). -/
  fen : Option FenHdr := none
  /-- Watermarks whose row is written and not yet acknowledged: command, row (R330). -/
  marks : List (Nat × Nat) := []
  deriving DecidableEq, Repr

/-- A Sluice channel (R336 to R343). `pos` counts stream bytes issued; `stage` is the content of
the staging buffer it holds; `readAt` the time of its oldest outstanding host read (R342). -/
structure SluCh where
  slot : Option Nat := none
  pos : Nat := 0
  draining : Bool := false
  /-- Waiting for the staging buffer (R339). -/
  wantStage : Bool := false
  stage : Option DevMem := none
  /-- Stream position from which the buffer is still to be filled from a host source (R339). -/
  fill : Option Nat := none
  readAt : Option Nat := none
  deriving DecidableEq, Repr

/-- Blitter and Sluice. `sluTurn` is the channel that moved the last burst (R344); `stageQ` holds the channels that came to need the buffer, in order; `leaseSeq`
the SEQ of the log entry of each function's latest channel lease (R98, R342). -/
structure Movers where
  blt : Vector BltCtx 8 := Vector.replicate 8 {}
  slu : Vector SluCh 32 := Vector.replicate 32 {}
  sluTurn : Nat := 31
  stageQ : List Nat := []
  sluFenced : BitVec 16 := 0
  leaseSeq : List (Nat × Word) := []
  deriving DecidableEq, Repr

/-- A value moving in a straight line from `start` to `target` over `n` samples, `k` of them done
(R350, R366 to R368). It rests when `k = n`. -/
structure Ramp where
  start : Int := 0
  target : Int := 0
  cur : Int := 0
  k : Nat := 0
  n : Nat := 0
  deriving DecidableEq, Repr

/-- A RAMP section entry (R363). -/
structure RampDecl where
  slot : Nat
  route : Bool
  set : Bool
  retire : Bool
  id : Nat
  time : Nat
  gain : Int
  deriving DecidableEq, Repr

/-- A DELAY section entry (R363). -/
structure DlyDecl where
  line : Nat
  carry : Bool
  id : Nat
  base : Nat
  len : Nat
  deriving DecidableEq, Repr

/-- A LIM section entry (R363). -/
structure LimDecl where
  node : Nat
  rel : Nat
  thresh : Nat
  deriving DecidableEq, Repr

/-- A mix program image, checked and taken apart (R363, R364). -/
structure AudImage where
  domain : Nat
  xfade : Nat
  prog : List Word
  coef : List W24
  samp : List Word
  ramps : List RampDecl
  carry : List (Nat × Nat)
  delays : List DlyDecl
  lims : List LimDecl
  deriving DecidableEq, Repr

/-- A declared ramp slot of the active program. -/
structure RampSlot where
  decl : RampDecl
  ramp : Ramp
  deriving DecidableEq, Repr

/-- A delay line of the active program: write position, and the position of the latest DWR. -/
structure DlyPos where
  line : Nat
  pos : Nat
  last : Nat
  deriving DecidableEq, Repr

/-- A limiter: samples of the last 1 ms, oldest first, and the gain in 4.20 (R361). -/
structure LimSt where
  node : Nat := 0
  win : List (List Int) := []
  g : Nat := 0x100000
  deriving DecidableEq, Repr

/-- What happens to a ramp slot at the next sample: a new target, or a stop at its value. -/
structure RampEv where
  slot : Nat
  target : Option Int
  deriving DecidableEq, Repr

/-- A rate domain (R345 to R348) with its execution unit and active program. -/
structure AudDom where
  /-- The domain was running when last reviewed, with this control word and this rate in Hz, as a
  numerator and a denominator. -/
  run : Bool := false
  ctl : Word := 0
  num : Nat := 0
  den : Nat := 1
  image : Option AudImage := none
  coef : List (Nat × W24) := []
  samp : List (Nat × Word) := []
  ramps : List RampSlot := []
  delays : List DlyPos := []
  lims : List LimSt := []
  acc : Word := 0
  /-- Instruction to execute next; none between programs. -/
  pc : Option Nat := none
  /-- Sample whose program is in progress, its input ports and its output ports so far. -/
  sample : Nat := 0
  ins : List (Nat × Int) := []
  outs : List (Nat × Int) := []
  /-- Number of the next tick since the domain started. -/
  tick : Nat := 0
  /-- Samples whose program has not started: number and input ports. -/
  owed : List (Nat × List (Nat × Int)) := []
  /-- Finished samples not yet consumed. -/
  done : List (Nat × List (Nat × Int)) := []
  /-- Outputs that sinks and bridges consumed last. -/
  lastOuts : List (Nat × Int) := []
  /-- Applied image waiting for its swap, and the image a trick (by key) has staged. -/
  pend : Option AudImage := none
  shadow : Option (Nat × AudImage) := none
  /-- Coefficient writes and ramp events for the next sample boundary. -/
  coefW : List (Nat × W24) := []
  rampW : List RampEv := []
  /-- Time of the last AUD_UNDER record. -/
  underRec : Option Nat := none
  deriving DecidableEq, Repr

/-- Envelope stage of a voice (R350). -/
inductive Stage where
  | idle | attack | decay | sustain | release
  deriving DecidableEq, Repr

/-- A synth voice (R349, R350). The seed of the noise register is the model's own. -/
structure VoiceSt where
  phase : Word := 0
  lfsr : BitVec 23 := 1
  stage : Stage := .idle
  env : Ramp := {}
  deriving DecidableEq, Repr

/-- A buffer queued at a player: its slot, where the next read starts, bytes still to be asked
for, bytes read and not converted, and whether more will come. -/
structure PlayBuf where
  slot : Nat
  addr : Nat
  ask : Nat
  data : List Byte
  /-- Bytes asked for and not yet answered. -/
  asked : Nat
  last : Bool
  /-- A read failed: the player runs dry at the end of what it has (R353). -/
  bad : Bool := false
  deriving DecidableEq, Repr

/-- STATE of a player (PLAY_STAT). -/
inductive PlayRun where
  | idle | playing | dry
  deriving DecidableEq, Repr

/-- A stream player (R352 to R354). -/
structure PlaySt where
  run : PlayRun := .idle
  bufs : List PlayBuf := []
  /-- The fade at the end of the stream runs; the player goes IDLE when it ends. -/
  ending : Bool := false
  frame : List Int := []
  gain : Ramp := {}
  /-- Fraction of a frame owed to the converter: numerator over the domain rate's numerator. -/
  phase : Nat := 0
  deriving DecidableEq, Repr

/-- A bridge (R356): newest input, samples taken towards the first fill, output gain. -/
structure BridgeSt where
  input : Int := 0
  fill : Nat := 0
  gain : Ramp := {}
  deriving DecidableEq, Repr

/-- An audio sink (R369 to R371). -/
structure ASink where
  lim : LimSt := {}
  /-- Gain of the fade in force (R346, R348, R374, R377), and samples of silence before it. -/
  fade : Ramp := {}
  hold : Nat := 0
  /-- The limiter input has been below the silence level since the last sample above it. -/
  quiet : Bool := false
  silent : Bool := false
  /-- Output samples owed in fractions of the sink's ratio. -/
  phase : Nat := 0
  /-- The output sample sent last (R347). -/
  last : List Int := []
  deriving DecidableEq, Repr

/-- The headset (R374 to R376): classification under way, DAC muted, microphone and fall-back gains. -/
structure HsSt where
  typing : Bool := false
  dacMute : Bool := true
  mic : Ramp := {}
  micHold : Nat := 0
  fb : Ramp := {}
  deriving DecidableEq, Repr

/-- The audio engine. `capTotal` holds bytes written since enable (R373). -/
structure Audio where
  dom : Vector AudDom 3 := Vector.replicate 3 {}
  voice : Vector VoiceSt 64 := Vector.replicate 64 {}
  play : Vector PlaySt 16 := Vector.replicate 16 {}
  bridge : Vector BridgeSt 16 := Vector.replicate 16 {}
  sink : Vector ASink 17 := Vector.replicate 17 {}
  hs : HsSt := {}
  capTotal : Vector Nat 8 := Vector.replicate 8 0
  deriving DecidableEq, Repr

/-- A timer channel (R430): counter, direction, output level, capture queue (oldest first), and the
clock at which its prescaler last restarted. RUN is the committed field. -/
structure TimerCh where
  count : Nat := 0
  down : Bool := false
  out : Bool := false
  caps : List Nat := []
  pre : Nat := 0
  deriving DecidableEq, Repr

/-- What an event does to a channel (R434). -/
inductive TmrAct where
  | reset | stop | start | resetStart
  deriving DecidableEq, Repr

/-- The timer block. `irq` is the OR of R437 as last seen; `carryActs` and `carryTicks` are the
actions and LINK ticks that reach their channels in the next PCLK cycle. -/
structure Timers where
  ch : Vector TimerCh 16 := Vector.replicate 16 {}
  irq : Bool := false
  carryActs : List (Nat × TmrAct) := []
  carryTicks : List Nat := []
  deriving DecidableEq, Repr

/-- A switch of a pin (R443): when it began, what the pin drove before it, its level in GPIO_IN before it,
and the value of the input TMR_IN that the pin supplies before or after it; none where it supplies none. -/
structure PinSwitch where
  pin : Nat
  since : Nat
  drive : Option Bool
  level : Bool
  tin : Option Bool
  deriving DecidableEq, Repr

/-- The pins: levels the outside puts on undriven pins as last seen, the OR of R445 as last seen, which
pins drove and how high while the pins are in their sleep state (R446), the switches under way (R443),
and the last frame tick of each head, index 6 the last wall tick (R441). -/
structure GpioSt where
  pins : Word := 0
  irq : Bool := false
  asleep : Bool := false
  drove : Word := 0
  held : Word := 0
  sw : List PinSwitch := []
  ticks : Vector (Option Nat) 7 := Vector.replicate 7 none
  deriving DecidableEq, Repr

/-- STATE of a Causeway port (R382). -/
inductive PortRun where
  | down | lock | hello | measure | active | held | tooDeep
  deriving DecidableEq, Repr

/-- A Causeway port; index 0 is upstream, 1 to 4 are downstream ports 0 to 3. -/
structure CwyPort where
  run : PortRun := .down
  peer : Nat := 0
  /-- Probes answered, and the sum of round trip less turnaround over them (R382). -/
  probes : Nat := 0
  sum : Int := 0
  /-- LSEQ of the next packet sent, and of the next expected (R383). -/
  tx : Nat := 0
  rx : Nat := 0
  /-- A NAK has been sent for the gap at `rx`. -/
  nakked : Bool := false
  /-- Sent and not acknowledged, oldest first; and waiting in the forwarding buffer (R383, R384). -/
  replay : List (Nat × Pkt) := []
  fwd : List Pkt := []
  /-- Times of NAKs sent, of bad tokens, and of departures from ACTIVE (R384). -/
  naks : List Nat := []
  bads : List Nat := []
  leaves : List Nat := []
  /-- A downstream port's child takes part; it is benched; it rejoins through the trick named. -/
  joined : Bool := false
  benched : Bool := false
  rejoin : Option Word := none
  /-- Wall frames since the child's last ALIVE; hands joined and benched in its subtree. -/
  age : Nat := 0
  subJoined : Nat := 0
  subBenched : Nat := 0
  /-- Tricks the child's subtree has sent READY for, with the ready count. -/
  ready : List (Word × Nat) := []
  deriving DecidableEq, Repr

/-- A forwarded descriptor as a hand receives it. -/
structure RxDesc where
  index : Nat
  type : Nat
  hdr : Hdr
  payload : BitVec 448
  data : List Byte := []
  staged : Bool := false
  deriving DecidableEq, Repr

/-- A wall trick at a hand, before it is staged: its forwarded descriptors, END, failure, and the
target announced (R390 to R394). `key` is the local copy among the tricks. -/
structure RxTrick where
  id : Word
  key : Nat
  descs : List RxDesc := []
  count : Option Nat := none
  failed : Bool := false
  readySent : Bool := false
  deriving DecidableEq, Repr

/-- The Causeway unit. `state` is CWY_STAT.STATE; `logs` holds at the dealer what each wall trick has
to send, by trick key, and how much of it has gone to the joined hands. -/
structure Cwy where
  port : Vector CwyPort 5 := Vector.replicate 5 {}
  state : Nat := 0
  reason : Nat := 0
  info : Option WallInfo := none
  /-- Wall frame last ticked, and the one the last TICK announced with its tick owed. -/
  frame : Word := 0
  next : Option Half := none
  /-- Hands the dealer knows: ID, path, joined. -/
  hands : List (Nat × Nat × Bool) := []
  /-- IDs named by CWY_REJOIN and not yet served (R401). -/
  rejoin : List Nat := []
  /-- A hand is rejoining through the trick named; tricks it only passes on (R401). -/
  rejoining : Option Word := none
  through : List Word := []
  logs : List (Nat × Nat × List WallItem) := []
  rx : List RxTrick := []
  /-- Raw forwarded values of affine registers, by local BAR0 offset (R391). -/
  aff : SMap := []
  /-- Origins of FREEZE reports not yet thawed (R402); FREEZE or THAW is being repeated. -/
  origins : List Nat := []
  sending : Bool := false
  thawing : Bool := false
  /-- Hands that rejoin through the resynchronisation trick in progress (R401). -/
  served : List Nat := []
  /-- The wall frame whose decision point passed last (R393). -/
  decided : Option Word := none
  /-- Kind and time of the last event of each kind (R403). -/
  events : List (Nat × Nat) := []
  deriving DecidableEq, Repr

/-- Power entry and exit (R411 to R416): `entry` as PWR_STAT.ENTRY, `step` the step in progress
(1 to 5, 1 to 11, or the exit step done last), the pending wake, and how the exit runs. -/
structure PwrSt where
  entry : Nat := 0
  step : Nat := 0
  /-- Source of a wake found or pending (R405, R407). -/
  wake : Option Nat := none
  /-- Exit is from SLUMBER. -/
  deep : Bool := false
  /-- Heads whose beams ran when entry stopped them. -/
  ran : BitVec 6 := 0
  deriving DecidableEq, Repr

/-- What a journal slot's sections hold (R420): kept registers, the trump key, the early plane, trump
regions, last trick IDs, sequencer banks, mix programs and ranges. -/
structure Scene where
  config : SMap := []
  regs : SMap := []
  key : BitVec 64 := 0
  /-- The early FEN surface: its device address and its bytes. -/
  early : Option (Nat × List Byte) := none
  /-- Tarn start and bytes of each head's trump region. -/
  trump : List (Nat × List Byte) := []
  trumpRegs : SMap := []
  earlyRegs : SMap := []
  lastIds : List Word := []
  seqs : List (Fin 8 × SeqBank) := []
  audio : List (Fin 3 × AudImage) := []
  ranges : List (Nat × List Byte) := []
  deriving DecidableEq, Repr

/-- A flash slot (R418): SEQ of a whole commit record, SEQ of a whole header or a header whose CRC
fails, and the sections programmed. -/
structure JSlot where
  record : Option Nat := none
  header : Option Nat := none
  headerBad : Bool := false
  scene : Option Scene := none
  deriving DecidableEq, Repr

/-- A store (R421 to R424). `slot` is its descriptor, or none for one of the device's own; `step` 0
until the snapshot, else the step of R423 in progress. -/
structure Store where
  slot : Option Nat
  origin : Nat
  scene : Option Scene := none
  step : Nat := 0
  copied : Bool := false
  deriving DecidableEq, Repr

/-- Phases of boot (R426). -/
inductive BootPhase where
  | start | locked | chosen | early | scene | done
  deriving DecidableEq, Repr

/-- The configuration journal and boot. `queue` holds stores waiting: a slot, or none for CWY_SETID. -/
structure Journal where
  slots : Vector JSlot 2 := Vector.replicate 2 {}
  inForce : Option (Fin 2) := none
  store : Option Store := none
  queue : List (Option Nat) := []
  boot : BootPhase := .start
  /-- The scene's trick, until its application; the scene failed to restore. -/
  sceneKey : Option Nat := none
  failed : Bool := false
  /-- The EARLY section failed: no head has been lit before the scene (R429). -/
  dark : Bool := false
  /-- STRAP_JRNL_SKIP: the journal is never applied or written (R429). -/
  skip : Bool := false
  deriving DecidableEq, Repr

/-- The machine stops. No effect the manual gives ends in one; kept closed for the interface. -/
inductive Fault where
  /-- Never raised: every command the manual describes has an effect or none. Safe. -/
  | none
  deriving DecidableEq, Repr

/-- A command the model does not run. -/
inductive Refusal where
  /-- Raised by the dispatcher for a row without a meaning. Safe. -/
  | notModelled (mnemonic : String)
  deriving DecidableEq, Repr

/-- The state of the device. `regs` holds every register that differs from its Cold value, by BAR0
offset; `live` the values a unit uses where they differ from the committed ones (R120, R123). -/
structure State where
  part : Part := .mva2460
  /-- FCLK periods since the end of the last reset. -/
  clock : Nat := 0
  /-- Counts the free values taken. -/
  free : Nat := 0
  regs : SMap := []
  live : SMap := []
  mem : DevMem := {}
  oldPages : List OldPage := []
  glob : Glob := {}
  /-- MSI-X tables: words that differ from their reset value, by function × 1,024 + offset in the table;
  and pending bits, bit function × 64 + vector (R73). -/
  msix : SMap := []
  pba : BitVec 1024 := 0
  hif : Hif := {}
  trk : Trk := {}
  heads : Vector HeadSt 6 := Vector.replicate 6 {}
  seqs : Vector SeqSt 8 := Vector.replicate 8 {}
  keys : List Key := []
  trump : TrumpSt := {}
  mv : Movers := {}
  aud : Audio := {}
  dbg : Dbg := {}
  pmc : Pmc := {}
  tmr : Timers := {}
  gpio : GpioSt := {}
  cwy : Cwy := {}
  pwr : PwrSt := {}
  jrnl : Journal := {}
  out : List Out := []
  pending : List Instr := []
  deriving DecidableEq, Repr

/-- Memory with nothing listed, all of it of unknown content (R158; the manual gives Tarn none). -/
def DevMem.unknown (stamp : Nat) : DevMem :=
  { cells := [], bg := [⟨0, 0x4000000, .free stamp⟩, ⟨0x8000000000, 0x8200000000, .free stamp⟩] }

/-- The state right after PWR_OK rises: every register at its Cold value, mode BRING-UP with PREV
OFF and cause 0, nothing queued, memory content unknown. -/
def State.reset : State := { mem := DevMem.unknown 0 }

end Sys2Proof.Machine
end

