-- ==== Sys2Proof/Machine/Ops.lean ====
section
/-!
DEFINITION. Operations over memory and registers: bit fields, the sparse register store, device
memory, access to the indexed units, and the counter hooks every unit shares.
-/

set_option Elab.async false  -- the joined text is large: no thread per declaration

namespace Sys2Proof.Machine

/-! ### Bits and bytes -/

/-- Bits `hi` to `lo` of a register word, as a number. -/
def bits (w : Word) (hi lo : Nat) : Nat := (w.toNat >>> lo) % 2 ^ (hi + 1 - lo)

/-- One bit of a register word. -/
def bit (w : Word) (k : Nat) : Bool := w.toNat.testBit k

/-- `w` with bits `hi` to `lo` replaced by the low bits of `v`. -/
def putBits (w : Word) (hi lo v : Nat) : Word :=
  let m : Word := BitVec.ofNat 32 ((2 ^ (hi + 1 - lo) - 1) <<< lo)
  (w &&& ~~~m) ||| (BitVec.ofNat 32 (v <<< lo) &&& m)

/-- 1 for true. -/
def b2n (b : Bool) : Nat := if b then 1 else 0

/-- `n`-bit two's complement reading of the low bits of `v`. -/
def signed (n v : Nat) : Int :=
  let x := v % 2 ^ n
  if x < 2 ^ (n - 1) then (x : Int) else (x : Int) - (2 ^ n : Nat)

/-- Low `n` bits of an integer, as a number. -/
def wrapInt (n : Nat) (x : Int) : Nat := (x % ((2 ^ n : Nat) : Int)).toNat

/-- Little-endian bytes of `v`, `n` of them (R18). -/
def leBytes : Nat → Nat → List Byte
  | 0, _ => []
  | n + 1, v => BitVec.ofNat 8 v :: leBytes n (v / 256)

/-- The number a little-endian byte list spells. -/
def ofLe : List Byte → Nat
  | [] => 0
  | b :: bs => b.toNat + 256 * ofLe bs

/-- Bytes `off` to `off + n − 1` of a descriptor, `off` at least 8, from its payload (R89). -/
def pay (p : BitVec 448) (off n : Nat) : Nat := (p.toNat >>> (8 * (off - 8))) % 256 ^ n

/-- Ceiling division. -/
def cdiv (a b : Nat) : Nat := (a + b - 1) / b

/-- Saturating increment of a 32-bit counter by `n`. -/
def satAdd (w : Word) (n : Nat) : Word := BitVec.ofNat 32 (min (w.toNat + n) 0xFFFFFFFF)

/-! ### Register store -/

/-- Word at an address of a sparse store, if listed. -/
def SMap.find : SMap → Nat → Option Word
  | [], _ => none
  | (b, v) :: m, a => if a = b then some v else SMap.find m a

/-- List a word, keeping addresses strictly rising. -/
def SMap.insert : SMap → Nat → Word → SMap
  | [], a, w => [(a, w)]
  | (b, v) :: m, a, w =>
    if a < b then (a, w) :: (b, v) :: m
    else if a = b then (a, w) :: m
    else (b, v) :: SMap.insert m a w

/-- Remove an address. -/
def SMap.erase : SMap → Nat → SMap
  | [], _ => []
  | (b, v) :: m, a => if a = b then SMap.erase m a else (b, v) :: SMap.erase m a

/-- Address of instance `(i, j)` of a register. -/
def RegId.addr (r : RegId) (i j : Nat) : Nat :=
  (r.row).base + i * (r.row).s1 + j * (r.row).s2

/-- Cold value of an instance, the part-, index- and function-dependent ones included (R16). -/
def coldOf (p : Part) (r : RegId) (i j : Nat) : Word :=
  match r with
  | .GLB_PART => BitVec.ofNat 32 (Config.stepping.toNat * 0x10000 +
      (match p with | .mva2460 => 0x2460 | .mva2440 => 0x2440 | .mva2420 => 0x2420))
  | .GLB_CAP0 => if p.blt then 0x08102008 else 0x08102000
  | .GLB_UNIT_PRESENT => p.unitPresent
  | .HIF_FN_CTL => if i = 0 then 0x80193F40 else 0x00190000
  | .HIF_FN_TYPES => if i = 0 then 0x0001FFFF else 1
  | .HIF_FN_SLOTS => if i = 0 then 4096 else 0
  | .HIF_FN_TARN => if i = 0 then 1024 else 0
  | .HIF_FN_DRAM => if i = 0 then BitVec.ofNat 32 (p.dramGib * 1024) else 0
  | .TRK_FN_OPEN => if i = 0 then 64 else 0
  | .MEM_FN_POOL => if i = 0 then 8192 else 0
  | .MEM_AP_CTL => BitVec.ofNat 32 (i * 256)
  | .SEQ_CTL => putBits (r.row).cold 22 20 (if i ≤ 5 then i else 7)
  | .SEQ_WIN => if j = 0 then BitVec.ofNat 32 (if i ≤ 5 then 0x40 + 8 * i else 0x40) else 0
  | _ => (r.row).cold

/-- Committed value of a register (R121). -/
def State.reg (s : State) (r : RegId) (i j : Nat) : Word :=
  (s.regs.find (r.addr i j)).getD (coldOf s.part r i j)

/-- Set a register's committed value; Cold values are never listed. -/
def State.setReg (s : State) (r : RegId) (i j : Nat) (w : Word) : State :=
  let a := r.addr i j
  { s with regs := if w = coldOf s.part r i j then s.regs.erase a else s.regs.insert a w }

/-- The value a unit uses: the live one, else the committed one (R120). -/
def State.useReg (s : State) (r : RegId) (i j : Nat) : Word :=
  (s.live.find (r.addr i j)).getD (s.reg r i j)

/-- Override the live value of a register. -/
def State.setLive (s : State) (r : RegId) (i j : Nat) (w : Word) : State :=
  { s with live := s.live.insert (r.addr i j) w }

/-- Drop the override, so that the committed value is in force. -/
def State.dropLive (s : State) (r : RegId) (i j : Nat) : State :=
  { s with live := s.live.erase (r.addr i j) }

/-- A field's committed value. -/
def State.fld (s : State) (f : Fld) : Nat := bits (s.reg f.id f.i f.j) f.hi f.lo

/-- A field's value in use. -/
def State.use (s : State) (f : Fld) : Nat := bits (s.useReg f.id f.i f.j) f.hi f.lo

/-- A one-bit field. -/
def State.flag (s : State) (f : Fld) : Bool := s.fld f ≠ 0

/-- Set a field's committed value. -/
def State.setF (s : State) (f : Fld) (v : Nat) : State :=
  s.setReg f.id f.i f.j (putBits (s.reg f.id f.i f.j) f.hi f.lo v)

/-- Set a one-bit field to 1. -/
def State.raiseF (s : State) (f : Fld) : State := s.setF f 1

/-- Saturating increment of a counter field. -/
def State.incF (s : State) (f : Fld) (n : Nat := 1) : State :=
  s.setF f (min (s.fld f + n) (2 ^ (f.hi + 1 - f.lo) - 1))

/-- Wrapping increment of a counter field. -/
def State.wrapF (s : State) (f : Fld) : State :=
  s.setF f ((s.fld f + 1) % 2 ^ (f.hi + 1 - f.lo))

/-- Window of head `n` in BAR0. -/
def headWin (n : Nat) : Nat := 0x100000 + n * 0x20000

/-- Is an address in head `n`'s register window? -/
def inHeadWin (n a : Nat) : Bool := headWin n ≤ a && a < headWin n + 0x20000

/-- The reload of R120: every live override of a head's window, and of its trump region, ends. -/
def State.reloadHead (s : State) (n : Fin 6) : State :=
  { s with live := s.live.filter (fun e => !inHeadWin n e.1 && e.1 ≠ RegId.addr .MEM_TRUMP_HD n 0) }

/-- The register instance at a BAR0 address, if the map has one. -/
def decodeIn (a : Nat) : List RegId → Option (RegId × Nat × Nat)
  | [] => none
  | r :: rs =>
    let w := r.row
    if a < w.base then decodeIn a rs
    else
      let d := a - w.base
      let i := if w.s1 = 0 then 0 else d / w.s1
      let d1 := if w.s1 = 0 then d else d % w.s1
      let j := if w.s2 = 0 then 0 else d1 / w.s2
      let d2 := if w.s2 = 0 then d1 else d1 % w.s2
      if i < w.n1 ∧ j < w.n2 ∧ d2 = 0 then some (r, i, j) else decodeIn a rs

/-- The register instance at a BAR0 address. -/
def decodeReg (a : Nat) : Option (RegId × Nat × Nat) := decodeIn a allRegs

/-! ### Device memory -/

/-- Device address of the first DRAM byte (R140). -/
def dramBase : Nat := 0x8000000000

/-- The region that governs an address. -/
def regionAt : List Region → Nat → Option Fill
  | [], _ => none
  | r :: rs, a => if r.lo ≤ a ∧ a < r.hi then some r.fill else regionAt rs a

/-- What an unlisted byte reads as. -/
def DevMem.unlisted (m : DevMem) (a : Nat) : Byte :=
  match regionAt m.bg a with
  | some (.free st) => Config.freeByte st a
  | _ => 0

/-- The unlisted byte is known to be 0, so a 0 need not be listed. -/
def DevMem.zeroAt (m : DevMem) (a : Nat) : Bool :=
  match regionAt m.bg a with
  | some (.free _) => false
  | _ => true

/-- Listed byte at an address. -/
def cellFind : List Host.Cell → Nat → Option Byte
  | [], _ => none
  | (b, v) :: cs, a => if a = b then some v else if a < b then none else cellFind cs a

/-- Read one byte. -/
def DevMem.read (m : DevMem) (a : Nat) : Byte := (cellFind m.cells a).getD (m.unlisted a)

/-- Replace what is listed at addresses `lo` up to `hi` by `cs`, less what reads so without being listed. -/
def DevMem.splice (m : DevMem) (lo hi : Nat) (cs : List Host.Cell) : DevMem :=
  { m with cells := m.cells.filter (fun c => c.1 < lo) ++
      (cs.filter (fun c => !(c.2 = 0 && m.zeroAt c.1)) ++ m.cells.filter (fun c => hi ≤ c.1)) }

/-- Write consecutive bytes. -/
def DevMem.writeBytes (m : DevMem) (a : Nat) (bs : List Byte) : DevMem :=
  m.splice a (a + bs.length) (bs.zipIdx.map (fun e => (a + e.2, e.1)))

/-- Write one byte. -/
def DevMem.write (m : DevMem) (a : Nat) (b : Byte) : DevMem := m.writeBytes a [b]

/-- The part of memory at `lo` up to `hi`, with the same background. -/
def DevMem.slice (m : DevMem) (lo hi : Nat) : DevMem :=
  { m with cells := m.cells.filter (fun c => lo ≤ c.1 && c.1 < hi) }

/-- `n` bytes from address `a` on, read off a sorted list in one pass; `d` gives unlisted ones. -/
def walkBytes (d : Nat → Byte) : Nat → List Host.Cell → Nat → List Byte
  | 0, _, _ => []
  | n + 1, cs, a =>
    match cs with
    | [] => d a :: walkBytes d n [] (a + 1)
    | c :: rest => if c.1 = a then c.2 :: walkBytes d n rest (a + 1) else d a :: walkBytes d n (c :: rest) (a + 1)

/-- Read `n` consecutive bytes. -/
def DevMem.readBytes (m : DevMem) (a n : Nat) : List Byte := walkBytes m.unlisted n (m.slice a (a + n)).cells a

/-- The 4 KiB page of an address. -/
def pageOf (a : Nat) : Nat := a / 4096

/-- Pages a run of bytes touches. -/
def pagesOf (a n : Nat) : List Nat :=
  if n = 0 then [] else (List.range (pageOf (a + n - 1) + 1 - pageOf a)).map (fun k => pageOf a + k)

/-- A run of bytes cut at page boundaries. -/
def pageCuts (a : Nat) (bs : List Byte) : List (Nat × List Byte) :=
  (pagesOf a bs.length).map (fun g =>
    let lo := max a (g * 4096)
    (lo, (bs.drop (lo - a)).take (g * 4096 + 4096 - lo)))

/-- Make a run of addresses read as `f`, dropping what was listed there. -/
def DevMem.fill (m : DevMem) (lo hi : Nat) (f : Fill) : DevMem :=
  { cells := m.cells.filter (fun c => c.1 < lo || hi ≤ c.1), bg := ⟨lo, hi, f⟩ :: m.bg }

/-- Background regions clipped to a run of addresses. -/
def clipBg (lo hi : Nat) (bg : List Region) : List Region :=
  (bg.filter (fun r => r.lo < hi && lo < r.hi)).map
    (fun r => ⟨max r.lo lo, min r.hi hi, r.fill⟩)

/-- Replace a run of addresses by the content of `img`, background included: the remapping of
a page (R129, R146). -/
def DevMem.replace (m : DevMem) (lo hi : Nat) (img : DevMem) : DevMem :=
  let base : DevMem := if img.bg = m.bg then m else { m with bg := clipBg lo hi img.bg ++ m.bg }
  base.splice lo hi (img.cells.filter (fun c => lo ≤ c.1 && c.1 < hi))

/-- Addresses rise strictly. -/
def risingFrom : Option Nat → List Host.Cell → Bool
  | _, [] => true
  | none, c :: cs => risingFrom (some c.1) cs
  | some p, c :: cs => p < c.1 && risingFrom (some c.1) cs

/-- Canonical form: addresses strictly rising, and no listed byte equal to a known background. -/
def DevMem.wf (m : DevMem) : Bool :=
  risingFrom none m.cells && m.cells.all (fun c => !(c.2 = 0 && m.zeroAt c.1))

/-- Little-endian 24-bit word `k` of an array at `base` (R165). -/
def DevMem.word24 (m : DevMem) (base k : Nat) : W24 :=
  BitVec.ofNat 24 (ofLe (m.readBytes (base + 3 * k) 3))

/-- Write bytes into the committed memory. -/
def State.poke (s : State) (a : Nat) (bs : List Byte) : State :=
  { s with mem := s.mem.writeBytes a bs }

/-- Make a run of committed memory unknown: a destination the manual calls undefined (R35). -/
def State.scramble (s : State) (lo hi : Nat) : State :=
  { s with mem := s.mem.fill lo hi (.free (s.free + 1)), free := s.free + 1 }

/-- Pool size in 64 KiB units (R144). -/
def State.poolUnits (s : State) : Nat := s.fld F.MEM_POOL_UNITS

/-- First Tarn offset behind which the staging pool lies (R144). -/
def State.tarnTop (s : State) : Nat := 0x4000000 - s.poolUnits * 0x10000

/-- Does a byte range lie in memory a descriptor or register may name (R140, R144, R157)? -/
def State.present (s : State) (a n : Nat) : Bool :=
  a + n ≤ s.tarnTop || (dramBase ≤ a && a + n ≤ dramBase + s.part.dramUsable)

/-- Trump region of a head as a Tarn range (R151). -/
def State.trumpRegion (s : State) (n : Nat) : Nat × Nat :=
  let b := s.fld (F.MEM_TRUMP_HD_BASE n) * 0x10000
  (b, b + s.fld (F.MEM_TRUMP_HD_SIZE n) * 0x10000)

/-- The region as head `n` uses it until its wrap (R132). -/
def State.trumpRegionUse (s : State) (n : Nat) : Nat × Nat :=
  let b := s.use (F.MEM_TRUMP_HD_BASE n) * 0x10000
  (b, b + s.use (F.MEM_TRUMP_HD_SIZE n) * 0x10000)

/-- Two half-open ranges meet. -/
def overlaps (a b : Nat × Nat) : Bool := a.1 < b.2 && b.1 < a.2 && a.1 < a.2 && b.1 < b.2

/-- A device range lies in the Tarn or DRAM window that words of HIF_FN_TARN and HIF_FN_DRAM give,
clipped to the memory present (R77, R79). -/
def State.inWindow (s : State) (tarn dram : Word) (a n : Nat) : Bool :=
  let tb := bits tarn 25 16 * 0x10000
  let te := tb + bits tarn 10 0 * 0x10000
  let db := dramBase + bits dram 28 16 * 0x100000
  let de := db + bits dram 13 0 * 0x100000
  s.present a n && ((tb ≤ a && a + n ≤ te) || (db ≤ a && a + n ≤ de))

/-- Does a range touch any head's trump region? -/
def State.touchesTrump (s : State) (a n : Nat) : Bool :=
  (List.range 6).any (fun h => overlaps (a, a + n) (s.trumpRegion h))

/-! ### Units -/

def State.head (s : State) (n : Fin 6) : HeadSt := s.heads[n]

def State.modHead (s : State) (n : Fin 6) (f : HeadSt → HeadSt) : State :=
  { s with heads := s.heads.set n (f s.heads[n]) }

def State.modSc (s : State) (n : Fin 6) (f : ScanSt → ScanSt) : State :=
  s.modHead n (fun h => { h with sc := f h.sc })

def State.modSk (s : State) (n : Fin 6) (f : SinkSt → SinkSt) : State :=
  s.modHead n (fun h => { h with sk := f h.sk })

def State.modDp (s : State) (n : Fin 6) (f : DpSt → DpSt) : State :=
  s.modHead n (fun h => { h with dp := f h.dp })

def State.modEv (s : State) (n : Fin 6) (f : EvalSt → EvalSt) : State :=
  s.modHead n (fun h => { h with ev := f h.ev })

def State.modTot (s : State) (n : Fin 6) (f : TotSt → TotSt) : State :=
  s.modHead n (fun h => { h with tot := f h.tot })

/-- Is head `n` present on this part? -/
def State.headPresent (s : State) (n : Nat) : Bool := n < s.part.heads

/-- All heads, in order. -/
def allHeads : List (Fin 6) := [0, 1, 2, 3, 4, 5]

/-- Heads that count as enabled (R306). -/
def State.enabledHeads (s : State) : List (Fin 6) :=
  allHeads.filter (fun n => (s.head n).enabled)

def State.seq (s : State) (q : Fin 8) : SeqSt := s.seqs[q]

def State.modSeq (s : State) (q : Fin 8) (f : SeqSt → SeqSt) : State :=
  { s with seqs := s.seqs.set q (f s.seqs[q]) }

/-- All sequencers, in order. -/
def allSeqs : List (Fin 8) := [0, 1, 2, 3, 4, 5, 6, 7]

/-- A frame tick of head `k` (6: a wall tick) passes now (R441). -/
def State.tickOut (s : State) (k : Fin 7) : State :=
  { s with gpio := { s.gpio with ticks := s.gpio.ticks.set k (some s.clock) } }

/-- Append to what the device has sent. -/
def State.emit (s : State) (o : Out) : State := { s with out := s.out ++ [o] }

/-- Key of a ring in the sparse ring list. -/
def ringKey (f : Fin 16) (r : Fin 64) : Nat := f.val * 64 + r.val

def ringFind : List (Nat × RingSt) → Nat → RingSt
  | [], _ => {}
  | (k, r) :: l, a => if a = k then r else ringFind l a

def ringPut : List (Nat × RingSt) → Nat → RingSt → List (Nat × RingSt)
  | [], a, w => [(a, w)]
  | (b, v) :: l, a, w =>
    if a < b then (a, w) :: (b, v) :: l
    else if a = b then (a, w) :: l
    else (b, v) :: ringPut l a w

def State.ring (s : State) (f : Fin 16) (r : Fin 64) : RingSt := ringFind s.hif.rings (ringKey f r)

def State.modRing (s : State) (f : Fin 16) (r : Fin 64) (g : RingSt → RingSt) : State :=
  { s with hif := { s.hif with rings := ringPut s.hif.rings (ringKey f r) (g (s.ring f r)) } }

/-- Is a function fenced (R102)? -/
def State.fenced (s : State) (f : Fin 16) : Bool := s.hif.fenced.getLsbD f.val

/-- A function is enabled: EN, and VF Enable for a virtual one (HIF_FN_CTL). -/
def State.fnEnabled (s : State) (f : Fin 16) : Bool :=
  s.flag (F.HIF_FN_CTL_EN f) && (f.val = 0 || (s.hif.vfEnable && f.val ≤ s.hif.numVfs))

/-! ### Mode -/

/-- Modes in which rings are processed (R28). -/
def State.working (s : State) : Bool :=
  match s.glob.mode with
  | .run | .coast | .fallback => true
  | _ => false

/-- FREEZE holds, the restart included (R456, R460). -/
def State.frozen (s : State) : Bool := s.glob.mode = .freeze

/-- The unit logic runs: neither off, held in reset, nor frozen. -/
def State.alive (s : State) : Bool :=
  !(s.glob.mode = .off) && !s.glob.heldInReset && !s.frozen

/-! ### Performance counters (R448 to R454) -/

/-- Attributes of a counted event (R449). -/
structure Attr where
  fn : Option Nat := none
  master : Option Nat := none
  addr : Option Nat := none
  deriving DecidableEq, Repr

/-- What a trick's owner gives the events made for it (R449). -/
def Owner.attr : Owner → Attr
  | .fn f => { fn := some f.val }
  | _ => {}

/-- Does counter `k` admit an event (R449, R450, R454)? -/
def State.pmcAdmits (s : State) (k code inst : Nat) (a : Attr) : Bool :=
  let cfg := F.PMC_CFG_EN k
  let w := s.reg cfg.id k 0
  let f := s.reg .PMC_FILT k 0
  let owner := bits w 25 21
  let ev := bits w 15 8
  let evOk := (ev = code && bits w 20 16 = inst)
  let fnEn := bit w 28 || owner < 16
  let fnMask := if owner < 16 then 2 ^ owner else bits f 31 16
  let fnOk := !fnEn || (match a.fn with | some x => fnMask.testBit x | none => false)
  let mOk := !bit w 27 || (match a.master with | some x => bits f 13 8 = x | none => false)
  let aOk := !bit w 26 || (match a.addr with
    | some x => s.fld (F.PMC_ALO_ADDR k) * 65536 ≤ x && x ≤ s.fld (F.PMC_AHI_ADDR k) * 65536 + 65535
    | none => false)
  bit w 31 && !(bit w 30 && 0 < k) && evOk && fnOk && mOk && aOk

/-- ANY of a class counts a cycle in which an admitted event of the class occurs (R449). -/
def State.pmcAnyAdmits (s : State) (k code : Nat) (a : Attr) : Bool :=
  let w := s.reg .PMC_CFG k 0
  let f := s.reg .PMC_FILT k 0
  let owner := bits w 25 21
  let fnEn := bit w 28 || owner < 16
  let fnMask := if owner < 16 then 2 ^ owner else bits f 31 16
  bit w 31 && !(bit w 30 && 0 < k) && bits w 15 8 = code / 32 * 32 + 31 &&
    (!fnEn || (match a.fn with | some x => fnMask.testBit x | none => false)) &&
    (!bit w 27 || (match a.master with | some x => bits f 13 8 = x | none => false)) &&
    (!bit w 26 || (match a.addr with
      | some x => s.fld (F.PMC_ALO_ADDR k) * 65536 ≤ x && x ≤ s.fld (F.PMC_AHI_ADDR k) * 65536 + 65535
      | none => false))

/-- Word at an offset of a function's MSI-X table (R73): address, data and control of each vector. Every
vector is masked at reset, as PCI Express has it (PRESUMED, log entry 77). -/
def State.msixWord (s : State) (fn off : Nat) : Word :=
  (s.msix.find (fn * 1024 + off)).getD (if off % 16 = 12 then 1 else 0)

/-- What the table makes of a signalled vector: a write of its data to its address, or, masked, a pending
bit (R73). -/
def State.msixSend (s : State) (fn vec : Nat) : State :=
  if bit (s.msixWord fn (vec * 16 + 12)) 0 then { s with pba := s.pba ||| BitVec.ofNat 1024 (2 ^ (fn * 64 + vec)) }
  else s.emit (.hostWrite ((s.msixWord fn (vec * 16)).toNat + (s.msixWord fn (vec * 16 + 4)).toNat * 2 ^ 32)
    (leBytes 4 (s.msixWord fn (vec * 16 + 8)).toNat))

/-- The conditions of R287 on the function and the vector of a message. -/
def State.vecOk (s : State) (fn vec : Nat) : Bool :=
  if h : fn < 16 then s.fnEnabled ⟨fn, h⟩ && vec < s.fld (F.HIF_FN_CTL_VEC_COUNT fn) else false

/-- Signal a vector, under the conditions of R287. -/
def State.rawVec (s : State) (fn vec : Nat) : State :=
  if s.vecOk fn vec then (s.emit (.msix fn vec)).msixSend fn vec else s

/-- PMC_OVF bits that take part in R453. -/
def State.pmcArmed (s : State) : Bool :=
  (List.range 32).any (fun k => bit (s.reg .PMC_OVF 0 0) k && s.flag (F.PMC_CFG_OVF_IE k))

/-- Record the overflow of counter `k`, and signal it under R453. -/
def State.pmcOverflow (s : State) (k : Nat) : State :=
  let armed := s.pmcArmed
  let s := s.setReg .PMC_OVF 0 0 (s.reg .PMC_OVF 0 0 ||| BitVec.ofNat 32 (2 ^ k))
  let irq := s.reg .PMC_IRQ 0 0
  if !armed && s.pmcArmed && bit irq 31 then s.rawVec (bits irq 27 24) (bits irq 5 0) else s

/-- Add to counter `k`; a wrap overflows it and carries into chained counters above (R448, R451). -/
def State.pmcBump (s : State) : (fuel k n : Nat) → State
  | 0, _, _ => s
  | fuel + 1, k, n =>
    if h : k < 32 then
      let v := s.pmc.count[k].toNat + n
      let s1 := { s with pmc := { s.pmc with count := s.pmc.count.set k (BitVec.ofNat 48 v) } }
      if v < 2 ^ 48 then s1
      else
        let s2 := s1.pmcOverflow k
        if s2.flag (F.PMC_CFG_CHAIN (k + 1)) && s2.flag (F.PMC_CFG_EN (k + 1))
        then s2.pmcBump fuel (k + 1) (v / 2 ^ 48) else s2
    else s

/-- Counters hold their values in DOZE and SLUMBER (R452). -/
def State.pmcHeld (s : State) : Bool := s.glob.mode = .doze || s.glob.mode = .slumber

/-- Counter `k` counts ANY of a class once in an FCLK cycle (R449). -/
def State.pmcAny (s : State) (k : Nat) : State :=
  if bit s.pmc.anyDone k then s
  else { s with pmc := { s.pmc with anyDone := s.pmc.anyDone ||| BitVec.ofNat 32 (2 ^ k) } }.pmcBump 32 k 1

/-- Count an event of `code` and instance `inst`, `n` occurrences (R448, R449). The entry into a mode and a
wake are counted in the mode they belong to, in which other counts hold (R452; DEDUCED, log entry 68). -/
def State.count (s : State) (code inst n : Nat) (a : Attr := {}) : State :=
  if n = 0 || (s.pmcHeld && code ≠ 0xE3 && code ≠ 0xE4) then s
  else (List.range 32).foldl (fun s k =>
    if s.pmcAdmits k code inst a then s.pmcBump 32 k n
    else if s.pmcAnyAdmits k code a then s.pmcAny k
    else s) s

/-- Send an MSI-X message, under the conditions of R287 on function and vector. -/
def State.sendVec (s : State) (fn vec : Nat) : State :=
  if s.vecOk fn vec then (s.rawVec fn vec).count 0x09 0 1 { fn := some fn } else s

/-- Signal an interrupt register laid out as SEQn_IRQ (R287). -/
def State.signal (s : State) (irq : Word) : State :=
  if bit irq 31 then s.sendVec (bits irq 27 24) (bits irq 5 0) else s

end Sys2Proof.Machine
end

