-- ==== Sys2Proof/Machine/Records.lean ====
section
/-!
DEFINITION. The three records every unit writes: fault-ring entries (R461 to R463), violation-log
entries with quarantine (R104 to R106), and completion entries with their messages (R81, R93, R97
to R99).
-/

set_option Elab.async false  -- the joined text is large: no thread per declaration

namespace Sys2Proof

/-- HEAD of a descriptor's flags: 7 names none (R89). -/
def Hdr.head (h : Hdr) : Nat := (h.flags.toNat >>> 4) % 8

def Hdr.irq (h : Hdr) : Bool := h.flags.getLsbD 0
def Hdr.barrier (h : Hdr) : Bool := h.flags.getLsbD 1
def Hdr.trumpFlag (h : Hdr) : Bool := h.flags.getLsbD 2

/-- The named head if it is one of the six. -/
def Hdr.headFin (h : Hdr) : Option (Fin 6) :=
  if p : h.head < 6 then some ⟨h.head, p⟩ else none

end Sys2Proof

namespace Sys2Proof.Machine

/-! ### Fault records -/

/-- UNIT codes of R461. -/
def unitSeq (q : Nat) : Nat := 0x10 + q
def unitBlt : Nat := 0x20
def unitSlu : Nat := 0x21
def unitAud : Nat := 0x22
def unitCwy : Nat := 0x23
def unitMem : Nat := 0x24
def unitPwr : Nat := 0x25
def unitGlb : Nat := 0x26
def unitDbg : Nat := 0x28

/-- FCLK periods in a microsecond and a millisecond (750 MHz). -/
def perUs : Nat := 750
def perMs : Nat := 750000

/-- DRAM is in self-refresh, so entries go to the mirror alone (R462): from the end of step D4 of R411
on, but for steps S2 to S10 of R412, up to the step of R415 or R416 that follows the walker's. -/
def State.dramAsleep (s : State) : Bool :=
  let p := s.pwr
  if s.glob.mode = .freeze then true
  else match p.entry with
    | 1 => p.step = 5
    | 2 => p.step ≤ 1 || p.step = 11
    | 3 => p.step ≤ (if p.deep then 5 else 4)
    | _ => s.glob.mode = .doze || s.glob.mode = .slumber

/-- The newest `n` entries of a list kept newest last. -/
def lastN {α : Type} (n : Nat) (l : List α) : List α := l.drop (l.length - n)

/-- A fault entry is in the ring: it replaces the one of its place (R461). -/
def fltPut (ring : List Flt) (e : Flt) : List Flt :=
  ring.filter (fun x => x.seq % 1024 ≠ e.seq % 1024) ++ [e]

/-- PEND and its message (R463). -/
def State.fltPend (s : State) (code : Nat) : State :=
  if bit (s.reg .DBG_FLT_MASK (code / 32) 0) (code % 32) then
    if s.flag F.DBG_FLT_PEND_PEND then s
    else (s.raiseF F.DBG_FLT_PEND_PEND).signal (s.reg .DBG_FLT_IRQ 0 0)
  else s

/-- Enter a fault record, or lose it to the limit of 16 in any 1 ms (R461 to R463). -/
def State.fault (s : State) (code unit index : Nat) (frame : Word) (line pixel detail : Nat) : State :=
  let seq := s.fld F.DBG_FLT_NEXT_SEQ
  let recent := s.dbg.recent.filter (fun t => s.clock < t + perMs)
  let s := s.setF F.DBG_FLT_NEXT_SEQ (seq + 1)
  let s :=
    if 16 ≤ recent.length then { s with dbg := { s.dbg with recent := recent } }.incF F.DBG_FLT_LOST_COUNT
    else
      let e : Flt := { code := code, prior := false, unit := unit, index := index, seq := seq,
                       frame := frame, line := line, pixel := pixel,
                       detail := BitVec.ofNat 64 detail, time := s.clock / perMs, orig := 0 }
      let d := { s.dbg with recent := s.clock :: recent, mirror := lastN 64 (s.dbg.mirror ++ [e]) }
      if s.dramAsleep then { s with dbg := { d with defer := lastN 64 (d.defer ++ [e]) } }
      else { s with dbg := { d with ring := fltPut d.ring e } }
  s.fltPend code

/-- A record of a device-wide unit: frame, line and pixel of head 0. -/
def State.faultDev (s : State) (code unit index detail : Nat) : State :=
  let h := s.head 0
  s.fault code unit index h.frame h.line h.sc.scanPixel detail

/-- A record of a head at a given position. -/
def State.faultHead (s : State) (n : Fin 6) (code index line pixel detail : Nat) : State :=
  s.fault code n.val index (s.head n).frame line pixel detail

/-- Entries deferred while DRAM slept move into the ring (R462). -/
def State.fltFlush (s : State) : State :=
  { s with dbg := { s.dbg with ring := s.dbg.defer.foldl fltPut s.dbg.ring, defer := [] } }

/-! ### Host writes and violations -/

/-- Write host memory for a function. -/
def State.hostWrite (s : State) (fn : Nat) (addr : Nat) (bs : List Byte) : State :=
  (s.emit (.hostWrite addr bs)).count 0x08 0 bs.length { fn := some fn }

/-- A DETAIL the manual leaves open for a log entry: a free value. -/
def State.freeDetail (s : State) : State × Nat :=
  ({ s with free := s.free + 2 },
   (Config.freeWord s.free).toNat + 2 ^ 32 * (Config.freeWord (s.free + 1)).toNat)

/-- Violation codes that count toward quarantine (R104, R113, R238, R403). -/
def violCounts (code : Nat) : Bool :=
  !(code = 0x07 || code = 0x10 || code = 0x11 || code = 0x14 || code = 0x15 || code = 0x18 || code = 0x1B ||
    code = 0x1C)

/-- One violation-log entry: TOTAL, SEQ, the entry or DROP, and the log's message (R106). -/
def State.logEntry (s : State) (fn : Fin 16) (ring : Nat) (tag code detail : Nat) : State :=
  let seq := s.fld (F.VLG_SEQ_COUNT fn)
  let s := (s.incF (F.VLG_TOTAL_COUNT fn)).setF (F.VLG_SEQ_COUNT fn) (seq + 1)
  let s := s.count 0x05 0 1 { fn := some fn }
  if s.flag (F.VLG_BASE_LO_EN fn) then
    let base := s.fld (F.VLG_BASE_LO_ADDR fn) * 4096 + s.fld (F.VLG_BASE_HI_ADDR fn) * 2 ^ 32
    let s := s.hostWrite fn (base + seq % 256 * 16)
      (leBytes 1 code ++ leBytes 1 ring ++ leBytes 2 tag ++ leBytes 4 seq ++ leBytes 8 detail)
    if s.flag (F.VLG_FN_CTL_IRQ_EN fn) then s.sendVec fn (s.fld (F.VLG_FN_CTL_VECTOR fn)) else s
  else s.incF (F.VLG_DROP_COUNT fn)

/-- DEV_FLAGS of a ring, written to its doorbell record (R84). -/
def State.writeDevFlags (s : State) (f : Fin 16) (r : Fin 64) : State :=
  let g := s.ring f r
  s.hostWrite f (g.db + 10) (leBytes 2 (b2n g.quar + 2 * b2n (s.fenced f)))

/-- Log a violation against a ring: count it, and quarantine the ring when due (R104, R105). -/
def State.violate (s : State) (f : Fin 16) (r : Fin 64) (tag code detail : Nat) : State :=
  let s := s.logEntry f r tag code detail
  if violCounts code then
    let s := s.modRing f r (fun g => { g with vcount := min 255 (g.vcount + 1) })
    let g := s.ring f r
    if !g.quar && max 1 (s.fld F.VLG_QUARANTINE_COUNT_COUNT) ≤ g.vcount then
      let s := s.modRing f r (fun g => { g with quar := true })
      (s.writeDevFlags f r).logEntry f r 0 0x11 0
    else s
  else s

/-- Log a violation whose DETAIL the manual leaves open. -/
def State.violateFree (s : State) (f : Fin 16) (r : Fin 64) (tag code : Nat) : State :=
  let d := s.freeDetail
  d.1.violate f r tag code d.2

/-- Log an event of codes 0x03 to 0x06: at most once per 1 ms for one ring and code (R104). -/
def State.violateOnce (s : State) (f : Fin 16) (r : Fin 64) (code detail : Nat) : State :=
  let g := s.ring f r
  let recent := g.lastLog.any (fun e => e.1 = code && s.clock < e.2 + perMs)
  if recent then s
  else
    let s := s.modRing f r (fun g =>
      { g with lastLog := (code, s.clock) :: g.lastLog.filter (fun e => e.1 ≠ code) })
    s.violate f r 0 code detail

/-! ### Completions -/

/-- Status codes (R98). -/
def stDone : Nat := 0x00
def stDeferred : Nat := 0x01
def stBusError : Nat := 0x04
def stAlign : Nat := 0x05
def stOverlap : Nat := 0x06
def stViolation : Nat := 0x08
def stPermission : Nat := 0x09
def stRevoked : Nat := 0x0A
def stAborted : Nat := 0x0B
def stAbsent : Nat := 0x0C
def stTimeout : Nat := 0x0D
def stFrozen : Nat := 0x0F

/-- Statuses that spoil the trick a descriptor named (R92, R109), those of checks 4 and 5 of R335 and of a
failing blitter list among them. -/
def spoils (st : Nat) : Bool :=
  st = 0x08 || st = 0x09 || st = 0x04 || st = 0x0D || st = 0x0B || st = 0x0A || st = 0x0F ||
  st = 0x05 || st = 0x06

/-- Statuses that signal whatever IRQ says (R99). -/
def alwaysSignals (st : Nat) : Bool := st = 0x08 || st = 0x09 || st = 0x0A

/-- The completion entry of a descriptor as things stand (R97). -/
def State.cplOf (s : State) (h : Hdr) (status : Nat) (detail : Word) : Cpl :=
  let n : Fin 6 := h.headFin.getD 0
  let hd := s.head n
  let on := s.headPresent n && hd.enabled
  { tag := h.tag, status := status
    frame := if on then hd.frame else 0
    line := if on then hd.line else 0
    pixel := if on then hd.sc.scanPixel else 0
    detail := detail
    irq := h.irq || alwaysSignals status }

/-- Room in a completion ring (R81). -/
def RingSt.hasRoom (g : RingSt) : Bool :=
  let n := 2 ^ g.log2n
  (g.cqProd + 1) % n ≠ g.cqCons

/-- Send a ring's message, or mark it due at the end of the holdoff (R99). -/
def State.ringMsg (s : State) (f : Fin 16) (r : Fin 64) : State :=
  let g := s.ring f r
  let ctl := s.reg .HIF_RING_CTL f r
  if g.noIrq then s
  else if g.holdoff then s.modRing f r (fun g => { g with holdoffDue := true })
  else
    let vec := bits ctl 21 16
    let s := if vec < s.fld (F.HIF_FN_CTL_VEC_COUNT f)
      then ((s.emit (.msix f vec)).msixSend f vec).count 0x09 0 1 { fn := some f.val } else s
    if bits ctl 15 8 = 0 then s else s.modRing f r (fun g => { g with holdoff := true })

/-- Write a completion entry into a ring that has room (R97, R98). -/
def State.writeCpl (s : State) (f : Fin 16) (r : Fin 64) (c : Cpl) : State :=
  let g := s.ring f r
  let n := 2 ^ g.log2n
  let s := s.hostWrite f (g.cq + g.cqProd * 16)
    (leBytes 2 c.tag.toNat ++ leBytes 1 c.status ++ leBytes 1 (b2n g.cqPhase) ++
     leBytes 4 c.frame.toNat ++ leBytes 2 c.line ++ leBytes 2 c.pixel ++ leBytes 4 c.detail.toNat)
  let s := s.modRing f r (fun g =>
    { g with cqProd := (g.cqProd + 1) % n
             cqPhase := if g.cqProd + 1 = n then !g.cqPhase else g.cqPhase })
  let s := s.count 0x02 0 1 { fn := some f.val }
  if c.irq then s.ringMsg f r else s

def State.slot (s : State) (id : Nat) : Option Slot := s.hif.slots.find? (fun x => x.id = id)

def State.modSlot (s : State) (id : Nat) (f : Slot → Slot) : State :=
  { s with hif := { s.hif with slots := s.hif.slots.map (fun x => if x.id = id then f x else x) } }

def State.dropSlot (s : State) (id : Nat) : State :=
  { s with hif := { s.hif with slots := s.hif.slots.filter (fun x => x.id ≠ id) } }

def State.trick (s : State) (key : Nat) : Option Trick := s.trk.tricks.find? (fun t => t.key = key)

def State.modTrick (s : State) (key : Nat) (f : Trick → Trick) : State :=
  { s with trk := { s.trk with tricks := s.trk.tricks.map (fun t => if t.key = key then f t else t) } }

/-- Spoil a trick with the first failing descriptor's status and detail (R92). -/
def State.spoil (s : State) (key status : Nat) (detail : Word) : State :=
  s.modTrick key (fun t => match t.spoil with
    | some _ => t
    | none => { t with spoil := some (status, detail) })

/-- Complete a slot: spoil its trick if its status does, then write the entry or hold it (R81, R93).
On a fenced function or a ring being disabled an entry without room is discarded (R83, R102). -/
def State.complete (s : State) (id status : Nat) (detail : Word) : State :=
  match s.slot id with
  | none => s
  | some x =>
    let s := match x.trick with
      | some k => if spoils status && !x.joined then s.spoil k status detail else s
      | none => s
    let f := x.hdr.fn
    let r := x.hdr.ring
    let c := s.cplOf x.hdr status detail
    let g := s.ring f r
    if g.held.isEmpty && g.hasRoom then (s.writeCpl f r c).dropSlot id
    else if s.fenced f || g.phase ≠ .on then s.dropSlot id
    else
      (s.modRing f r (fun g => { g with held := g.held ++ [⟨id, c⟩] })).modSlot id
        (fun x => { x with st := .held })

/-- Complete with a violation or permission failure: log it and put code and SEQ in DETAIL (R98). -/
def State.completeViol (s : State) (id status code detail : Nat) : State :=
  match s.slot id with
  | none => s
  | some x =>
    let seq := s.fld (F.VLG_SEQ_COUNT x.hdr.fn)
    let s := s.violate x.hdr.fn x.hdr.ring x.hdr.tag.toNat code detail
    s.complete id status (BitVec.ofNat 32 (code + 256 * (seq % 2 ^ 24)))

/-- A failed host read of a descriptor's data: AER, log HOST_READ, BUS_ERROR or TIMEOUT (R71, R98). -/
def State.completeReadFail (s : State) (id status : Nat) (addr : BitVec 64) : State :=
  match s.slot id with
  | none => s
  | some x =>
    let s := (s.emit .aer).violate x.hdr.fn x.hdr.ring x.hdr.tag.toNat 0x0F addr.toNat
    s.complete id status (addr.setWidth 32)

/-- A slot's descriptor may touch a device range, as a destination or as a source (R77, R152). With
TRUMP, a destination lies inside the named head's region and a source touches no other head's.
Without it, the range lies inside the windows its function had when it was fetched, the physical
function's reach being all memory, and touches no trump region. -/
def State.slotRange (s : State) (x : Slot) (dst : Bool) (a n : Nat) : Bool :=
  if x.hdr.trumpFlag then
    if dst then (match x.hdr.headFin with
      | some h => decide ((s.trumpRegion h).1 ≤ a ∧ a + n ≤ (s.trumpRegion h).2)
      | none => false)
    else (List.range 6).all (fun h => h = x.hdr.head || !overlaps (a, a + n) (s.trumpRegion h))
  else (x.hdr.fn = 0 || s.inWindow x.tarn x.dram a n) && !s.touchesTrump a n

/-- Write held entries while there is room (R93). -/
def State.writeHeld (s : State) (f : Fin 16) (r : Fin 64) : Nat → State
  | 0 => s
  | fuel + 1 =>
    let g := s.ring f r
    match g.held with
    | [] => if g.cqFullLogged then s.modRing f r (fun g => { g with cqFullLogged := false }) else s
    | h :: rest =>
      if g.hasRoom then
        let s := s.modRing f r (fun g => { g with held := rest })
        let s := (s.writeCpl f r h.cpl).dropSlot h.slot
        s.writeHeld f r fuel
      else s

/-- Slots a function holds (HIF_FN_SLOTS.IN_USE). -/
def State.slotsOf (s : State) (f : Fin 16) : Nat :=
  (s.hif.slots.filter (fun x => x.hdr.fn = f)).length

/-- Slots of one ring. -/
def State.ringSlots (s : State) (f : Fin 16) (r : Fin 64) : List Slot :=
  s.hif.slots.filter (fun x => x.hdr.fn = f && x.hdr.ring = r)

/-- A slot blocked on its function: its entry is held, or its record is unreadable (R101). -/
def State.blockedOnFn (s : State) (f : Fin 16) : Bool :=
  s.hif.slots.any (fun x => x.hdr.fn = f && (x.st = .held || (s.ring f x.hdr.ring).unreadable))

end Sys2Proof.Machine
end

