-- ==== Sys2Proof/Machine/Picture.lean ====
section
/-!
DEFINITION. What a head's composer delivers for a pixel: pixel formats and FEN (R160 to R170),
planes (R173 to R193), objects (R195 to R210), melding (R218 to R226) and the trump plane (R228 to
R230). All functions here only read the state; the beam commands act on their answers.
-/

set_option Elab.async false  -- the joined text is large: no thread per declaration

namespace Sys2Proof.Machine

/-- A pixel with 8-bit components, a 6-bit alpha, and a priority where it has one. -/
structure Px where
  r : Nat := 0
  g : Nat := 0
  b : Nat := 0
  a : Nat := 0
  prio : Option Nat := none
  deriving DecidableEq, Repr

/-- RGB888 word of a pixel's colour (R163). -/
def Px.word (p : Px) : W24 := BitVec.ofNat 24 (p.r * 65536 + p.g * 256 + p.b)

/-- Opaque pixel of an RGB888 word. -/
def rgbPx (w : Nat) : Px := { r := w / 65536 % 256, g := w / 256 % 256, b := w % 256, a := 63 }

/-- Widen a 6-bit component (R164). -/
def widen (v : Nat) : Nat := v * 4 + v / 16

/-- Narrow an 8-bit component (R164). -/
def narrow (v : Nat) : Nat := v / 4

/-- Pixel of an ARGB6666 word (R163, R164). -/
def argbPx (w : Nat) : Px :=
  { r := widen (w / 4096 % 64), g := widen (w / 64 % 64), b := widen (w % 64), a := w / 262144 % 64 }

/-- Bits per pixel of a format code (R160); FEN and reserved codes have none. -/
def bpp (fmt : Nat) : Nat :=
  match fmt with
  | 0 => 1 | 1 => 2 | 2 => 4 | 3 => 8 | 4 => 24 | 5 => 24 | _ => 0

/-- Alignment unit of a format's base: 192 bytes for 24-bit formats, else 64 (R171). -/
def baseUnit (fmt : Nat) : Nat := if fmt = 4 ∨ fmt = 5 then 192 else 64

/-- Raw pixel `x` of a row that starts at `row` (R161, R163). -/
def rawPixel (rd : Nat → Byte) (fmt row x : Nat) : Nat :=
  if bpp fmt = 24 then ofLe [rd (row + 3 * x), rd (row + 3 * x + 1), rd (row + 3 * x + 2)]
  else (rd (row + x * bpp fmt / 8)).toNat / 2 ^ (x * bpp fmt % 8) % 2 ^ bpp fmt

/-- CRC-32 step over one byte (IEEE 802.3, reflected). -/
def crcByte (c : Word) (b : Byte) : Word :=
  (List.range 8).foldl
    (fun c _ => if c.getLsbD 0 then (c >>> 1) ^^^ 0xEDB88320 else c >>> 1)
    (c ^^^ b.setWidth 32)

/-- CRC-32 over a byte string. -/
def crc32 (bs : List Byte) : Word := ~~~(bs.foldl crcByte 0xFFFFFFFF)

/-! ### FEN -/

/-- Read and validate the header at `base`; none is a surface error (R170). A TABLE inside the header counts
among the misaligned ones (DESIGN CHOICE, log entry 88). -/
def fenHeader (s : State) (rd : Nat → Byte) (base : Nat) : Option FenHdr :=
  if !s.present base 64 then none
  else
    let b (o n : Nat) : Nat := ofLe ((List.range n).map (fun k => rd (base + o + k)))
    let hd : FenHdr := { fmt := b 4 1, w := b 6 2, h := b 8 2, table := b 12 4, data := b 16 4, size := b 20 4 }
    let bw := cdiv hd.w 8
    let bh := cdiv hd.h 8
    if b 0 4 = 0x314E4546 ∧ (hd.fmt = 3 ∨ hd.fmt = 4 ∨ hd.fmt = 5) ∧
       1 ≤ hd.w ∧ hd.w ≤ 16384 ∧ 1 ≤ hd.h ∧ hd.h ≤ 16384 ∧
       hd.table % 64 = 0 ∧ 64 ≤ hd.table ∧ hd.data % 64 = 0 ∧
       crc32 ((List.range 24).map (fun k => rd (base + k))) = BitVec.ofNat 32 (b 24 4) ∧
       s.present (base + hd.table) (4 * bw * bh) ∧ s.present (base + hd.data) hd.size
    then some hd else none

/-- A little-endian 32-bit number in memory. -/
def rd32 (rd : Nat → Byte) (a : Nat) : Nat := ofLe ((List.range 4).map (fun k => rd (a + k)))

/-- Bytes of a stored colour of a FEN surface. -/
def FenHdr.px (hd : FenHdr) : Nat := if hd.fmt = 3 then 1 else 3

/-- Address of the table entry of block (bx, by). -/
def FenHdr.entry (hd : FenHdr) (base bx by' : Nat) : Nat := base + hd.table + 4 * (by' * cdiv hd.w 8 + bx)

/-- Bytes of a block, by its code byte (R169). -/
def FenHdr.blockSize (hd : FenHdr) (code : Nat) : Nat :=
  let k := code / 4 % 16 + 1
  match code % 4 with
  | 0 => 1 + hd.px
  | 1 => 1 + k * hd.px + 16
  | 2 => 1 + k * hd.px + 32
  | _ => 1 + 64 * hd.px

/-- The code byte of a block at offset `off` is without error (R170). A PAL4 block whose KM1 is above 3 holds
more colours than its indices reach: that it is a block error too is a choice of the model (DESIGN CHOICE, log
entry 87). -/
def FenHdr.codeOk (hd : FenHdr) (off code : Nat) : Bool :=
  let mode := code % 4
  let km1 := code / 4 % 16
  code / 64 = 0 && ((mode ≠ 0 && mode ≠ 3) || km1 = 0) && (mode ≠ 1 || km1 ≤ 3) &&
    off + hd.blockSize code ≤ hd.size

/-- The block of pixel (x, y): its address and its code, where its entry and its code are without error. -/
def fenBlock (rd : Nat → Byte) (hd : FenHdr) (base bx by' : Nat) : Option (Nat × Nat) :=
  let off := rd32 rd (hd.entry base bx by')
  let code := (rd (base + hd.data + off)).toNat
  if off % 4 ≠ 0 ∨ hd.size ≤ off then none
  else if hd.codeOk off code then some (base + hd.data + off, code) else none

/-- Raw colour of pixel (x, y) of a FEN surface; none is a block error (R169, R170). -/
def fenPixel (rd : Nat → Byte) (hd : FenHdr) (base x y : Nat) : Option Nat :=
  match fenBlock rd hd base (x / 8) (y / 8) with
  | none => none
  | some (blk, code) =>
    let p := hd.px
    let i := y % 8 * 8 + x % 8
    let k := code / 4 % 16 + 1
    let colour (k : Nat) : Nat := ofLe ((List.range p).map (fun j => rd (blk + 1 + k * p + j)))
    let idx (j : Nat) : Nat :=
      if code % 4 = 1 then (rd (blk + 1 + k * p + j / 4)).toNat / 4 ^ (j % 4) % 4
      else (rd (blk + 1 + k * p + j / 2)).toNat / 16 ^ (j % 2) % 16
    match code % 4 with
    | 0 => some (colour 0)
    | 3 => some (colour i)
    | _ => if (List.range 64).all (fun j => idx j < k) then some (colour (idx i)) else none

/-! ### Views of memory -/

/-- Tarn and DRAM as head `n` reads them: replaced pages until its wrap, oldest first (R146). -/
def State.headRead (s : State) (n : Fin 6) (a : Nat) : Byte :=
  match s.oldPages.find? (fun o => o.page = a / 4096 && o.heads.getLsbD n) with
  | some o => o.img.read a
  | none => s.mem.read a

/-- Consecutive bytes as head `n` reads them. -/
def State.headBytes (s : State) (n : Fin 6) (a len : Nat) : List Byte :=
  if s.oldPages.all (fun o => !o.heads.getLsbD n) then s.mem.readBytes a len
  else (pagesOf a len).flatMap (fun g =>
    let lo := max a (g * 4096)
    let k := min (a + len) (g * 4096 + 4096) - lo
    match s.oldPages.find? (fun o => o.page = g && o.heads.getLsbD n) with
    | some o => o.img.readBytes lo k
    | none => s.mem.readBytes lo k)

/-- A 24-bit word of an array (R165). -/
def rd24 (rd : Nat → Byte) (base k : Nat) : Nat :=
  ofLe [rd (base + 3 * k), rd (base + 3 * k + 1), rd (base + 3 * k + 2)]

/-! ### Planes -/

/-- What one source pixel lookup gave: the pixel, a read beyond Tarn (R192), a FEN error and the FEN surface whose
header was read (R170). -/
structure Fetched where
  px : Px := {}
  beyond : Bool := false
  fen : Option Nat := none
  hdr : Option Nat := none
  deriving DecidableEq, Repr

/-- Palette entry `k` of a head (R187). -/
def State.paletteAt (s : State) (rd : Nat → Byte) (n : Fin 6) (k : Nat) : Nat :=
  rd24 rd (s.use (F.PAL_BASE_BASE n) * 64) k

/-- A raw pixel becomes a plane or object pixel (R174, R179). -/
def State.toPx (s : State) (rd : Nat → Byte) (n : Fin 6) (key : Bool) (bank ofs fmt raw : Nat) : Px :=
  if fmt = 4 then rgbPx raw
  else if fmt = 5 then argbPx raw
  else if key ∧ raw = 0 then {}
  else rgbPx (s.paletteAt rd n (bank * 256 + (raw + ofs) % 256))

/-- Tile size in pixels of a TILE code. -/
def tileSize (t : Nat) : Nat := 8 * 2 ^ t

/-- Pattern slot in bytes (R166). -/
def slotBytes (t fmt : Nat) : Nat :=
  let raw := t * cdiv (t * bpp fmt) 8
  cdiv raw (baseUnit fmt) * baseUnit fmt

/-- Surface device address of a bitmap plane (R182). -/
def State.surfBase (s : State) (n : Fin 6) (p : Nat) : Nat :=
  s.use (F.PL_SURF_HI_ADDR n p) * 2 ^ 32 + s.use (F.PL_SURF_LO_ADDR n p)

/-- The header of a FEN surface as head `n` takes it in the present frame: validated when it is first read there,
and kept (R170). -/
def State.fenSeen (s : State) (n : Fin 6) (rd : Nat → Byte) (base : Nat) : Option FenHdr :=
  match (s.head n).tot.seen.hdrs.find? (fun e => e.1 = base) with
  | some e => e.2
  | none => fenHeader s rd base

/-- Is a table of `words` 24-bit words at a 64-byte-unit base usable (R191)? -/
def State.tableBad (s : State) (base words : Nat) : Bool :=
  base % 3 ≠ 0 || (0 < words && s.tarnTop < base * 64 + 3 * words)

/-- A breach of R191 that makes plane `p` transparent for the whole line. A column-scroll table set out of Tarn
within the line (`mid`) is no breach of that line: its words that cannot be read are R192's. -/
def State.planeBreach (s : State) (n : Fin 6) (p width : Nat) (mid : Bool) : Bool :=
  let fmt := s.use (F.PL_CTL_FMT n p)
  let tileMode := s.use (F.PL_CTL_MODE n p) = 0
  let edge := s.use (F.PL_CTL_EDGE n p)
  let aff := s.use (F.PL_CTL_AFFINE n p) = 1
  let wl := s.use (F.PL_MAPDIM_W_LOG2 n p)
  let hl := s.use (F.PL_MAPDIM_H_LOG2 n p)
  let dimBad := tileMode && (wl < 4 || 11 < wl || hl < 4 || 11 < hl)
  let sw := s.use (F.PL_SURF_DIM_WIDTH n p) + 1
  let sh := s.use (F.PL_SURF_DIM_HEIGHT n p) + 1
  let pitch := s.use (F.PL_SURF_PITCH_PITCH n p) * 64
  fmt = 7 || (fmt = 6 && tileMode) || (tileMode && s.use (F.PL_CTL_TILE n p) = 3) ||
  edge = 3 || (edge = 2 && !aff) || (aff && p < 14) || dimBad ||
  (tileMode && s.tableBad (s.use (F.PL_MAP_BASE n p)) (2 ^ (wl + hl))) ||
  (s.use (F.PL_CSCROLL_EN n p) = 1 && !aff &&
    s.tableBad (s.use (F.PL_CSCROLL_BASE n p)) (if mid then 0 else cdiv width 16)) ||
  (fmt < 4 && s.tableBad (s.use (F.PAL_BASE_BASE n)) 4096) ||
  (tileMode && (fmt = 4 || fmt = 5) && s.use (F.PL_PAT_BASE n p) % 3 ≠ 0) ||
  (!tileMode && fmt < 6 &&
    (s.surfBase n p % baseUnit fmt ≠ 0 || pitch < cdiv (sw * bpp fmt) 8 || pitch = 0 ||
     65536 < pitch || !s.present (s.surfBase n p) (pitch * (sh - 1) + cdiv (sw * bpp fmt) 8)))

/-- Affine coordinate (R185): origin, two coefficients, output pixel. -/
def affine (o a b : Int) (x y : Nat) : Int := (o * 256 + a * x + b * y) / 65536

/-- Plane coordinate and extent rule: none is transparent (R181, R185). -/
def edgeRule (edge ext : Nat) (u : Int) : Option Nat :=
  if 0 ≤ u ∧ u < ext then some u.toNat
  else match edge with
    | 0 => if ext = 0 then none else some (u % (ext : Int)).toNat
    | 2 => some (if u < 0 then 0 else ext - 1)
    | _ => none

/-- Column offset of R183, and whether its word lay beyond Tarn (R192). -/
def State.columnOfs (s : State) (rd : Nat → Byte) (n : Fin 6) (p x : Nat) : Int × Bool :=
  if s.use (F.PL_CSCROLL_EN n p) = 1 then
    let a := s.use (F.PL_CSCROLL_BASE n p) * 64
    if s.tarnTop < a + 3 * (x / 16 + 1) then (0, true)
    else (signed 16 (rd24 rd a (x / 16)), false)
  else (0, false)

/-- Plane coordinate of output pixel (x, y) for extents `eu`, `ev` (R181, R185). -/
def State.planeCoord (s : State) (rd : Nat → Byte) (n : Fin 6) (p x y eu ev : Nat) :
    Option (Nat × Nat) × Bool :=
  let edge := s.use (F.PL_CTL_EDGE n p)
  if s.use (F.PL_CTL_AFFINE n p) = 1 then
    let q := p - 14
    let v (f : Fld) : Int := signed 24 (s.use f)
    let ox := v (F.AFF_OX_HI_V n q) * 256 + s.use (F.AFF_OX_LO_V n q)
    let oy := v (F.AFF_OY_HI_V n q) * 256 + s.use (F.AFF_OY_LO_V n q)
    let u := edgeRule edge eu (affine ox (v (F.AFF_A_V n q)) (v (F.AFF_B_V n q)) x y)
    let w := edgeRule edge ev (affine oy (v (F.AFF_C_V n q)) (v (F.AFF_D_V n q)) x y)
    ((match u, w with | some a, some b => some (a, b) | _, _ => none), false)
  else
    let cs := s.columnOfs rd n p x
    let sx : Int := x + s.use (F.PL_SCROLL_X_X n p)
    let sy : Int := y + s.use (F.PL_SCROLL_Y_Y n p) + cs.1
    let m (e : Nat) (z : Int) : Option Nat :=
      if edge = 0 then (if e = 0 then none else some (z % (e : Int)).toNat)
      else
        let w := (z % 65536).toNat
        if w < e then some w else none
    ((match m eu sx, m ev sy with | some a, some b => some (a, b) | _, _ => none), cs.2)

/-- The pixel plane `p` of head `n` delivers at (x, y), its setting being without breach. -/
def State.planePx (s : State) (rd : Nat → Byte) (n : Fin 6) (p x y : Nat) : Fetched :=
  let fmt := s.use (F.PL_CTL_FMT n p)
  let key := s.use (F.PL_CTL_KEY_EN n p) = 1
  let ofs := s.use (F.PL_PALX_IDX_OFS n p)
  if s.use (F.PL_CTL_MODE n p) = 0 then
    let t := tileSize (s.use (F.PL_CTL_TILE n p))
    let wl := s.use (F.PL_MAPDIM_W_LOG2 n p)
    let hl := s.use (F.PL_MAPDIM_H_LOG2 n p)
    let c := s.planeCoord rd n p x y (2 ^ wl * t) (2 ^ hl * t)
    match c.1 with
    | none => { beyond := c.2 }
    | some (u, v) =>
      let e := rd24 rd (s.use (F.PL_MAP_BASE n p) * 64) (v / t * 2 ^ wl + u / t)
      let px := if e.testBit 20 then t - 1 - u % t else u % t
      let py := if e.testBit 21 then t - 1 - v % t else v % t
      let prio := e / 2 ^ 22 % 4
      let a := s.use (F.PL_PAT_BASE n p) * 64 + e % 65536 * slotBytes t fmt
      if s.tarnTop < a + slotBytes t fmt then { px := { prio := some prio }, beyond := true }
      else
        let raw := rawPixel rd fmt (a + cdiv (t * bpp fmt) 8 * py) px
        { px := { s.toPx rd n key (e / 65536 % 16) ofs fmt raw with prio := some prio }
          beyond := c.2 }
  else
    let prio := some (s.use (F.PL_PALX_PRIO n p))
    let bank := s.use (F.PL_PALX_BANK n p)
    let base := s.surfBase n p
    if fmt = 6 then
      match s.fenSeen n rd base with
      | none => { px := { prio := prio }, fen := some base, hdr := some base }
      | some hd =>
        let c := s.planeCoord rd n p x y hd.w hd.h
        match c.1 with
        | none => { px := { prio := prio }, beyond := c.2, hdr := some base }
        | some (u, v) =>
          match fenPixel rd hd base u v with
          | none => { px := { prio := prio }, beyond := c.2, fen := some base, hdr := some base }
          | some raw =>
            if hd.fmt = 3 ∧ s.tableBad (s.use (F.PAL_BASE_BASE n)) 4096
            then { px := { prio := prio }, beyond := c.2, hdr := some base }
            else { px := { s.toPx rd n key bank ofs hd.fmt raw with prio := prio }, beyond := c.2, hdr := some base }
    else
      let c := s.planeCoord rd n p x y (s.use (F.PL_SURF_DIM_WIDTH n p) + 1)
        (s.use (F.PL_SURF_DIM_HEIGHT n p) + 1)
      match c.1 with
      | none => { px := { prio := prio }, beyond := c.2 }
      | some (u, v) =>
        let raw := rawPixel rd fmt (base + s.use (F.PL_SURF_PITCH_PITCH n p) * 64 * v) u
        { px := { s.toPx rd n key bank ofs fmt raw with prio := prio }, beyond := c.2 }

/-! ### Objects -/

/-- Fields of a deck entry (R196). -/
def ObjSel.key (o : ObjSel) : Bool := o.w0.getLsbD 23
def ObjSel.fmt (o : ObjSel) : Nat := o.w0.toNat / 2 ^ 20 % 8
def ObjSel.w (o : ObjSel) : Nat := (o.w0.toNat / 2 ^ 14 % 64 + 1) * 8
def ObjSel.x (o : ObjSel) : Int := signed 14 o.w0.toNat
def ObjSel.h (o : ObjSel) : Nat := (o.w1.toNat / 2 ^ 14 % 64 + 1) * 8
def ObjSel.y (o : ObjSel) : Int := signed 14 o.w1.toNat
def ObjSel.bank (o : ObjSel) : Nat := o.w2.toNat / 2 ^ 20
def ObjSel.base (o : ObjSel) : Nat := o.w2.toNat % 2 ^ 20
def ObjSel.en (o : ObjSel) : Bool := o.w3.getLsbD 23
def ObjSel.prio (o : ObjSel) : Nat := o.w3.toNat / 2 ^ 21 % 4
def ObjSel.group (o : ObjSel) : Nat := o.w3.toNat / 2 ^ 18 % 8
def ObjSel.blend (o : ObjSel) : Nat := o.w3.toNat / 2 ^ 15 % 8
def ObjSel.zoom (o : ObjSel) : Nat := o.w3.toNat / 2 ^ 13 % 4 + 1
def ObjSel.vmir (o : ObjSel) : Bool := o.w3.getLsbD 12
def ObjSel.hmir (o : ObjSel) : Bool := o.w3.getLsbD 11
def ObjSel.alpha (o : ObjSel) : Nat := o.w3.toNat % 64

/-- OFS_X and OFS_Y of an OBJ_OFS word. -/
def ofsX (w : Word) : Int := signed 14 (bits w 13 0)
def ofsY (w : Word) : Int := signed 14 (bits w 29 16)

/-- Coverage of an object under an OBJ_OFS, clipped to the active size; none when empty (R197). -/
def ObjSel.box (o : ObjSel) (ofs : Word) (w h : Nat) : Option Box :=
  let l := o.x + ofsX ofs
  let t := o.y + ofsY ofs
  let r := l + o.w * o.zoom - 1
  let b := t + o.h * o.zoom - 1
  if r < 0 ∨ b < 0 ∨ (w : Int) ≤ l ∨ (h : Int) ≤ t then none
  else some ⟨(max l 0).toNat, (max t 0).toNat, (min r (w - 1)).toNat, (min b (h - 1)).toNat⟩

/-- Does an object intersect line `y` (R203)? -/
def ObjSel.meets (o : ObjSel) (ofs : Word) (w h y : Nat) : Bool :=
  o.en && (match o.box ofs w h with | some b => b.t ≤ y && y ≤ b.b | none => false)

/-- A breach of R209. -/
def State.objBreach (s : State) (o : ObjSel) : Bool :=
  o.fmt = 7 || 5 ≤ o.blend || ((o.fmt = 4 || o.fmt = 5) && o.base % 3 ≠ 0) ||
  (o.fmt < 6 && s.tarnTop < o.base * 64 + cdiv (o.h * o.w * bpp o.fmt) 8)

/-- The object pixel at output (x, y), which it covers (R199, R200). -/
def State.objPx (s : State) (rd : Nat → Byte) (n : Fin 6) (o : ObjSel) (ofs : Word) (x y : Nat) : Fetched :=
  let dx := ((x : Int) - (o.x + ofsX ofs)).toNat
  let dy := ((y : Int) - (o.y + ofsY ofs)).toNat
  let sx0 := dx / o.zoom
  let sy0 := dy / o.zoom
  let sx := if o.hmir then o.w - 1 - sx0 else sx0
  let sy := if o.vmir then o.h - 1 - sy0 else sy0
  let scale (p : Px) : Px := { p with a := (p.a * o.alpha + 31) / 63, prio := some o.prio }
  let a := o.base * 64
  let palBad := s.tableBad (s.use (F.PAL_BASE_BASE n)) 4096
  if s.objBreach o then { px := { prio := some o.prio } }
  else if o.fmt = 6 then
    match s.fenSeen n rd a with
    | none => { px := { prio := some o.prio }, fen := some a, hdr := some a }
    | some hd =>
      if hd.w ≤ sx ∨ hd.h ≤ sy then { px := { prio := some o.prio }, hdr := some a }
      else match fenPixel rd hd a sx sy with
        | none => { px := { prio := some o.prio }, fen := some a, hdr := some a }
        | some raw =>
          if hd.fmt = 3 ∧ palBad then { px := { prio := some o.prio }, hdr := some a }
          else { px := scale (s.toPx rd n o.key o.bank 0 hd.fmt raw), hdr := some a }
  else if o.fmt < 4 ∧ palBad then { px := { prio := some o.prio } }
  else
    { px := scale (s.toPx rd n o.key o.bank 0 o.fmt
        (rawPixel rd o.fmt (a + o.w * bpp o.fmt / 8 * sy) sx)) }

/-! ### Blending -/

/-- ALPHA of R220 on one component. -/
def alphaMix (cs a cd ad : Nat) : Nat :=
  let t := a + (ad * (63 - a) + 31) / 63
  if t = 0 then 0 else (63 * a * cs + ad * (63 - a) * cd + 63 * t / 2) / (63 * t)

/-- Result alpha of ALPHA. -/
def alphaOut (a ad : Nat) : Nat := a + (ad * (63 - a) + 31) / 63

/-- One component of a blend operation, codes 0 to 4 (R220). -/
def blendComp (op cs a cd ad : Nat) : Nat :=
  match op with
  | 0 => if a = 0 then cd else cs
  | 2 => if ad = 0 then alphaMix cs a cd ad else min 255 (cd + (a * cs + 31) / 63)
  | 3 => if ad = 0 then alphaMix cs a cd ad else cd - (a * cs + 31) / 63
  | 4 => if ad = 0 then alphaMix cs a cd ad
         else (a * ((cs * cd + 127) / 255) + (63 - a) * cd + 31) / 63
  | _ => alphaMix cs a cd ad

/-- Alpha of a blend operation, codes 0 to 4 (R220). -/
def blendAlpha (op a ad : Nat) : Nat :=
  match op with
  | 0 => if a = 0 then ad else 63
  | 2 | 3 | 4 => if ad = 0 then a else ad
  | _ => alphaOut a ad

/-- Blend a source pixel with effective alpha `a` over a destination; the priority stays. -/
def blend (op a : Nat) (src dst : Px) : Px :=
  { dst with
    r := blendComp op src.r a dst.r dst.a
    g := blendComp op src.g a dst.g dst.a
    b := blendComp op src.b a dst.b dst.a
    a := blendAlpha op a dst.a }

/-- The KEY operation, code 5: the destination where the source colour matches (R220, R224). -/
def blendKey (key mask a : Nat) (src dst : Px) : Px :=
  if (src.word ^^^ BitVec.ofNat 24 key) &&& BitVec.ofNat 24 mask = 0
  then { dst with a := alphaOut a dst.a }
  else blend 1 a src dst

/-- The group-buffer pixel of group `g` at (x, y): its objects blended back to front (R201), and what was fetched
for it. -/
def State.groupPx (s : State) (rd : Nat → Byte) (n : Fin 6) (objs : List ObjSel) (ofs : Word)
    (w h g x y : Nat) : Px × List Fetched :=
  (objs.reverse.filter (fun o => o.group = g)).foldl (fun (acc : Px × List Fetched) o =>
    match o.box ofs w h with
    | some b =>
      if b.l ≤ x ∧ x ≤ b.r ∧ b.t ≤ y ∧ y ≤ b.b then
        let f := s.objPx rd n o ofs x y
        let q := blend o.blend f.px.a f.px acc.1
        let q := if f.px.a = 0 then { q with prio := acc.1.prio } else { q with prio := f.px.prio }
        (q, f :: acc.2)
      else acc
    | none => acc) ({}, [])

/-! ### Melding -/

/-- Is plane `p` enabled on head `n`? -/
def State.planeOn (s : State) (n : Fin 6) (p : Nat) : Bool := s.use (F.PL_CTL_EN n p) = 1

/-- Step `k` is skipped on every pixel: reserved SRC or OP (R226). -/
def badStep (st : Word) : Bool := 26 ≤ bits st 4 0 || 6 ≤ bits st 7 5

/-- Steps in force: 0 to STEPS (R222). -/
def State.meldSteps (s : State) (n : Fin 6) : List Word :=
  (List.range (s.use (F.MELD_CTL_STEPS n) + 1)).map (fun k => s.useReg .MELD_STEP n k)

def State.meldListEn (s : State) (n : Fin 6) : Bool := s.use (F.MELD_CTL_LIST_EN n) = 1

/-- Is a source (0 to 15 plane, 16 to 23 group) fetched and costed on a line (R222, R225)? -/
def State.sourceLive (s : State) (n : Fin 6) (shed : Bool) (src : Nat) : Bool :=
  if !shed then true
  else if s.meldListEn n then
    (s.meldSteps n).any (fun st => !badStep st && !bit st 21 && bits st 4 0 = src)
  else if src < 16 then !(s.use (F.MELD_FSHED_PLANES n)).testBit src
  else !(s.use (F.MELD_FSHED_GROUPS n)).testBit (src - 16)

/-- Window test of a step (R223). -/
def State.windowPass (s : State) (n : Fin 6) (st : Word) (x y : Nat) : Bool :=
  let mask := bits st 19 12
  if mask = 0 then true
  else
    let inside := (List.range 8).any (fun w => mask.testBit w &&
      s.use (F.WIN_X_LEFT n w) ≤ x && x ≤ s.use (F.WIN_X_RIGHT n w) &&
      s.use (F.WIN_Y_TOP n w) ≤ y && y ≤ s.use (F.WIN_Y_BOTTOM n w))
    if bit st 20 then !inside else inside

/-- Sources of one pixel: sixteen planes (none where disabled) and eight groups. -/
structure Layers where
  planes : List (Option Px)
  groups : List Px
  deriving DecidableEq, Repr

/-- Effective alpha of plane `p`'s pixel (R218). -/
def State.planeAlpha (s : State) (n : Fin 6) (p : Nat) (px : Px) : Nat :=
  (px.a * s.use (F.PL_PALX_ALPHA n p) + 31) / 63

/-- Fixed priority order (R221, R225). -/
def State.meldFixed (s : State) (n : Fin 6) (shed : Bool) (ly : Layers) (bg : Px) : Px :=
  [0, 1, 2, 3].foldl (fun acc pr =>
    let acc := (List.range 16).reverse.foldl (fun acc p =>
      match ly.planes[p]?.join with
      | some px =>
        if px.prio = some pr ∧ s.sourceLive n shed p then blend 1 (s.planeAlpha n p px) px acc else acc
      | none => acc) acc
    (List.range 8).reverse.foldl (fun acc g =>
      match ly.groups[g]? with
      | some px =>
        if px.prio = some pr ∧ s.sourceLive n shed (16 + g) then blend 1 px.a px acc else acc
      | none => acc) acc) bg

/-- Source of a meld step: colour pixel and alpha before the step's own; none skips (R218, R222). -/
def State.stepSource (s : State) (n : Fin 6) (st : Word) (ly : Layers) (acc : Px) : Option (Px × Nat) :=
  let src := bits st 4 0
  let prioOk (p : Px) : Bool := match p.prio with | some k => (bits st 11 8).testBit k | none => false
  if src < 16 then
    match ly.planes[src]?.join with
    | some px => if prioOk px then some (px, s.planeAlpha n src px) else none
    | none => none
  else if src < 24 then
    match ly.groups[src - 16]? with
    | some px => if prioOk px then some (px, px.a) else none
    | none => none
  else if src = 24 then some (acc, 63)
  else some (rgbPx (s.use (F.MELD_CONST_COLOUR n)), 63)

/-- The meld list (R222 to R226). -/
def State.meldList (s : State) (n : Fin 6) (shed : Bool) (ly : Layers) (x y : Nat) (bg : Px) : Px :=
  (s.meldSteps n).foldl (fun acc st =>
    if badStep st || (shed && bit st 21) || !s.windowPass n st x y then acc
    else match s.stepSource n st ly acc with
      | none => acc
      | some (px, a0) =>
        let a := (a0 * bits st 27 22 + 31) / 63
        if bits st 7 5 = 5 then
          let key := if bit st 28 then s.use (F.MELD_KEY1_COLOUR n) else s.use (F.MELD_KEY0_COLOUR n)
          let mask := if bit st 28 then s.use (F.MELD_KMASK1_COLOUR n) else s.use (F.MELD_KMASK0_COLOUR n)
          blendKey key mask a px acc
        else blend (bits st 7 5) a px acc) bg

/-! ### The trump plane -/

/-- Trump source geometry: start, pitch, width, height; none when R228 disables it. The bench
indicator starts OFS units into the region (R399). -/
def State.trumpSource (s : State) (n : Fin 6) : Option (Nat × Nat × Nat × Nat) :=
  let rg := s.trumpRegionUse n
  let ofs := if (s.head n).bench then s.use (F.CWY_BENCH_HD_OFS n) * 0x10000 else 0
  let start := cdiv (rg.1 + ofs) 192 * 192
  let w := s.use (F.TRUMP_SRC_WIDTH n) + 1
  let h := s.use (F.TRUMP_SRC_HEIGHT n) + 1
  let pitch := cdiv (3 * w) 64 * 64
  if 1920 < w ∨ 1080 < h ∨ rg.2 < start + pitch * (h - 1) + 3 * w then none
  else some (start, pitch, w, h)

/-- Trump pixel at (x, y), if the plane covers it (R228). -/
def State.trumpPx (s : State) (rd : Nat → Byte) (n : Fin 6) (x y : Nat) : Option Px :=
  if s.use (F.TRUMP_CTL_EN n) = 0 then none
  else match s.trumpSource n with
    | none => none
    | some (start, pitch, w, h) =>
      let sc := s.use (F.TRUMP_CTL_SCALE n) + 1
      let tx := s.use (F.TRUMP_POS_X n)
      let ty := s.use (F.TRUMP_POS_Y n)
      if tx ≤ x ∧ x < tx + w * sc ∧ ty ≤ y ∧ y < ty + h * sc then
        some (argbPx (rawPixel rd 5 (start + pitch * ((y - ty) / sc)) ((x - tx) / sc)))
      else none

/-- The trump stage: output colour and trump mask bit (R229). -/
def State.trumpStage (s : State) (rd : Nat → Byte) (n : Fin 6) (x y : Nat) (acc : Px) : W24 × Bool :=
  match s.trumpPx rd n x y with
  | none => (acc.word, false)
  | some t =>
    let floor := max 1 (s.use (F.TRUMP_CTL_FLOOR n))
    if floor ≤ t.a then (t.word, true)
    else if t.a = 0 then (acc.word, false)
    else ((blend 1 t.a t acc).word, false)

/-! ### One output pixel -/

/-- What composing one pixel gave: the output, planes with a read beyond Tarn, FEN surfaces in
error with the plane (or 0xFF for an object), FEN surfaces read. -/
structure Composed where
  out : W24
  mask : Bool
  beyond : List Nat
  fen : List (Nat × Nat)
  hdrs : List Nat
  deriving DecidableEq, Repr

/-- Device address of the early plane's FEN surface, in the slot in force (R427). -/
def State.earlyBase (s : State) : Option Nat :=
  match s.jrnl.inForce with
  | some k => match s.jrnl.slots[k].scene with
    | some c => c.early.map (·.1)
    | none => none
  | none => none

/-- A pixel of BRING-UP: the early plane over MELD_BG, under the trump plane (R427). -/
def State.earlyPx (s : State) (n : Fin 6) (x y : Nat) : Composed :=
  let rd := s.headRead n
  let bg := rgbPx (s.use (F.MELD_BG_COLOUR n))
  let got : Px × List (Nat × Nat) := match s.earlyBase with
    | none => (bg, [])
    | some base =>
      match s.fenSeen n rd base with
      | none => (bg, [(0, base)])
      | some hd =>
        if hd.w ≤ x ∨ hd.h ≤ y then (bg, [])
        else match fenPixel rd hd base x y with
          | none => (bg, [(0, base)])
          | some raw =>
            let px := if hd.fmt = 5 then argbPx raw else rgbPx raw
            (blend 1 px.a px bg, [])
  let o := s.trumpStage rd n x y got.1
  { out := o.1, mask := o.2, beyond := [], fen := got.2, hdrs := s.earlyBase.toList }

/-- Compose one pixel of an active line of head `n` (R218 to R230). -/
def State.composePx (s : State) (n : Fin 6) (x y : Nat) : Composed :=
  let h := s.head n
  let rd := s.headRead n
  if h.fb then
    let o := s.trumpStage rd n x y (rgbPx (s.use (F.TRUMP_FB_BG_COLOUR n)))
    { out := o.1, mask := o.2, beyond := [], fen := [], hdrs := [] }
  else if h.early then s.earlyPx n x y
  else
    let pl : List (Option Fetched) := (List.range 16).map (fun p =>
      if s.planeOn n p && s.sourceLive n h.marked p then
        if h.badPl.getLsbD p then
          some { px := { prio := some 0 } }
        else some (s.planePx rd n p x y)
      else none)
    let gr := (List.range 8).map (fun g =>
      if s.sourceLive n h.marked (16 + g)
      then s.groupPx rd n h.ev.objs h.ev.objOfs h.info.w h.info.h g x y else ({}, []))
    let ly : Layers := { planes := pl.map (fun f => f.map (·.px)), groups := gr.map (·.1) }
    let bg := rgbPx (s.use (F.MELD_BG_COLOUR n))
    let acc := if s.meldListEn n then s.meldList n h.marked ly x y bg
      else s.meldFixed n h.marked ly bg
    let o := s.trumpStage rd n x y acc
    { out := o.1, mask := o.2
      beyond := (List.range 16).filter (fun p =>
        match pl[p]?.join with | some f => f.beyond | none => false)
      fen := ((List.range 16).filterMap (fun p =>
          match pl[p]?.join with | some f => f.fen.map (fun a => (p, a)) | none => none)) ++
        ((gr.flatMap (·.2)).filterMap (·.fen)).map (fun a => (0xFF, a))
      hdrs := (pl.filterMap (fun f => f.bind (·.hdr))) ++ (gr.flatMap (·.2)).filterMap (·.hdr) }

/-- Pixel-layer operations of 16 pixels from `x` (R173, R202, R228), for LAYER_OPS. -/
def State.layerOps (s : State) (n : Fin 6) (x y w : Nat) : Nat :=
  let h := s.head n
  let hi := min (x + 16) w
  let planes := if h.fb then 0 else if h.early then 1 else
    ((List.range 16).filter (fun p => s.planeOn n p && s.sourceLive n h.marked p)).length
  let objs := if h.fb || h.early then 0 else
    (h.ev.objs.map (fun o => if s.sourceLive n h.marked (16 + o.group) then
      (match o.box h.ev.objOfs h.info.w h.info.h with
        | some b => if b.t ≤ y ∧ y ≤ b.b then min hi (b.r + 1) - max x b.l else 0
        | none => 0) else 0)).sum
  let trump := ((List.range (hi - x)).filter (fun k =>
    (s.trumpPx (s.headRead n) n (x + k) y).isSome)).length
  planes * (hi - x) + objs + trump

end Sys2Proof.Machine
end

