-- ==== Sys2Proof/Machine/Graph.lean ====
section
/-!
DEFINITION. Mix-program images: the words of the program (R358), the sections of an image (R363)
and the format checks of GRAPH_LOAD (R364).
-/

set_option Elab.async false  -- the joined text is large: no thread per declaration

namespace Sys2Proof.Machine

/-! ### Program words -/

/-- A mix-program word: OP, X, Y, N (R358). -/
def encMix (op x y n : Nat) : Word := BitVec.ofNat 32 (op * 2 ^ 26 + x * 2 ^ 16 + y * 2 ^ 6 + n)

def mixOp (w : Word) : Nat := bits w 31 26
def mixX (w : Word) : Nat := bits w 25 16
def mixY (w : Word) : Nat := bits w 15 6
def mixN (w : Word) : Nat := bits w 5 0

/-- FCLK cycles of an instruction (R358). -/
def mixCycles (w : Word) : Nat :=
  match mixOp w with
  | 0x0C => 5
  | 0x0E | 0x0F => 2
  | _ => 1

/-- Operand fields of an opcode: X, Y, N used; none for a reserved opcode. -/
def mixForm (op : Nat) : Option (Bool × Bool × Bool) :=
  match op with
  | 0x00 | 0x01 | 0x11 => some (false, false, false)
  | 0x02 | 0x03 | 0x04 | 0x05 | 0x0A | 0x0B | 0x0D | 0x0F => some (true, false, false)
  | 0x06 | 0x07 | 0x08 | 0x09 | 0x0C | 0x0E => some (true, true, false)
  | 0x10 => some (false, false, true)
  | _ => none

/-! ### Ports (R362) -/

/-- An input port code that domain `d` may use; reserved codes are refused. -/
def inPortOk (d x : Nat) : Bool :=
  if x < 0x40 then d = 0
  else if 0x80 ≤ x ∧ x < 0x100 then true
  else if 0x100 ≤ x ∧ x < 0x110 then d ≠ 0
  else if x = 0x110 then d = 1
  else 0x120 ≤ x && x < 0x130

/-- An output port code that domain `d` may use. -/
def outPortOk (d x : Nat) : Bool :=
  if x < 0x30 then d ≠ 0
  else if 0x40 ≤ x ∧ x < 0x50 then d ≠ 0
  else if x = 0x50 ∨ x = 0x51 then d = 1
  else if 0x60 ≤ x ∧ x < 0x80 then d ≠ 0
  else 0x80 ≤ x && x < 0x90

/-! ### Images (R363) -/

/-- Number in bytes `off` to `off + n − 1` of an image. -/
def imgAt (b : List Byte) (off n : Nat) : Nat := ofLe ((b.drop off).take n)

/-- Entries of a section: the byte strings of `cnt` entries of `size` bytes at `off`. -/
def imgEntries (b : List Byte) (off size : Nat) : Nat → List (List Byte)
  | 0 => []
  | cnt + 1 => (b.drop off).take size :: imgEntries b (off + size) size cnt

def imgWords (b : List Byte) (off cnt : Nat) : List Word :=
  (imgEntries b off 4 cnt).map (fun e => BitVec.ofNat 32 (ofLe e))

def rampOf (e : List Byte) : RampDecl :=
  { slot := imgAt e 0 1, route := imgAt e 1 1 = 1
    set := (imgAt e 2 1).testBit 0, retire := (imgAt e 2 1).testBit 1
    id := imgAt e 4 2, time := imgAt e 6 2, gain := signed 24 (imgAt e 8 3) }

def dlyOf (e : List Byte) : DlyDecl :=
  { line := imgAt e 0 1, carry := (imgAt e 1 1).testBit 0, id := imgAt e 2 2,
    base := imgAt e 4 4, len := imgAt e 8 4 }

def limOf (e : List Byte) : LimDecl := { node := imgAt e 0 1, rel := imgAt e 1 1, thresh := imgAt e 2 1 }

/-- The sections of an image: count, entry size, offset field (R363). -/
def imgSections (b : List Byte) : List (Nat × Nat × Nat) :=
  [(imgAt b 6 2, 4, imgAt b 20 4), (imgAt b 8 2, 4, imgAt b 24 4), (imgAt b 10 2, 4, imgAt b 28 4),
   (imgAt b 12 2, 12, imgAt b 32 4), (imgAt b 14 2, 4, imgAt b 36 4), (imgAt b 16 1, 12, imgAt b 40 4),
   (imgAt b 17 1, 4, imgAt b 44 4)]

/-- The image taken apart. -/
def imgParse (b : List Byte) : AudImage :=
  { domain := imgAt b 4 1
    xfade := imgAt b 18 2
    prog := imgWords b (imgAt b 20 4) (imgAt b 6 2)
    coef := (imgWords b (imgAt b 24 4) (imgAt b 8 2)).map (fun w => w.setWidth 24)
    samp := imgWords b (imgAt b 28 4) (imgAt b 10 2)
    ramps := (imgEntries b (imgAt b 32 4) 12 (imgAt b 12 2)).map rampOf
    carry := (imgEntries b (imgAt b 36 4) 4 (imgAt b 14 2)).map (fun e => (imgAt e 0 2, imgAt e 2 2))
    delays := (imgEntries b (imgAt b 40 4) 12 (imgAt b 16 1)).map dlyOf
    lims := (imgEntries b (imgAt b 44 4) 4 (imgAt b 17 1)).map limOf }

/-- No value twice. -/
def noRepeat : List Nat → Bool
  | [] => true
  | a :: as => !as.contains a && noRepeat as

/-- Header: MAGIC, CRC, counts in range, reserved bytes, sections within the image. -/
def imgHeaderOk (b : List Byte) : Bool :=
  b.take 4 = [0x43, 0x4C, 0x4D, 0x31] &&
  imgAt b 4 1 ≤ 2 && imgAt b 5 1 = 0 &&
  1 ≤ imgAt b 6 2 && imgAt b 6 2 ≤ 4096 && imgAt b 8 2 ≤ 1024 && imgAt b 10 2 ≤ 1024 &&
  imgAt b 12 2 ≤ 256 && imgAt b 14 2 ≤ 1024 && imgAt b 16 1 ≤ 32 && imgAt b 17 1 ≤ 8 &&
  imgAt b 18 2 ≤ 500 && imgAt b 52 12 = 0 &&
  (imgSections b).all (fun (c, sz, off) => off % 4 = 0 && off + c * sz ≤ b.length) &&
  crc32 (b.take 48 ++ [0, 0, 0, 0] ++ b.drop 52) = BitVec.ofNat 32 (imgAt b 48 4)

/-- Bytes of the entries that must be 0, and flags and times in range. -/
def imgEntriesOk (b : List Byte) : Bool :=
  (imgWords b (imgAt b 24 4) (imgAt b 8 2)).all (fun w => bits w 31 24 = 0) &&
  (imgEntries b (imgAt b 32 4) 12 (imgAt b 12 2)).all (fun e =>
    imgAt e 1 1 ≤ 1 && imgAt e 2 1 ≤ 3 && imgAt e 3 1 = 0 && imgAt e 11 1 = 0 && imgAt e 6 2 ≤ 500 &&
    !(imgAt e 1 1 = 1 && (imgAt e 2 1).testBit 0) && !(imgAt e 1 1 = 0 && (imgAt e 2 1).testBit 1)) &&
  (imgEntries b (imgAt b 36 4) 4 (imgAt b 14 2)).all (fun e => imgAt e 0 2 < 1024 && imgAt e 2 2 < 1024) &&
  (imgEntries b (imgAt b 40 4) 12 (imgAt b 16 1)).all (fun e =>
    imgAt e 0 1 ≤ 31 && imgAt e 1 1 ≤ 1 && 2 ≤ imgAt e 8 4 && imgAt e 8 4 ≤ 4194304) &&
  (imgEntries b (imgAt b 44 4) 4 (imgAt b 17 1)).all (fun e =>
    imgAt e 0 1 ≤ 7 && 1 ≤ imgAt e 1 1 && imgAt e 3 1 = 0)

/-- A program word against the image's declarations (R364 check 2). -/
def mixWordOk (m : AudImage) (w : Word) : Bool :=
  match mixForm (mixOp w) with
  | none => false
  | some (ux, uy, un) =>
    (ux || mixX w = 0) && (uy || mixY w = 0) && (un || mixN w = 0) &&
    (match mixOp w with
     | 0x08 | 0x09 => m.ramps.any (fun r => r.slot = mixY w)
     | 0x0A => inPortOk m.domain (mixX w)
     | 0x0B => outPortOk m.domain (mixX w)
     | 0x0C => mixX w + 1 < 1024 && mixY w + 4 < 1024
     | 0x0D | 0x0E => m.delays.any (fun d => d.line = mixX w)
     | 0x0F => m.lims.any (fun l => l.node = mixX w)
     | 0x10 => 1 ≤ mixN w && mixN w ≤ 31
     | _ => true)

/-- Check 2 of R364: the image is valid. -/
def imgOk (b : List Byte) : Bool :=
  imgHeaderOk b && imgEntriesOk b &&
  (let m := imgParse b
   noRepeat (m.ramps.map (fun r => r.slot)) &&
   noRepeat ((m.ramps.filter (fun r => r.route)).map (fun r => r.id)) &&
   noRepeat ((m.ramps.filter (fun r => !r.route)).map (fun r => r.id)) &&
   noRepeat (m.delays.map (fun d => d.line)) &&
   noRepeat (m.lims.map (fun l => l.node)) &&
   m.prog.all (mixWordOk m))

/-- Input ports and output ports the program names. -/
def AudImage.inPorts (m : AudImage) : List Nat := (m.prog.filter (fun w => mixOp w = 0x0A)).map mixX
def AudImage.outPorts (m : AudImage) : List Nat := (m.prog.filter (fun w => mixOp w = 0x0B)).map mixX

/-- Check 3 of R364: every port's unit is present (R9). -/
def State.imgPresent (s : State) (m : AudImage) : Bool :=
  m.inPorts.all (fun x => x ≠ 0x110 || s.part.headset) &&
  m.outPorts.all (fun x =>
    if x < 0x30 then s.headPresent (x / 8)
    else if x = 0x50 ∨ x = 0x51 then s.part.headset else true)

end Sys2Proof.Machine
end

