-- ==== Sys2Proof/Machine/Mix.lean ====
section
/-!
DEFINITION. The mix program at work: number formats (R357), ramps (R366 to R368), the limiter
(R361), one operation per instruction (R358 to R362), the start and end of a sample's program
(R347) and the swap of programs (R365, R366).
-/

set_option Elab.async false  -- the joined text is large: no thread per declaration

namespace Sys2Proof.Machine

/-! ### Numbers -/

/-- rnd(x × k) of R357. -/
def rnd (x k : Int) : Int := (x * k + 2 ^ 19) / 2 ^ 20

/-- Clamp to a signed width. -/
def satS (n : Nat) (x : Int) : Int := max (-(2 ^ (n - 1))) (min (2 ^ (n - 1) - 1) x)

/-- ⌊a ÷ b + 1/2⌋. -/
def roundDiv (a b : Nat) : Nat := (2 * a + b) / (2 * b)

/-- Samples in `ms` milliseconds at `num ÷ den` Hz, at least 1 (R350). -/
def msSamples (ms num den : Nat) : Nat := max 1 (roundDiv (ms * num) (den * 1000))

/-- Unity of the 4.20 format. -/
def unity : Int := 0x100000

/-- a ÷ b rounded to one of the two integers around it; which one the manual leaves open. -/
def divFree (stamp idx : Nat) (a b : Int) : Int :=
  if a % b = 0 then a / b else a / b + (if Config.roundUp stamp idx then 1 else 0)

/-! ### Ramps -/

def Ramp.moving (r : Ramp) : Bool := r.k < r.n

/-- At rest at a value. -/
def Ramp.at (v : Int) : Ramp := { start := v, target := v, cur := v }

/-- Start a line from the current value. -/
def Ramp.toward (r : Ramp) (target : Int) (n : Nat) : Ramp :=
  { start := r.cur, target := target, cur := r.cur, k := 0, n := n }

/-- Move once; the last move lands on the target. -/
def Ramp.step (r : Ramp) (stamp idx : Nat) : Ramp :=
  if r.k < r.n then
    { r with k := r.k + 1
             cur := if r.k + 1 = r.n then r.target
               else r.start + divFree stamp idx ((r.target - r.start) * ((r.k + 1 : Nat) : Int)) (r.n : Int) }
  else r

/-- Keep the remaining duration through a change of rate (R348). -/
def Ramp.rescale (r : Ramp) (num den num' den' : Nat) : Ramp :=
  if r.moving then r.toward r.target (max 1 (roundDiv ((r.n - r.k) * num' * den) (den' * num))) else r

/-- A route's line: 1.0 per XFADE_MS, so the time is in proportion to the way (R366). -/
def Ramp.route (r : Ramp) (target : Int) (xfade num den : Nat) : Ramp :=
  if xfade = 0 ∨ r.cur = target then Ramp.at target
  else r.toward target (max 1 (roundDiv ((target - r.cur).natAbs * xfade * num) (0x100000 * den * 1000)))

/-! ### The limiter (R361) -/

/-- Largest `t` below 2^(k) with t^40 × 10^th ≤ 2^920, found bit by bit. -/
def thFind (th : Nat) : Nat → Nat → Nat
  | 0, t => t
  | k + 1, t => thFind th k (if (t + 2 ^ k) ^ 40 * 10 ^ th ≤ 2 ^ 920 then t + 2 ^ k else t)

/-- T: full scale lowered by `th` half decibels, as the greatest whole sample not above it. -/
def limThresh (th : Nat) : Nat := thFind th 24 0

/-- min(1, T ÷ |x|) in 4.20. -/
def capGain (t : Nat) (x : Int) : Nat :=
  if x.natAbs ≤ t then 0x100000 else t * 0x100000 / x.natAbs

/-- Least allowed gain of a sample of several channels. -/
def needGain (t : Nat) (xs : List Int) : Nat := xs.foldl (fun g x => min g (capGain t x)) 0x100000

/-- The gain moved toward 1 for one sample with the time constant `rel` × 10 ms, 0 acting as 1. The exponential's
step lies between (1 − g) ÷ (N + 1) and (1 − g) ÷ N for a constant of N samples; its rounding is free (DESIGN CHOICE,
log entry 91). -/
def limRelease (stamp idx rel num den g : Nat) : Nat :=
  let n := max 1 rel * num
  let lo := (0x100000 - g) * 100 * den / (n + 100 * den)
  let hi := min (0x100000 - g) (((0x100000 - g) * 100 * den + n - 1) / max 1 n)
  g + lo + Config.limGain stamp idx % (hi - lo + 1)

/-- The gain that a straight line from `g` has here when it reaches `need` after `k` more samples. -/
def limLine (stamp idx : Nat) (g need : Nat) (k : Nat) : Nat :=
  (g + divFree stamp (idx + k) ((need : Int) - g) (k + 1)).toNat

/-- The next gain (R361): where a sample of the window needs less than the present gain, the steepest of the
straight lines that reach each need at the sample that has it; else the least of the needs and of the gain moved
toward 1 (DEDUCED, log entry 44). `first` is the number of samples before the oldest of the window leaves. -/
def limGain (stamp idx rel num den first g : Nat) (needs : List Nat) : Nat :=
  let least := needs.foldl min 0x100000
  if least < g then
    (needs.foldl (fun (a : Nat × Nat) need =>
      (if need < g then min a.1 (limLine stamp idx g need a.2) else a.1, a.2 + 1)) (g, first)).1
  else min least (limRelease stamp idx rel num den g)

/-- One sample of one or more channels through a limiter: the signal leaves 1 ms later at the gain of R361. -/
def limStep (stamp idx rel num den t : Nat) (l : LimSt) (x : List Int) : LimSt × List Int :=
  let len := msSamples 1 num den
  let win := l.win ++ [x]
  let full := len < win.length
  let out := if full then win.headD [] else x.map (fun _ => 0)
  let g := limGain stamp idx rel num den (len + 1 - win.length) l.g (win.map (needGain t))
  ({ l with win := if full then win.drop 1 else win, g := g }, out.map (fun y => rnd y g))

/-! ### Access -/

def State.dm (s : State) (d : Fin 3) : AudDom := s.aud.dom[d]

def State.modDom (s : State) (d : Fin 3) (f : AudDom → AudDom) : State :=
  { s with aud := { s.aud with dom := s.aud.dom.set d (f s.aud.dom[d]) } }

/-- Take a fresh stamp for free values. -/
def State.stamp (s : State) : State := { s with free := s.free + 1 }

/-- Take an index off a sparse memory's list: it reads 0. -/
def pairErase {α : Type} : List (Nat × α) → Nat → List (Nat × α)
  | [], _ => []
  | (b, v) :: m, a => if a = b then pairErase m a else (b, v) :: pairErase m a

/-- List a value of a sparse memory, keeping indexes rising. -/
def pairIns {α : Type} : List (Nat × α) → Nat → α → List (Nat × α)
  | [], a, w => [(a, w)]
  | (b, v) :: m, a, w =>
    if a < b then (a, w) :: (b, v) :: m
    else if a = b then (a, w) :: m
    else (b, v) :: pairIns m a w

/-- S[k]: a word of the sample memory. -/
def sAt : List (Nat × Word) → Nat → Int
  | [], _ => 0
  | (b, v) :: m, a => if a = b then v.toInt else sAt m a

def sPut (m : List (Nat × Word)) (a : Nat) (w : Word) : List (Nat × Word) :=
  if w = 0 then pairErase m a else pairIns m a w

/-- C[k]: a word of the coefficient memory. -/
def cAt : List (Nat × W24) → Nat → Int
  | [], _ => 0
  | (b, v) :: m, a => if a = b then v.toInt else cAt m a

def cPut (m : List (Nat × W24)) (a : Nat) (w : W24) : List (Nat × W24) :=
  if w = 0 then pairErase m a else pairIns m a w

def portAt : List (Nat × Int) → Nat → Int
  | [], _ => 0
  | (b, v) :: m, a => if a = b then v else portAt m a

def portPut : List (Nat × Int) → Nat → Int → List (Nat × Int)
  | [], a, v => [(a, v)]
  | (b, w) :: m, a, v => if a = b then (a, v) :: m else (b, w) :: portPut m a v

def AudDom.s (x : AudDom) (k : Nat) : Int := sAt x.samp k
def AudDom.c (x : AudDom) (k : Nat) : Int := cAt x.coef k
def AudDom.a (x : AudDom) : Int := x.acc.toInt

/-- Gain of a ramp slot; 0 where the program declares none. -/
def AudDom.gain (x : AudDom) (k : Nat) : Int :=
  match x.ramps.find? (fun r => r.decl.slot = k) with
  | some r => r.ramp.cur
  | none => 0

def w32 (x : Int) : Word := BitVec.ofInt 32 x

/-- S[k] := x, saturated (R357). -/
def State.setS (s : State) (d : Fin 3) (k : Nat) (x : Int) : State :=
  s.modDom d (fun m => { m with samp := sPut m.samp k (w32 (satS 32 x)) })

/-- A := x; a write that saturates sets SAT (R357). -/
def State.setA (s : State) (d : Fin 3) (x : Int) : State :=
  let s := s.modDom d (fun m => { m with acc := w32 (satS 32 x) })
  if satS 32 x = x then s else s.raiseF (F.AUD_DOM_STAT_SAT d)

/-! ### The instructions -/

def State.mixClr (s : State) (d : Fin 3) : State := s.setA d 0
def State.mixLd (s : State) (d : Fin 3) (x : Nat) : State := s.setA d ((s.dm d).s x)
def State.mixSt (s : State) (d : Fin 3) (x : Nat) : State := s.setS d x (s.dm d).a
def State.mixAdd (s : State) (d : Fin 3) (x : Nat) : State := s.setA d ((s.dm d).a + (s.dm d).s x)
def State.mixSub (s : State) (d : Fin 3) (x : Nat) : State := s.setA d ((s.dm d).a - (s.dm d).s x)
def State.mixMul (s : State) (d : Fin 3) (x y : Nat) : State :=
  s.setA d (rnd ((s.dm d).s x) ((s.dm d).c y))
def State.mixMac (s : State) (d : Fin 3) (x y : Nat) : State :=
  s.setA d ((s.dm d).a + rnd ((s.dm d).s x) ((s.dm d).c y))
def State.mixMulr (s : State) (d : Fin 3) (x y : Nat) : State :=
  s.setA d (rnd ((s.dm d).s x) ((s.dm d).gain y))
def State.mixMacr (s : State) (d : Fin 3) (x y : Nat) : State :=
  s.setA d ((s.dm d).a + rnd ((s.dm d).s x) ((s.dm d).gain y))
def State.mixIn (s : State) (d : Fin 3) (x : Nat) : State := s.setA d (portAt (s.dm d).ins x)

/-- OUT: the later of two values for one port in a sample stays (R362). -/
def State.mixOut (s : State) (d : Fin 3) (x : Nat) : State :=
  s.modDom d (fun m => { m with outs := portPut m.outs x m.a })

/-- BIQ: transposed direct form II (R359). -/
def State.mixBiq (s : State) (d : Fin 3) (x y : Nat) : State :=
  let m := s.dm d
  let a := m.a
  let r := m.s x + rnd a (m.c y)
  let v := satS 32 r
  let s := s.setS d x (m.s (x + 1) + rnd a (m.c (y + 1)) - rnd v (m.c (y + 3)))
  let s := s.setS d (x + 1) (rnd a (m.c (y + 2)) - rnd v (m.c (y + 4)))
  s.setA d r

/-- Declaration and position of a delay line. -/
def AudDom.dly (x : AudDom) (line : Nat) : Option (DlyDecl × DlyPos) :=
  match x.image.bind (fun m => m.delays.find? (fun e => e.line = line)),
        x.delays.find? (fun p => p.line = line) with
  | some e, some p => some (e, p)
  | _, _ => none

/-- Tarn offset of word `k` of a delay line in the domain's delay region (R360, R165). -/
def State.dlyAddr (s : State) (d : Fin 3) (e : DlyDecl) (k : Nat) : Nat :=
  s.fld (F.AUD_DOM_DLY_BASE d) * 0x10000 + (e.base + k) * 3

/-- DWR: the 24-bit saturated A goes to the write position (R360). -/
def State.mixDwr (s : State) (d : Fin 3) (x : Nat) : State :=
  match (s.dm d).dly x with
  | none => s
  | some (e, p) =>
    let v := wrapInt 24 (satS 24 (s.dm d).a)
    (s.poke (s.dlyAddr d e p.pos) (leBytes 3 v)).modDom d (fun m =>
      { m with delays := m.delays.map (fun q => if q.line = x then { q with last := q.pos } else q) })

/-- DRD: offset 0 is the sample the latest DWR wrote; the offset counts modulo the length (R360). -/
def State.mixDrd (s : State) (d : Fin 3) (x y : Nat) : State :=
  match (s.dm d).dly x with
  | none => s.setA d 0
  | some (e, p) =>
    let ofs := wrapInt 22 ((s.dm d).c y) % e.len
    s.setA d (signed 24 (s.mem.word24 (s.dlyAddr d e ((p.last + e.len - ofs) % e.len)) 0).toNat)

/-- LIM: a limiter node on A (R361). -/
def State.mixLim (s : State) (d : Fin 3) (x : Nat) : State :=
  let m := s.dm d
  match m.image.bind (fun i => i.lims.find? (fun l => l.node = x)) with
  | none => s
  | some l =>
    let st := (m.lims.find? (fun q => q.node = x)).getD { node := x }
    let (st', out) := limStep s.free (x * 1000) l.rel m.num m.den (limThresh l.thresh) st [m.a]
    let s := s.stamp.modDom d (fun m =>
      { m with lims := m.lims.filter (fun q => q.node ≠ x) ++ [st'] })
    s.setA d (out.headD 0)

/-- SHR: divide by 2^N, rounding to nearest (R358). -/
def State.mixShr (s : State) (d : Fin 3) (n : Nat) : State :=
  s.setA d (((s.dm d).a + 2 ^ (n - 1)) / 2 ^ n)

/-- SAT: clamp A to the range of a sample. -/
def State.mixSat (s : State) (d : Fin 3) : State := s.setA d (satS 24 (s.dm d).a)

/-! ### Samples -/

/-- End of a sample's program: delay lines advance, the outputs are kept for their tick (R358). -/
def State.endSample (s : State) (d : Fin 3) : State :=
  s.modDom d (fun m =>
    { m with pc := none
             done := m.done ++ [(m.sample, m.outs)]
             delays := m.delays.map (fun p =>
               match m.image.bind (fun i => i.delays.find? (fun e => e.line = p.line)) with
               | some e => { p with pos := (p.pos + 1) % max 1 e.len }
               | none => p) })

/-- Word of the active program at a place. -/
def AudDom.word (m : AudDom) (pc : Nat) : Option Word := m.image.bind (fun i => i.prog[pc]?)

/-! ### Swapping programs (R365, R366) -/

/-- ROUTE slots of the active program whose path the new image omits. -/
def AudDom.omitted (m : AudDom) (i : AudImage) : List RampSlot :=
  m.ramps.filter (fun r => r.decl.route && !i.ramps.any (fun e => e.route && e.id = r.decl.id))

/-- Domain of a DP audio sink by its RATE: MIX or AUX (R369). -/
def dpDomain (rate : Nat) : Nat := if rate = 1 ∨ rate = 3 ∨ rate = 5 then 2 else 1

/-- DP audio settings in force on a head (R316). -/
def State.dpAudOf (s : State) (k : Nat) : Word := if h : k < 6 then (s.head ⟨k, h⟩).dp.dpAud else 0

/-- Domain an input or output port belongs to at present (R362); none: any. -/
def State.inPortDomain (s : State) (x : Nat) : Option Nat :=
  if x < 0x40 then some 0
  else if x < 0x100 then some (1 + s.fld (F.PLAY_CTL_DOMAIN ((x - 0x80) / 8)))
  else if x < 0x110 then some (1 + s.fld (F.TDM_CTL_DOMAIN ((x - 0x100) / 8)))
  else if x < 0x120 then some 1
  else some (s.fld (F.BR_CTL_DST (x - 0x120)))

def State.outPortDomain (s : State) (x : Nat) : Option Nat :=
  if x < 0x30 then some (dpDomain (bits (s.dpAudOf (x / 8)) 19 16))
  else if x < 0x50 then some (1 + s.fld (F.TDM_CTL_DOMAIN ((x - 0x40) / 8)))
  else if x < 0x60 then some 1
  else if x < 0x80 then some (1 + s.fld (F.CAP_CTL_DOMAIN ((x - 0x60) / 4)))
  else some (s.fld (F.BR_CTL_SRC (x - 0x80)))

/-- Every port used belongs to the domain. -/
def State.portsOk (s : State) (i : AudImage) : Bool :=
  i.inPorts.all (fun x => s.inPortDomain x = some i.domain) &&
  i.outPorts.all (fun x => s.outPortDomain x = some i.domain)

/-- Every delay line lies in the domain's region, in addressable Tarn outside the trump regions. -/
def State.delaysOk (s : State) (d : Fin 3) (i : AudImage) : Bool :=
  let size := s.fld (F.AUD_DOM_DLY_SIZE d) * 0x10000
  i.delays.all (fun e =>
    (e.base + e.len) * 3 ≤ size &&
    s.dlyAddr d e e.len ≤ s.tarnTop && !s.touchesTrump (s.dlyAddr d e 0) (e.len * 3))

/-- The cycle budget at the domain's rate. -/
def AudImage.budgetOk (i : AudImage) (num den : Nat) : Bool :=
  i.prog.length ≤ 4096 && (i.prog.map mixCycles).sum ≤ 675000000 * den / max 1 num

/-- Reason code of the first failing check of R365; 0: none. -/
def State.swapFail (s : State) (d : Fin 3) (i : AudImage) : Nat :=
  let m := s.dm d
  if !i.budgetOk m.num m.den then 1
  else if !s.portsOk i then 2
  else if !s.delaysOk d i then 3
  else if d.val = 0 ∧ (m.num < 15000 * m.den ∨ 300000 * m.den < m.num) then 4
  else if (m.omitted i).any (fun r => r.ramp.cur ≠ 0 && !r.decl.retire) then 5
  else 0

/-- Value and movement of a new ramp entry at the swap (R366). -/
def swapRamp (old : List RampSlot) (xfade num den : Nat) (e : RampDecl) : RampSlot :=
  let was := old.find? (fun r => r.decl.route = e.route && r.decl.id = e.id)
  { decl := e
    ramp := match e.route, was with
      | false, some r => if e.set then r.ramp.toward e.gain (msSamples e.time num den) else r.ramp
      | false, none => Ramp.at e.gain
      | true, some r => r.ramp.route (if e.retire then 0 else unity) xfade num den
      | true, none => if e.retire then Ramp.at 0 else (Ramp.at 0).route unity xfade num den }

def enumFrom {α : Type} : Nat → List α → List (Nat × α)
  | _, [] => []
  | k, a :: as => (k, a) :: enumFrom (k + 1) as

/-- Position of a delay line of the new image: a carried line keeps that of the old line with its ID. -/
def swapDly (m : AudDom) (e : DlyDecl) : DlyPos :=
  let was := if e.carry then
      (m.image.bind (fun i => i.delays.find? (fun o => o.id = e.id))).bind
        (fun o => m.delays.find? (fun p => p.line = o.line))
    else none
  match was with
  | some p => { line := e.line, pos := p.pos % max 1 e.len, last := p.last % max 1 e.len }
  | none => { line := e.line, pos := 0, last := e.len - 1 }

/-- A program's memories filled from its image, with nothing carried. -/
def AudDom.load (m : AudDom) (i : AudImage) : AudDom :=
  { m with image := some i, pend := none
           coef := (enumFrom 0 i.coef).foldl (fun c (k, v) => cPut c k v) []
           samp := (enumFrom 0 i.samp).foldl (fun c (k, v) => sPut c k v) []
           delays := i.delays.map (swapDly m) }

/-- The atomic swap between two samples. -/
def AudDom.swap (m : AudDom) (i : AudImage) : AudDom :=
  let n := m.load i
  { n with samp := i.carry.foldl (fun c (dst, src) => sPut c dst (w32 (sAt m.samp src))) n.samp
           ramps := i.ramps.map (swapRamp m.ramps i.xfade m.num m.den) }

/-- At a sample boundary: swap the pending image in when its routes allow, or refuse it. The swap loads the
coefficients, so a write that waits for this boundary is lost with the old bank (R366, R368). -/
def State.trySwap (s : State) (d : Fin 3) : State :=
  match (s.dm d).pend with
  | none => s
  | some i =>
    let om := (s.dm d).omitted i
    if om.any (fun r => r.ramp.cur ≠ 0 && r.decl.retire) && om.all (fun r => r.ramp.cur = 0 || r.decl.retire)
    then s
    else
      let e := s.swapFail d i
      if e = 0 then s.modDom d (fun m => { (m.swap i) with coefW := [] })
      else
        let s := s.modDom d (fun m => { m with pend := none })
        let s := (s.raiseF F.AUD_STAT_GRAPH_ERR).setF F.AUD_STAT_ERR_REASON e
        s.faultDev 0x16 unitAud d.val e

/-- Coefficient writes and ramp events take effect, then every ramp slot moves once (R367, R368). -/
def AudDom.boundary (m : AudDom) (stamp : Nat) : AudDom :=
  let ev (r : RampSlot) : RampSlot :=
    match (m.rampW.filter (fun e => e.slot = r.decl.slot)).getLast? with
    | some ⟨_, some t⟩ => { r with ramp := r.ramp.toward t (msSamples r.decl.time m.num m.den) }
    | some ⟨_, none⟩ => { r with ramp := Ramp.at r.ramp.cur }
    | none => r
  { m with coef := m.coefW.foldl (fun c (k, v) => cPut c k v) m.coef
           coefW := [], rampW := []
           ramps := m.ramps.map (fun r => let r := ev r; { r with ramp := r.ramp.step stamp r.decl.slot }) }

/-- A ramp event names a slot that the program declares, other than a ROUTE slot (R351). -/
def AudDom.takesRamp (m : AudDom) (e : RampEv) : Bool :=
  m.ramps.any (fun r => r.decl.slot = e.slot && !r.decl.route)

/-- Ramp events that the program of this sample takes stay; the others are ignored and counted (R351). -/
def State.checkRamps (s : State) (d : Fin 3) : State :=
  let m := s.dm d
  ((m.rampW.filter (fun e => !m.takesRamp e)).foldl (fun s _ => s.incF F.AUD_STAT_KEY_IGN) s).modDom d
    (fun m => { m with rampW := m.rampW.filter m.takesRamp })

/-- The program of the oldest owed sample starts (R347). -/
def State.beginSample (s : State) (d : Fin 3) : State :=
  match (s.dm d).owed with
  | [] => s
  | (k, ins) :: rest =>
    let s := (s.trySwap d).checkRamps d
    let s := s.stamp.modDom d (fun m =>
      { (m.boundary s.free) with owed := rest, sample := k, ins := ins, outs := [], pc := some 0 })
    if ((s.dm d).word 0).isNone then s.endSample d else s

/-- After an instruction: count its cycles and go on, or end the sample and start the next one owed. -/
def State.mixNext (s : State) (d : Fin 3) (pc : Nat) (w : Word) : State :=
  let s := s.count 0xC0 d (mixCycles w)
  if mixOp w = 0 ∨ ((s.dm d).word (pc + 1)).isNone then (s.endSample d).beginSample d
  else s.modDom d (fun m => { m with pc := some (pc + 1) })

/-- The operation a word spells (R358). -/
def State.mixDo (s : State) (d : Fin 3) (w : Word) : State :=
  match mixOp w with
  | 0x01 => s.mixClr d
  | 0x02 => s.mixLd d (mixX w)
  | 0x03 => s.mixSt d (mixX w)
  | 0x04 => s.mixAdd d (mixX w)
  | 0x05 => s.mixSub d (mixX w)
  | 0x06 => s.mixMul d (mixX w) (mixY w)
  | 0x07 => s.mixMac d (mixX w) (mixY w)
  | 0x08 => s.mixMulr d (mixX w) (mixY w)
  | 0x09 => s.mixMacr d (mixX w) (mixY w)
  | 0x0A => s.mixIn d (mixX w)
  | 0x0B => s.mixOut d (mixX w)
  | 0x0C => s.mixBiq d (mixX w) (mixY w)
  | 0x0D => s.mixDwr d (mixX w)
  | 0x0E => s.mixDrd d (mixX w) (mixY w)
  | 0x0F => s.mixLim d (mixX w)
  | 0x10 => s.mixShr d (mixN w)
  | 0x11 => s.mixSat d
  | _ => s

/-- Run the program in progress, and those owed, to their ends. -/
def State.mixRun (s : State) (d : Fin 3) : Nat → State
  | 0 => s
  | fuel + 1 =>
    match (s.dm d).pc with
    | none => s
    | some pc =>
      match (s.dm d).word pc with
      | none => s.endSample d
      | some w => ((s.mixDo d w).mixNext d pc w).mixRun d fuel

/-- Execute one instruction of a domain's program in progress, when it is the word given. -/
def State.mixExec (s : State) (d : Fin 3) (w : Word) (f : State → State) : State :=
  match s.alive, (s.dm d).run, (s.dm d).pc with
  | true, true, some pc => if (s.dm d).word pc = some w then (f s).mixNext d pc w else s
  | _, _, _ => s

def execMixEnd (d : Fin 3) (s : State) : Host.Outcome State Fault Refusal :=
  .next (s.mixExec d (encMix 0 0 0 0) (fun s => s))

def execMixClr (d : Fin 3) (s : State) : Host.Outcome State Fault Refusal :=
  .next (s.mixExec d (encMix 1 0 0 0) (fun s => s.mixClr d))

def execMixLd (d : Fin 3) (x : BitVec 10) (s : State) : Host.Outcome State Fault Refusal :=
  .next (s.mixExec d (encMix 2 x.toNat 0 0) (fun s => s.mixLd d x.toNat))

def execMixSt (d : Fin 3) (x : BitVec 10) (s : State) : Host.Outcome State Fault Refusal :=
  .next (s.mixExec d (encMix 3 x.toNat 0 0) (fun s => s.mixSt d x.toNat))

def execMixAdd (d : Fin 3) (x : BitVec 10) (s : State) : Host.Outcome State Fault Refusal :=
  .next (s.mixExec d (encMix 4 x.toNat 0 0) (fun s => s.mixAdd d x.toNat))

def execMixSub (d : Fin 3) (x : BitVec 10) (s : State) : Host.Outcome State Fault Refusal :=
  .next (s.mixExec d (encMix 5 x.toNat 0 0) (fun s => s.mixSub d x.toNat))

def execMixMul (d : Fin 3) (x y : BitVec 10) (s : State) : Host.Outcome State Fault Refusal :=
  .next (s.mixExec d (encMix 6 x.toNat y.toNat 0) (fun s => s.mixMul d x.toNat y.toNat))

def execMixMac (d : Fin 3) (x y : BitVec 10) (s : State) : Host.Outcome State Fault Refusal :=
  .next (s.mixExec d (encMix 7 x.toNat y.toNat 0) (fun s => s.mixMac d x.toNat y.toNat))

def execMixMulr (d : Fin 3) (x y : BitVec 10) (s : State) : Host.Outcome State Fault Refusal :=
  .next (s.mixExec d (encMix 8 x.toNat y.toNat 0) (fun s => s.mixMulr d x.toNat y.toNat))

def execMixMacr (d : Fin 3) (x y : BitVec 10) (s : State) : Host.Outcome State Fault Refusal :=
  .next (s.mixExec d (encMix 9 x.toNat y.toNat 0) (fun s => s.mixMacr d x.toNat y.toNat))

def execMixIn (d : Fin 3) (x : BitVec 10) (s : State) : Host.Outcome State Fault Refusal :=
  .next (s.mixExec d (encMix 10 x.toNat 0 0) (fun s => s.mixIn d x.toNat))

def execMixOut (d : Fin 3) (x : BitVec 10) (s : State) : Host.Outcome State Fault Refusal :=
  .next (s.mixExec d (encMix 11 x.toNat 0 0) (fun s => s.mixOut d x.toNat))

def execMixBiq (d : Fin 3) (x y : BitVec 10) (s : State) : Host.Outcome State Fault Refusal :=
  .next (s.mixExec d (encMix 12 x.toNat y.toNat 0) (fun s => s.mixBiq d x.toNat y.toNat))

def execMixDwr (d : Fin 3) (x : BitVec 10) (s : State) : Host.Outcome State Fault Refusal :=
  .next (s.mixExec d (encMix 13 x.toNat 0 0) (fun s => s.mixDwr d x.toNat))

def execMixDrd (d : Fin 3) (x y : BitVec 10) (s : State) : Host.Outcome State Fault Refusal :=
  .next (s.mixExec d (encMix 14 x.toNat y.toNat 0) (fun s => s.mixDrd d x.toNat y.toNat))

def execMixLim (d : Fin 3) (x : BitVec 10) (s : State) : Host.Outcome State Fault Refusal :=
  .next (s.mixExec d (encMix 15 x.toNat 0 0) (fun s => s.mixLim d x.toNat))

def execMixShr (d : Fin 3) (n : BitVec 6) (s : State) : Host.Outcome State Fault Refusal :=
  .next (s.mixExec d (encMix 16 0 0 n.toNat) (fun s => s.mixShr d n.toNat))

def execMixSat (d : Fin 3) (s : State) : Host.Outcome State Fault Refusal :=
  .next (s.mixExec d (encMix 17 0 0 0) (fun s => s.mixSat d))

end Sys2Proof.Machine
end

