-- ==== Sys2Proof/Machine/Damage.lean ====
section
/-!
DEFINITION. Damage sets, update rectangles and footprints (R254 to R262), and the effective pacing
values of R246.
-/

set_option Elab.async false  -- the joined text is large: no thread per declaration

namespace Sys2Proof.Machine

/-- Fields of a timing set (R298). -/
def Timing.hTotal (t : Timing) : Nat := bits t.h 29 16
def Timing.hActive (t : Timing) : Nat := bits t.h 13 0
def Timing.vTotal (t : Timing) : Nat := bits t.v 29 16
def Timing.vActive (t : Timing) : Nat := bits t.v 13 0
def Timing.lock (t : Timing) : Nat := bits t.link 18 16
def Timing.command (t : Timing) : Bool := bit t.link 8
def Timing.lanes (t : Timing) : Nat := bits t.link 5 4
def Timing.rate (t : Timing) : Nat := bits t.link 3 0

def HeadSt.vTotal (h : HeadSt) : Nat := match h.ts with | some t => t.vTotal | none => 0
def HeadSt.vActive (h : HeadSt) : Nat := match h.ts with | some t => t.vActive | none => 0
def HeadSt.hActive (h : HeadSt) : Nat := match h.ts with | some t => t.hActive | none => 0
def HeadSt.command (h : HeadSt) : Bool := match h.ts with | some t => t.command | none => false

/-- Columns and rows of the damage grid (R254). -/
def HeadSt.cols (h : HeadSt) : Nat := cdiv h.hActive 256
def HeadSt.rows (h : HeadSt) : Nat := cdiv h.vActive 16

/-- Add cells without repeats. -/
def addCells (cs new : List (Nat × Nat)) : List (Nat × Nat) :=
  new.foldl (fun acc c => if acc.contains c then acc else acc ++ [c]) cs

/-- Every cell a pixel rectangle touches. -/
def cellsOf (b : Box) : List (Nat × Nat) :=
  (List.range (b.b / 16 + 1 - b.t / 16)).flatMap (fun j =>
    (List.range (b.r / 256 + 1 - b.l / 256)).map (fun i => (b.l / 256 + i, b.t / 16 + j)))

/-- Clip a rectangle to the active area; none when it is empty. -/
def HeadSt.clip (h : HeadSt) (b : Box) : Option Box :=
  if b.r < b.l ∨ b.b < b.t ∨ h.hActive ≤ b.l ∨ h.vActive ≤ b.t then none
  else some ⟨b.l, b.t, min b.r (h.hActive - 1), min b.b (h.vActive - 1)⟩

/-- A mark for the frame to come makes a coasting head ungate its composer (R264). -/
def HeadSt.ungate (h : HeadSt) : HeadSt := if h.coast then { h with ungated := true } else h

/-- Mark a rectangle in the open damage set. -/
def HeadSt.mark (h : HeadSt) (b : Box) : HeadSt :=
  match h.clip b with
  | none => h
  | some c => { h with dmg := { h.dmg with cells := addCells h.dmg.cells (cellsOf c) } }.ungate

/-- Mark the whole active area. -/
def HeadSt.markAll (h : HeadSt) : HeadSt := { h with dmg := { h.dmg with whole := true } }.ungate

def State.markAll (s : State) (n : Fin 6) : State := s.modHead n HeadSt.markAll

def State.markBox (s : State) (n : Fin 6) (b : Box) : State := s.modHead n (fun h => h.mark b)

/-- All cells of the grid. -/
def HeadSt.allCells (h : HeadSt) : List (Nat × Nat) :=
  (List.range h.rows).flatMap (fun j => (List.range h.cols).map (fun i => (i, j)))

/-- A set is empty. -/
def Dmg.none (d : Dmg) : Bool := !d.whole && d.cells.isEmpty

/-- Is a line dirty in a set? -/
def Dmg.line (d : Dmg) (y : Nat) : Bool := d.whole || d.cells.any (fun c => c.2 = y / 16)

/-- Span of dirty columns of a cell row. -/
def rowSpan (cells : List (Nat × Nat)) (j : Nat) : Option (Nat × Nat) :=
  match (cells.filter (fun c => c.2 = j)).map (·.1) with
  | [] => .none
  | x :: xs => some (xs.foldl min x, xs.foldl max x)

/-- Bounding rectangle and its number of cells, of cell rectangles. -/
def bound (a b : Box) : Box := ⟨min a.l b.l, min a.t b.t, max a.r b.r, max a.b b.b⟩
def boxCells (a : Box) : Nat := (a.r + 1 - a.l) * (a.b + 1 - a.t)

/-- Runs of rows with equal spans (first loop of R262), on cell coordinates. -/
def rowRuns (cells : List (Nat × Nat)) (rows : Nat) : List Box :=
  (List.range rows).foldl (fun acc j =>
    match rowSpan cells j with
    | .none => acc
    | some (a, b) =>
      match acc.getLast? with
      | some q =>
        if q.b + 1 = j ∧ q.l = a ∧ q.r = b then acc.dropLast ++ [{ q with b := j }]
        else acc ++ [⟨a, j, b, j⟩]
      | .none => [⟨a, j, b, j⟩]) []

/-- Index of the neighbouring pair whose merge costs least, the upper among equals. -/
def cheapest : List Box → Nat → Nat × Nat → Nat × Nat
  | a :: b :: rest, i, best =>
    let cost := boxCells (bound a b) - (boxCells a + boxCells b)
    cheapest (b :: rest) (i + 1) (if cost < best.2 then (i, cost) else best)
  | _, _, best => best

/-- Merge the pair at an index. -/
def mergeAt : List Box → Nat → List Box
  | a :: b :: rest, 0 => bound a b :: rest
  | a :: rest, i + 1 => a :: mergeAt rest i
  | l, _ => l

/-- Merge down to 8 rectangles (second loop of R262). -/
def mergeDown : Nat → List Box → List Box
  | 0, l => l
  | fuel + 1, l => if l.length ≤ 8 then l
    else mergeDown fuel (mergeAt l (cheapest l 0 (0, 2 ^ 64)).1)

/-- Update rectangles of a closed set, in pixels (R262). -/
def HeadSt.updateRects (h : HeadSt) (d : Dmg) : List Box :=
  let cells := if d.whole then h.allCells else d.cells
  let l := rowRuns cells h.rows
  (mergeDown l.length l).map (fun q =>
    ⟨q.l * 256, q.t * 16, min (q.r * 256 + 255) (h.hActive - 1), min (q.b * 16 + 15) (h.vActive - 1)⟩)

/-- Dirty cells of a closed set, after the row fill on command-mode heads (DMG_STAT.CELLS). -/
def HeadSt.cellCount (h : HeadSt) (d : Dmg) : Nat :=
  let cells := if d.whole then h.allCells else d.cells
  if h.command then
    ((List.range h.rows).map (fun j =>
      match rowSpan cells j with | some (a, b) => b + 1 - a | .none => 0)).sum
  else cells.length

/-- Pixels of a run of `size` from `lo` at which R181 reads a plane on one axis: first and last (R257). -/
def axisSpan (lo size ext scroll : Nat) : Option (Nat × Nat) :=
  let hit := ((List.range size).map (lo + ·)).filter (fun x => (x + scroll) % 65536 < ext)
  match hit with
  | [] => .none
  | x :: xs => some (x, xs.foldl max x)

/-- Extent of a plane in pixels, from committed registers (R177, R182). -/
def State.planeExtent (s : State) (n : Fin 6) (p : Nat) : Nat × Nat :=
  if s.fld (F.PL_CTL_MODE n p) = 0 then
    let t := tileSize (s.fld (F.PL_CTL_TILE n p))
    (2 ^ s.fld (F.PL_MAPDIM_W_LOG2 n p) * t, 2 ^ s.fld (F.PL_MAPDIM_H_LOG2 n p) * t)
  else if s.fld (F.PL_CTL_FMT n p) = 6 then
    let base := s.fld (F.PL_SURF_HI_ADDR n p) * 2 ^ 32 + s.fld (F.PL_SURF_LO_ADDR n p)
    match fenHeader s s.mem.read base with
    | some hd => (hd.w, hd.h)
    | .none => (0, 0)
  else (s.fld (F.PL_SURF_DIM_WIDTH n p) + 1, s.fld (F.PL_SURF_DIM_HEIGHT n p) + 1)

/-- Smallest rectangle that holds both of two. -/
def boxJoin : Option Box → Option Box → Option Box
  | some a, some b => some (bound a b)
  | .none, b => b
  | a, .none => a

/-- Where R181 reads a plane with column scroll: band by band of 16 pixels, each at its own offset (R183). -/
def State.bandSpan (s : State) (n : Fin 6) (p : Nat) (e : Nat × Nat) : Option Box :=
  let h := s.head n
  let tab := s.fld (F.PL_CSCROLL_BASE n p) * 64
  (List.range (cdiv h.hActive 16)).foldl (fun acc b =>
    let cs : Int := if s.tarnTop < tab + 3 * (b + 1) then 0 else signed 16 (rd24 s.mem.read tab b)
    let sy := (((s.fld (F.PL_SCROLL_Y_Y n p) : Int) + cs) % 65536).toNat
    boxJoin acc (match axisSpan (16 * b) (min 16 (h.hActive - 16 * b)) e.1 (s.fld (F.PL_SCROLL_X_X n p)),
        axisSpan 0 h.vActive e.2 sy with
      | some (l, r), some (t, b') => some ⟨l, t, r, b'⟩
      | _, _ => .none)) .none

/-- Footprint of a plane under the committed state (R257). -/
def State.footprint (s : State) (n : Fin 6) (p : Nat) : Option Box :=
  let h := s.head n
  let whole : Option Box := some ⟨0, 0, h.hActive - 1, h.vActive - 1⟩
  if s.fld (F.PL_CTL_EN n p) = 0 then .none
  else if s.fld (F.PL_CTL_AFFINE n p) = 1 ∨ s.fld (F.PL_CTL_EDGE n p) ≠ 1 then whole
  else
    let e := s.planeExtent n p
    if s.fld (F.PL_CSCROLL_EN n p) = 1 then s.bandSpan n p e
    else match axisSpan 0 h.hActive e.1 (s.fld (F.PL_SCROLL_X_X n p)),
        axisSpan 0 h.vActive e.2 (s.fld (F.PL_SCROLL_Y_Y n p)) with
    | some (l, r), some (t, b) => some ⟨l, t, r, b⟩
    | _, _ => .none

def State.markOpt (s : State) (n : Fin 6) : Option Box → State
  | .none => s
  | some b => s.markBox n b

/-- Output rectangles at which a plane shows map entry (c, r), on one axis (R256). -/
def entrySpans (size ext tile k scroll : Nat) (edge : Nat) : List Nat :=
  (List.range size).filter (fun x =>
    let u := if edge = 0 then (if ext = 0 then 0 else (x + scroll) % ext) else (x + scroll) % 65536
    u < ext && u / tile = k)

/-- Mark what one changed map entry at a Tarn address shows on head `n` (R256). -/
def State.markEntry (s : State) (n : Fin 6) (addr : Nat) : State :=
  (List.range 16).foldl (fun s p =>
    let wl := s.fld (F.PL_MAPDIM_W_LOG2 n p)
    let hl := s.fld (F.PL_MAPDIM_H_LOG2 n p)
    let base := s.fld (F.PL_MAP_BASE n p) * 64
    let k := (addr - base) / 3
    if s.fld (F.PL_CTL_EN n p) = 1 ∧ s.fld (F.PL_CTL_MODE n p) = 0 ∧ base ≤ addr ∧
       (addr - base) % 3 = 0 ∧ k < 2 ^ (wl + hl) then
      if s.fld (F.PL_CTL_AFFINE n p) = 1 ∨ s.fld (F.PL_CSCROLL_EN n p) = 1
      then s.markOpt n (s.footprint n p)
      else
        let t := tileSize (s.fld (F.PL_CTL_TILE n p))
        let e := s.planeExtent n p
        let edge := s.fld (F.PL_CTL_EDGE n p)
        let h := s.head n
        let xs := entrySpans h.hActive e.1 t (k % 2 ^ wl) (s.fld (F.PL_SCROLL_X_X n p)) edge
        let ys := entrySpans h.vActive e.2 t (k / 2 ^ wl) (s.fld (F.PL_SCROLL_Y_Y n p)) edge
        let cells := ((ys.map (· / 16)).eraseDups).flatMap (fun j =>
          ((xs.map (· / 256)).eraseDups).map (fun i => (i, j)))
        if cells.isEmpty then s else
        s.modHead n (fun h => { h with dmg := { h.dmg with cells := addCells h.dmg.cells cells } }.ungate)
    else s) s

/-! ### Pacing values -/

/-- Sink path in effect: 0 ring, 1 direct, 2 write-back only (R239). -/
def HeadSt.path (h : HeadSt) (c : SinkCfg) : Nat :=
  if h.command then 2 else match bits c.ctl 1 0 with | 1 => 1 | _ => 0

/-- The substitution of R239 applies. -/
def HeadSt.pathSubst (h : HeadSt) (c : SinkCfg) : Bool :=
  if h.command then bits c.ctl 1 0 ≠ 2 else 2 ≤ bits c.ctl 1 0

/-- Ring slots in effect: clamped to 2 to 64. -/
def SinkCfg.lines (c : SinkCfg) : Nat := min 64 (max 2 (bits c.ring 26 20))

/-- T′ of R246, from the pacing values in use since the last frame tick (R253). In DIRECT the lead is
at most 1 line (R239, R240). -/
def HeadSt.paceT (h : HeadSt) : Nat :=
  let t := max 1 (bits h.paceW 29 24)
  match h.path h.sk.sinkS with
  | 0 => min t (h.sk.sinkS.lines - 1)
  | 1 => 1
  | _ => t

/-- S′ and M′ of R246; in DIRECT neither applies (R240). -/
def HeadSt.paceS (h : HeadSt) : Nat := min (bits h.paceW 21 16) (h.paceT - 1)

def HeadSt.paceM (h : HeadSt) : Nat := min (bits h.paceW 13 8) (h.paceT - 1)

/-- PACE_STAT.CFG (R246). -/
def HeadSt.paceCfg (h : HeadSt) : Bool :=
  h.path h.sk.sinkS ≠ 1 && (h.paceT ≠ bits h.paceW 29 24 || h.paceS ≠ bits h.paceW 21 16 ||
    h.paceM ≠ bits h.paceW 13 8)

end Sys2Proof.Machine
end

