-- ==== Sys2Proof/Machine/Flags.lean ====
section
/-!
DEFINITION. The flag computations of the sequencers (R282): arithmetic modulo 2^24 with Z, N, C
and V, and the forms that set Z and N and clear C and V.
-/

set_option Elab.async false  -- the joined text is large: no thread per declaration

namespace Sys2Proof.Machine

/-- The four flags of a sequencer. -/
structure Flags where
  z : Bool
  n : Bool
  c : Bool
  v : Bool
  deriving DecidableEq, Repr

/-- Z and N from a result; C and V cleared. -/
def flagsZN (r : W24) : Flags := { z := r = 0, n := r.msb, c := false, v := false }

/-- ADD and ADDI: carry out of bit 23, signed overflow. -/
def flagsAdd (a b : W24) : Flags :=
  { z := a + b = 0, n := (a + b).msb
    c := 2 ^ 24 ≤ a.toNat + b.toNat
    v := a.msb = b.msb && (a + b).msb ≠ a.msb }

/-- SUB, CMP and CMPI: C is a borrow. -/
def flagsSub (a b : W24) : Flags :=
  { z := a - b = 0, n := (a - b).msb
    c := a.toNat < b.toNat
    v := a.msb ≠ b.msb && (a - b).msb ≠ a.msb }

/-- Put flags into a sequencer. -/
def SeqSt.setFlags (q : SeqSt) (f : Flags) : SeqSt := { q with z := f.z, n := f.n, c := f.c, v := f.v }

/-- Does a BR condition hold; none is the reserved code 15 (R283). -/
def condHolds (q : SeqSt) (cond : Nat) : Option Bool :=
  match cond with
  | 0 => some true
  | 1 => some q.z
  | 2 => some (!q.z)
  | 3 => some (q.n != q.v)
  | 4 => some (q.n == q.v)
  | 5 => some q.c
  | 6 => some (!q.c)
  | 7 => some q.n
  | 8 => some (!q.n)
  | 9 => some q.v
  | 10 => some (!q.v)
  | 11 => some (q.z || q.n != q.v)
  | 12 => some (!q.z && q.n == q.v)
  | 13 => some (q.c || q.z)
  | 14 => some (!q.c && !q.z)
  | _ => none

end Sys2Proof.Machine
end

