-- ==== Sys2Proof/Machine/Operands.lean ====
section
/-!
DEFINITION. Operand forms: the 24-bit instruction formats of the sequencers (R280) and which words
are legal instructions (R281, R288), and access to a sequencer's banks.
-/

set_option Elab.async false  -- the joined text is large: no thread per declaration

namespace Sys2Proof.Machine

/-- Format R: gd, ga, gb. -/
def encR (op gd ga gb : Nat) : W24 :=
  BitVec.ofNat 24 (op * 2 ^ 18 + gd * 2 ^ 14 + ga * 2 ^ 10 + gb * 2 ^ 6)

/-- Formats I, A and B: a 4-bit field and 14 bits. -/
def encI (op f imm : Nat) : W24 := BitVec.ofNat 24 (op * 2 ^ 18 + f * 2 ^ 14 + imm)

/-- Format S: gd, ga, shift amount. -/
def encS (op gd ga sh : Nat) : W24 := BitVec.ofNat 24 (op * 2 ^ 18 + gd * 2 ^ 14 + ga * 2 ^ 10 + sh)

/-- Format M: gd or gs, ga, 10-bit offset. -/
def encM (op gd ga off : Nat) : W24 := BitVec.ofNat 24 (op * 2 ^ 18 + gd * 2 ^ 14 + ga * 2 ^ 10 + off)

/-- Format W: gs or N − 1, window, index. -/
def encW (op s w idx : Nat) : W24 := BitVec.ofNat 24 (op * 2 ^ 18 + s * 2 ^ 14 + w * 2 ^ 12 + idx)

/-- KEY: act, index, gs. -/
def encKey (act index gs : Nat) : W24 :=
  BitVec.ofNat 24 (0x34 * 2 ^ 18 + act * 2 ^ 16 + index * 2 ^ 10 + gs * 2 ^ 6)

/-- Bits `hi` to `lo` of an instruction word. -/
def wf24 (w : W24) (hi lo : Nat) : Nat := w.toNat / 2 ^ lo % 2 ^ (hi + 1 - lo)

/-- A word that stops sequencer `q` with ILLEGAL (R281, R288): reserved opcode or cond, non-zero
reserved field, WAITN 0, WAITT event 3, MOVEX with s odd, SIG or SYNC naming itself. -/
def illegalWord (q : Fin 8) (w : W24) : Bool :=
  match wf24 w 23 18 with
  | 0x00 => wf24 w 17 0 ≠ 0
  | 0x04 | 0x05 | 0x06 | 0x07 | 0x08 | 0x09 | 0x0A | 0x0B | 0x0C | 0x0D => wf24 w 5 0 ≠ 0
  | 0x0E => wf24 w 5 0 ≠ 0 || wf24 w 17 14 ≠ 0
  | 0x0F => wf24 w 9 0 ≠ 0
  | 0x10 | 0x12 | 0x13 | 0x14 | 0x15 => false
  | 0x11 => wf24 w 13 10 ≠ 0
  | 0x16 | 0x17 | 0x18 => wf24 w 9 5 ≠ 0
  | 0x1C | 0x1D => false
  | 0x1E | 0x1F => wf24 w 13 12 ≠ 0
  | 0x20 => wf24 w 17 14 = 15
  | 0x21 => false
  | 0x22 => wf24 w 17 14 ≠ 0
  | 0x23 => wf24 w 17 0 ≠ 0
  | 0x28 => wf24 w 17 14 ≠ 0
  | 0x29 => wf24 w 17 14 ≠ 0 || wf24 w 9 0 ≠ 0
  | 0x2A => wf24 w 17 10 ≠ 0
  | 0x2B => wf24 w 17 14 ≠ 0 || wf24 w 13 0 = 0
  | 0x2C => wf24 w 11 0 ≠ 0 || wf24 w 13 12 = 3
  | 0x2D => wf24 w 11 0 ≠ 0
  | 0x2E | 0x2F => wf24 w 14 0 ≠ 0 || wf24 w 17 15 = q.val
  | 0x30 | 0x32 | 0x33 => false
  | 0x31 => wf24 w 14 14 = 1
  | 0x34 => wf24 w 5 0 ≠ 0
  | 0x35 => wf24 w 9 0 ≠ 0
  | _ => true

/-- A word of a bank memory; unlisted words are 0. -/
def wordAt : List (Nat × W24) → Nat → W24
  | [], _ => 0
  | (b, v) :: m, a => if a = b then v else wordAt m a

/-- Take an address off a bank memory's list: it reads 0. -/
def wordErase : List (Nat × W24) → Nat → List (Nat × W24)
  | [], _ => []
  | (b, v) :: m, a => if a = b then wordErase m a else (b, v) :: wordErase m a

/-- List a word of a bank memory, keeping addresses rising. -/
def wordIns : List (Nat × W24) → Nat → W24 → List (Nat × W24)
  | [], a, w => [(a, w)]
  | (b, v) :: m, a, w =>
    if a < b then (a, w) :: (b, v) :: m
    else if a = b then (a, w) :: m
    else (b, v) :: wordIns m a w

/-- Set a word of a bank memory, keeping addresses rising and zero words unlisted. -/
def wordPut (m : List (Nat × W24)) (a : Nat) (w : W24) : List (Nat × W24) :=
  if w = 0 then wordErase m a else wordIns m a w

/-- Put consecutive words. -/
def wordsPut (m : List (Nat × W24)) (a : Nat) : List W24 → List (Nat × W24)
  | [] => m
  | w :: ws => wordsPut (wordPut m a w) (a + 1) ws

def SeqSt.reg (q : SeqSt) (r : Fin 16) : W24 := q.g[r]

def SeqSt.setReg (q : SeqSt) (r : Fin 16) (v : W24) : SeqSt := { q with g := q.g.set r v }

def SeqSt.data (q : SeqSt) (a : Nat) : W24 := wordAt q.bank.data (a % 4096)

def SeqSt.setData (q : SeqSt) (a : Nat) (v : W24) : SeqSt :=
  { q with bank := { q.bank with data := wordPut q.bank.data (a % 4096) v } }

/-- The 24-bit words of a byte string (R289 sources). -/
def words24 : List Byte → List W24
  | a :: b :: c :: bs => BitVec.ofNat 24 (ofLe [a, b, c]) :: words24 bs
  | _ => []

end Sys2Proof.Machine
end

