-- ==== Sys2Proof/Machine/Sequencer.lean ====
section
/-!
DEFINITION. The sequencers: running conditions, beam tag and waits (R266 to R272), issued writes
and the landing queues (R273 to R279), faults (R288), program starts and stops (R291 to R295), and
one meaning per instruction (R281 to R287).
-/

set_option Elab.async false  -- the joined text is large: no thread per declaration

namespace Sys2Proof.Machine

/-! ### Running conditions -/

/-- The beam head of a sequencer, if it has one (R266). -/
def State.beamHead (s : State) (q : Fin 8) : Option (Fin 6) :=
  if q.val < 6 ∧ s.headPresent q.val then
    if h : q.val < 6 then some ⟨q.val, h⟩ else none
  else
    let b := s.fld (F.SEQ_CTL_BEAM_HD q)
    if h : b < 6 then (if s.headPresent b then some ⟨b, h⟩ else none) else none

/-- A head is composing in the sense of R267; a blank frame is not composed (R304). -/
def State.headComposing (s : State) (n : Fin 6) : Bool :=
  let h := s.head n
  h.enabled && !h.fb && !h.early && h.beams && h.blank ≠ .s4 &&
    (match s.glob.mode with | .run | .coast | .bringUp => true | _ => false)

/-- A sequencer may execute: EN is 1, or its stop is still owed (R293), and its beam head, if any,
composes (R267). -/
def State.seqMayRun (s : State) (q : Fin 8) : Bool :=
  (s.flag (F.SEQ_CTL_EN q) || (s.seq q).stopAt.isSome) &&
    (match s.beamHead q with | some n => s.headComposing n | none => s.alive && s.glob.mode ≠ .doze && s.glob.mode ≠ .slumber)

/-- Frames from `b` to `a`, signed: frame counts wrap at 32 bits. -/
def frameDiff (a b : Word) : Int := (a - b).toInt

/-- Absolute line of a position, counted from line 0 of the frame being composed (R244, R268). -/
def HeadSt.absLine (h : HeadSt) (frame : Word) (line : Nat) : Int :=
  frameDiff frame h.frame * h.vTotal + line

/-- Absolute compose line last started (R268). -/
def HeadSt.composeAbs (h : HeadSt) : Int := (h.line : Int) - (if h.lineOn then 0 else 1)

/-- AHEAD in effect (SEQn_CTL; 0 acts as 1). -/
def State.seqAhead (s : State) (q : Fin 8) : Nat := max 1 (s.fld (F.SEQ_CTL_AHEAD q))

/-- The release point of a position on a head has passed, for a given AHEAD (R271). -/
def HeadSt.passed (h : HeadSt) (ahead : Nat) (frame : Word) (line : Nat) : Bool :=
  h.absLine frame line - ahead ≤ h.composeAbs

/-- The release point of a position on a head has passed, for the AHEAD in force (R271). -/
def State.released (s : State) (q : Fin 8) (n : Fin 6) (frame : Word) (line : Nat) : Bool :=
  (s.head n).passed (s.seqAhead q) frame line

/-- A fault: FAULTED at the instruction, RAISE.FAULT with its message, and a record (R288). -/
def State.seqFault (s : State) (q : Fin 8) (code pc : Nat) : State :=
  let s := s.modSeq q (fun x => { x with run := .faulted, fault := code, pc := pc })
  let n : Fin 6 := (s.beamHead q).getD 0
  let h := s.head n
  let s := s.fault 0x10 (unitSeq q) 0xFF h.frame h.line h.sc.scanPixel (pc + code * 65536)
  if s.flag (F.SEQ_RAISE_FAULT q) then s
  else (s.raiseF (F.SEQ_RAISE_FAULT q)).signal (s.reg .SEQ_IRQ q 0)

/-- Advance to the next address; past 16,383 is PC_RANGE (R288). -/
def State.seqNext (s : State) (q : Fin 8) : State :=
  let x := s.seq q
  if x.pc = 16383 then s.seqFault q 2 16383 else s.modSeq q (fun x => { x with pc := x.pc + 1 })

/-- Run one instruction: sequencer `q` is RUNNING and holds word `w` at its PC. -/
def State.seqExec (s : State) (q : Fin 8) (w : W24) (f : State → State) : State :=
  let x := s.seq q
  if s.alive && s.seqMayRun q && x.run = .running && wordAt x.bank.prog x.pc = w then
    if illegalWord q w then s.seqFault q 1 x.pc else (f s).count 0x80 q 1
  else s

/-- Set a result and its flags, and go on. -/
def State.seqAlu (s : State) (q : Fin 8) (gd : Fin 16) (v : W24) (f : Flags) : State :=
  (s.modSeq q (fun x => (x.setReg gd v).setFlags f)).seqNext q

/-- Set a result, leave the flags, and go on. -/
def State.seqSet (s : State) (q : Fin 8) (gd : Fin 16) (v : W24) : State :=
  (s.modSeq q (fun x => x.setReg gd v)).seqNext q

/-- Sign extension of an immediate to 24 bits. -/
def sext14 (i : BitVec 14) : W24 := i.signExtend 24

/-- Shifts by an amount of 0 to 31 (R282). -/
def shl24 (a : W24) (n : Nat) : W24 := a <<< n
def shr24 (a : W24) (n : Nat) : W24 := a >>> n
def sar24 (a : W24) (n : Nat) : W24 := a.sshiftRight n

/-! ### Register windows -/

/-- Head whose register window holds an address. -/
def windowHead (a : Nat) : Option (Fin 6) :=
  allHeads.find? (fun n => inHeadWin n a)

/-- Is an address in the window of an absent head, blitter or headset (R9)? -/
def State.absentWindow (s : State) (a : Nat) : Bool :=
  match windowHead a with
  | some n => !s.headPresent n
  | none => (!s.part.blt && 0x240000 ≤ a && a < 0x250000) || (!s.part.headset && 0x266000 ≤ a && a < 0x267000)

/-- The head that owns a register: of its window, its trump region or its own settings. -/
def regHead (r : RegId) (i j : Nat) : Option (Fin 6) :=
  match r with
  | .MEM_TRUMP_HD | .TRK_HD_CTL | .TRK_HD_LAST_ID | .TRK_HD_LAST_INFO | .TRK_HD_LATE
  | .CWY_VIEW_CTL | .CWY_VIEW_XY | .CWY_VIEW_DECK | .CWY_BENCH_HD | .CWY_BENCH_SIG =>
    if h : i < 6 then some ⟨i, h⟩ else none
  | _ => windowHead (r.addr i j)

/-- The unit a register belongs to is present on this part (R9). -/
def State.regPresent (s : State) (r : RegId) (i j : Nat) : Bool :=
  match regHead r i j with
  | some n => s.headPresent n
  | none =>
    match r with
    | .CWY_PORT_CTL | .CWY_PORT_STAT | .CWY_PORT_LAT | .CWY_PORT_ERR => i ≤ s.part.cwyDown
    | _ => !s.absentWindow (r.addr i j)

/-! ### Landing queues -/

/-- Free entries of a head's landing queue, those in flight towards it counted as taken. -/
def State.queueRoom (s : State) (n : Fin 6) : Nat :=
  let flight := (allSeqs.map (fun q =>
    ((s.seq q).issued.filter (fun e => windowHead e.addr = some n)).length)).sum
  128 - ((s.head n).queue.length + flight)

/-- The sequencers stalled for want of entries that are now free try again (R277). -/
def State.wakeStalled (s : State) : State :=
  allSeqs.foldl (fun s q =>
    let x := s.seq q
    if x.run = .stalled && x.need.all (fun e => e.2 ≤ s.queueRoom e.1)
    then s.modSeq q (fun x => { x with run := .running, need := [] }) else s) s

/-! ### Program starts and stops -/

/-- The tag a program start sets: line 0 of frame `f`, or none without a beam head (R295). -/
def State.startTag (s : State) (q : Fin 8) (f : Word) : Option (Nat × Nat × Word) :=
  match s.beamHead q with
  | some _ => some (0, 0, f)
  | none => none

/-- Discard queued and issued entries of `q` tagged at or after line 0 of frame `f` (R291, R293). -/
def State.dropTagged (s : State) (q : Fin 8) (f : Word) : State :=
  let keep (t : Option (Nat × Nat × Word)) : Bool :=
    match t with | some (_, _, fr) => frameDiff fr f < 0 | none => true
  let s := s.modSeq q (fun x => { x with issued := x.issued.filter (fun e => keep e.tag) })
  (allHeads.foldl (fun s n => s.modHead n (fun h =>
    { h with queue := h.queue.filter (fun e => e.seq ≠ q || keep e.tag) })) s).wakeStalled

/-- A program start (R295): state cleared, PC at ENTRY, the tag at line 0 of frame `f`; a pending
bank becomes active when `bank` holds. With EN 0 it executes nothing: it reads HALTED. -/
def State.programStart (s : State) (q : Fin 8) (f : Word) (bank : Bool) : State :=
  let tag := s.startTag q f
  let entry := s.fld (F.SEQ_CTL_ENTRY q)
  let en := s.flag (F.SEQ_CTL_EN q)
  s.modSeq q (fun x =>
    let b := if bank then x.pendBank.getD x.bank else x.bank
    { x with
      g := Vector.replicate 16 0, z := false, n := false, c := false, v := false
      pc := entry, stack := [], bank := b
      pendBank := if bank then none else x.pendBank
      owed := none, tag := tag, timerLatch := 0, sigLatch := 0
      run := if en then .running else .halted, fault := 0, need := [] })

/-- Owe a program start at the release point of line 0 of frame `f` (or at once without one).
A bank owed earlier stays owed. An enabled sequencer whose beam head does not compose is IDLE (R267). -/
def State.oweStart (s : State) (q : Fin 8) (f : Option Word) (bank : Bool) : State :=
  let idle := s.flag (F.SEQ_CTL_EN q) && (match s.beamHead q with | some n => !s.headComposing n | none => false)
  s.modSeq q (fun x =>
    let b := bank || (match x.owed with | some o => o.bank | none => false)
    { x with owed := some ⟨f, b⟩, run := if idle && x.run = .halted then .idle else x.run })

/-- The first frame whose line-0 release point the beam head has yet to reach (R293). -/
def State.nextReleaseFrame (s : State) (q : Fin 8) (n : Fin 6) : Word :=
  let f := (s.head n).frame + 1
  if s.released q n f 0 then f + 1 else f

/-- A beam head stops composing: its sequencers go IDLE at once (R267). -/
def State.seqIdleFor (s : State) (n : Fin 6) : State :=
  allSeqs.foldl (fun s q =>
    if s.beamHead q = some n && s.flag (F.SEQ_CTL_EN q) then
      match (s.seq q).run with
      | .running | .waitBeam .. | .waitTimer .. | .waitSync .. | .stalled =>
        s.modSeq q (fun x => { x with run := .idle })
      | _ => s
    else s) s

/-- Composition of head `n` starts afresh at frame `f`: its enabled sequencers start there (R294). -/
def State.seqFreshStart (s : State) (n : Fin 6) (f : Word) : State :=
  allSeqs.foldl (fun s q =>
    if s.beamHead q = some n && s.flag (F.SEQ_CTL_EN q) then
      s.oweStart q (some f) ((s.seq q).pendBank.isSome)
    else s) s

/-- Free sequencers without a beam head restart (R294). -/
def State.seqFreeStart (s : State) : State :=
  allSeqs.foldl (fun s q =>
    if s.beamHead q = none && s.flag (F.SEQ_CTL_EN q) then
      s.oweStart q none ((s.seq q).pendBank.isSome)
    else s) s

/-! ### Latches -/

/-- A timer event sets its latch in every sequencer, and releases those that wait for it (R272). -/
def State.timerEvent (s : State) (ch : Fin 16) (ev : Nat) : State :=
  allSeqs.foldl (fun s q =>
    match (s.seq q).run with
    | .waitTimer c e =>
      if c = ch ∧ e = ev then
        (s.modSeq q (fun x => { x with run := .running })).seqNext q
      else s.modSeq q (fun x => { x with timerLatch := x.timerLatch ||| BitVec.ofNat 48 (2 ^ (ch.val * 3 + ev)) })
    | _ => s.modSeq q (fun x => { x with timerLatch := x.timerLatch ||| BitVec.ofNat 48 (2 ^ (ch.val * 3 + ev)) })) s

/-! ### Landing -/

/-- Tag at or before a position: frame, line, column. -/
def tagDue (t : Nat × Nat × Word) (frame : Word) (line col : Nat) : Bool :=
  let (tl, tc, tf) := t
  frameDiff tf frame < 0 || (tf = frame && (tl < line || (tl = line && tc ≤ col)))

/-- Effect of a line-class write that lands: the OX/OY pairing of R186 and the live value. -/
def State.landWrite (s : State) (n : Fin 6) (addr : Nat) (v : Word) : State :=
  match decodeReg addr with
  | none => s
  | some (r, i, j) =>
    let v := v &&& (r.row).rw
    let k (axis : Nat) : Fin 4 := ⟨(j % 2 * 2 + axis) % 4, Nat.mod_lt _ (by decide)⟩
    let hold (axis : Nat) : State :=
      s.modHead n (fun h => { h with affHeld := h.affHeld.set (k axis) (some (v.setWidth 8)) })
    let take (axis : Nat) (lo : RegId) : State :=
      let s := s.setLive r i j v
      match (s.head n).affHeld[k axis] with
      | some f =>
        (s.setLive lo i j (f.setWidth 32)).modHead n (fun h =>
          { h with affHeld := h.affHeld.set (k axis) none })
      | none => s
    match r with
    | .AFF_OX_LO => hold 0
    | .AFF_OY_LO => hold 1
    | .AFF_OX_HI => take 0 .AFF_OX_LO
    | .AFF_OY_HI => take 1 .AFF_OY_LO
    | _ => s.setLive r i j v

/-- A landed write marks the cell rows from its line down, unless it lands in blanking (R258). -/
def State.landMark (s : State) (n : Fin 6) : State :=
  let h := s.head n
  if h.line < h.vActive then s.markBox n ⟨0, h.line / 16 * 16, h.hActive - 1, h.vActive - 1⟩ else s

/-- Apply the entries due at an apply point, in queue order (R273, R276), and let stalled
sequencers try again (R277). -/
def State.landAt (s : State) (n : Fin 6) (col : Nat) : State :=
  let h := s.head n
  let due (e : Landing) : Bool :=
    match e.tag with | some t => tagDue t h.frame h.line col | none => true
  let s := s.modHead n (fun h => { h with queue := h.queue.filter (fun e => !due e) })
  let s := (h.queue.filter due).foldl (fun s e => (s.landWrite n e.addr e.value).landMark n) s
  if (h.queue.filter due).isEmpty then s else s.wakeStalled

/-- What an issued write may do: queue at a head, act on arrival, be dropped, be ignored (R278). -/
inductive MoveKind where
  | queue (n : Fin 6)
  | direct
  | dropped
  | ignored
  deriving DecidableEq, Repr

def State.moveKind (s : State) (a : Nat) : MoveKind :=
  if s.absentWindow a then .ignored
  else match decodeReg a with
    | none => .ignored
    | some (r, i, j) =>
      if !s.regPresent r i j then .ignored
      else match (r.row).cls with
      | .line => match windowHead a with | some n => .queue n | none => .direct
      | .none => .ignored
      | _ => .dropped

/-- Target address of format W (R280). -/
def State.moveAddr (s : State) (q : Fin 8) (w : Fin 4) (idx : Nat) : Nat :=
  s.fld (F.SEQ_WIN_BASE q w) * 0x4000 + idx * 4

/-- Entries that the writes of an instruction take in each head's queue. -/
def State.needOf (s : State) (ws : List (Nat × Word)) : List (Fin 6 × Nat) :=
  (allHeads.map (fun n => (n, (ws.filter (fun e => s.moveKind e.1 = .queue n)).length))).filter (fun e => 0 < e.2)

/-- Issue writes of a MOVE family instruction: stall when a queue lacks room, else issue each,
drop or ignore it, and go on (R277, R278). -/
def State.issueAll (s : State) (q : Fin 8) (ws : List (Nat × Word)) (after : SeqSt → SeqSt) : State :=
  let need := s.needOf ws
  if need.any (fun e => s.queueRoom e.1 < e.2) then
    s.modSeq q (fun x => { x with run := .stalled, need := need })
  else
    let bh := s.beamHead q
    let s := ws.foldl (fun s e =>
      match s.moveKind e.1 with
      | .queue n =>
        let tag := if bh = some n then (s.seq q).tag else none
        (s.modSeq q (fun x => { x with issued := x.issued ++ [⟨e.1, e.2, tag⟩] })).count 0x81 q 1
      | .direct =>
        (s.modSeq q (fun x => { x with issued := x.issued ++ [⟨e.1, e.2, none⟩] })).count 0x81 q 1
      | .dropped => s.incF (F.SEQ_DROP_COUNT q)
      | .ignored => s) s
    (s.modSeq q after).seqNext q

/-- A late write or key: count, flag and the first record of the frame (R274). -/
def State.seqLate (s : State) (q : Fin 8) (tag : Nat × Nat × Word) (line pixel : Nat) : State :=
  let s := (s.incF (F.SEQ_LATE_COUNT q)).raiseF (F.SEQ_STAT_LATE q)
  let s := s.count 0x82 q 1
  if (s.seq q).lateSeen then s
  else
    let n : Fin 6 := (s.beamHead q).getD 0
    (s.modSeq q (fun x => { x with lateSeen := true })).fault 0x0F (unitSeq q) 0xFF
      (s.head n).frame line pixel (tag.1 + tag.2.1 * 2 ^ 14)

/-- The apply point passed last: line, column, frame (R273). It is the start of the last chunk begun on a
composed line, the start of any other line, and the last line of the frame before while line 0 has not
started. -/
def HeadSt.lastPoint (h : HeadSt) : Nat × Nat × Word :=
  if h.lineOn then (h.line, if h.composing then h.chunk else h.chunk - 1, h.frame)
  else (h.vTotal - 1, 0, h.frame - 1)

/-- The oldest issued write of a sequencer arrives: into the head's queue, judged late or on time
(R273, R274), or at its register outside the head windows (R278); an audio register takes it at the
next sample of its domain (R348). -/
def execLandingQueueEntry (q : Fin 8) (s : State) : Host.Outcome State Fault Refusal :=
  .next (if !s.alive then s else match (s.seq q).issued with
    | [] => s
    | e :: rest =>
      let s := s.modSeq q (fun x => { x with issued := rest })
      match windowHead e.addr with
      | none =>
        match decodeReg e.addr with
        | some (r, i, j) =>
          let v := e.value &&& (r.row).rw
          if 0x260000 ≤ e.addr ∧ e.addr < 0x270000 then
            { s with keys := s.keys ++ [({ seq := q, act := .write e.addr v, index := 0, param := 0, tag := none } : Key)] }
          else s.setLive r i j v
        | none => s
      | some n =>
        let h := s.head n
        let p := h.lastPoint
        let late := match e.tag with
          | some t => tagDue t p.2.2 p.1 p.2.1
          | none => false
        let s := s.modHead n (fun h => { h with queue := h.queue ++ [⟨q, e.addr, e.value, e.tag⟩] })
        match e.tag with
        | some t =>
          if late then
            if h.composing ∧ (h.chunk + 1) * 16 < h.hActive
            then s.seqLate q t h.line ((h.chunk + 1) * 16)
            else s.seqLate q t (if h.lineOn then (h.line + 1) % max 1 h.vTotal else h.line) 0
          else s
        | none => s)

/-! ### Beam waits -/

/-- Position of a reference: the tag, or the compose beam (R268): line, column, frame. -/
def State.reference (s : State) (q : Fin 8) (n : Fin 6) : Nat × Nat × Word :=
  match (s.seq q).tag with
  | some t => t
  | none =>
    let h := s.head n
    (h.line, if h.composing then h.chunk else 0, h.frame)

/-- Start a beam wait for target P: skip missed frames (R270), then release at once or wait (R271).
`halt` marks the wait of HALT with FRAME 1. -/
def State.beamWait (s : State) (q : Fin 8) (n : Fin 6) (p : Nat × Nat × Word) (halt : Bool) : State :=
  let h := s.head n
  let vt := h.vTotal
  let a := h.absLine p.2.2 p.1
  let k := h.composeAbs
  let skip := if a + vt ≤ k then ((k - (a + vt)) / (vt : Int)).toNat + 1 else 0
  let f := p.2.2 + BitVec.ofNat 32 skip
  let s := s.incF (F.SEQ_SKIP_COUNT q) skip
  if s.released q n f p.1 then
    if halt then
      s.modSeq q (fun x => { x with tag := some (p.1, p.2.1, f), run := .running, stack := [],
                                     pc := s.fld (F.SEQ_CTL_ENTRY q) })
    else (s.modSeq q (fun x => { x with tag := some (p.1, p.2.1, f), run := .running })).seqNext q
  else s.modSeq q (fun x => { x with run := .waitBeam f p.1 p.2.1 halt, ahead := s.seqAhead q })

/-- A beam wait whose target is the function of the reference and V_TOTAL given; none is a
BEAM_RANGE fault, and no beam head a BEAM_NONE fault (R266, R269). -/
def State.beamWaitOn (s : State) (q : Fin 8)
    (target : Nat → (Nat × Nat × Word) → Option (Nat × Nat × Word)) : State :=
  match s.beamHead q with
  | none => s.seqFault q 4 (s.seq q).pc
  | some n =>
    match target (s.head n).vTotal (s.reference q n) with
    | none => s.seqFault q 5 (s.seq q).pc
    | some p => s.beamWait q n p false

/-- First (line, col) strictly after the reference, in its frame or the next. -/
def nextAt (line col : Nat) (r : Nat × Nat × Word) : Nat × Nat × Word :=
  if r.1 < line ∨ (r.1 = line ∧ r.2.1 < col) then (line, col, r.2.2) else (line, col, r.2.2 + 1)

/-- Target of WAITL and WAITLC. -/
def targetLine (line col vt : Nat) (r : Nat × Nat × Word) : Option (Nat × Nat × Word) :=
  if vt ≤ line then none else some (nextAt line col r)

/-- Target of WAITC. -/
def targetCol (col vt : Nat) (r : Nat × Nat × Word) : Option (Nat × Nat × Word) :=
  if r.2.1 < col then some (r.1, col, r.2.2)
  else if r.1 + 1 < vt then some (r.1 + 1, col, r.2.2) else some (0, col, r.2.2 + 1)

/-- Target of WAITN. -/
def targetN (n vt : Nat) (r : Nat × Nat × Word) : Option (Nat × Nat × Word) :=
  if vt = 0 then none
  else some ((r.1 + n) % vt, 0, r.2.2 + BitVec.ofNat 32 ((r.1 + n) / vt))

/-- The compose beam reaches the release line of a beam wait (R271), or of a HALT with FRAME 1. -/
def execBeamWaitRelease (q : Fin 8) (s : State) : Host.Outcome State Fault Refusal :=
  .next (if !s.alive then s else match (s.seq q).run, s.beamHead q with
    | .waitBeam f line col halt, some n =>
      if (s.head n).passed (s.seq q).ahead f line then
        if halt then
          s.modSeq q (fun x => { x with tag := some (line, col, f), run := .running, stack := [],
                                         pc := s.fld (F.SEQ_CTL_ENTRY q) })
        else (s.modSeq q (fun x => { x with tag := some (line, col, f), run := .running })).seqNext q
      else s
    | _, _ => s)

/-! ### Instructions -/

def execSeqHalt (q : Fin 8) (s : State) : Host.Outcome State Fault Refusal :=
  .next (s.seqExec q 0 (fun s =>
    match s.flag (F.SEQ_CTL_FRAME q), s.beamHead q with
    | true, some n =>
      match targetLine 0 0 (s.head n).vTotal (s.reference q n) with
      | some p => s.beamWait q n p true
      | none => s.modSeq q (fun x => { x with run := .halted })
    | _, _ => s.modSeq q (fun x => { x with run := .halted })))

def execSeqAdd (q : Fin 8) (gd ga gb : Fin 16) (s : State) : Host.Outcome State Fault Refusal :=
  .next (s.seqExec q (encR 0x04 gd ga gb) (fun s =>
    let a := (s.seq q).reg ga
    let b := (s.seq q).reg gb
    s.seqAlu q gd (a + b) (flagsAdd a b)))

def execSeqSub (q : Fin 8) (gd ga gb : Fin 16) (s : State) : Host.Outcome State Fault Refusal :=
  .next (s.seqExec q (encR 0x05 gd ga gb) (fun s =>
    let a := (s.seq q).reg ga
    let b := (s.seq q).reg gb
    s.seqAlu q gd (a - b) (flagsSub a b)))

def execSeqAnd (q : Fin 8) (gd ga gb : Fin 16) (s : State) : Host.Outcome State Fault Refusal :=
  .next (s.seqExec q (encR 0x06 gd ga gb) (fun s =>
    let r := (s.seq q).reg ga &&& (s.seq q).reg gb
    s.seqAlu q gd r (flagsZN r)))

def execSeqOr (q : Fin 8) (gd ga gb : Fin 16) (s : State) : Host.Outcome State Fault Refusal :=
  .next (s.seqExec q (encR 0x07 gd ga gb) (fun s =>
    let r := (s.seq q).reg ga ||| (s.seq q).reg gb
    s.seqAlu q gd r (flagsZN r)))

def execSeqXor (q : Fin 8) (gd ga gb : Fin 16) (s : State) : Host.Outcome State Fault Refusal :=
  .next (s.seqExec q (encR 0x08 gd ga gb) (fun s =>
    let r := (s.seq q).reg ga ^^^ (s.seq q).reg gb
    s.seqAlu q gd r (flagsZN r)))

def execSeqShl (q : Fin 8) (gd ga gb : Fin 16) (s : State) : Host.Outcome State Fault Refusal :=
  .next (s.seqExec q (encR 0x09 gd ga gb) (fun s =>
    let r := shl24 ((s.seq q).reg ga) (((s.seq q).reg gb).toNat % 32)
    s.seqAlu q gd r (flagsZN r)))

def execSeqShr (q : Fin 8) (gd ga gb : Fin 16) (s : State) : Host.Outcome State Fault Refusal :=
  .next (s.seqExec q (encR 0x0A gd ga gb) (fun s =>
    let r := shr24 ((s.seq q).reg ga) (((s.seq q).reg gb).toNat % 32)
    s.seqAlu q gd r (flagsZN r)))

def execSeqSar (q : Fin 8) (gd ga gb : Fin 16) (s : State) : Host.Outcome State Fault Refusal :=
  .next (s.seqExec q (encR 0x0B gd ga gb) (fun s =>
    let r := sar24 ((s.seq q).reg ga) (((s.seq q).reg gb).toNat % 32)
    s.seqAlu q gd r (flagsZN r)))

def execSeqMul (q : Fin 8) (gd ga gb : Fin 16) (s : State) : Host.Outcome State Fault Refusal :=
  .next (s.seqExec q (encR 0x0C gd ga gb) (fun s =>
    let r := (s.seq q).reg ga * (s.seq q).reg gb
    s.seqAlu q gd r (flagsZN r)))

/-- Bits [39:16] of the signed 48-bit product. -/
def mulf24 (a b : W24) : W24 := ((a.signExtend 48 * b.signExtend 48) >>> 16).setWidth 24

def execSeqMulf (q : Fin 8) (gd ga gb : Fin 16) (s : State) : Host.Outcome State Fault Refusal :=
  .next (s.seqExec q (encR 0x0D gd ga gb) (fun s =>
    let r := mulf24 ((s.seq q).reg ga) ((s.seq q).reg gb)
    s.seqAlu q gd r (flagsZN r)))

def execSeqCmp (q : Fin 8) (ga gb : Fin 16) (s : State) : Host.Outcome State Fault Refusal :=
  .next (s.seqExec q (encR 0x0E 0 ga gb) (fun s =>
    (s.modSeq q (fun x => x.setFlags (flagsSub (x.reg ga) (x.reg gb)))).seqNext q))

def execSeqMov (q : Fin 8) (gd ga : Fin 16) (s : State) : Host.Outcome State Fault Refusal :=
  .next (s.seqExec q (encR 0x0F gd ga 0) (fun s => s.seqSet q gd ((s.seq q).reg ga)))

def execSeqLdi (q : Fin 8) (gd : Fin 16) (imm : BitVec 14) (s : State) : Host.Outcome State Fault Refusal :=
  .next (s.seqExec q (encI 0x10 gd imm.toNat) (fun s => s.seqSet q gd (sext14 imm)))

def execSeqLui (q : Fin 8) (gd : Fin 16) (imm : BitVec 10) (s : State) : Host.Outcome State Fault Refusal :=
  .next (s.seqExec q (encI 0x11 gd imm.toNat) (fun s =>
    s.seqSet q gd (imm ++ ((s.seq q).reg gd).setWidth 14)))

def execSeqAddi (q : Fin 8) (gd : Fin 16) (imm : BitVec 14) (s : State) : Host.Outcome State Fault Refusal :=
  .next (s.seqExec q (encI 0x12 gd imm.toNat) (fun s =>
    let a := (s.seq q).reg gd
    s.seqAlu q gd (a + sext14 imm) (flagsAdd a (sext14 imm))))

def execSeqAndi (q : Fin 8) (gd : Fin 16) (imm : BitVec 14) (s : State) : Host.Outcome State Fault Refusal :=
  .next (s.seqExec q (encI 0x13 gd imm.toNat) (fun s =>
    let r := (s.seq q).reg gd &&& imm.setWidth 24
    s.seqAlu q gd r (flagsZN r)))

def execSeqOri (q : Fin 8) (gd : Fin 16) (imm : BitVec 14) (s : State) : Host.Outcome State Fault Refusal :=
  .next (s.seqExec q (encI 0x14 gd imm.toNat) (fun s =>
    let r := (s.seq q).reg gd ||| imm.setWidth 24
    s.seqAlu q gd r (flagsZN r)))

def execSeqCmpi (q : Fin 8) (gd : Fin 16) (imm : BitVec 14) (s : State) : Host.Outcome State Fault Refusal :=
  .next (s.seqExec q (encI 0x15 gd imm.toNat) (fun s =>
    (s.modSeq q (fun x => x.setFlags (flagsSub (x.reg gd) (sext14 imm)))).seqNext q))

def execSeqShli (q : Fin 8) (gd ga : Fin 16) (sh : BitVec 5) (s : State) : Host.Outcome State Fault Refusal :=
  .next (s.seqExec q (encS 0x16 gd ga sh.toNat) (fun s =>
    let r := shl24 ((s.seq q).reg ga) sh.toNat
    s.seqAlu q gd r (flagsZN r)))

def execSeqShri (q : Fin 8) (gd ga : Fin 16) (sh : BitVec 5) (s : State) : Host.Outcome State Fault Refusal :=
  .next (s.seqExec q (encS 0x17 gd ga sh.toNat) (fun s =>
    let r := shr24 ((s.seq q).reg ga) sh.toNat
    s.seqAlu q gd r (flagsZN r)))

def execSeqSari (q : Fin 8) (gd ga : Fin 16) (sh : BitVec 5) (s : State) : Host.Outcome State Fault Refusal :=
  .next (s.seqExec q (encS 0x18 gd ga sh.toNat) (fun s =>
    let r := sar24 ((s.seq q).reg ga) sh.toNat
    s.seqAlu q gd r (flagsZN r)))

/-- Data address ga + simm10, modulo 4,096 (R281). -/
def SeqSt.ea (x : SeqSt) (ga : Fin 16) (off : BitVec 10) : Nat :=
  ((x.reg ga) + off.signExtend 24).toNat % 4096

def execSeqLd (q : Fin 8) (gd ga : Fin 16) (off : BitVec 10) (s : State) : Host.Outcome State Fault Refusal :=
  .next (s.seqExec q (encM 0x1C gd ga off.toNat) (fun s =>
    s.seqSet q gd ((s.seq q).data ((s.seq q).ea ga off))))

def execSeqSt (q : Fin 8) (gs ga : Fin 16) (off : BitVec 10) (s : State) : Host.Outcome State Fault Refusal :=
  .next (s.seqExec q (encM 0x1D gs ga off.toNat) (fun s =>
    (s.modSeq q (fun x => x.setData (x.ea ga off) (x.reg gs))).seqNext q))

def execSeqLda (q : Fin 8) (gd : Fin 16) (addr : BitVec 12) (s : State) : Host.Outcome State Fault Refusal :=
  .next (s.seqExec q (encI 0x1E gd addr.toNat) (fun s => s.seqSet q gd ((s.seq q).data addr.toNat)))

def execSeqSta (q : Fin 8) (gs : Fin 16) (addr : BitVec 12) (s : State) : Host.Outcome State Fault Refusal :=
  .next (s.seqExec q (encI 0x1F gs addr.toNat) (fun s =>
    (s.modSeq q (fun x => x.setData addr.toNat (x.reg gs))).seqNext q))

def execSeqBr (q : Fin 8) (cond : BitVec 4) (target : BitVec 14) (s : State) :
    Host.Outcome State Fault Refusal :=
  .next (s.seqExec q (encI 0x20 cond.toNat target.toNat) (fun s =>
    if condHolds (s.seq q) cond.toNat = some true
    then s.modSeq q (fun x => { x with pc := target.toNat }) else s.seqNext q))

def execSeqDbnz (q : Fin 8) (gd : Fin 16) (target : BitVec 14) (s : State) :
    Host.Outcome State Fault Refusal :=
  .next (s.seqExec q (encI 0x21 gd target.toNat) (fun s =>
    let s := s.modSeq q (fun x => x.setReg gd (x.reg gd - 1))
    if (s.seq q).reg gd ≠ 0 then s.modSeq q (fun x => { x with pc := target.toNat }) else s.seqNext q))

def execSeqCall (q : Fin 8) (target : BitVec 14) (s : State) : Host.Outcome State Fault Refusal :=
  .next (s.seqExec q (encI 0x22 0 target.toNat) (fun s =>
    let x := s.seq q
    if 8 ≤ x.stack.length then s.seqFault q 3 x.pc
    else s.modSeq q (fun x => { x with stack := (x.pc + 1) % 16384 :: x.stack, pc := target.toNat })))

def execSeqRet (q : Fin 8) (s : State) : Host.Outcome State Fault Refusal :=
  .next (s.seqExec q (encI 0x23 0 0) (fun s =>
    match (s.seq q).stack with
    | [] => s.seqFault q 3 (s.seq q).pc
    | a :: rest => s.modSeq q (fun x => { x with stack := rest, pc := a })))

def execSeqWaitl (q : Fin 8) (line : BitVec 14) (s : State) : Host.Outcome State Fault Refusal :=
  .next (s.seqExec q (encI 0x28 0 line.toNat) (fun s => s.beamWaitOn q (targetLine line.toNat 0)))

def execSeqWaitlc (q : Fin 8) (ga : Fin 16) (s : State) : Host.Outcome State Fault Refusal :=
  .next (s.seqExec q (encI 0x29 0 (ga.val * 1024)) (fun s =>
    let v := (s.seq q).reg ga
    s.beamWaitOn q (targetLine (wf24 v 13 0) (wf24 v 23 14))))

def execSeqWaitc (q : Fin 8) (col : BitVec 10) (s : State) : Host.Outcome State Fault Refusal :=
  .next (s.seqExec q (encI 0x2A 0 col.toNat) (fun s => s.beamWaitOn q (targetCol col.toNat)))

def execSeqWaitn (q : Fin 8) (n : BitVec 14) (s : State) : Host.Outcome State Fault Refusal :=
  .next (s.seqExec q (encI 0x2B 0 n.toNat) (fun s => s.beamWaitOn q (targetN n.toNat)))

def execSeqWaitt (q : Fin 8) (ch : Fin 16) (ev : BitVec 2) (s : State) : Host.Outcome State Fault Refusal :=
  .next (s.seqExec q (encI 0x2C ch (ev.toNat * 4096)) (fun s =>
    let k := ch.val * 3 + ev.toNat
    let s := s.modSeq q (fun x => { x with tag := none })
    if (s.seq q).timerLatch.getLsbD k then
      (s.modSeq q (fun x => { x with timerLatch := x.timerLatch &&& ~~~BitVec.ofNat 48 (2 ^ k) })).seqNext q
    else s.modSeq q (fun x => { x with run := .waitTimer ch ev.toNat })))

/-- Value of BEAM (R286). -/
def State.beamValue (s : State) (q : Fin 8) (sel : Nat) : W24 :=
  match s.beamHead q, (s.seq q).tag with
  | none, _ => 0xFFFFFF
  | some n, t =>
    if sel = 3 then BitVec.ofNat 24 (s.head n).line
    else match t with
      | none => 0xFFFFFF
      | some (l, c, f) => if sel = 0 then BitVec.ofNat 24 l else if sel = 1 then BitVec.ofNat 24 c
                          else f.setWidth 24

def execSeqBeam (q : Fin 8) (gd : Fin 16) (sel : BitVec 2) (s : State) : Host.Outcome State Fault Refusal :=
  .next (s.seqExec q (encI 0x2D gd (sel.toNat * 4096)) (fun s => s.seqSet q gd (s.beamValue q sel.toNat)))

def execSeqSync (q j : Fin 8) (s : State) : Host.Outcome State Fault Refusal :=
  .next (s.seqExec q (BitVec.ofNat 24 (0x2E * 2 ^ 18 + j.val * 2 ^ 15)) (fun s =>
    if (s.seq q).sigLatch.getLsbD j then
      (s.modSeq q (fun x => { x with sigLatch := x.sigLatch &&& ~~~BitVec.ofNat 8 (2 ^ j.val) })).seqNext q
    else s.modSeq q (fun x => { x with run := .waitSync j })))

def execSeqSig (q k : Fin 8) (s : State) : Host.Outcome State Fault Refusal :=
  .next (s.seqExec q (BitVec.ofNat 24 (0x2F * 2 ^ 18 + k.val * 2 ^ 15)) (fun s =>
    let s := if (s.seq k).run = .waitSync q
      then (s.modSeq k (fun x => { x with run := .running })).seqNext k
      else s.modSeq k (fun x => { x with sigLatch := x.sigLatch ||| BitVec.ofNat 8 (2 ^ q.val) })
    s.seqNext q))

def execSeqMove (q : Fin 8) (gs : Fin 16) (w : Fin 4) (idx : BitVec 12) (s : State) :
    Host.Outcome State Fault Refusal :=
  .next (s.seqExec q (encW 0x30 gs w idx.toNat) (fun s =>
    s.issueAll q [(s.moveAddr q w idx.toNat, ((s.seq q).reg gs).setWidth 32)] id))

/-- A register value of 32 bits from two data words (R279, R281). -/
def wide32 (lo hi : W24) : Word := hi.setWidth 8 ++ lo

def execSeqMovex (q : Fin 8) (gs : Fin 16) (w : Fin 4) (idx : BitVec 12) (s : State) :
    Host.Outcome State Fault Refusal :=
  .next (s.seqExec q (encW 0x31 gs w idx.toNat) (fun s =>
    s.issueAll q [(s.moveAddr q w idx.toNat, wide32 ((s.seq q).reg gs) ((s.seq q).reg (gs + 1)))] id))

def execSeqMoveb (q : Fin 8) (n : Fin 16) (w : Fin 4) (idx : BitVec 12) (s : State) :
    Host.Outcome State Fault Refusal :=
  .next (s.seqExec q (encW 0x32 n w idx.toNat) (fun s =>
    let x := s.seq q
    let base := (x.reg 14).toNat
    let ws := (List.range (n.val + 1)).map (fun i =>
      (s.moveAddr q w (idx.toNat + i), (x.data (base + i)).setWidth 32))
    s.issueAll q ws (fun x => x.setReg 14 (BitVec.ofNat 24 ((base + n.val + 1) % 4096)))))

def execSeqMovebx (q : Fin 8) (n : Fin 16) (w : Fin 4) (idx : BitVec 12) (s : State) :
    Host.Outcome State Fault Refusal :=
  .next (s.seqExec q (encW 0x33 n w idx.toNat) (fun s =>
    let x := s.seq q
    let base := (x.reg 14).toNat
    let ws := (List.range (n.val + 1)).map (fun i =>
      (s.moveAddr q w (idx.toNat + i), wide32 (x.data (base + 2 * i)) (x.data (base + 2 * i + 1))))
    s.issueAll q ws (fun x => x.setReg 14 (BitVec.ofNat 24 ((base + 2 * (n.val + 1)) % 4096)))))

/-- Queue a key at the audio engine (R284); a tagged one is late when its scan line has begun. -/
def State.issueKey (s : State) (q : Fin 8) (act : KeyAct) (index : Nat) (param : W24) : State :=
  let lh := s.fld (F.AUD_DOM_CTL_HEAD 0)
  let tag : Option (Nat × Nat × Word) :=
    match s.beamHead q with | some n => if n.val = lh then (s.seq q).tag else none | none => none
  match s.beamHead q, tag with
  | some n, some t =>
    let h := s.head n
    let late := h.absLine t.2.2 t.1 ≤ h.absLine h.sc.scanFrame h.sc.scanLine
    let s := { s with keys := s.keys ++ [({ seq := q, act := act, index := index, param := param, tag := some (t.2.2, t.1), late := late } : Key)] }
    (if late then s.seqLate q t h.sc.scanLine h.sc.scanPixel else s).seqNext q
  | _, _ => ({ s with keys := s.keys ++ [({ seq := q, act := act, index := index, param := param, tag := none } : Key)] }).seqNext q

def execVoiceOn (q : Fin 8) (index : BitVec 6) (gs : Fin 16) (s : State) : Host.Outcome State Fault Refusal :=
  .next (s.seqExec q (encKey 0 index.toNat gs) (fun s =>
    s.issueKey q .voiceOn index.toNat ((s.seq q).reg gs)))

def execVoiceOff (q : Fin 8) (index : BitVec 6) (gs : Fin 16) (s : State) : Host.Outcome State Fault Refusal :=
  .next (s.seqExec q (encKey 1 index.toNat gs) (fun s =>
    s.issueKey q .voiceOff index.toNat ((s.seq q).reg gs)))

def execRampStart (q : Fin 8) (index : BitVec 6) (gs : Fin 16) (s : State) : Host.Outcome State Fault Refusal :=
  .next (s.seqExec q (encKey 2 index.toNat gs) (fun s =>
    s.issueKey q .rampStart index.toNat ((s.seq q).reg gs)))

def execRampStop (q : Fin 8) (index : BitVec 6) (gs : Fin 16) (s : State) : Host.Outcome State Fault Refusal :=
  .next (s.seqExec q (encKey 3 index.toNat gs) (fun s =>
    s.issueKey q .rampStop index.toNat ((s.seq q).reg gs)))

/-- RAISE (R287). -/
def execSeqRaise (q : Fin 8) (code : Byte) (s : State) : Host.Outcome State Fault Refusal :=
  .next (s.seqExec q (encI 0x35 (code.toNat / 16) (code.toNat % 16 * 1024)) (fun s =>
    let was := s.flag (F.SEQ_RAISE_PEND q)
    let s := ((s.setF (F.SEQ_RAISE_CODE q) code.toNat).incF (F.SEQ_RAISE_COUNT q)).raiseF (F.SEQ_RAISE_PEND q)
    let s := if was then s else s.signal (s.reg .SEQ_IRQ q 0)
    s.seqNext q))

/-- A word that is no legal instruction stops the sequencer with ILLEGAL (R288). -/
def execReservedOpcode (q : Fin 8) (s : State) : Host.Outcome State Fault Refusal :=
  .next (
    let x := s.seq q
    let w := wordAt x.bank.prog x.pc
    if s.alive && s.seqMayRun q && x.run = .running && illegalWord q w then s.seqFault q 1 x.pc else s)

/-! ### Starts and commands -/

/-- The instant of a program start or stop owed for a frame has come: at once where it names none, or where
the beam head does not compose, else at the release point of line 0 (R291, R293). -/
def State.seqDue (s : State) (q : Fin 8) (f : Option Word) : Bool :=
  match f, s.beamHead q with
  | some f, some n => !s.headComposing n || s.released q n f 0
  | _, _ => true

/-- A stop owed by EN going to 0 takes place: entries tagged from there on are discarded (R293). FAULTED is
left only through a program start (R288). -/
def State.seqStopDue (s : State) (q : Fin 8) : State :=
  match (s.seq q).stopAt with
  | some f =>
    if s.seqDue q f then
      (match f with | some f => s.dropTagged q f | none => s).modSeq q (fun x =>
        { x with run := (if x.run = SeqRun.faulted then SeqRun.faulted else SeqRun.halted), stopAt := none, need := [] })
    else s
  | none => s

/-- A program start that is owed takes place where its beam head, if any, composes (R291, R294, R295). -/
def State.seqStartDue (s : State) (q : Fin 8) : State :=
  match (s.seq q).owed with
  | none => s
  | some o =>
    if s.seqDue q o.frame && (match s.beamHead q with | some n => s.headComposing n | none => true) then
      (match o.frame with | some f => s.dropTagged q f | none => s).programStart q (o.frame.getD 0) o.bank
    else s

/-- PROGRAM_START: a stop owed by EN going to 0, then a program start that is owed. -/
def State.seqTurn (s : State) (q : Fin 8) : State :=
  if !s.alive then s
  else
    let s := s.seqStopDue q
    if (s.seq q).stopAt.isSome then s else s.seqStartDue q

/-- SEQn_CMD.HALT: the sequencer stops, its queued entries stay (R293). -/
def State.cmdHalt (s : State) (q : Fin 8) : State :=
  match (s.seq q).run with
  | .faulted => s
  | _ => s.modSeq q (fun x => { x with run := .halted, need := [] })

/-- SEQn_CMD.RESTART: a program start at the next release point of line 0 (R293). -/
def State.cmdRestart (s : State) (q : Fin 8) : State :=
  s.oweStart q ((s.beamHead q).map (fun n => s.nextReleaseFrame q n)) false

/-- STATE code of SEQn_STAT. -/
def SeqRun.code : SeqRun → Nat
  | .halted => 0 | .running => 1 | .waitBeam _ _ _ halt => if halt then 7 else 2
  | .waitTimer .. => 3 | .waitSync .. => 4 | .stalled => 5 | .faulted => 6 | .idle => 7

end Sys2Proof.Machine
end

