-- ==== Sys2Proof/Machine/Modes.lean ====
section
/-!
DEFINITION. Mode transitions (R28 to R33) and the parts of them that every unit can cause: coasting
and FALLBACK of the device as its heads' states make it.
-/

set_option Elab.async false  -- the joined text is large: no thread per declaration

namespace Sys2Proof.Machine

/-- Host-fed audio is active: an AUDIO_STREAM player, or a capture ring (R69, R70). -/
def State.hostFed (s : State) : Bool :=
  s.aud.play.toList.any (fun p => p.run ≠ .idle) || (List.range 8).any (fun r => s.flag (F.CAP_CTL_EN r))

/-- The tolerance of LTR messages in microseconds, or no requirement (R70). The manual gives none for
BRING-UP and OFF, and none for host-fed audio in SLUMBER and FREEZE, whose row is taken (DESIGN CHOICE,
log entry 78). -/
def State.ltr (s : State) : Option Nat :=
  match s.glob.mode with
  | .run | .coast | .fallback => some (if s.hostFed then 20 else 1000)
  | .doze => some (if s.hostFed then 20 else 3000)
  | _ => none

/-- An LTR message goes out where the tolerance differs from what it was in `old` (R70). -/
def State.ltrFrom (s old : State) : State := if s.ltr = old.ltr then s else s.emit (.ltr s.ltr)

/-- Take a transition: PREV, LAST_CAUSE, the count of entries, and the tolerance that follows. -/
def State.setMode (s : State) (m : Mode) (cause : Nat) : State :=
  let t := { s with glob := { s.glob with mode := m, prev := s.glob.mode, cause := cause } }
  (t.ltrFrom s).count 0xE3 m.code 1

/-- Every present, enabled head coasts (R29). No other unit needs CCLK beyond what COAST keeps: of the units
CCLK drives (R21), COAST gates the composers and melders alone, and Tarn stays active (R28). -/
def State.allCoast (s : State) : Bool :=
  s.enabledHeads.all (fun n => (s.head n).coast)

/-- At least one head is enabled and every enabled head is in FALLBACK (R29). -/
def State.allFallback (s : State) : Bool :=
  !s.enabledHeads.isEmpty && s.enabledHeads.all (fun n => (s.head n).fb)

/-- LAST_CAUSE for a FALLBACK entered through a head's state: the cause of the head that entered last. -/
def State.fbCauseCode (s : State) : Nat := s.glob.fbLast

/-- The code of LAST_CAUSE for a head's cause (R29). -/
def FbCause.code : FbCause → Nat
  | .trump => 0x9 | .hostLoss => 0xA | .restore => 0x4

/-- The transitions among RUN, COAST and FALLBACK that the heads' states make due (R29, R30). During an
entry to sleep the mode stands until the entry ends (R411). -/
def State.reviewMode (s : State) : State :=
  if s.pwr.entry = 1 || s.pwr.entry = 2 then s
  else match s.glob.mode with
  | .run =>
    if s.allFallback then s.setMode .fallback s.fbCauseCode
    else if s.allCoast then s.setMode .coast 0xC else s
  | .coast =>
    if s.allFallback then s.setMode .fallback s.fbCauseCode
    else if s.allCoast then s else s.setMode .run 0xD
  | .fallback =>
    if s.enabledHeads.any (fun n => !(s.head n).fb && !(s.head n).fbEnter) then s.setMode .run 0xB else s
  | _ => s

/-- A head goes into FALLBACK: its picture and its sequencers' state change at once (R29, R230). After a
failed restore the early plane is withdrawn (R428). -/
def State.enterFb (s : State) (n : Fin 6) : State :=
  let s := s.modHead n (fun h => { h with
    fb := true, fbEnter := false, coast := false, early := h.early && !s.jrnl.failed })
  let s := { s with glob := { s.glob with fbLast := (s.head n).fbCause.code } }
  (s.raiseF (F.TRUMP_STAT_FB n)).seqIdleFor n

/-- A head leaves FALLBACK: composition of the committed scene and the programs start afresh. -/
def State.leaveFb (s : State) (n : Fin 6) : State :=
  let s := s.modHead n (fun h => { h with fb := false, fbLeave := false })
  s.setF (F.TRUMP_STAT_FB n) 0

/-- TRUMP_ALARM_N is low while any head has an unresolved failure (R57). -/
def State.trumpAlarm (s : State) : Bool :=
  !(s.glob.mode = .off) && allHeads.any (fun n => s.flag (F.TRUMP_STAT_FAIL n))

end Sys2Proof.Machine
end

