-- ==== Sys2Proof/Machine/Timing.lean ====
section
/-!
DEFINITION. Timing sets: the checks of R298, R300, R301 and R307, and which changes are seamless
(R302). Rates are compared as exact integers.
-/

set_option Elab.async false  -- the joined text is large: no thread per declaration

namespace Sys2Proof.Machine

/-- The committed timing set of a head (R121). -/
def State.tsCommitted (s : State) (n : Nat) : Timing :=
  { h := s.reg .TS_H n 0, hsync := s.reg .TS_HSYNC n 0, v := s.reg .TS_V n 0,
    vsync := s.reg .TS_VSYNC n 0, clk := s.reg .TS_CLK n 0, link := s.reg .TS_LINK n 0 }

/-- D × 2^24 + F of the PGCLK divider (R299). -/
def Timing.div (t : Timing) : Nat := bits t.clk 31 24 * 2 ^ 24 + bits t.clk 23 0

/-- Payload capacity of a lane in bit/s by rate code (R300). -/
def lanePayload (rate : Nat) : Nat :=
  match rate with
  | 0 => 1296000000 | 1 => 2160000000 | 2 => 4320000000
  | 3 => 6480000000 | 4 => 9671000000 | _ => 13056000000

/-- Sample rate of a DP_AUD.RATE code in Hz. -/
def dpAudioRate (code : Nat) : Nat :=
  match code with
  | 0 => 32000 | 1 => 44100 | 2 => 48000 | 3 => 88200 | 4 => 96000 | 5 => 176400 | _ => 192000

/-- Audio bandwidth of R300 in bit/s for a DP_AUD word. -/
def dpAudioBits (aud : Word) : Nat :=
  if bit aud 31 then 32 * (bits aud 26 24 + 1) * dpAudioRate (bits aud 19 16) else 0

/-- Lanes of a LANES code. -/
def laneCount (code : Nat) : Nat := 2 ^ code

/-- The stream fits the link (R300). The pixel rate is 12 GHz × 2^24 ÷ `div`. -/
def Timing.admits (t : Timing) (aud : Word) : Bool :=
  100 * (24 * 12000000000 * 2 ^ 24 + dpAudioBits aud * t.div) ≤
    98 * laneCount t.lanes * lanePayload t.rate * t.div

/-- The limits of R298 on sizes and sync (RANGE). -/
def Timing.rangeOk (t : Timing) (aud : Word) : Bool :=
  let ha := t.hActive
  let ht := t.hTotal
  let va := t.vActive
  let vt := t.vTotal
  let hs := bits t.hsync 13 0
  let hw := bits t.hsync 25 16
  let vs := bits t.vsync 13 0
  let vw := bits t.vsync 25 16
  64 ≤ ha && ha ≤ 7680 && ha % 4 = 0 &&
  ha + (if bit aud 31 then 64 else 32) ≤ ht && ht ≤ 16380 && ht % 4 = 0 &&
  ha ≤ hs && hs + hw ≤ ht && 1 ≤ hw && hw ≤ 1023 &&
  64 ≤ va && va ≤ 4320 && va + 3 ≤ vt && vt ≤ 8192 &&
  va ≤ vs && vs + vw ≤ vt && 1 ≤ vw && vw ≤ 63 &&
  t.rate ≤ 5 && t.lanes ≤ 2

/-- The limits of R298 on the pixel-group clock (CLOCK). -/
def Timing.clockOk (t : Timing) : Bool :=
  8 ≤ bits t.clk 31 24 && 3000000000 * 2 ^ 24 ≤ 335000000 * t.div

/-- Equal D, F, H_TOTAL and V_TOTAL (R307). -/
def Timing.sameBeam (a b : Timing) : Bool :=
  a.clk = b.clk && a.hTotal = b.hTotal && a.vTotal = b.vTotal

/-- The device is the dealer of its wall (R378). -/
def State.dealer (s : State) : Bool := s.flag F.GLB_STRAPS_DEALER

/-- The lock rules of R307 and R388 on committed sets. -/
def State.lockOk (s : State) (n : Fin 6) (t : Timing) : Bool :=
  if h : t.lock < 6 then
    let m : Fin 6 := ⟨t.lock, h⟩
    let c := s.tsCommitted m
    m < n && (s.head m).enabled && 6 ≤ c.lock && c.sameBeam t
  else if t.lock = 6 then
    if s.dealer then
      let r := s.fld F.CWY_WALL_CTL_REF_HD
      let c := s.tsCommitted r
      n.val ≠ r && s.headPresent r && c.lock = 7 && c.sameBeam t
    else match s.cwy.info with
      | some w => w.clk = t.clk && w.hTotal = t.hTotal && w.vTotal = t.vTotal
      | none => true
  else true

/-- What the lock of an active set follows: a head, or 6 for the wall tick of a tracking hand (R307,
R388). -/
def State.lockLeader (s : State) (t : Timing) : Option Nat :=
  if t.lock < 6 then some t.lock
  else if t.lock = 6 then
    if s.dealer then some (s.fld F.CWY_WALL_CTL_REF_HD)
    else if s.glob.tracking then some 6 else none
  else none

/-- TS_REASON of the first check a committed set fails at application (R301); none: it is valid. -/
def State.tsReason (s : State) (n : Fin 6) (t : Timing) (aud : Word) : Option Nat :=
  if !t.rangeOk aud then some 1
  else if !t.clockOk then some 2
  else if !t.admits aud then some 3
  else if !s.lockOk n t then some 4
  else none

/-- Slot stride of the strip ring (R241). -/
def ringStride (w : Nat) : Nat := cdiv (cdiv (3 * w) 64 * 64 + cdiv w 8) 192 * 192

/-- A change from one active set to another is seamless (R302). -/
def HeadSt.seamless (h : HeadSt) (a b : Timing) : Bool :=
  a.clk = b.clk && a.rate = b.rate && a.lanes = b.lanes && a.hTotal = b.hTotal && a.vTotal = b.vTotal &&
  a.command = b.command && a.lock = b.lock &&
  (h.path h.sk.sinkC ≠ 0 || ringStride a.hActive = ringStride b.hActive)

/-- A staged set that differs seamlessly reaches the compose beam at the wrap (R303); the slot is
emptied at the frame tick, when the scan beam changes too. -/
def State.wrapTiming (s : State) (n : Fin 6) : State :=
  let h := s.head n
  match h.ts, h.tsNext with
  | some a, some t => if h.seamless a t then s.modHead n (fun h => { h with ts := some t }) else s
  | _, _ => s

end Sys2Proof.Machine
end

