-- ==== Sys2Proof/Machine/Wake.lean ====
section
/-!
DEFINITION. Wake events (R405, R407): what every wake source does to the power unit.
-/

set_option Elab.async false  -- the joined text is large: no thread per declaration

namespace Sys2Proof.Machine

/-- A wake source arrives in DOZE or SLUMBER, or during entry: the first is recorded; in the mode the
exit starts at once, during entry the wake waits for the next abort point (R405, R407, R413). In FREEZE
nothing is recorded (R456). -/
def State.noteWake (s : State) (src : Nat) : State :=
  let p := s.pwr
  let asleep := s.glob.mode = .doze || s.glob.mode = .slumber
  if s.frozen then s
  else if p.entry = 1 || p.entry = 2 then
    if p.wake.isSome then s
    else ({ s with pwr := { p with wake := some src } }.setF F.PWR_WAKE_LAST_SRC src).count 0xE4 0 1
  else if asleep && p.entry = 0 then
    ({ s with pwr := { p with wake := some src, entry := 3, step := 0, deep := decide (s.glob.mode = Mode.slumber) } }.setF
      F.PWR_WAKE_LAST_SRC src).count 0xE4 0 1
  else s

/-- The device sleeps or is on its way there or back, so that requests act as wake events (R411). -/
def State.sleeping (s : State) : Bool :=
  s.glob.mode = .doze || s.glob.mode = .slumber || s.pwr.entry = 1 || s.pwr.entry = 2

/-- A BAR write of the host: in FREEZE it is dropped, counted, and the first offset kept (R457); in
DOZE and SLUMBER it is a wake event too (R407). -/
def State.barWrite (s : State) (off : Nat) (f : State → State) : State :=
  if s.glob.mode = .off || s.glob.heldInReset then s
  else if s.frozen then
    let first := s.fld ⟨.DBG_FRZ_DROPS, 0, 0, 31, 0⟩
    let s := if first = 0 then s.setReg .DBG_FRZ_DROP_FIRST 0 0 (BitVec.ofNat 32 off) else s
    s.setReg .DBG_FRZ_DROPS 0 0 (satAdd (s.reg .DBG_FRZ_DROPS 0 0) 1)
  else f (s.noteWake 0x02)

end Sys2Proof.Machine
end

