-- ==== Sys2Proof/Machine/Audio.lean ====
section
/-!
DEFINITION. The audio engine: rate domains (R345 to R348), voices and keys (R349 to R351), stream
players (R352 to R354), bridges (R356), sinks (R369 to R373), the headset (R374 to R376) and the
sample tick that drives them.
-/

set_option Elab.async false  -- the joined text is large: no thread per declaration

namespace Sys2Proof.Machine

/-! ### Access -/

def allDoms : List (Fin 3) := [0, 1, 2]
def allPlayers : List (Fin 16) := [0, 1, 2, 3, 4, 5, 6, 7, 8, 9, 10, 11, 12, 13, 14, 15]
def allSinks : List (Fin 17) := [0, 1, 2, 3, 4, 5, 6, 7, 8, 9, 10, 11, 12, 13, 14, 15, 16]

def State.play (s : State) (p : Fin 16) : PlaySt := s.aud.play[p]
def State.modPlay (s : State) (p : Fin 16) (f : PlaySt → PlaySt) : State :=
  { s with aud := { s.aud with play := s.aud.play.set p (f s.aud.play[p]) } }

def State.bridge (s : State) (b : Fin 16) : BridgeSt := s.aud.bridge[b]
def State.modBridge (s : State) (b : Fin 16) (f : BridgeSt → BridgeSt) : State :=
  { s with aud := { s.aud with bridge := s.aud.bridge.set b (f s.aud.bridge[b]) } }

def State.asink (s : State) (k : Fin 17) : ASink := s.aud.sink[k]
def State.modSink (s : State) (k : Fin 17) (f : ASink → ASink) : State :=
  { s with aud := { s.aud with sink := s.aud.sink.set k (f s.aud.sink[k]) } }

def State.modHs (s : State) (f : HsSt → HsSt) : State := { s with aud := { s.aud with hs := f s.aud.hs } }

/-! ### Rate domains -/

/-- The rate a domain would run at, as a fraction in Hz; none: it does not run (R345, R346). -/
def State.domRate (s : State) (d : Fin 3) : Option (Nat × Nat) :=
  let asleep := match s.glob.mode with | .doze | .slumber | .off => true | _ => false
  if asleep || !s.flag (F.AUD_DOM_CTL_EN d) then none
  else if d.val = 1 then some (if s.flag (F.AUD_DOM_CTL_RATE d) then 96000 else 48000, 1)
  else if d.val = 2 then some (if s.flag (F.AUD_DOM_CTL_RATE d) then 88200 else 44100, 1)
  else
    let n := s.fld (F.AUD_DOM_CTL_HEAD 0)
    if h : n < 6 then
      let hd := s.head ⟨n, h⟩
      match hd.ts with
      | none => none
      | some t =>
        let num := 12000000000 * 2 ^ 24
        let den := t.div * t.hTotal * (s.fld (F.AUD_DOM_CTL_LDIV 0) + 1)
        if s.headPresent n && hd.enabled && hd.beams && hd.blank = .none && 15000 * den ≤ num && num ≤ 300000 * den
        then some (num, den) else none
    else none

/-- RATE_HZ: the rate in force rounded to 1 Hz; 0 while stopped. -/
def AudDom.hz (m : AudDom) : Nat := if m.run then roundDiv m.num (max 1 m.den) else 0

/-- Bridges with a domain as their source or their target. -/
def State.bridgesOf (s : State) (d : Fin 3) : List (Fin 16) :=
  allPlayers.filter (fun b => s.fld (F.BR_CTL_SRC b) = d.val || s.fld (F.BR_CTL_DST b) = d.val)

/-- Bridges refill: nothing is let through until a bridge has filled once (R348, R356). -/
def State.bridgesRefill (s : State) (d : Fin 3) : State :=
  (s.bridgesOf d).foldl (fun s (b : Fin 16) =>
    (s.modBridge b (fun x => { x with fill := 0, gain := Ramp.at 0 })).setF (F.BR_STAT_FILLED b) 0) s

/-- Domain of a sink; 3: none (R369). -/
def State.sinkDomain (s : State) (k : Fin 17) : Nat :=
  if k.val < 6 then
    if s.headPresent k.val && bit (s.dpAudOf k.val) 31 then dpDomain (bits (s.dpAudOf k.val) 19 16) else 3
  else if k.val < 8 then
    if s.flag (F.TDM_CTL_EN (k.val - 6)) then 1 + s.fld (F.TDM_CTL_DOMAIN (k.val - 6)) else 3
  else if k.val = 8 then
    if s.part.headset && s.flag F.HS_CTL_EN then 1 else 3
  else if s.flag (F.CAP_CTL_EN (k.val - 9)) then 1 + s.fld (F.CAP_CTL_DOMAIN (k.val - 9)) else 3

/-- A sink starts from silence: `ms` of silence, then a 1 ms fade-in (R348, R377). -/
def State.sinkFadeIn (s : State) (k : Fin 17) (ms num den : Nat) : State :=
  s.modSink k (fun x =>
    { x with
      hold := if ms = 0 then 0 else msSamples ms num den
      fade := (Ramp.at 0).toward unity (msSamples 1 num den) })

def State.sinksFadeIn (s : State) (d : Fin 3) (ms num den : Nat) : State :=
  allSinks.foldl (fun s (k : Fin 17) => if s.sinkDomain k = d.val then s.sinkFadeIn k ms num den else s) s

/-- Ramps and envelopes keep their remaining durations at a new rate (R348). -/
def State.domRescale (s : State) (d : Fin 3) (num den : Nat) : State :=
  let m := s.dm d
  if m.num = 0 ∨ (m.num = num ∧ m.den = den) then s
  else
    let s := s.modDom d (fun m =>
      { m with ramps := m.ramps.map (fun r => { r with ramp := r.ramp.rescale m.num m.den num den }) })
    if d.val = 0 then
      let vs := s.aud.voice.map (fun v => { v with env := v.env.rescale m.num m.den num den })
      { s with aud := { s.aud with voice := vs } }
    else s

/-- A domain starts: computation resumes at the next tick with the rate recomputed (R346). -/
def State.domStart (s : State) (d : Fin 3) (num den : Nat) : State :=
  let s := s.domRescale d num den
  let s := s.modDom d (fun m =>
    { m with run := true, ctl := s.reg .AUD_DOM_CTL d 0, num := num, den := den
             pc := none, tick := 0, owed := [], done := [], lastOuts := [] })
  (s.bridgesRefill d).sinksFadeIn d 0 num den

/-- A domain stops: samples in flight are lost, bridges leaving it fade to 0 (R346). -/
def State.domStop (s : State) (d : Fin 3) : State :=
  let s := s.modDom d (fun m => { m with run := false, pc := none, owed := [], done := [] })
  (s.bridgesOf d).foldl (fun s (b : Fin 16) =>
    if s.fld (F.BR_CTL_SRC b) = d.val then
      let dst := s.fld (F.BR_CTL_DST b)
      match allDoms.find? (fun e => e.val = dst) with
      | some e => s.modBridge b (fun x => { x with gain := x.gain.toward 0 (msSamples 1 (s.dm e).num (s.dm e).den) })
      | none => s
    else s) s

/-- A change of RATE, HEAD or LDIV of a running domain (R348). -/
def State.domChange (s : State) (d : Fin 3) (num den : Nat) : State :=
  let s := s.domRescale d num den
  let s := s.modDom d (fun m => { m with ctl := s.reg .AUD_DOM_CTL d 0, num := num, den := den })
  (s.bridgesRefill d).sinksFadeIn d 10 num den

/-- Compare each domain with what its control, its head and the mode make of it, and start, stop or
change it. -/
def State.domReview (s : State) : State :=
  allDoms.foldl (fun s (d : Fin 3) =>
    match s.domRate d, (s.dm d).run with
    | none, true => s.domStop d
    | some (num, den), false => s.domStart d num den
    | some (num, den), true =>
      if s.reg .AUD_DOM_CTL d 0 = (s.dm d).ctl ∧ num = (s.dm d).num ∧ den = (s.dm d).den then s
      else s.domChange d num den
    | none, false => s) s

/-! ### Voices and keys -/

def State.voice (s : State) (v : Nat) : VoiceSt := if h : v < 64 then s.aud.voice[v] else {}

def State.modVoice (s : State) (v : Nat) (f : VoiceSt → VoiceSt) : State :=
  if h : v < 64 then { s with aud := { s.aud with voice := s.aud.voice.set v (f s.aud.voice[v]) } } else s

/-- Full envelope level. -/
def fullE : Int := 2 ^ 23

/-- Length of an envelope segment at the LINE rate (R350). -/
def State.envSamples (s : State) (ms : Nat) : Nat := msSamples ms (s.dm 0).num (s.dm 0).den

/-- VOICE_ON: the parameter, if not 0, is the new pitch; ATTACK starts from the current level. -/
def State.voiceOn (s : State) (v : Nat) (param : W24) : State :=
  let s := if param = 0 then s else s.setLive .VOICE_PITCH v 0 (param.setWidth 32)
  s.modVoice v (fun x =>
    { x with stage := .attack, env := x.env.toward fullE (s.envSamples (s.use (F.VOICE_ENV_AD_ATTACK v))) })

/-- VOICE_OFF: RELEASE in any stage but IDLE. -/
def State.voiceOff (s : State) (v : Nat) : State :=
  if (s.voice v).stage = .idle then s
  else s.modVoice v (fun x =>
    { x with stage := .release, env := x.env.toward 0 (s.envSamples (s.use (F.VOICE_ENV_SR_RELEASE v))) })

/-- A ramp key or ramp set waits for the next sample of its domain, whose program decides whether it is ignored
(`State.checkRamps`); domain 3 is ignored and counted (R351, R367). -/
def State.rampEvent (s : State) (dom slot : Nat) (target : Option Int) : State :=
  match allDoms.find? (fun d => d.val = dom) with
  | some d => s.modDom d (fun m => { m with rampW := m.rampW ++ [⟨slot, target⟩] })
  | none => s.incF F.AUD_STAT_KEY_IGN

/-- Domain at whose sample a key takes effect; a ramp key for domain 3 is disposed of with LINE. -/
def Key.domain (k : Key) : Nat :=
  match k.act with
  | .rampStart | .rampStop => if k.param.toNat / 2 ^ 22 = 3 then 0 else k.param.toNat / 2 ^ 22
  | _ => 0

/-- A key takes effect (R350, R351). -/
def State.applyKey (s : State) (k : Key) : State :=
  match k.act with
  | .voiceOn => s.voiceOn k.index k.param
  | .voiceOff => s.voiceOff k.index
  | .rampStart => s.rampEvent (k.param.toNat / 2 ^ 22) k.index (some (signed 22 k.param.toNat))
  | .rampStop => s.rampEvent (k.param.toNat / 2 ^ 22) k.index none
  | .write a v => match decodeReg a with | some (r, i, j) => s.setLive r i j v | none => s

/-- A key is due: untagged, late, or the scan beam of the LINE head has reached its line (R284). -/
def State.keyDue (s : State) (k : Key) : Bool :=
  match k.tag with
  | none => true
  | some (f, line) =>
    k.late ||
    (let n := s.fld (F.AUD_DOM_CTL_HEAD 0)
     if h : n < 6 then
       let hd := s.head ⟨n, h⟩
       decide (hd.absLine f line ≤ hd.absLine hd.sc.scanFrame hd.sc.scanLine)
     else true)

/-- Keys due at a sample of domain `d`, in the order of their arrival (R351). -/
def State.applyKeys (s : State) (d : Fin 3) : State :=
  let due (k : Key) : Bool := k.domain = d.val && s.keyDue k
  let ks := s.keys.filter due
  ks.foldl State.applyKey { s with keys := s.keys.filter (fun k => !due k) }

/-- The envelope moves; a segment that ends starts the next (R350). -/
def State.envStep (s : State) (v : Nat) : State :=
  let x := s.voice v
  let env := x.env.step s.free (4096 + v)
  if env.moving then s.modVoice v (fun x => { x with env := env })
  else match x.stage with
    | .attack =>
      let sus := divFree s.free (8192 + v) ((s.use (F.VOICE_ENV_SR_SUSTAIN v) : Int) * fullE) 255
      s.modVoice v (fun x =>
        { x with stage := .decay, env := env.toward sus (s.envSamples (s.use (F.VOICE_ENV_AD_DECAY v))) })
    | .decay => s.modVoice v (fun x => { x with stage := .sustain, env := env })
    | .release => s.modVoice v (fun x => { x with stage := .idle, env := Ramp.at 0 })
    | _ => s.modVoice v (fun x => { x with env := env })

/-- Step the 23-bit register `k` times (taps x^23 + x^18 + 1). -/
def lfsrStep : Nat → BitVec 23 → BitVec 23
  | 0, r => r
  | k + 1, r => lfsrStep k ((r <<< 1) ||| (if r.getLsbD 22 != r.getLsbD 17 then 1 else 0))

/-- A wavetable out of place: BASE no multiple of 3, or beyond addressable Tarn (R350). -/
def State.waveBad (s : State) (v : Nat) : Bool :=
  let base := s.use (F.VOICE_WAVE_BASE v)
  base % 3 ≠ 0 || s.tarnTop < base * 64 + 3 * 2 ^ s.use (F.VOICE_WAVE_LOG2N v)

/-- The wave value W at the new phase (R349). -/
def State.waveAt (s : State) (v : Nat) (phase : Word) (lfsr : BitVec 23) : Int :=
  if s.use (F.VOICE_WAVE_NOISE v) = 1 then signed 24 (lfsr.toNat * 2)
  else
    let lg := s.use (F.VOICE_WAVE_LOG2N v)
    let n := 2 ^ lg
    let base := s.use (F.VOICE_WAVE_BASE v) * 64
    let i := phase.toNat / 2 ^ (32 - lg)
    let frac := phase.toNat / 2 ^ (32 - lg - 8) % 256
    let t (k : Nat) : Int := signed 24 (s.mem.word24 base k).toNat
    t i + ((t ((i + 1) % n) - t i) * (frac : Int) + 128) / 256

/-- One LINE sample of a voice: the state it leaves and its output (R349). -/
def State.voiceSample (s : State) (v : Nat) : State × Int :=
  let x := s.voice v
  let inc := s.use (F.VOICE_PITCH_PITCH v) * 256
  let sum := x.phase.toNat + inc
  let noise := s.use (F.VOICE_WAVE_NOISE v) = 1
  let carry := (x.phase.toNat % 2 ^ 24 + inc % 2 ^ 24) / 2 ^ 24
  let lfsr := if noise then lfsrStep carry x.lfsr else x.lfsr
  let s := (s.modVoice v (fun x => { x with phase := BitVec.ofNat 32 sum, lfsr := lfsr })).envStep v
  if !noise && s.waveBad v then (s.raiseF (F.VOICE_STAT_CFG v), 0)
  else
    let w := s.waveAt v (BitVec.ofNat 32 sum) lfsr
    let we := divFree s.free (12288 + v) (w * (s.voice v).env.cur) fullE
    (s, satS 24 (divFree s.free (16384 + v) (we * (s.use (F.VOICE_VOL_VOL v) : Int)) 255))

/-- All voices, as input ports (R362). -/
def State.voices (s : State) : Nat → State × List (Nat × Int)
  | 0 => (s, [])
  | v + 1 =>
    let (s, l) := s.voices v
    let (s, y) := s.voiceSample v
    (s, l ++ [(v, y)])

/-- Every voice falls IDLE (R377). -/
def State.voicesIdle (s : State) : State :=
  { s with aud := { s.aud with voice := s.aud.voice.map (fun v => { v with stage := .idle, env := Ramp.at 0 }) } }

/-! ### Stream players -/

/-- Bytes of a sample in memory (R352). -/
def fmtBytes (fmt : Nat) : Nat := match fmt with | 0 => 2 | 1 => 3 | _ => 4

/-- Bytes of a frame of player `p`. -/
def State.frameBytes (s : State) (p : Fin 16) : Nat :=
  (s.fld (F.PLAY_CTL_CHANNELS p) + 1) * fmtBytes (s.fld (F.PLAY_CTL_FMT p))

/-- The samples of a frame. -/
def decodeFrame (fmt : Nat) : Nat → List Byte → List Int
  | 0, _ => []
  | ch + 1, bs =>
    let v := ofLe (bs.take (fmtBytes fmt))
    (match fmt with
     | 0 => signed 16 v * 256
     | 1 => signed 24 v
     | _ => signed 24 (v / 256)) :: decodeFrame fmt ch (bs.drop (fmtBytes fmt))

/-- Issue the next read of a player: 4 ms ahead, one read at a time (R353). -/
def State.playAsk (s : State) (p : Fin 16) : State :=
  let x := s.play p
  let fb := s.frameBytes p
  let held := (x.bufs.map (fun b => b.data.length + b.asked)).sum
  let want := roundDiv (4 * s.fld (F.PLAY_RATE_HZ p)) 1000 * fb
  if x.bufs.any (fun b => 0 < b.asked) || want ≤ held then s
  else match x.bufs.find? (fun b => 0 < b.ask) with
    | none => s
    | some b =>
      let n := min b.ask (max fb ((want - held) / fb * fb))
      let s := s.modPlay p (fun x => { x with bufs := x.bufs.map (fun c =>
        if c.slot = b.slot then { c with addr := c.addr + n, ask := c.ask - n, asked := n } else c) })
      let s := s.emit (.hostRead b.addr n)
      match s.slot b.slot with
      | some y => s.count 0x07 0 n { fn := some y.hdr.fn.val }
      | none => s

/-- Start an AUDIO_STREAM descriptor that passed its checks: its buffer joins the queue, or waits
while 64 are queued (R353). -/
def State.playStart (s : State) (id : Nat) : State :=
  match s.slot id with
  | none => s
  | some x =>
    let p : Fin 16 := ⟨pay x.payload 20 1 % 16, Nat.mod_lt _ (by decide)⟩
    if 64 ≤ (s.play p).bufs.length then s.modSlot id (fun x => { x with st := .waitUnit })
    else
      let len := pay x.payload 16 4
      let s := s.modSlot id (fun x => { x with st := .running })
      let s := s.modPlay p (fun y => { y with bufs := y.bufs ++
        [{ slot := id, addr := pay x.payload 8 8, ask := len, data := [], asked := 0
           last := (pay x.payload 21 1).testBit 0 }] })
      s.playAsk p

/-- A player's read returns, or fails and completes its buffer (R353). -/
def State.playerRead (s : State) (p : Fin 16) (r : HostRead) : State :=
  match (s.play p).bufs.find? (fun b => 0 < b.asked) with
  | none => s
  | some b =>
    let put (f : PlayBuf → PlayBuf) : State :=
      s.modPlay p (fun x => { x with bufs := x.bufs.map (fun c => if c.slot = b.slot then f c else c) })
    match r with
    | .ok bytes =>
      if bytes.length < b.asked then s
      else (put (fun c => { c with data := c.data ++ bytes.take c.asked, asked := 0 })).playAsk p
    | .busError a =>
      ((put (fun c => { c with ask := 0, asked := 0, bad := true })).completeReadFail b.slot stBusError a).playAsk p
    | .timeout a =>
      ((put (fun c => { c with ask := 0, asked := 0, bad := true })).completeReadFail b.slot stTimeout a).playAsk p

/-- Take the next frame for the converter; a buffer whose last frame has entered completes (R353). -/
def State.takeFrame (s : State) (p : Fin 16) : State × Option (List Int) :=
  let fb := s.frameBytes p
  match (s.play p).bufs with
  | [] => (s, none)
  | b :: rest =>
    if !s.flag (F.PLAY_CTL_EN p) then (s, none)
    else if b.data.length < fb then
      if b.bad then (s.modPlay p (fun x => { x with bufs := rest, ending := x.ending || b.last }), none)
      else (s, none)
    else
      let fr := decodeFrame (s.fld (F.PLAY_CTL_FMT p)) (s.fld (F.PLAY_CTL_CHANNELS p) + 1) b.data
      let b' := { b with data := b.data.drop fb }
      if b'.data.length < fb ∧ b.ask = 0 ∧ b.asked = 0 ∧ !b.bad then
        let s := s.modPlay p (fun x => { x with bufs := rest, ending := x.ending || b.last })
        ((s.complete b.slot stDone 0).playAsk p, some fr)
      else
        let s := s.modPlay p (fun x => { x with bufs := b' :: rest })
        (s.playAsk p, some fr)

/-- A frame is due at the converter of player `p` (R352, R354). -/
def State.playFrame (s : State) (p : Fin 16) (num den : Nat) : State :=
  let x := s.play p
  if x.ending then s
  else
    let (s, fr) := s.takeFrame p
    let ms1 := msSamples 1 num den
    match x.run, fr with
    | .idle, none => s
    | .idle, some f => s.modPlay p (fun x => { x with run := .playing, frame := f, gain := Ramp.at unity })
    | .playing, some f => s.modPlay p (fun x => { x with frame := f })
    | .playing, none =>
      (s.modPlay p (fun x => { x with run := .dry, gain := x.gain.toward 0 ms1 })).incF (F.PLAY_STAT_DRY_COUNT p)
    | .dry, some f => s.modPlay p (fun x => { x with run := .playing, frame := f, gain := x.gain.toward unity ms1 })
    | .dry, none => s

def State.playFrames (s : State) (p : Fin 16) (num den : Nat) : Nat → State
  | 0 => s
  | k + 1 => (s.playFrame p num den).playFrames p num den k

/-- Player `p` stands still: IDLE with nothing of a stream left but its queue. -/
def State.playIdle (s : State) (p : Fin 16) : State :=
  s.modPlay p (fun x => { x with run := .idle, ending := false, frame := [], phase := 0, gain := Ramp.at 0 })

/-- Player `p` at a tick of its domain: frames enter the converter, the fades move, and its
channels appear at its input ports. -/
def State.playTick (s : State) (p : Fin 16) (num den : Nat) : State × List (Nat × Int) :=
  if s.fld (F.PLAY_CTL_FMT p) = 3 then (s, [])
  else
    let ph := (s.play p).phase + s.fld (F.PLAY_RATE_HZ p) * den
    let busy := (s.play p).run ≠ .idle || !(s.play p).bufs.isEmpty
    let s := s.modPlay p (fun x => { x with phase := if busy then ph % max 1 num else 0 })
    let s := if busy then s.playFrames p num den (ph / max 1 num) else s
    let was := (s.play p).ending
    let s := if was && (s.play p).gain.target ≠ 0 then
        s.modPlay p (fun x => { x with gain := x.gain.toward 0 (msSamples 1 num den) }) else s
    let s := s.modPlay p (fun x => { x with gain := x.gain.step s.free (20480 + p.val) })
    let x := s.play p
    let outs := (enumFrom 0 x.frame).map (fun (c, v) =>
      (0x80 + 8 * p.val + c, rnd (satS 24 (Config.convert s.free (p.val * 8 + c) v)) x.gain.cur))
    let s := if was && !x.gain.moving then
        s.playIdle p
      else s
    if x.run = .idle then (s, []) else (s, outs)

/-- A player with the reserved format stays IDLE with STAT.CFG set (R352). -/
def State.playReview (s : State) : State :=
  allPlayers.foldl (fun s (p : Fin 16) =>
    if s.fld (F.PLAY_CTL_FMT p) = 3 then (s.raiseF (F.PLAY_STAT_CFG p)).playIdle p else s) s

/-- Players lose their queues without completions, fade out and go IDLE: all of them at a host-interface reset,
those that `mine` owns at its function-level reset (R354). -/
def State.playQuit (s : State) (mine : Fin 16 → Bool) : State :=
  allPlayers.foldl (fun s (p : Fin 16) =>
    if mine p then s.modPlay p (fun x => { x with bufs := [], ending := x.run ≠ .idle }) else s) s

/-- The queued buffers of slots that end are abandoned without completions; the player then fades out and goes
IDLE (R354). -/
def State.playAbandon (s : State) (keep : Slot → Bool) : State :=
  allPlayers.foldl (fun s (p : Fin 16) =>
    let gone (b : PlayBuf) : Bool := match s.slot b.slot with | some x => !keep x | none => true
    if (s.play p).bufs.any gone then
      s.modPlay p (fun x => { x with bufs := x.bufs.filter (fun b => !gone b), ending := x.run ≠ .idle })
    else s) s

/-! ### Bridges -/

/-- Newest input of a bridge, saturated to 24 bits (R356). -/
def State.bridgeIn (s : State) (b : Fin 16) (v : Int) (num den : Nat) : State :=
  if !s.flag (F.BR_CTL_EN b) then
    (s.modBridge b (fun x => { x with fill := 0, gain := Ramp.at 0 })).setF (F.BR_STAT_FILLED b) 0
  else
    let s := if satS 24 v = v then s else s.incF (F.BR_STAT_CLIP b)
    let full := msSamples 1 num den
    let n := (s.bridge b).fill
    let s := s.modBridge b (fun x => { x with input := satS 24 v, fill := min full (n + 1) })
    if n + 1 = full then
      let s := s.raiseF (F.BR_STAT_FILLED b)
      match allDoms.find? (fun e => e.val = s.fld (F.BR_CTL_DST b)) with
      | some e => s.modBridge b (fun x => { x with gain := (Ramp.at 0).toward unity (msSamples 1 (s.dm e).num (s.dm e).den) })
      | none => s
    else s

/-- Output of a bridge at a sample of its target domain. -/
def State.bridgeOut (s : State) (b : Fin 16) : State × Int :=
  if !s.flag (F.BR_CTL_EN b) then (s, 0)
  else
    let s := s.modBridge b (fun x => { x with gain := x.gain.step s.free (24576 + b.val) })
    let x := s.bridge b
    (s, rnd (satS 24 (Config.convert s.free (256 + b.val) x.input)) x.gain.cur)

/-! ### Sinks -/

/-- Channels of a sink and its first output port (R362). -/
def State.sinkPorts (s : State) (k : Fin 17) : Nat × Nat :=
  if k.val < 6 then (0x000 + 8 * k.val, bits (s.dpAudOf k.val) 26 24 + 1)
  else if k.val < 8 then (0x040 + 8 * (k.val - 6), 8)
  else if k.val = 8 then (0x050, 2)
  else (0x060 + 4 * (k.val - 9), s.fld (F.CAP_CTL_CHANNELS (k.val - 9)) + 1)

/-- Full scale × 10^(−LEVEL ÷ 20) is not above the magnitude of a sample (R371). -/
def isLoud (level : Nat) (x : Int) : Bool := decide (2 ^ 460 ≤ x.natAbs ^ 20 * 10 ^ level)

/-- Silence detector: a sample at or above the level wakes the sink (R371). -/
def State.sinkDetect (s : State) (k : Fin 17) (xs : List Int) : State :=
  let loud := xs.any (isLoud (s.fld (F.SINK_SIL_LEVEL k)))
  if loud || !s.flag (F.SINK_SIL_EN k) then
    (s.modSink k (fun x => { x with quiet := !loud, silent := false })).setF (F.ASINK_STAT_SILENT k) 0
  else s.modSink k (fun x => { x with quiet := true })

/-- Limiter of a sink, or plain saturation with BYPASS (R370). -/
def State.sinkLimit (s : State) (k : Fin 17) (xs : List Int) (num den : Nat) : State × List Int :=
  if s.flag (F.SINK_LIM_BYPASS k) then (s, xs.map (satS 24))
  else
    let t := limThresh (s.fld (F.SINK_LIM_THRESH k))
    let (l, ys) := limStep s.free (65536 + k.val * 1000) (s.fld (F.SINK_LIM_REL k)) num den t (s.asink k).lim xs
    let s := s.modSink k (fun x => { x with lim := l })
    let s := if l.g < 0x100000 then (s.raiseF (F.ASINK_STAT_LIM k)).count 0xC2 k 1 else s
    (s, ys.map (satS 24))

/-- Ratio of a sink's rate to its domain's (R369). -/
def State.sinkRatio (s : State) (k : Fin 17) (num den : Nat) : Nat × Nat :=
  if k.val < 6 then (dpAudioRate (bits (s.dpAudOf k.val) 19 16) * den, num) else (1, 1)

/-- The ratios of R369. -/
def ratioOk (r : Nat × Nat) : Bool :=
  r.1 * 3 = r.2 || r.1 * 2 = r.2 || r.1 * 3 = r.2 * 2 || r.1 = r.2 || r.1 = r.2 * 2 || r.1 = r.2 * 4

/-- A DP sink whose domain is stopped, or has no ratio to its rate, sets SINK_STAT.CFG (R369). -/
def State.dpSinkReview (s : State) : State :=
  allSinks.foldl (fun s (k : Fin 17) =>
    match allDoms.find? (fun d => d.val = s.sinkDomain k) with
    | some d =>
      let m := s.dm d
      if k.val < 6 && !(m.run && ratioOk (s.sinkRatio k m.num m.den)) then s.raiseF (F.ASINK_STAT_CFG k) else s
    | none => s) s

/-- Bring the audio engine to what its registers, the clock head and the mode make of it: domains, players and DP
sinks; an LTR message follows a player that leaves its stream (R70). -/
def State.audReview (s : State) : State :=
  if !s.alive then s else s.domReview.playReview.dpSinkReview.ltrFrom s

def w24 (x : Int) : W24 := BitVec.ofInt 24 x

/-- Write one capture frame into its host ring (R373). -/
def State.captureFrame (s : State) (r : Fin 8) (ys : List Int) : State :=
  let base := s.fld (F.CAP_BASE_LO_ADDR r) * 4096 + s.fld (F.CAP_BASE_HI_ADDR r) * 2 ^ 32
  let size := 2 ^ (s.fld (F.CAP_CTL_LOG2SIZE r) + 12)
  let tot := s.aud.capTotal[r]
  let s := (enumFrom 0 ys).foldl (fun s (c, y) =>
    s.hostWrite (s.fld (F.CAP_CTL_FN r)) (base + (tot + 4 * c) % size) (leBytes 4 (wrapInt 32 y))) s
  { s with aud := { s.aud with capTotal := s.aud.capTotal.set r (tot + 4 * ys.length) } }

/-- Send `cnt` samples at a sink: at the domain's rate exactly, else through the converter. -/
def State.sinkEmit (s : State) (k : Fin 17) (exact : Bool) (ys : List Int) : Nat → State
  | 0 => s
  | cnt + 1 =>
    let zs := if exact then ys else
      (enumFrom 0 ys).map (fun (c, y) => satS 24 (Config.convert s.free (512 + k.val * 8 + c) y))
    let s := if exact then s else s.stamp
    let s :=
      if k.val < 6 then
        (match allHeads.find? (fun n => n.val = k.val) with
         | some n =>
           let h := s.head n
           if h.sc.video && !h.dp.audMuted && bit h.dp.dpAud 31 && !(s.asink k).silent
           then s.emit (.audio k.val (zs.map w24)) else s
         | none => s)
      else if k.val < 8 then
        let on := s.fld (F.TDM_CTL_OUT_SLOTS (k.val - 6))
        s.emit (.audio k.val ((enumFrom 0 zs).map (fun (c, z) =>
          if on.testBit c && !(s.asink k).silent then w24 z else 0)))
      else if k.val = 8 then
        (if s.aud.hs.dacMute || (s.asink k).silent then s else s.emit (.audio 8 (zs.map w24)))
      else
        match allChansR.find? (fun r => r.val + 9 = k.val) with
        | some r => s.captureFrame r (if (s.asink k).silent then zs.map (fun _ => 0) else zs)
        | none => s
    s.sinkEmit k exact ys cnt
where
  /-- Capture rings. -/
  allChansR : List (Fin 8) := [0, 1, 2, 3, 4, 5, 6, 7]

/-- Fade of a sink, sinks being muted in BRING-UP (R28, R348, R377). -/
def State.sinkFade (s : State) (k : Fin 17) (ys : List Int) (num den : Nat) : State × List Int :=
  if s.glob.mode = .bringUp then (s.sinkFadeIn k 0 num den, ys.map (fun _ => 0))
  else
    let x := s.asink k
    if 0 < x.hold then (s.modSink k (fun x => { x with hold := x.hold - 1 }), ys.map (fun _ => 0))
    else
      let f := x.fade.step s.free (28672 + k.val)
      (s.modSink k (fun x => { x with fade := f }), ys.map (fun y => rnd y f.cur))

/-- The tick's share of a sink's output samples goes out (R369). -/
def State.sinkSend (s : State) (k : Fin 17) (ys : List Int) (num den : Nat) : State :=
  let r := s.sinkRatio k num den
  if !ratioOk r then s.raiseF (F.ASINK_STAT_CFG k)
  else
    let ph := (s.asink k).phase + r.1
    (s.modSink k (fun x => { x with phase := ph % max 1 r.2, last := ys })).sinkEmit k (r.1 = r.2) ys (ph / max 1 r.2)

/-- FB_SINK is a sink of the MIX domain other than the headset or a capture ring (R376). -/
def State.fbSink (s : State) : Option (Fin 17) :=
  allSinks.find? (fun k => k.val = s.fld F.HS_CTL_FB_SINK && k.val < 8 && s.sinkDomain k = 1)

/-- Fall-back gain towards its goal over 5 ms (R376). -/
def State.fbStep (s : State) (num den : Nat) : State :=
  let want := s.part.headset && s.flag F.HS_CTL_FB_EN && !s.flag F.HS_STAT_PLUGGED
  let s := if s.flag F.HS_CTL_FB_EN && s.fbSink.isNone then s.raiseF (F.ASINK_STAT_CFG 8) else s
  let goal := if want && s.fbSink.isSome then unity else 0
  s.modHs (fun h =>
    let g := if h.fb.target = goal then h.fb else h.fb.toward goal (msSamples 5 num den)
    { h with fb := g.step s.free 32768 })

/-- A sink takes a sample: fed in the order of R370. `fb` is what the fall-back adds. -/
def State.sinkTick (s : State) (k : Fin 17) (outs : List (Nat × Int)) (fb : List Int) (num den : Nat) :
    State × List Int :=
  let (base, ch) := s.sinkPorts k
  let xs := (List.range ch).map (fun c => satS 32 (portAt outs (base + c) + fb.getD c 0))
  let s := s.sinkDetect k xs
  let (s, ys) := s.sinkLimit k xs num den
  let (s, zs) := s.sinkFade k ys num den
  (s.sinkSend k zs num den, ys)

/-- Every sink of a domain takes a sample; the headset first, for the fall-back. -/
def State.sinksTick (s : State) (d : Fin 3) (outs : List (Nat × Int)) : State :=
  let m := s.dm d
  let s := if d.val = 1 then s.fbStep m.num m.den else s
  let ks := allSinks.filter (fun k => s.sinkDomain k = d.val)
  let (s, hs) := if ks.contains 8 then s.sinkTick 8 outs [] m.num m.den else (s, [])
  let fbk := if s.flag F.HS_CTL_FB_EN then s.fbSink else none
  (ks.filter (fun k => k ≠ 8)).foldl (fun s (k : Fin 17) =>
    let fb := if fbk = some k then hs.map (fun y => rnd y s.aud.hs.fb.cur) else []
    (s.sinkTick k outs fb m.num m.den).1) s

/-- Sinks repeat their previous output sample (R347). -/
def State.sinksRepeat (s : State) (d : Fin 3) : State :=
  let m := s.dm d
  allSinks.foldl (fun s (k : Fin 17) =>
    if s.sinkDomain k = d.val then s.sinkSend k (s.asink k).last m.num m.den else s) s

/-! ### The sample tick -/

/-- A sample not ready at its tick: counted, flagged, and the first in a second recorded (R347). -/
def State.audUnder (s : State) (d : Fin 3) : State :=
  let s := ((s.incF (F.AUD_DOM_UNDER_COUNT d)).raiseF (F.AUD_DOM_STAT_UNDER d)).count 0xC1 d 1
  let recent := match (s.dm d).underRec with
    | some t => decide (s.clock < t + 1000 * perMs)
    | none => false
  if recent then s
  else
    (s.modDom d (fun m => { m with underRec := some s.clock })).faultDev 0x15 unitAud d
      (s.fld (F.AUD_DOM_UNDER_COUNT d))

/-- Sinks and bridge inputs consume sample `k` (R347). -/
def State.consume (s : State) (d : Fin 3) (k : Nat) : State :=
  let m := s.dm d
  let s := s.modDom d (fun m => { m with done := m.done.filter (fun e => k < e.1) })
  match m.done.find? (fun e => e.1 = k) with
  | none => (s.audUnder d).sinksRepeat d
  | some (_, outs) =>
    let s := s.modDom d (fun m => { m with lastOuts := outs })
    let s := allPlayers.foldl (fun s (b : Fin 16) =>
      if s.fld (F.BR_CTL_SRC b) = d.val then s.bridgeIn b (portAt outs (0x80 + b.val)) m.num m.den else s) s
    s.sinksTick d outs

/-- Microphone gain: muted with a 1 ms ramp while a button is held, 20 ms after, or with an unknown
plug (R374, R375). -/
def State.micStep (s : State) (num den : Nat) : State :=
  let muted := s.fld F.HS_STAT_BUTTONS ≠ 0 || 0 < s.aud.hs.micHold || s.fld F.HS_STAT_TYPE = 5
  let goal := if muted then 0 else unity
  s.modHs (fun h =>
    let g := if h.mic.target = goal then h.mic else h.mic.toward goal (msSamples 1 num den)
    { h with mic := g.step s.free 32769, micHold := h.micHold - 1 })

/-- Largest `t` below 2^(k) with t^10 ≤ x^10 × 10^g, found bit by bit. -/
def micFind (x g : Nat) : Nat → Nat → Nat
  | 0, t => t
  | k + 1, t => micFind x g k (if (t + 2 ^ k) ^ 10 ≤ x ^ 10 * 10 ^ g then t + 2 ^ k else t)

/-- A microphone sample raised by `g` steps of 2 dB (R355): which neighbour of the exact value results, and the
sample for a value beyond full scale, the manual leaves open (free values, log entry 92). -/
def micGain (stamp g : Nat) (x : Int) : Int :=
  let t := micFind x.natAbs g 29 0
  let m : Nat := if t ^ 10 = x.natAbs ^ 10 * 10 ^ g then t else t + (if Config.roundUp stamp 32770 then 1 else 0)
  let y : Int := if x < 0 then -(m : Int) else m
  if satS 24 y = y then y else satS 24 (Config.convert stamp 1024 y)

/-- Inputs of a sample: voices, players and bridges of the domain, TDM slots and the microphone as
the outside gives them (R349, R355, R362). -/
def State.gatherIns (s : State) (d : Fin 3) (ext : List (Nat × W24)) : State × List (Nat × Int) :=
  let m := s.dm d
  let (s, vs) := if d.val = 0 then s.voices 64 else (s, [])
  let (s, ps) := allPlayers.foldl (fun (st : State × List (Nat × Int)) (p : Fin 16) =>
    if d.val = 1 + st.1.fld (F.PLAY_CTL_DOMAIN p) then
      let (s', o) := st.1.playTick p m.num m.den
      (s', st.2 ++ o)
    else st) (s, [])
  let (s, bs) := allPlayers.foldl (fun (st : State × List (Nat × Int)) (b : Fin 16) =>
    if st.1.fld (F.BR_CTL_DST b) = d.val then
      let (s', y) := st.1.bridgeOut b
      (s', st.2 ++ [(0x120 + b.val, y)])
    else st) (s, [])
  let s := if d.val = 1 then s.micStep m.num m.den else s
  let tdm := ext.filterMap (fun (x, v) =>
    if 0x100 ≤ x ∧ x < 0x110 then
      let t := (x - 0x100) / 8
      if s.flag (F.TDM_CTL_EN t) && 1 + s.fld (F.TDM_CTL_DOMAIN t) = d.val &&
         (s.fld (F.TDM_CTL_IN_SLOTS t)).testBit (x % 8) then some (x, v.toInt) else none
    else if x = 0x110 ∧ d.val = 1 ∧ s.part.headset ∧ s.flag F.HS_CTL_EN then
      some (x, rnd (micGain s.free (s.fld F.HS_CTL_MIC_GAIN) v.toInt) s.aud.hs.mic.cur)
    else none)
  (s.stamp, vs ++ ps ++ bs ++ tdm)

/-- A domain's sample tick (R347). `behind` says that contention has kept the execution unit from
finishing what it had started; otherwise every program started is finished by now. -/
def State.sampleTick (s : State) (d : Fin 3) (behind : Bool) (ext : List (Nat × W24)) : State :=
  if !(s.alive && (s.dm d).run) then s
  else
    let fuel := ((s.dm d).owed.length + 1) * 4097
    let s := if behind then s else s.mixRun d fuel
    let n := (s.dm d).tick
    let s := if 4 ≤ n then s.consume d (n - 4) else s
    let s := s.stamp.applyKeys d
    let (s, ins) := s.gatherIns d ext
    let s := s.modDom d (fun m => { m with tick := n + 1, owed := m.owed ++ [(n, ins)] })
    if (s.dm d).pc.isNone then s.beginSample d else s

/-- A sample tick, and the LTR message when a player becomes active or idle (R70). -/
def State.audTick (s : State) (d : Fin 3) (behind : Bool) (ext : List (Nat × W24)) : State :=
  (s.sampleTick d behind ext).ltrFrom s

/-! ### Registers and events -/

/-- AUD_RAMP_SET with GO (R367). -/
def State.rampSet (s : State) (w : Word) : State :=
  if bit w 31 then
    s.rampEvent (bits w 25 24) (bits w 23 16) (some (signed 24 (s.fld F.AUD_RAMP_VAL_VAL)))
  else s

/-- AUD_COEF_SET with GO: the active bank's coefficient at the next sample boundary (R368). -/
def State.coefSet (s : State) (w : Word) : State :=
  match allDoms.find? (fun d => d.val = bits w 25 24) with
  | some d =>
    if bit w 31 then
      s.modDom d (fun m => { m with coefW := m.coefW ++
        [(bits w 9 0, BitVec.ofNat 24 (s.fld F.AUD_COEF_VAL_VAL))] })
    else s
  | none => s

/-- A sink has been quiet for HOLD and powers down (R371). -/
def State.sinkSilent (s : State) (k : Fin 17) : State :=
  if s.flag (F.SINK_SIL_EN k) && (s.asink k).quiet && s.sinkDomain k ≠ 3 then
    (s.modSink k (fun x => { x with silent := true })).raiseF (F.ASINK_STAT_SILENT k)
  else s

/-- The record and the message of a capture ring (R373). -/
def State.capturePeriod (s : State) (r : Fin 8) : State :=
  if s.flag (F.CAP_CTL_EN r) then
    let rec' := s.fld (F.CAP_REC_LO_ADDR r) * 8 + s.fld (F.CAP_REC_HI_ADDR r) * 2 ^ 32
    let fn := s.fld (F.CAP_CTL_FN r)
    (s.hostWrite fn rec' (leBytes 8 s.aud.capTotal[r])).sendVec fn (s.fld (F.CAP_CTL_VECTOR r))
  else s

/-- The engine is idle (R372). -/
def State.audIdle (s : State) : Bool :=
  allSinks.all (fun k =>
    if k.val < 9 then s.sinkDomain k = 3 || (s.asink k).silent else !s.flag (F.CAP_CTL_EN (k.val - 9))) &&
  allPlayers.all (fun p => (s.play p).run = .idle)

/-- A headset event: its bit, and the message of HS_IRQ (R375). -/
def State.hsEvent (s : State) (k : Nat) : State :=
  (s.setF F.HS_STAT_EVENT (s.fld F.HS_STAT_EVENT ||| 2 ^ k)).signal (s.reg .HS_IRQ 0 0)

/-- The headset unit works: present, enabled, and the unit logic runs. -/
def State.hsOn (s : State) : Bool := s.alive && s.part.headset && s.flag F.HS_CTL_EN

/-- A plug (R374 step 1). -/
def State.hsPlug (s : State) : State :=
  if s.hsOn && !s.flag F.HS_STAT_PLUGGED then
    (((s.noteWake 0x07).raiseF F.HS_STAT_PLUGGED).modHs (fun h => { h with typing := true, dacMute := true })).hsEvent 0
  else s

/-- Class of a microphone's resistance. -/
def micClass (ohm : Nat) : Nat := if ohm < 1200 then 1 else if ohm < 2400 then 2 else 3

/-- TYPE and MIC_CLASS from the resistances in the CTIA and the OMTP arrangement (R374). -/
def hsClassify (ctia omtp : Nat) : Nat × Nat :=
  if ctia < 200 ∧ omtp < 200 then (1, 0)
  else if 600 ≤ ctia ∧ ctia ≤ 10000 then (2, micClass ctia)
  else if 600 ≤ omtp ∧ omtp ≤ 10000 then (3, micClass omtp)
  else (5, 0)

/-- Classification ends: the DAC unmutes over 5 ms (R374 step 3). -/
def State.hsTyped (s : State) (ctia omtp : Nat) : State :=
  if s.hsOn && s.aud.hs.typing then
    let (ty, cl) := hsClassify ctia omtp
    let s := (s.setF F.HS_STAT_TYPE ty).setF F.HS_STAT_MIC_CLASS cl
    let s := s.modHs (fun h => { h with typing := false, dacMute := false })
    let s := s.modSink 8 (fun x => { x with hold := 0, fade := (Ramp.at 0).toward unity (msSamples 5 (s.dm 1).num (max 1 (s.dm 1).den)) })
    s.hsEvent 2
  else s

/-- The plug is pulled (R374). -/
def State.hsUnplug (s : State) : State :=
  if s.hsOn && s.flag F.HS_STAT_PLUGGED then
    let s := ((((s.noteWake 0x07).setF F.HS_STAT_PLUGGED 0).setF F.HS_STAT_TYPE 0).setF F.HS_STAT_MIC_CLASS 0).setF F.HS_STAT_BUTTONS 0
    (s.modHs (fun h => { h with typing := false, dacMute := true })).hsEvent 1
  else s

/-- The buttons that a resistance of the microphone line in ohms holds, as HS_STAT shows them (R375); a
resistance between two ranges holds none. -/
def buttonsOf (ohm : Nat) : Nat :=
  if ohm < 70 then 1
  else if 110 ≤ ohm ∧ ohm ≤ 180 then 2
  else if 210 ≤ ohm ∧ ohm ≤ 290 then 4
  else if 360 ≤ ohm ∧ ohm ≤ 680 then 8
  else 0

/-- A reading of the microphone line has been stable for `ms`; it counts from 20 ms on: a button it no longer
shows is released, and a button it newly shows is pressed (R375). -/
def State.hsReading (s : State) (ohm ms : Nat) : State :=
  let ty := s.fld F.HS_STAT_TYPE
  let held := s.fld F.HS_STAT_BUTTONS
  if s.hsOn && 20 ≤ ms && (ty = 2 || ty = 3) && held ≠ buttonsOf ohm then
    let s := if held = 0 then s else
      ((s.setF F.HS_STAT_BUTTONS 0).modHs (fun h =>
        { h with micHold := msSamples 20 (s.dm 1).num (max 1 (s.dm 1).den) })).hsEvent 3
    if buttonsOf ohm = 0 then s else (s.setF F.HS_STAT_BUTTONS (buttonsOf ohm)).hsEvent 3
  else s

/-- A limiter's samples in flight are lost; it keeps its gain. -/
def LimSt.empty (l : LimSt) : LimSt := { l with win := [] }

/-- Samples in flight in players, bridges, limiters and sinks are lost, and sinks restart from silence with a
1 ms fade-in; programs, ramps and voices are unchanged (R35, R377). -/
def State.audLoseFlight (s : State) : State :=
  let s := { s with aud := { s.aud with
    sink := s.aud.sink.map (fun x => { x with lim := x.lim.empty, last := [] })
    play := s.aud.play.map (fun x => { x with frame := x.frame.map (fun _ => 0) }) } }
  allDoms.foldl (fun s (d : Fin 3) =>
    let s := s.modDom d (fun m => { m with lims := m.lims.map LimSt.empty })
    if (s.dm d).run then (s.bridgesRefill d).sinksFadeIn d 0 (s.dm d).num (s.dm d).den else s) s

/-- After a freeze the FIFOs are empty as well: samples owed and samples not yet consumed (R377). -/
def State.audEmpty (s : State) : State :=
  allDoms.foldl (fun s (d : Fin 3) =>
    s.modDom d (fun m => { m with pc := none, owed := [], done := [], tick := 0 })) s.audLoseFlight

/-- Application of a trick's staged images: each becomes pending (R365). -/
def State.audApply (s : State) (key : Nat) : State :=
  allDoms.foldl (fun s (d : Fin 3) =>
    match (s.dm d).shadow with
    | some (k, i) =>
      if k = key then
        let s := s.modDom d (fun m => { m with pend := some i, shadow := none })
        s
      else s
    | none => s) s

/-- Discarding a trick releases the shadow banks it holds (R364). -/
def State.audDiscard (s : State) (key : Nat) : State :=
  allDoms.foldl (fun s (d : Fin 3) =>
    match (s.dm d).shadow with
    | some (k, _) => if k = key then s.modDom d (fun m => { m with shadow := none }) else s
    | none => s) s

/-- Put a checked image into the shadow bank of its domain for a trick (R364). -/
def State.audStage (s : State) (key : Nat) (i : AudImage) : State :=
  match allDoms.find? (fun d => d.val = i.domain) with
  | some d => s.modDom d (fun m => { m with shadow := some (key, i) })
  | none => s

/-- Another uncommitted trick holds the domain's shadow bank (R364 check 4). -/
def State.audBusy (s : State) (key : Option Nat) (i : AudImage) : Bool :=
  match allDoms.find? (fun d => d.val = i.domain) with
  | some d => (match (s.dm d).shadow with | some (k, _) => key ≠ some k | none => false)
  | none => false

/-- A program restored at boot: GAIN slots at their image GAIN, ROUTE slots at 1.0 unless RETIRE (R377). -/
def State.audRestore (s : State) (d : Fin 3) (i : AudImage) : State :=
  s.modDom d (fun m =>
    { ({ m with delays := [], ramps := [] }.load i) with
      ramps := i.ramps.map (fun e =>
        { decl := e, ramp := Ramp.at (if e.route then (if e.retire then 0 else unity) else e.gain) }) })

end Sys2Proof.Machine
end

