-- ==== Sys2Proof/Machine/Beam.lean ====
section
/-!
DEFINITION. The compose and scan beams of a head: object evaluation (R203 to R210), line starts
and chunks (R244 to R250), sinks and write-back (R239 to R243, R472), scan-out and underrun (R251,
R261), the trump check (R236, R237), and the wrap (R130, R254 to R264).
-/

set_option Elab.async false  -- the joined text is large: no thread per declaration

namespace Sys2Proof.Machine

/-- The beams of head `n` move: its unit logic runs and its beams are not stopped. -/
def State.beamsRun (s : State) (n : Fin 6) : Bool := s.alive && (s.head n).beams

/-- Lead of compose line `line` of the frame being composed (R244). -/
def HeadSt.lead (h : HeadSt) (line scanLine : Nat) : Int :=
  frameDiff h.frame h.sc.scanFrame * h.vTotal + line - scanLine

/-- Saturated two's complement of a lead in 8 bits. -/
def leadField (l : Int) : Nat := wrapInt 8 (max (-128) (min 127 l))

/-- Frame information of the frame being scanned (R303). -/
def HeadSt.scanInfo (h : HeadSt) : FrameInfo :=
  if h.info.frame = h.sc.scanFrame then h.info
  else if h.prevInfo.frame = h.sc.scanFrame then h.prevInfo
  else { frame := h.sc.scanFrame, w := h.hActive, h := h.vActive, sig := h.info.sig }

/-! ### Object evaluation -/

/-- The evaluator runs on head `n` (R216). -/
def State.evaluates (s : State) (n : Fin 6) : Bool :=
  s.use (F.OBJ_CTL_EN n) = 1 && !(s.head n).fb && !(s.head n).coast && !(s.head n).early

/-- Deck entries from index `i` on, off a byte string. -/
def deckEntries : Nat → Nat → List Byte → List ObjSel
  | 0, _, _ => []
  | n + 1, i, bs =>
    let w (k : Nat) : W24 := BitVec.ofNat 24 (ofLe ((bs.drop (3 * k)).take 3))
    ⟨i, w 0, w 1, w 2, w 3⟩ :: deckEntries n (i + 1) (bs.drop 12)

/-- Entries that intersect a line, in deck order, and how many of the deck lie in Tarn (R203, R210).
`rd` reads a run of bytes; `size` is the active size of the line's frame. -/
def State.deckHits (s : State) (rd : Nat → Nat → List Byte) (deck count ofs : Word) (size : Nat × Nat) (y : Nat) :
    List ObjSel × Nat :=
  let base := bits deck 19 0
  let count := min (bits count 16 0) 65536
  if base % 3 ≠ 0 then ([], count)
  else
    let avail := min count ((s.tarnTop - base * 64) / 12)
    ((deckEntries avail 0 (rd (base * 64) (12 * avail))).filter
      (fun o => o.meets ofs size.1 size.2 y), avail)

/-- Front-to-back order (R198): higher PRIO first, then lower deck index. -/
def frontFirst (l : List ObjSel) : List ObjSel :=
  [3, 2, 1, 0].flatMap (fun p => l.filter (fun o => o.prio = p))

/-- Start evaluating a line with the register values given: registers and deck are those of this instant (R206,
R213). Line 0 of the coming frame reads current content, every other line the head's own view (R146, R204). -/
def State.startEval (s : State) (n : Fin 6) (line : Nat) (deck count ofs : Word) (size : Nat × Nat) : State :=
  let h := s.head n
  let rd := if line ≠ 0 || (h.line = 0 && !h.lineOn) then s.headBytes n else s.mem.readBytes
  let res := s.deckHits rd deck count ofs size line
  s.modEv n (fun e => { e with
    evalLine := some line, evalFor := some line, evalDeck := deck, evalCount := count, evalOfs := ofs
    evalObjs := (frontFirst res.1).take 1024
    found := {
      hits := res.1.length
      badBase := bits deck 19 0 % 3 ≠ 0
      breach := (res.1.find? (fun o => s.objBreach o)).map (·.idx)
      fetch := if res.2 < min (bits count 16 0) 65536 then some res.2 else none } })

/-- A line is not evaluated: it has no objects. -/
def State.noEval (s : State) (n : Fin 6) (ofs : Word) : State :=
  s.modEv n (fun e => { e with evalLine := none, evalFor := none, evalObjs := [], evalOfs := ofs, eval0 := none })

/-- Active size of the frame the next wrap makes (R303). -/
def HeadSt.nextSize (h : HeadSt) : Nat × Nat :=
  match h.ts, h.tsNext with
  | some a, some t => if h.seamless a t then (t.hActive, t.vActive) else (a.hActive, a.vActive)
  | _, _ => (h.hActive, h.vActive)

/-- The coming frame shows the scene, as far as is known before its wrap: not in FALLBACK, coasting or disabled,
and not in BRING-UP before the restored scene is applied (R216, R427). -/
def State.sceneNext (s : State) (n : Fin 6) : Bool :=
  let h := s.head n
  h.enabled && !h.disabling && (!h.fb || h.fbLeave) && !h.fbEnter &&
  (!h.coast || h.ungated || h.stopCoast || !h.dmg.none) &&
  (!h.early || s.trk.shown.any (fun x => x.owner = .boot))

/-- Evaluation of line 0 of the coming frame, from committed values (R204). -/
def State.startEval0 (s : State) (n : Fin 6) : State :=
  if s.flag (F.OBJ_CTL_EN n) && s.sceneNext n then
    s.startEval n 0 (s.reg .OBJ_DECK n 0) (s.reg .OBJ_COUNT n 0) (s.reg .OBJ_OFS n 0) (s.head n).nextSize
  else s.noEval n (s.reg .OBJ_OFS n 0)

/-- Overflow, breach and demand records of one evaluated line (R207 to R210). A base in breach has no
deck index: that part of DETAIL is free. -/
def State.recordEval (s : State) (n : Fin 6) (line : Nat) (r : EvalRec) : State :=
  let dropped := r.hits - 1024
  let fr := (s.head n).frame
  let s := s.modTot n (fun t => { t with demand := max t.demand r.hits })
  let s := (s.count 0x65 n (min r.hits 1024)).count 0x66 n dropped
  let s :=
    if dropped = 0 then s
    else
      let was := s.flag (F.OBJ_STAT_OVF n)
      let s := (s.incF (F.OBJ_OVF_TOTAL_COUNT n)).raiseF (F.OBJ_STAT_OVF n)
      let s := if was then s else
        (s.setF (F.OBJ_OVF_FIRST_FRAME n) (fr.toNat % 65536)).setF (F.OBJ_OVF_FIRST_LINE n) line
      let s := if (s.head n).tot.seen.objOvf then s else
        (s.modTot n (fun t => { t with seen := { t.seen with objOvf := true } })).faultHead n 0x06 0xFF
          line 0 dropped
      s.modTot n (fun t => { t with
        ovfLines := t.ovfLines + 1
        ovfFirst := if t.ovfLines = 0 then line else t.ovfFirst })
  let s := if r.badBase || r.breach.isSome || r.fetch.isSome then s.raiseF (F.OBJ_STAT_CFG n) else s
  let s := if r.fetch.isSome then s.raiseF (F.OBJ_STAT_FETCH n) else s
  let none' := (Config.freeWord s.free).toNat % 2 ^ 17
  let s := if r.badBase then { s with free := s.free + 1 } else s
  let first : Option Nat := match r.badBase, r.breach, r.fetch with
    | true, _, _ => some none'
    | false, some i, _ => some i
    | false, none, some i => some (i + 2 ^ 31)
    | false, none, none => none
  match first with
  | some d =>
    if (s.head n).tot.seen.objCfg then s else
      (s.modTot n (fun t => { t with seen := { t.seen with objCfg := true } })).faultHead n 0x05 0xFF
        line 0 d
  | none => s

/-- The line's object list is complete (R205 to R210). Records of a line 0 evaluated before the wrap
belong to the coming frame and are made at the wrap (R204). -/
def State.evaluationEnd (s : State) (n : Fin 6) : State :=
  let h := s.head n
  match h.ev.evalLine with
  | none => s
  | some y =>
    let wrapped := !(y = 0) || (h.line = 0 && !h.lineOn)
    let s := s.modEv n (fun e => { e with evalLine := none, eval0 := if wrapped then e.eval0 else some e.found })
    if wrapped then s.recordEval n y h.ev.found else s

/-! ### Sinks -/

/-- Tarn offset of a line's slot. -/
def SinkCfg.slotAt (c : SinkCfg) (w line : Nat) : Nat :=
  bits c.ring 19 0 * 64 + line % c.lines * ringStride w

/-- Row pitches of a write-back buffer: pixels and mask (R242). -/
def wbPitch (w : Nat) : Nat := cdiv (3 * w) 192 * 192
def wbMaskPitch (w : Nat) : Nat := cdiv (cdiv w 8) 64 * 64

def SinkCfg.wbEn (c : SinkCfg) : Bool := bit c.ctl 8
def SinkCfg.wbCount (c : SinkCfg) : Nat := bits c.cfg 17 16 + 1
def SinkCfg.wbBase (c : SinkCfg) (k : Nat) : Nat :=
  c.lo.toNat + bits c.hi 7 0 * 2 ^ 32 + k * (bits c.cfg 11 0 * 0x100000)

/-- Size of a write-back buffer. -/
def wbSize (w h : Nat) : Nat := wbPitch w * h + wbMaskPitch w * h

/-- A range a sink may use: memory present, outside the pool and every trump region. -/
def State.sinkRange (s : State) (a n : Nat) : Bool := s.present a n && !s.touchesTrump a n

/-- The sink of a head breaks R171 or lies where it may not (end of the sink registers). -/
def State.sinkBreach (s : State) (h : HeadSt) (c : SinkCfg) (w v : Nat) : Bool :=
  let p := h.path c
  (p = 0 && (bits c.ring 19 0 % 3 ≠ 0 || !s.sinkRange (bits c.ring 19 0 * 64) (c.lines * ringStride w))) ||
  ((p = 2 || c.wbEn) && (c.wbBase 0 % 192 ≠ 0 || (List.range (if p = 2 then 1 else c.wbCount)).any (fun k =>
    !s.sinkRange (c.wbBase k) (wbSize w v))))

/-- Bytes of RGB888 words, and mask bits packed as IDX1. -/
def pxBytes (ps : List (W24 × Bool)) : List Byte := ps.flatMap (fun p => leBytes 3 p.1.toNat)

def maskBytes (ps : List (W24 × Bool)) : List Byte :=
  (List.range (cdiv ps.length 8)).map (fun b =>
    BitVec.ofNat 8 ((((ps.drop (8 * b)).take 8).zipIdx.map (fun e => if e.1.2 then 2 ^ e.2 else 0)).sum))

/-- Write a chunk into a strip-ring slot. -/
def State.ringWrite (s : State) (c : SinkCfg) (w line chunk : Nat) (ps : List (W24 × Bool)) : State :=
  let a := c.slotAt w line
  (s.poke (a + 48 * chunk) (pxBytes ps)).poke (a + cdiv (3 * w) 64 * 64 + 2 * chunk) (maskBytes ps)

/-- Write a chunk into write-back buffer `k`. -/
def State.wbWrite (s : State) (c : SinkCfg) (k w v line chunk : Nat) (ps : List (W24 × Bool)) : State :=
  let a := c.wbBase k
  (s.poke (a + wbPitch w * line + 48 * chunk) (pxBytes ps)).poke
    (a + wbPitch w * v + wbMaskPitch w * line + 2 * chunk) (maskBytes ps)

/-- Read `cnt` pixels with mask bits: pixel row at `a`, mask row at `mk`. -/
def readPx (m : DevMem) (a mk x cnt : Nat) : List (W24 × Bool) :=
  let px := m.slice (a + 3 * x) (a + 3 * (x + cnt))
  let bits := m.slice (mk + x / 8) (mk + (x + cnt) / 8 + 1)
  (List.range cnt).map (fun k =>
    (BitVec.ofNat 24 (rd24 px.read a (x + k)), (bits.read (mk + (x + k) / 8)).getLsbD ((x + k) % 8)))

/-- Read a chunk of the ring. -/
def State.ringRead (s : State) (c : SinkCfg) (w line x cnt : Nat) : List (W24 × Bool) :=
  let a := c.slotAt w line
  readPx s.mem a (a + cdiv (3 * w) 64 * 64) x cnt

/-- Read a chunk of write-back buffer `k`. -/
def State.wbRead (s : State) (c : SinkCfg) (k w v line x cnt : Nat) : List (W24 × Bool) :=
  let a := c.wbBase k
  readPx s.mem (a + wbPitch w * line) (a + wbPitch w * v + wbMaskPitch w * line) x cnt

/-! ### Starting a line -/

/-- The compose beam composes line `y` of the present frame (R245, R252, R260, R263). -/
def HeadSt.composes (h : HeadSt) (y : Nat) : Bool :=
  h.active && !h.skipRest && y < h.info.h && (!h.command || h.full || h.closed.line y)

/-- Record the first breach of R191 or R192 of the frame (R193). -/
def State.planeFault (s : State) (n : Fin 6) (p line kind : Nat) : State :=
  if (s.head n).tot.seen.plane then s else
    (s.modTot n (fun t => { t with seen := { t.seen with plane := true } })).faultHead n 0x04 p line 0 kind

/-- Planes newly found in breach of R191 are transparent for the rest of the line, or for all of it at its start;
each sets its bit in PLANE_STAT.CFG. -/
def State.breachChecks (s : State) (n : Fin 6) (line : Nat) (mid : Bool) : State :=
  let h := s.head n
  if h.fb || h.early then s
  else
    let bad := (List.range 16).filter (fun p =>
      !h.badPl.getLsbD p && s.planeOn n p && s.sourceLive n h.marked p && s.planeBreach n p h.info.w mid)
    bad.foldl (fun s p =>
      ((s.modHead n (fun h => { h with badPl := h.badPl ||| BitVec.ofNat 16 (2 ^ p) })).setF (F.PLANE_STAT_CFG n)
        (s.fld (F.PLANE_STAT_CFG n) ||| 2 ^ p)).planeFault n p line 0) s

/-- MELD_STAT.CFG while a step with a reserved SRC or OP is in force, and the first record of the frame (R226). -/
def State.meldCheck (s : State) (n : Fin 6) (line : Nat) : State :=
  let h := s.head n
  if h.fb || h.early || !s.meldListEn n then s
  else match (s.meldSteps n).zipIdx.find? (fun e => badStep e.1) with
    | some e =>
      let s := s.raiseF (F.MELD_STAT_CFG n)
      if (s.head n).tot.seen.meld then s else
        (s.modTot n (fun t => { t with seen := { t.seen with meld := true } })).faultHead n 0x07 e.2
          line 0 e.1.toNat
    | none => s

/-- Checks at the start of a composed line: plane settings (R191) and the trump source (R228). -/
def State.lineChecks (s : State) (n : Fin 6) (line : Nat) : State :=
  let s := (s.modHead n (fun h => { h with badPl := 0 })).breachChecks n line false
  if s.use (F.TRUMP_CTL_EN n) = 1 && (s.trumpSource n).isNone then s.raiseF (F.TRUMP_STAT_CFG n) else s

/-- Shedding, lateness and lead-low of a composed line (R248 to R250, R240). `past` says that the scan beam has
left the first pixel of its line, so that less than `l` line periods are left. -/
def State.judgeLine (s : State) (n : Fin 6) (line : Nat) (l : Int) (past : Bool) : State :=
  let h := s.head n
  let direct := h.path h.sk.sinkS = 1
  let marked :=
    if direct then l < 1 || (l = 1 && past)
    else h.paceS ≠ 0 && (l ≤ h.paceS || (line ≠ 0 && h.marked && l < h.paceT))
  let s := s.modHead n (fun h => { h with marked := marked })
  let s := s.modTot n (fun t => { t with shedLines := if marked then t.shedLines + 1 else t.shedLines })
  let s := if l < h.paceT then (s.incF (F.PACE_LATE_COUNT n)).count 0x62 n 1 else s
  let s := if marked then
      ((s.incF (F.PACE_SHED_TOTAL_COUNT n)).raiseF (F.PACE_STAT_SHED n)).count 0x63 n 1 else s
  if !direct && bits h.paceW 13 8 ≠ 0 && l < h.paceM then
    let s := (s.incF (F.PACE_LOW_TOTAL_COUNT n)).raiseF (F.PACE_STAT_LOW n)
    if (s.head n).tot.seen.low then s else
      (s.modTot n (fun t => { t with seen := { t.seen with low := true } })).faultHead n 0x0C 0xFF line
        h.sc.scanPixel (wrapInt 64 l)
  else s

/-- Start work on line `y` with lead `l` (R206, R244 to R250, R273). -/
def State.startLine (s : State) (n : Fin 6) (y : Nat) (l : Int) (past : Bool) : State :=
  let h := s.head n
  let composed := h.composes y
  let s := s.setF (F.PACE_STAT_LEAD n) (leadField l)
  let s := s.modHead n (fun h => { h with line := y, lineOn := true, chunk := 0, composing := composed })
  let s := s.modTot n (fun t => { t with minLead := if y < h.vActive then min t.minLead l else t.minLead })
  let s := if composed then s.modEv n (fun e => { e with objs := e.evalObjs, objOfs := e.evalOfs }) else s
  let s := (s.landAt n 0).meldCheck n y
  let s := if composed then (s.judgeLine n y l past).count 0x60 n 1 else s
  let s := if composed then s.lineChecks n y else s
  let h := s.head n
  if h.composes (y + 1) then
    if s.evaluates n then
      s.startEval n (y + 1) (s.useReg .OBJ_DECK n 0) (s.useReg .OBJ_COUNT n 0) (s.useReg .OBJ_OFS n 0)
        (h.info.w, h.info.h)
    else s.noEval n (s.useReg .OBJ_OFS n 0)
  else s.modEv n (fun e => { e with evalFor := if e.evalFor = some y then none else e.evalFor })

/-- The scan beam is seen on a line: in blanking it moves forward only (R236, R304), and a line it is seen on
has begun. The frame under it has the height it was made with (R303). -/
def HeadSt.scanTo (h : HeadSt) (scanLine : Nat) : HeadSt :=
  let y := min scanLine (h.vTotal - 1)
  if h.scanInfo.h ≤ h.sc.scanLine ∨ !h.sc.scanReal then
    { h with sc := { h.sc with
        scanLine := max h.sc.scanLine y
        scanPixel := if h.sc.scanLine < scanLine then 0 else h.sc.scanPixel
        scanOn := h.sc.scanOn || h.sc.scanLine ≤ y } }
  else { h with sc := { h.sc with scanOn := h.sc.scanOn || scanLine = h.sc.scanLine } }

/-- The line the scan beam is on: after a line's last chunk it stays there until the next line begins. -/
def HeadSt.scanNow (h : HeadSt) (scanLine : Nat) : Nat :=
  if !h.sc.scanOn ∧ scanLine + 1 = h.sc.scanLine then scanLine else h.sc.scanLine

/-- The scan beam has left the first pixel of the line it is on, before a command sees it on line `scanLine`:
pixels of that line are sent, or in blanking an earlier command saw it there (DEDUCED, log entry 95). -/
def HeadSt.scanPast (h : HeadSt) (scanLine : Nat) : Bool :=
  if scanLine < h.sc.scanLine then true
  else if h.sc.scanReal && h.sc.scanLine < h.scanInfo.h then 0 < h.sc.scanPixel
  else h.sc.scanOn && scanLine = h.sc.scanLine

/-- COMPOSE_LINE_START: the next line starts once the work on the last one has ended, the scan beam
has come within T′ and its object list is complete (R204, R205, R245). -/
def State.composeLineStart (s : State) (n : Fin 6) (scanLine : Nat) : State :=
  if !s.beamsRun n then s
  else
    let past := (s.head n).scanPast scanLine
    let s := s.modHead n (fun h => h.scanTo scanLine)
    let h := s.head n
    let next := if h.lineOn then h.line + 1 else h.line
    let l := h.lead next (h.scanNow scanLine)
    if h.composing || h.vTotal ≤ next || (h.paceT : Int) < l ||
       (h.composes next && h.ev.evalLine = some next) then s
    else s.startLine n next l past

/-! ### Composing a chunk -/

/-- FEN surfaces in error, once per surface and frame, with the frame's first record (R170). -/
def State.fenErrors (s : State) (n : Fin 6) (line x : Nat) (es : List (Nat × Nat)) : State :=
  es.foldl (fun s e =>
    if (s.head n).tot.seen.fen.contains e.2 then s
    else
      let s := s.incF F.MEM_FEN_ERR_COUNT
      let rec1 := (s.head n).tot.seen.fenRec
      let s := s.modTot n (fun t => { t with
        seen := { t.seen with fen := e.2 :: t.seen.fen, fenRec := true } })
      if rec1 then s else s.faultHead n 0x03 e.1 line x e.2) s

/-- Give a composed chunk to every sink of the head (R239 to R242). -/
def State.sinkChunk (s : State) (n : Fin 6) (line chunk : Nat) (ps : List (W24 × Bool)) : State :=
  let h := s.head n
  let c := h.sk.sinkC
  let w := h.info.w
  let v := h.info.h
  if h.sk.sinkBad then s
  else
    let s := match h.path c with
      | 0 => s.ringWrite c w line chunk ps
      | 1 => s.modSk n (fun k => { k with fifo :=
          match k.fifo with
          | (l, q) :: rest => if l = line then (l, q ++ ps) :: rest else ((line, ps) :: (l, q) :: rest).take 2
          | [] => [(line, ps)] })
      | _ => s
    match h.sk.wbCur with
    | some k => s.wbWrite c k w v line chunk ps
    | none => s

/-- Keep the verdicts on the headers that a chunk read first in this frame (R170). -/
def State.keepHeaders (s : State) (n : Fin 6) (bases : List Nat) : State :=
  bases.foldl (fun s b =>
    if (s.head n).tot.seen.hdrs.any (fun e => e.1 = b) then s
    else s.modTot n (fun t => { t with
      seen := { t.seen with hdrs := (b, fenHeader s (s.headRead n) b) :: t.seen.hdrs } })) s

/-- Scan-out has yet to finish reading the ring slot of the line being composed: an earlier line of the frame
being scanned lies in it (R241). The chunk then waits (DEDUCED, log entry 96). -/
def State.slotUnread (s : State) (n : Fin 6) : Bool :=
  let h := s.head n
  let i := h.scanInfo
  let a := h.sk.sinkC.slotAt h.info.w h.line
  h.path h.sk.sinkC = 0 && h.path h.sk.sinkS = 0 && h.sc.scanReal && !h.sc.replay && !h.sk.sinkBadS &&
  (List.range i.h).any (fun j =>
    h.sc.scanLine ≤ j && (0 < frameDiff h.frame h.sc.scanFrame || j < h.line) &&
    overlaps (a, a + ringStride h.info.w)
      (h.sk.sinkS.slotAt i.w j, h.sk.sinkS.slotAt i.w j + ringStride i.w))

/-- COMPOSE_CHUNK: the chunk is composed and written, and writes due at the next chunk land (R247, R273). -/
def State.composeChunk (s : State) (n : Fin 6) : State :=
  let h := s.head n
  if !s.beamsRun n || !h.composing || s.slotUnread n then s
  else
    let w := h.info.w
    let x := h.chunk * 16
    let cs := (List.range (min 16 (w - x))).map (fun k => s.composePx n (x + k) h.line)
    let ps := cs.map (fun c => (c.out, c.mask))
    let beyond := (List.range 16).filter (fun p => cs.any (fun c => c.beyond.contains p))
    let fen := (cs.flatMap (·.fen)).eraseDups
    let ops := s.layerOps n x h.line w
    let s := s.keepHeaders n (cs.flatMap (·.hdrs)).eraseDups
    let s := (s.sinkChunk n h.line h.chunk ps).count 0x61 n ops
    let s := beyond.foldl (fun s p =>
      (s.setF (F.PLANE_STAT_FETCH n) (s.fld (F.PLANE_STAT_FETCH n) ||| 2 ^ p)).planeFault n p h.line 1) s
    let s := s.fenErrors n h.line x fen
    let last := w ≤ x + 16
    let s := s.modHead n (fun h => { h with chunk := h.chunk + 1, composing := !last })
    if last then s else ((s.landAt n (h.chunk + 1)).meldCheck n h.line).breachChecks n h.line true

/-! ### Scan-out -/

/-- A chunk of the frame being scanned has been written (R251). -/
def HeadSt.written (h : HeadSt) (line chunk : Nat) : Bool :=
  let d := frameDiff h.frame h.sc.scanFrame
  if d < 0 then false
  else if 0 < d then true
  else h.lineOn && (line < h.line || (line = h.line && (!h.composing || chunk < h.chunk)))

/-- The lines skipped by a slip were never written (R252): they are already sent by then. -/
def fifoAt : List (Nat × List (W24 × Bool)) → Nat → List (W24 × Bool)
  | [], _ => []
  | (l, q) :: rest, y => if l = y then q else fifoAt rest y

/-- What scan-out reads for `cnt` pixels at (line, x); none when the chunk is not written. -/
def State.scanRead (s : State) (n : Fin 6) (line x cnt : Nat) : Option (List (W24 × Bool)) :=
  let h := s.head n
  let i := h.scanInfo
  if h.sk.sinkBadS then
    some ((h.sc.sentPrev.find? (fun e => e.1 = line && e.2.1 = x)).elim
      (List.replicate cnt (0, false)) (fun e => e.2.2))
  else if h.command then
    if h.active && h.closed.line line && !h.written line (x / 16) then none
    else some (s.wbRead h.sk.sinkS 0 i.w i.h line x cnt)
  else match h.sc.replay, h.sc.replayBuf with
    | true, some k => some (s.wbRead h.sk.sinkS k i.w i.h line x cnt)
    | _, _ =>
      if !h.written line (x / 16) then none
      else match h.path h.sk.sinkS with
        | 1 =>
          let q := (fifoAt h.sk.fifo line).drop x
          if q.length < cnt then none else some (q.take cnt)
        | _ => some (s.ringRead h.sk.sinkS i.w line x cnt)

/-- Records of an underrun line, made where the scan beam meets the first unwritten chunk (R251). -/
def State.underrunRecord (s : State) (n : Fin 6) (line x : Nat) : State :=
  let h := s.head n
  let was := s.flag (F.PACE_STAT_UNDER n)
  let s := ((s.incF (F.PACE_UNDER_TOTAL_COUNT n)).raiseF (F.PACE_STAT_UNDER n)).count 0x64 n 1
  let s := if was then s else
    (s.setF (F.PACE_UNDER_FIRST_FRAME n) (h.sc.scanFrame.toNat % 65536)).setF (F.PACE_UNDER_FIRST_LINE n) line
  let s := s.modTot n (fun t => { t with underLines := t.underLines + 1 })
  if h.sc.underSeen then s else
    (s.modSc n (fun c => { c with underSeen := true })).fault 0x0D n 0xFF h.sc.scanFrame line x 0

/-- The byte stream of R236 over trump-opaque pixels. -/
def sigStep (line : Nat) (c : Word × Bool × Nat) (p : W24 × Bool) : Word × Bool × Nat :=
  if p.2 then
    ((leBytes 2 c.2.2 ++ leBytes 2 line ++ leBytes 3 p.1.toNat).foldl crcByte c.1, true, c.2.2 + 1)
  else (c.1, c.2.1, c.2.2 + 1)

/-- Rows of the update rectangles that cross a chunk (R261). -/
def pushRows (rects : List Box) (line x : Nat) (ps : List (W24 × Bool)) : List (Nat × List W24) :=
  rects.filterMap (fun r =>
    if r.t ≤ line ∧ line ≤ r.b then
      let sel := (ps.zipIdx.filter (fun e => r.l ≤ x + e.2 && x + e.2 ≤ r.r)).map (·.1.1)
      if sel.isEmpty then none else some (max x r.l, sel)
    else none)

/-- SCAN_CHUNK: the scan beam sends the chunk, or the last pixel again (R236, R251, R261). -/
def State.scanChunk (s : State) (n : Fin 6) : State :=
  let h := s.head n
  let i := h.scanInfo
  if !s.beamsRun n || !h.sc.scanReal || i.h ≤ h.sc.scanLine || i.w ≤ h.sc.scanPixel then s
  else
    let line := h.sc.scanLine
    let x := h.sc.scanPixel
    let cnt := min 16 (i.w - x)
    let hit := !h.command || !(pushRows h.sc.pushing line x (List.replicate cnt (0, false))).isEmpty
    let got := if h.sc.underrun then none else s.scanRead n line x cnt
    let repeated := List.replicate cnt (h.sc.lastPix, h.sc.lastMask)
    let (s, ps, miss) := match got with
      | some ps => (s, ps, false)
      | none =>
        if h.sc.underrun then (s, repeated, true)
        else if hit then (s.underrunRecord n line x, repeated, true)
        else (s, (s.wbRead h.sk.sinkS 0 i.w i.h line x cnt), false)
    let s := if !h.sc.video then s
      else if h.command then
        (pushRows h.sc.pushing line x ps).foldl (fun s e => s.emit (.push n line e.1 e.2)) s
      else s.emit (.scan n line x (ps.map (·.1)))
    let c := ps.foldl (sigStep line) (h.sc.crc, h.sc.crcAny, x)
    let last := i.w ≤ x + 16
    s.modSc n (fun c' => { c' with
      crc := c.1, crcAny := c.2.1
      sentCur := c'.sentCur ++ [(line, x, ps)]
      lastPix := if miss then c'.lastPix else (ps.getLast?.map (·.1)).getD c'.lastPix
      lastMask := if miss then c'.lastMask else (ps.getLast?.map (·.2)).getD c'.lastMask
      underrun := miss && !last
      scanLine := if last then line + 1 else line
      scanPixel := if last then 0 else x + 16
      scanOn := !last })

/-! ### The trump check -/

/-- TRUMP_SIGNATURE_CHECK (R236, R237). -/
def State.trumpCheck (s : State) (n : Fin 6) : State :=
  let h := s.head n
  let i := h.scanInfo
  if !s.beamsRun n || h.sc.checked || (h.sc.scanReal && h.sc.scanLine < i.h) then s
  else
    let s := s.modSc n (fun c => { c with checked := true })
    if !h.sc.sentWhole || !h.sc.scanReal then
      (s.setF (F.TRUMP_STAT_MISS_RUN n) 0).setF (F.TRUMP_STAT_MATCH_RUN n) 0
    else if s.use (F.TRUMP_CTL_EN n) = 0 then s
    else
      let v : Word := if h.sc.crcAny then ~~~h.sc.crc else 0
      let s := s.setF (F.TRUMP_SIG_LAST_SIG n) v.toNat
      if v = i.sig then
        (s.setF (F.TRUMP_STAT_MATCH_RUN n) (min 3 (s.fld (F.TRUMP_STAT_MATCH_RUN n) + 1))).setF
          (F.TRUMP_STAT_MISS_RUN n) 0
      else
        let run := min 3 (s.fld (F.TRUMP_STAT_MISS_RUN n) + 1)
        let fresh := s.fld (F.TRUMP_STAT_MISS_RUN n) = 1
        let s := ((s.incF (F.TRUMP_MISMATCH_COUNT n)).setF (F.TRUMP_STAT_MISS_RUN n) run).setF
          (F.TRUMP_STAT_MATCH_RUN n) 0
        let s := s.modHead n (fun h => { h with stopCoast := h.stopCoast || h.coast })
        if fresh then
          let s := (s.raiseF (F.TRUMP_STAT_FAIL n)).setF (F.TRUMP_STAT_FAIL_FRAME n) (i.frame.toNat % 2 ^ 24)
          let s := s.fault 0x09 n 0xFF i.frame h.sc.scanLine 0 (v.toNat + i.sig.toNat * 2 ^ 32)
          if s.use (F.TRUMP_CTL_FB_EN n) = 1 && (!(s.head n).fb || (s.head n).fbLeave) then
            s.modHead n (fun h => { h with fbEnter := true, fbCause := .trump })
          else s
        else s

/-! ### Write-back buffers -/

/-- Publish SINK_WB_STATUS from the head's buffers (R242). -/
def State.wbPublish (s : State) (n : Fin 6) : State :=
  let h := s.head n
  match h.sk.wbLast with
  | some k =>
    ((s.setF (F.SINK_WB_STATUS_VALID n) 1).setF (F.SINK_WB_STATUS_LAST n) k).setF
      (F.SINK_WB_STATUS_FRAME n) (h.sk.wb[k].info.frame.toNat % 2 ^ 24)
  | none => s.setF (F.SINK_WB_STATUS_VALID n) 0

/-- Choose the buffer for the frame just entered (R242). -/
def State.wbChoose (s : State) (n : Fin 6) : State :=
  let h := s.head n
  let c := h.sk.sinkC
  let hold := s.fld (F.SINK_WB_HOLD_HOLD n)
  if h.command then
    if h.active then
      (s.modSk n (fun k' => { k' with wbCur := some 0, wb := k'.wb.set 0 { info := h.info, full := false } })).wbPublish n
    else s.modSk n (fun k' => { k' with wbCur := none })
  else if !h.active || !c.wbEn then s.modSk n (fun k' => { k' with wbCur := none })
  else
    let cnt := c.wbCount
    let start := match h.sk.wbTurn with | some k => (k.val + 1) % cnt | none => 0
    let free (k : Nat) : Bool := !hold.testBit k && !(h.sc.replay && h.sc.replayBuf.map (·.val) = some k)
    match (List.range cnt).find? (fun d => free ((start + d) % cnt)) with
    | none => (s.modSk n (fun k' => { k' with wbCur := none })).incF (F.SINK_STAT_WB_SKIP n)
    | some d =>
      let k : Fin 4 := ⟨(start + d) % cnt % 4, Nat.mod_lt _ (by decide)⟩
      (s.modSk n (fun k' => { k' with
        wbCur := some k, wbTurn := some k
        wbPrev := if k'.wbPrev = some k then none else k'.wbPrev
        wbLast := if k'.wbLast = some k then none else k'.wbLast
        wb := k'.wb.set k { info := h.info, full := false } })).wbPublish n

/-- WB_BUFFER_COMPLETE: the writes of a buffer's last line are acknowledged (R242). -/
def State.wbComplete (s : State) (n : Fin 6) (k : Fin 4) : State :=
  let h := s.head n
  let done := (h.sk.wbCur = some k && h.lineOn && !h.skipRest &&
      (h.info.h ≤ h.line || (h.info.h = h.line + 1 && !h.composing))) || h.sk.wbPrev = some k
  if !s.alive || !done || h.sk.wb[k].full then s
  else (s.modSk n (fun k' => { k' with
    wb := k'.wb.set k { k'.wb[k] with full := true }, wbLast := some k
    wbPrev := if k'.wbPrev = some k then none else k'.wbPrev })).wbPublish n

/-- A HOLD bit on the buffer being written stops its writes (R242). -/
def State.wbHeld (s : State) (n : Fin 6) : State :=
  let h := s.head n
  let hold := s.fld (F.SINK_WB_HOLD_HOLD n)
  match h.sk.wbCur with
  | some k =>
    if !h.command && hold.testBit k.val && !h.sk.wb[k].full then
      (s.modSk n (fun k' => { k' with wbCur := none })).incF (F.SINK_STAT_WB_SKIP n)
    else s
  | none => s

/-- A write of SINK_WB_HOLD (R472). -/
def State.holdReg (s : State) (n : Fin 6) (v : Word) : State :=
  if bit v 8 then
    match (s.head n).sk.wbLast with
    | some k => (s.setF (F.SINK_WB_HOLD_HOLD n) (s.fld (F.SINK_WB_HOLD_HOLD n) ||| 2 ^ k.val)).wbHeld n
    | none => s
  else (s.setF (F.SINK_WB_HOLD_HOLD n) (bits v 3 0)).wbHeld n

/-! ### The wrap -/

/-- Committed sink registers of a head. -/
def State.sinkRegs (s : State) (n : Fin 6) : SinkCfg :=
  { ctl := s.reg .SINK_CTL n 0, ring := s.reg .SINK_RING n 0, lo := s.reg .SINK_WB_LO n 0,
    hi := s.reg .SINK_WB_HI n 0, cfg := s.reg .SINK_WB_CFG n 0 }

/-- The sink settings of the frame a wrap makes; changed buffers are emptied (R243). -/
def State.sinkAdopt (s : State) (n : Fin 6) : State :=
  let c := s.sinkRegs n
  let h := s.head n
  let s := s.modSk n (fun k => { k with sinkC := c })
  let s := if h.pathSubst c then s.raiseF (F.SINK_STAT_CFG n) else s
  if c.lo = h.sk.sinkC.lo ∧ c.hi = h.sk.sinkC.hi ∧ c.cfg = h.sk.sinkC.cfg then s
  else (s.modSk n (fun k => { k with
    wb := Vector.replicate 4 {}, wbCur := none, wbPrev := none, wbLast := none, wbTurn := none })).wbPublish n

/-- Frame totals go to the PREV registers, and new totals start. -/
def State.totalsPrev (s : State) (n : Fin 6) : State :=
  let h := s.head n
  let s := ((s.setF (F.PACE_PREV_MIN_LEAD n) (leadField h.tot.minLead)).setF (F.PACE_PREV_SHED_LINES n)
    (min 4095 h.tot.shedLines)).setF (F.PACE_PREV_UNDER_LINES n) (min 4095 h.tot.underLines)
  let s := ((s.setF (F.OBJ_OVF_PREV_LINES n) (min 65535 h.tot.ovfLines)).setF (F.OBJ_OVF_PREV_FIRST n)
    h.tot.ovfFirst).setF (F.OBJ_DEMAND_MAX n) h.tot.demand
  s.modTot n (fun t => { t with
    minLead := 127, shedLines := 0, underLines := 0, ovfLines := 0, ovfFirst := 0xFFFF, demand := 0
    seen := {} })

/-- The frame's damage set closes (R254, R262, R263). -/
def State.closeDamage (s : State) (n : Fin 6) : State :=
  let h := s.head n
  let d := if h.fresh then { h.dmg with whole := true } else h.dmg
  let run := if d.none then min 15 (h.emptyRun + 1) else 0
  let rects := if h.command then h.updateRects d else []
  let s := s.modHead n (fun h => { h with closed := d, dmg := {}, emptyRun := run, rects := rects })
  let s := (((s.setF (F.DMG_STAT_RECTS n) rects.length).setF (F.DMG_STAT_RUN n) run).setF
    (F.DMG_STAT_WHOLE n) (b2n d.whole)).setF (F.DMG_STAT_CELLS n) (h.cellCount d)
  rects.zipIdx.foldl (fun s e =>
    (((s.setF (F.DMG_RECT_X_LEFT n e.2) e.1.l).setF (F.DMG_RECT_X_RIGHT n e.2) e.1.r).setF
      (F.DMG_RECT_Y_TOP n e.2) e.1.t).setF (F.DMG_RECT_Y_BOTTOM n e.2) e.1.b) s

/-- Coasting in the frame a wrap enters (R263, R264). -/
def State.coastNext (s : State) (n : Fin 6) (old : Word) : Bool :=
  let h := s.head n
  let cf := s.fld (F.DMG_CTL_COAST_FRAMES n)
  if h.fb || s.fld (F.TRUMP_STAT_MISS_RUN n) ≠ 0 || cf = 0 || !h.enabled then false
  else if h.coast then h.closed.none && !h.stopCoast
  else
    cf ≤ h.emptyRun &&
    (h.command ||
      (h.path h.sk.sinkC = 0 && h.sk.sinkC.wbEn && 1 < h.sk.sinkC.wbCount &&
        (match h.sk.wbLast with | some k => h.sk.wb[k].info.frame = old | none => false)))

/-- FALLBACK entry and exit at line 0 of a compose frame (R237, R238); the first frame after a release is whole-area
damage (R255). A failure between a release and its wrap keeps the head in FALLBACK. -/
def State.wrapFallback (s : State) (n : Fin 6) : State :=
  let h := s.head n
  if h.fbEnter then (s.modHead n (fun h => { h with fbLeave := false })).enterFb n
  else if h.fbLeave && h.fb then ((s.leaveFb n).markAll n).seqFreshStart n h.frame
  else s

/-- Widen a rectangle to the panel's granularity (R313). -/
def HeadSt.widenBox (h : HeadSt) (b : Box) : Box :=
  let gx := h.dp.granX
  let gy := max 1 h.dp.granY
  let xs := if gx = 0 then (0, h.hActive - 1)
    else (b.l / gx * gx, min (h.hActive - 1) ((b.r / gx + 1) * gx - 1))
  ⟨xs.1, b.t / gy * gy, xs.2, min (h.vActive - 1) ((b.b / gy + 1) * gy - 1)⟩

/-- Two pixel rectangles overlap. -/
def boxMeet (a b : Box) : Bool := a.l ≤ b.r && b.l ≤ a.r && a.t ≤ b.b && b.t ≤ a.b

/-- Insert a rectangle, merging it with every one it overlaps. -/
def boxMerge : Nat → List Box → Box → List Box
  | 0, l, b => l ++ [b]
  | fuel + 1, l, b =>
    match l.find? (boxMeet b) with
    | some q => boxMerge fuel (l.filter (· ≠ q)) (bound q b)
    | none => l ++ [b]

/-- Rectangles the push engine sends of the frame being composed: none of a frame that is not composed, all of
the first one after training, else the widened update rectangles (R261, R313). -/
def HeadSt.pushSet (h : HeadSt) : List Box :=
  let whole : Box := ⟨0, 0, h.hActive - 1, h.vActive - 1⟩
  if !h.command || !h.sc.video || !h.active then []
  else if !h.dp.prOn || h.closed.whole then [whole]
  else (h.rects.map h.widenBox).foldl (boxMerge 16) []

/-- The push engine takes the rectangles of the frame under the virtual beam; Panel Replay is on once a first
composed frame is sent in full, and the link wakes for an update (R313, R314). -/
def State.latchPush (s : State) (n : Fin 6) : State :=
  let push := (s.head n).pushSet
  (s.modSc n (fun c => { c with pushing := push })).modDp n (fun d => { d with
    prOn := d.prOn || !push.isEmpty, alpmSleep := d.alpmSleep && push.isEmpty })

/-- The scan side takes the sinks and the replay of the frame under the scan beam (R243, R263); while the compose
beam has yet to wrap into that frame, nothing of it is replayed. -/
def State.scanAdopt (s : State) (n : Fin 6) : State :=
  s.modHead n (fun h =>
    let replay := h.coast && h.frame = h.sc.scanFrame
    { h with
      sk := { h.sk with sinkS := h.sk.sinkC, sinkBadS := h.sk.sinkBad }
      sc := { h.sc with replay := replay, replayBuf := if replay then h.sk.wbLast else none } })

/-- A wrap that comes after its frame's tick: scan-out and the push engine change over now (R252, R261, R264). -/
def State.lateWrap (s : State) (n : Fin 6) : State :=
  let h := s.head n
  if h.frame = h.sc.scanFrame && h.sc.scanReal then (s.scanAdopt n).latchPush n else s

/-- Replaced pages head `n` no longer needs return to the pool (R146). -/
def State.dropOldPages (s : State) (n : Fin 6) : State :=
  { s with oldPages := (s.oldPages.map (fun (o : OldPage) =>
    { o with heads := o.heads &&& ~~~BitVec.ofNat 6 (2 ^ n.val) })).filter (fun o => o.heads ≠ 0 || o.snap) }

/-- The frame count advances and the beam stands at line 0 (R130). -/
def State.wrapCount (s : State) (n : Fin 6) : State :=
  s.modHead n (fun h => { h with
    frame := h.frame + 1, line := 0, lineOn := false, chunk := 0, composing := false
    inWindow := false, wrapWait := false, skipRest := false, marked := false
    sk := { h.sk with wbPrev := if h.skipRest then none else h.sk.wbCur }
    affHeld := Vector.replicate 4 none })

/-- The bench indicator is switched in or out at the wrap after the device is benched or rejoins; the
switch damages the whole area (R399). -/
def State.wrapBench (s : State) (n : Fin 6) : State :=
  let on := s.cwy.state = 3 && s.flag (F.CWY_BENCH_HD_EN n) && s.flag (F.TRUMP_CTL_EN n)
  if (s.head n).bench = on then s else (s.markAll n).modHead n (fun h => { h with bench := on })

/-- What the new frame is made with (R303). -/
def State.wrapInfo (s : State) (n : Fin 6) : State :=
  let sig := if (s.head n).bench then s.reg .CWY_BENCH_SIG n 0 else s.reg .TRUMP_SIG n 0
  s.modHead n (fun h => { h with
    prevInfo := h.info
    info := ({ frame := h.frame, w := h.hActive, h := h.vActive, sig := sig } : FrameInfo)
    disableWrapped := h.disableWrapped || h.disabling })

/-- Coasting, and whether the new frame is composed (R261, R263, R264): in full when the head stops coasting (DEDUCED,
log entry 94). -/
def State.wrapActive (s : State) (n : Fin 6) (old : Word) : State :=
  let coast := s.coastNext n old
  let held := bit (s.reg .SINK_WB_HOLD n 0) 0
  let s := s.modHead n (fun h => { h with
    coast := coast, full := h.coast && !coast, stopCoast := false, ungated := false
    active := h.enabled && !h.disableWrapped && !coast &&
      (!h.command || ((!h.closed.none || h.coast) && !held)) })
  let s := if (s.head n).command && held then
      s.modHead n (fun h => { h with closed := {}, dmg := h.closed }) else s
  if coast then s.count 0x67 n 1 else s

/-- The check of the new frame's sink; a breach makes the head send the previous frame again. -/
def State.wrapSink (s : State) (n : Fin 6) : State :=
  let h := s.head n
  let bad := s.sinkBreach h h.sk.sinkC h.info.w h.info.h
  let s := if bad then s.raiseF (F.SINK_STAT_CFG n) else s
  let s := if bad && !h.sk.sinkBad then s.faultHead n 0x08 0xFF 0 0 h.sk.sinkC.ctl.toNat else s
  (s.modHead n (fun h => { h with sk := { h.sk with sinkBad := bad }, fresh := false })).wbChoose n

/-- Line 0 of the new frame: an evaluation made before the wrap is recorded now, one that was not foreseen starts
now, and none counts for a line that is not composed (R204, R216). -/
def State.wrapEval (s : State) (n : Fin 6) : State :=
  let h := s.head n
  if !(h.composes 0 && s.flag (F.OBJ_CTL_EN n) && s.sceneNext n) then s.noEval n (s.reg .OBJ_OFS n 0)
  else if h.ev.evalFor ≠ some 0 then s.startEval0 n
  else match h.ev.eval0 with
    | some r => (s.modEv n (fun e => { e with eval0 := none })).recordEval n 0 r
    | none => s

/-- Line 0 and the first-in-frame marks of sequencers. -/
def State.wrapRecords (s : State) (n : Fin 6) : State :=
  let s := s.wrapEval n
  let s := allSeqs.foldl (fun s q =>
    if s.beamHead q = some n then s.modSeq q (fun x => { x with lateSeen := false }) else s) s
  s.count 0x68 n 1

/-- The wrap into a new frame, short of what the trick unit shows there (R120, R130, R254). -/
def State.wrapHead (s : State) (n : Fin 6) : State :=
  let old := (s.head n).frame
  let s := ((((s.totalsPrev n).wrapCount n).reloadHead n).dropOldPages n).wrapBench n
  let s := ((((s.wrapTiming n).wrapInfo n).wrapFallback n).closeDamage n).sinkAdopt n
  (((s.wrapActive n old).wrapSink n).wrapRecords n).lateWrap n

/-! ### Damage commands -/

/-- DMG_ADD (R259): the mark is made in the set that is still open. -/
def State.dmgAdd (s : State) (n : Fin 6) (all rect : Bool) : State :=
  let s := if rect then
      s.markBox n ⟨s.fld (F.DMG_X_LEFT n), s.fld (F.DMG_Y_TOP n), s.fld (F.DMG_X_RIGHT n), s.fld (F.DMG_Y_BOTTOM n)⟩
    else s
  if all then s.markAll n else s

end Sys2Proof.Machine
end

