-- ==== Sys2Proof/Machine/Display.lean ====
section
/-!
DEFINITION. The transmitter side of a head: frame ticks (R252, R303, R306, R313), blanking changes
(R304, R305), locks (R307, R308), sink presence and training (R309, R310), sink violations (R312)
and the AUX channel (R311).
-/

set_option Elab.async false  -- the joined text is large: no thread per declaration

namespace Sys2Proof.Machine

/-! ### Violations, video, training -/

/-- The first sink violation of each kind in each second enters the fault records (R312). -/
def State.dpViolation (s : State) (n : Fin 6) (kind : Nat) : State :=
  let h := s.head n
  if h.dp.dpRec.any (fun e => e.1 = kind && s.clock < e.2 + 1000 * perMs) then s
  else
    (s.modDp n (fun d => { d with dpRec := (kind, s.clock) :: d.dpRec.filter (fun e => e.1 ≠ kind) })).fault
      0x12 n 0xFF h.frame h.line h.sc.scanPixel kind

/-- Video and DP audio end (R304, R309, R310). -/
def State.endVideo (s : State) (n : Fin 6) : State :=
  (s.modSc n (fun c => { c with video := false, sentWhole := false })).modDp n
    (fun d => { d with audMuted := true, prOn := false })

/-- The sink's maxima are below the active set (SINK_CAP), or it lacks selective update (NO_PR). -/
def HeadSt.sinkReason (h : HeadSt) : Nat :=
  match h.ts with
  | none => 0
  | some t =>
    if h.dp.sinkRate < t.rate ∨ h.dp.sinkLanes < t.lanes then 5
    else if t.command ∧ !h.dp.prSu then 6 else 0

/-- Send a held AUX transaction; the device runs it outside training (R311). -/
def State.auxSend (s : State) (n : Fin 6) : State :=
  match (s.head n).dp.aux with
  | some a =>
    if (s.head n).dp.training then s
    else
      let d := (List.range 4).flatMap (fun k => leBytes 4 (s.reg .DP_AUX_DATA n k).toNat)
      let wr := a.req = 0 || a.req = 2 || a.req = 4
      s.emit (.aux n a.req a.addr (if wr then d.take a.len else []))
  | none => s

/-- A training attempt is over, whichever way: what AUX held is sent (R311). -/
def State.endTraining (s : State) (n : Fin 6) : State :=
  if (s.head n).dp.training then (s.modDp n (fun d => { d with training := false })).auxSend n else s

/-- Start a training attempt at the active RATE and LANES, when a sink is present and can take it
(R301, R309). -/
def State.startTraining (s : State) (n : Fin 6) : State :=
  let h := s.head n
  if !h.dp.hpd || h.ts.isNone || !h.enabled || s.glob.mode = .slumber then s
  else
    let r := h.sinkReason
    let s := if r = 0 then s else (s.raiseF (F.HEAD_STAT_TS_ERR n)).setF (F.HEAD_STAT_TS_REASON n) r
    if r = 5 then (s.modDp n (fun d => { d with trained := false, retryWait := false })).endTraining n
    else (s.modDp n (fun d => { d with training := true, retryWait := false, trained := false })).emit (.train n)

/-- The link is lost: count it and start the recovery of R310. -/
def State.linkLoss (s : State) (n : Fin 6) : State :=
  let s := (s.incF (F.DP_ERR_LINK_LOSS n)).dpViolation n 4
  let s := (s.endVideo n).modDp n (fun d => { d with trained := false, retries := 0 })
  s.startTraining n

/-! ### Blanking changes -/

/-- What head `k` is locked to now, if anything. -/
def State.lockOf (s : State) (k : Fin 6) : Option Nat :=
  let h := s.head k
  match h.ts with
  | some t => if !h.lockFree && h.enabled then s.lockLeader t else none
  | none => none

/-- The head, or 6 for the wall tick, at the root of head `k`'s lock (R307, R388). -/
def State.lockRoot (s : State) (k : Fin 6) : Nat :=
  let l := (s.lockOf k).getD k.val
  if h : l < 6 then (s.lockOf ⟨l, h⟩).getD l else l

/-- Both beams of head `k` run, and it is past its blank frame. -/
def State.inStep (s : State) (k : Fin 6) : Bool :=
  (s.head k).beams && ((s.head k).blank = .none || (s.head k).blank = .s5)

/-- Heads whose compose beams wrap with head `n`'s, itself included: locked together and at the same frame (R307). -/
def State.lockGroup (s : State) (n : Fin 6) : List (Fin 6) :=
  let r := s.lockRoot n
  allHeads.filter (fun k => k = n ||
    (s.lockRoot k = r && s.inStep k && s.inStep n && (s.head k).frame = (s.head n).frame))

/-- Heads whose frame ticks coincide with head `n`'s: a head that takes up its lock joins with the tick of its
resume frame (R307). -/
def State.tickGroup (s : State) (n : Fin 6) : List (Fin 6) :=
  let r := s.lockRoot n
  allHeads.filter (fun k => k = n ||
    (s.lockRoot k = r && s.inStep k && s.inStep n && (s.head k).sc.scanFrame = (s.head n).sc.scanFrame))

/-- Heads that go through a blanking change at the same instants as head `n`, itself included (R308). -/
def State.blankGroup (s : State) (n : Fin 6) : List (Fin 6) :=
  let r := s.lockRoot n
  allHeads.filter (fun k => k = n ||
    (s.lockRoot k = r && (s.head k).blank = (s.head n).blank && (s.head k).blank ≠ .none &&
      (s.head k).enabled && (s.head k).frame = (s.head n).frame))

/-- Both beams stop where they stand; sequencers of the head go IDLE (R267, R304). -/
def State.stopBeams (s : State) (n : Fin 6) : State :=
  (s.seqIdleFor n).modHead n (fun h => { h with
    beams := false, composing := false, active := false, sc := { h.sc with scanReal := false } })

/-- Step 1 (R304). -/
def State.blankStart (s : State) (n : Fin 6) : State :=
  ((s.endVideo n).stopBeams n).modHead n (fun h => { h with blank := .s1 })

/-- Step 4: the blank frame f under the new set (R304), with what was staged for it meanwhile (R132, R305). -/
def State.blankFrame (s : State) (n : Fin 6) : State :=
  let pace := s.reg .PACE_CTL n 0
  let s := s.modHead n (fun h => { h with
    ts := match h.tsNext with | some t => some t | none => h.ts
    frame := h.frame + 1, lineOn := false, chunk := 0, composing := false, active := false
    beams := true, blank := .s4, noWrap := false, inWindow := false, wrapWait := false, skipRest := false
    paceW := pace, tsNext := none })
  let s := (s.sinkAdopt n).modSc n (fun c => { c with
    scanFrame := (s.head n).frame, scanLine := 0, scanPixel := 0, scanOn := true, underrun := false, scanReal := false
    lastPix := 0, lastMask := false, checked := false, underSeen := false, sentCur := [], sentPrev := [] })
  (s.modHead n (fun h => { h with line := h.paceT, coast := false })).scanAdopt n

/-- Heads in step 3 whose attempts, and those of the heads in step with them, are over go on to their blank frames;
a failed attempt is followed by the next one (R304, R305, R308). -/
def State.settleStep3 (s : State) : State :=
  let due := allHeads.filter (fun n => (s.head n).blank = .s3 && (s.blankGroup n).all (fun k => !(s.head k).dp.training))
  let s := due.foldl (fun s n => s.blankFrame n) s
  due.foldl (fun s n => if 0 < (s.head n).dp.retries then s.startTraining n else s) s

/-- End of step 2: PGCLK has relocked under the new set; training follows where it is needed and
a sink is present (R304). -/
def State.relock (s : State) (n : Fin 6) : State :=
  let s := s.modHead n (fun h => { h with
    ts := match h.tsNext with | some t => some t | none => h.ts, blank := .s3 })
  let h := s.head n
  if (h.dp.needTrain || !h.dp.trained) && h.dp.hpd then
    (s.modDp n (fun d => { d with retries := 0 })).startTraining n
  else s

/-- BLANKING_CHANGE_START: step 1, once the application has ended and the scan beam is past the
active lines; heads locked to this one follow (R304, R308). -/
def State.blankingStart (s : State) (n : Fin 6) : State :=
  let h := s.head n
  if !s.beamsRun n || !h.noWrap || (h.sc.scanReal && h.sc.scanLine < h.scanInfo.h) then s
  else (s.lockGroup n).foldl (fun s k =>
    if k = n ∨ (s.head k).noWrap then s.blankStart k else s) s

/-- PGCLK_RELOCK: the end of step 2, for the heads in step with this one too (R308). -/
def State.pgclkRelock (s : State) (n : Fin 6) : State :=
  let b := (s.head n).blank
  if s.alive && (b = .s1 || b = .s2) then ((s.blankGroup n).foldl (fun s k => s.relock k) s).settleStep3 else s

/-- A head shows its committed scene afresh from its next frame: counts, marks and programs
(R253, R255, R294). A head locked to another, or to the wall, takes its frame count (R307, R388). -/
def State.freshWrap (s : State) (n : Fin 6) : State :=
  let s := s.modHead n (fun h => { h with fresh := true })
  let s := match (s.head n).ts with
    | some t =>
      if (s.head n).lockFree then s
      else match s.lockLeader t with
        | some l =>
          let f : Word := if h : l < 6 then (s.head ⟨l, h⟩).sc.scanFrame else s.cwy.frame
          s.modHead n (fun h => { h with frame := f, sc := { h.sc with scanFrame := f } })
        | none => s
    | none => s
  let s := s.wrapHead n
  s.seqFreshStart n (s.head n).frame

/-- Head `n` has come to step 5: its compose beam has passed the blank frame's lines (R304). -/
def State.restartReady (s : State) (n : Fin 6) : Bool :=
  let h := s.head n
  s.beamsRun n && h.blank = .s4 && !h.noWrap && h.vTotal ≤ h.line + 1 && h.lineOn && !h.composing

/-- Step 5 of one head. -/
def State.restartHead (s : State) (n : Fin 6) : State :=
  let s := s.modHead n (fun h => { h with
    blank := .s5, sc := { h.sc with scanLine := max h.sc.scanLine (h.vTotal - h.paceT) } })
  s.freshWrap n

/-- COMPOSITION_RESTART: step 5 (R253, R304), of every head in step with this one at once (R307). No
application due for them is under way; `busy` says that one is. -/
def State.compositionRestart (s : State) (n : Fin 6) (busy : Bool) : State :=
  let g := s.blankGroup n
  if busy || !g.all s.restartReady then s else g.foldl (fun s k => s.restartHead k) s

/-- LINK_TRAINING_DONE (R305, R310). -/
def State.trainingDone (s : State) (n : Fin 6) (ok : Bool) : State :=
  let h := s.head n
  if !s.alive || !h.dp.training then s
  else
    -- an attempt under the set that is about to go leaves the new one untrained
    let s := s.modDp n (fun d => { d with needTrain := d.needTrain && h.tsNext.isSome && h.tsNext ≠ h.ts })
    let s := s.endTraining n
    if ok then
      let s := s.modDp n (fun d => { d with trained := true, retries := 0, prOn := false })
      if h.blank = .s3 then s.settleStep3 else s.markAll n
    else
      let s := (s.incF (F.DP_ERR_TRAIN_FAIL n)).dpViolation n 3
      let s := s.modDp n (fun d => { d with trained := false, retries := d.retries + 1 })
      if h.blank = .s3 then s.settleStep3
      else if (s.head n).dp.retries ≤ 3 then s.startTraining n
      else s.modDp n (fun d => { d with retryWait := true })

/-- TRAINING_RETRY: 1 s has passed with HPD high (R310). -/
def State.trainingRetry (s : State) (n : Fin 6) : State :=
  if s.alive && (s.head n).dp.retryWait then s.startTraining n else s

/-- DP_CTL.RETRAIN (R310). -/
def State.retrainHead (s : State) (n : Fin 6) : State :=
  let s := (s.endVideo n).modDp n (fun d => { d with trained := false, retries := 0 })
  s.startTraining n

/-! ### Enabling, disabling, application of timing (R301 to R308, R316) -/

/-- Begin the sequence of R304 at step 2 (enable, exit from SLUMBER). -/
def State.blankFromRelock (s : State) (n : Fin 6) : State :=
  s.modHead n (fun h => { h with blank := .s2, noWrap := false, inWindow := false })

/-- Turn a head off: its frame tick has come, or its beams already stand (R306). -/
def State.headOff (s : State) (n : Fin 6) : State :=
  let s := (((s.endVideo n).stopBeams n).emit (.aux n 0 0x600 [2])).dropOldPages n
  let s := (s.setF (F.TRUMP_STAT_FB n) 0).modHead n (fun h => { h with
    enabled := false, disabling := false, disableWrapped := false, blank := .none, noWrap := false
    coast := false, fb := false, fbEnter := false, fbLeave := false, early := false, queue := [] })
  let s := (s.modDp n (fun d => { d with retryWait := false, trained := false })).endTraining n
  s.settleStep3.wakeStalled

/-- A head with EN 1 and a valid set, active before or staged, becomes enabled (R306). In mode
FALLBACK it is in FALLBACK from its first frame (R29). -/
def State.reviewEnable (s : State) (n : Fin 6) : State :=
  let h := s.head n
  if s.headPresent n && s.flag (F.HEAD_CTL_EN n) && !h.enabled && (h.ts.isSome || h.tsNext.isSome) then
    let fbMode := s.glob.mode = .fallback
    let s := (s.modHead n (fun h => { h with enabled := true, disabling := false, disableWrapped := false })).blankFromRelock n
    let s := s.modDp n (fun d => { d with needTrain := !d.trained })
    if fbMode then
      (s.modHead n (fun h => { h with fb := true, fbCause := .hostLoss })).raiseF (F.TRUMP_STAT_FB n)
    else s
  else s

/-- Refuse a timing set or DP_AUD change (R301, R316). -/
def State.tsRefuse (s : State) (n : Fin 6) (reason : Nat) : State :=
  let h := s.head n
  ((s.raiseF (F.HEAD_STAT_TS_ERR n)).setF (F.HEAD_STAT_TS_REASON n) reason).fault 0x11 n 0xFF
    h.frame h.line h.sc.scanPixel reason

/-- The set a head goes on with: the staged one, else the active one. -/
def HeadSt.goesOn (h : HeadSt) : Option Timing := match h.tsNext with | some t => some t | none => h.ts

/-- The heads locked to `m` follow its blanking change, or lose the lock (R308). A head being disabled counts as
enabled until its frame tick (R306). -/
def State.reviewLocks (s : State) (m : Fin 6) : State :=
  allHeads.foldl (fun s k =>
    let h := s.head k
    match h.goesOn with
    | some t =>
      if k ≠ m ∧ h.enabled ∧ s.lockLeader t = some m.val ∧ !h.lockFree then
        let hm := s.head m
        if !hm.enabled || !(hm.goesOn.map (fun c => c.sameBeam t)).getD false then
          (s.raiseF (F.HEAD_STAT_LOCK_LOST k)).modHead k (fun h => { h with lockFree := true })
        else if hm.noWrap then s.modHead k (fun h => { h with noWrap := h.beams }) else s
      else s
    | none => s) s

/-- DP audio settings that stand: in force, or accepted for a frame tick to come (R316). -/
def HeadSt.audNext (h : HeadSt) : Word := match h.dp.dpAudPend with | some e => e.2 | none => h.dp.dpAud

/-- A reserved sample rate. -/
def audReserved (w : Word) : Bool := bit w 31 && 7 ≤ bits w 19 16

/-- The committed timing set changed: check it with the audio settings `aud`, and stage it (R301 to R304). A trick
that commits the active set again locks a head that lost its lock (R308). -/
def State.applyTiming (s : State) (n : Fin 6) (aud : Word) : State :=
  let t := s.tsCommitted n
  let h := s.head n
  if !s.headPresent n then s
  else match s.tsReason n t aud with
    | some r => s.tsRefuse n r
    | none =>
      let again := h.lockFree && (s.lockLeader t).isSome
      if h.ts = some t && h.tsNext.isNone && !again then s
      else
        let needT := match h.ts with
          | some a => a.rate ≠ t.rate || a.lanes ≠ t.lanes || a.command ≠ t.command
          | none => true
        let blanking := match h.ts with | some a => !h.seamless a t || again | none => true
        let s := s.modHead n (fun h => { h with tsNext := some t, lockFree := false })
        let s := if needT then s.modDp n (fun d => { d with needTrain := true }) else s
        if !h.enabled || !blanking then s
        else if h.beams then s.modHead n (fun h => { h with noWrap := true })
        else ((s.endTraining n).modHead n (fun h => { h with blank := .s2 })).settleStep3

/-- The committed DP_AUD changed: check it against the set the head goes on with, and keep it for the frame tick of
the coming frame (R316). -/
def State.applyDpAud (s : State) (n : Fin 6) : State :=
  let w := s.reg .DP_AUD n 0
  let h := s.head n
  if audReserved w then s.tsRefuse n 1
  else
    match h.goesOn with
    | some t =>
      if !t.admits w then s.tsRefuse n 3
      else if h.beams then s.modDp n (fun d => { d with dpAudPend := some (h.frame + 1, w) })
      else s.modDp n (fun d => { d with dpAud := w, dpAudPend := none })
    | none => s.modDp n (fun d => { d with dpAud := w, dpAudPend := none })

/-- HEAD_CTL.EN changed (R306). -/
def State.applyEnable (s : State) (n : Fin 6) : State :=
  let h := s.head n
  if s.flag (F.HEAD_CTL_EN n) then
    if h.enabled then s.modHead n (fun h => { h with disabling := h.disableWrapped })
    else s.reviewEnable n
  else if h.enabled then
    if h.beams then s.modHead n (fun h => { h with disabling := true }) else s.headOff n
  else s

/-! ### The frame tick -/

/-- The compose beam is still on an active line of the frame the scan beam leaves (R252). -/
def HeadSt.slips (h : HeadSt) : Bool :=
  h.frame = h.sc.scanFrame && h.active && !h.skipRest &&
  (if h.lineOn then (h.line + 1 < h.info.h || (h.line < h.info.h && h.composing)) else 0 < h.info.h)

/-- A frame slip (R252). -/
def State.slip (s : State) (n : Fin 6) : State :=
  let h := s.head n
  let s := (s.incF (F.PACE_SLIP_TOTAL_COUNT n)).raiseF (F.PACE_STAT_SLIP n)
  let s := s.faultHead n 0x0E 0xFF h.line 0 0
  s.modHead n (fun h => { h with skipRest := true })

/-- The scan beam enters the next frame: sink, pacer, replay and the running check change over
(R236, R243, R253, R263). -/
def State.tickScan (s : State) (n : Fin 6) : State :=
  let pace := s.useReg .PACE_CTL n 0
  let s := s.modHead n (fun h => { h with paceW := pace })
  (s.modSc n (fun c => { c with
    scanFrame := c.scanFrame + 1, scanLine := 0, scanPixel := 0, scanOn := true, underrun := false, scanReal := true
    sentPrev := c.sentCur, sentCur := [], crc := 0xFFFFFFFF, crcAny := false, checked := false, underSeen := false
    })).scanAdopt n

/-- The audio InfoFrame of a frame that carries DP audio (R316). -/
def State.sendAudioInfo (s : State) (n : Fin 6) : State :=
  let h := s.head n
  if h.sc.video && !h.dp.audMuted && bit h.dp.dpAud 31 then
    s.emit (.audioInfo n (bits h.dp.dpAud 26 24 + 1) (bits h.dp.dpAud 19 16) ((h.ts.map Timing.rate).getD 0))
  else s

/-- Video resumes, DP audio changes and the push set is taken at the tick (R304, R310, R313, R314, R316). -/
def State.tickVideo (s : State) (n : Fin 6) : State :=
  let s := s.modHead n (fun h => { h with blank := if h.blank = .s5 then .none else h.blank })
  let h := s.head n
  let on := h.dp.trained && h.dp.hpd && h.sinkReason = 0 && h.blank = .none
  let still := h.command && on && h.sc.video && h.sc.pushing.isEmpty
  let s := s.modSc n (fun c => { c with video := on, sentWhole := on, pushing := [] })
  let s := s.modDp n (fun d => { d with
    audMuted := !on
    dpAud := match d.dpAudPend with | some (f, w) => if frameDiff h.sc.scanFrame f < 0 then d.dpAud else w | none => d.dpAud
    dpAudPend := match d.dpAudPend with | some (f, w) => if frameDiff h.sc.scanFrame f < 0 then some (f, w) else none | none => none
    alpmSleep := still && d.alpm })
  (if h.frame = h.sc.scanFrame then s.latchPush n else s).sendAudioInfo n

/-- The tick of one head. -/
def State.tickHead (s : State) (n : Fin 6) : State :=
  let s := s.tickOut ⟨n.val, by omega⟩
  let s := if (s.head n).slips then s.slip n else s
  let s := s.tickScan n
  let h := s.head n
  if h.disableWrapped then ((s.headOff n).reviewLocks n).reviewEnable n
  else
    let s := if h.tsNext.isSome && h.tsNext = h.ts && !h.noWrap
      then s.modHead n (fun h => { h with tsNext := none }) else s
    s.tickVideo n

/-- FRAME_TICK: the scan beams of a lock group pass (f, 0, 0) together (R252, R307). -/
def State.frameTick (s : State) (n : Fin 6) : State :=
  let ready (k : Fin 6) : Bool :=
    let h := s.head k
    s.beamsRun k && h.blank ≠ .s4 && (!h.sc.scanReal || h.scanInfo.h ≤ h.sc.scanLine)
  let g := s.tickGroup n
  if g.all ready then (g.foldl (fun s k => s.tickHead k) s).reviewMode else s

/-! ### Hot plug and AUX -/

/-- HPD_PLUG (R309, R312). -/
def State.hpdPlug (s : State) (n : Fin 6) (c : SinkCaps) : State :=
  let h := s.head n
  if !s.alive || !s.headPresent n || h.dp.hpd || h.dp.hpdIgnored then s
  else
    let s := s.noteWake 0x05
    let times := s.clock :: h.dp.plugTimes.filter (fun t => s.clock < t + 1000 * perMs)
    let s := s.modDp n (fun d => { d with plugTimes := times })
    if 8 < times.length then
      ((s.incF (F.DP_ERR_HPD_BOUNCE n)).dpViolation n 1).modDp n (fun d => { d with
        hpdIgnored := true, plugTimes := [] })
    else
      let s := if c.bad then s.dpViolation n 5 else s
      let s := s.modDp n (fun d => { d with
        hpd := true, retries := 0
        sinkRate := if c.bad then 0 else c.rate.toNat, sinkLanes := if c.bad then 0 else c.lanes.toNat
        prSu := c.prSu, alpm := c.alpm, lttpr := c.lttpr.toNat, granX := c.granX.toNat, granY := c.granY.toNat })
      s.startTraining n

/-- The sink is treated as absent (R309). -/
def State.hpdUnplug (s : State) (n : Fin 6) : State :=
  let h := s.head n
  if !s.alive || !h.dp.hpd then s
  else
    let s := ((s.noteWake 0x05).endVideo n).modDp n (fun d => { d with
      hpd := false, trained := false, retryWait := false, retries := 0 })
    (s.endTraining n).settleStep3

/-- IRQ_HPD (R309). -/
def State.irqHpd (s : State) (n : Fin 6) (lostLock : Bool) : State :=
  let h := s.head n
  if s.alive && h.dp.hpd && lostLock && h.dp.trained then s.linkLoss n else s

/-- The transmitter loses its training state (R312). -/
def State.linkLost (s : State) (n : Fin 6) : State :=
  let h := s.head n
  if s.alive && h.dp.trained then s.linkLoss n else s

/-- End an AUX transaction. -/
def State.auxEnd (s : State) (n : Fin 6) (result nbytes : Nat) : State :=
  let s := ((s.setF (F.DP_AUX_STAT_BUSY n) 0).setF (F.DP_AUX_STAT_RESULT n) result).setF
    (F.DP_AUX_STAT_BYTES n) nbytes
  s.modDp n (fun d => { d with aux := none })

/-- A transaction that ended in NAK, DEFER limit or timeout counts toward AUX_STORM (R312). -/
def State.auxFail (s : State) (n : Fin 6) (result : Nat) : State :=
  let h := s.head n
  let times := s.clock :: h.dp.auxFails.filter (fun t => s.clock < t + 100 * perMs)
  let s := (s.auxEnd n result 0).modDp n (fun d => { d with auxFails := times })
  if 64 < times.length && !h.dp.auxSuspended then
    ((s.incF (F.DP_ERR_AUX_STORM n)).dpViolation n 2).modDp n (fun d => { d with auxSuspended := true, auxFails := [] })
  else s

/-- Native writes the device refuses (R311). -/
def auxRefused (req addr len : Nat) : Bool :=
  req = 6 || req = 7 ||
  (req = 0 && ((addr < 0x200 && 0x100 < addr + len) || (addr ≤ 0x600 && 0x600 < addr + len)))

/-- A write of DP_AUX_CMD with GO (R311); ignored while BUSY. -/
def State.auxStart (s : State) (n : Fin 6) (req len addr : Nat) : State :=
  let h := s.head n
  if s.flag (F.DP_AUX_STAT_BUSY n) then s
  else if auxRefused req addr len then s.auxEnd n 6 0
  else if !h.dp.hpd then s.auxEnd n 5 0
  else if h.dp.auxSuspended then s.auxEnd n 4 0
  else
    let s := (s.raiseF (F.DP_AUX_STAT_BUSY n)).modDp n (fun d => { d with
      aux := some { req := req, len := len, addr := addr } })
    s.auxSend n

/-- AUX_REPLY (R311). -/
def State.auxReply (s : State) (n : Fin 6) (r : AuxReply) : State :=
  match (s.head n).dp.aux with
  | none => s
  | some a =>
    if !s.alive || a.waiting || (s.head n).dp.training then s
    else match r with
      | .ack bs =>
        let rd := a.req = 1 || a.req = 3 || a.req = 5
        if rd then
          let d := bs.take a.len
          let old := (List.range 4).flatMap (fun k => leBytes 4 (s.reg .DP_AUX_DATA n k).toNat)
          let now := d ++ old.drop d.length
          let s := (List.range 4).foldl (fun s k =>
            s.setReg .DP_AUX_DATA n k (BitVec.ofNat 32 (ofLe ((now.drop (4 * k)).take 4)))) s
          s.auxEnd n 0 d.length
        else s.auxEnd n 0 a.len
      | .nak => s.auxFail n 1
      | .defer =>
        if a.defers < 7 then s.modDp n (fun d => { d with
          aux := some { a with defers := a.defers + 1, waiting := true } })
        else s.auxFail n 2
      | .timeout =>
        if a.timeouts < 2 then s.modDp n (fun d => { d with
          aux := some { a with timeouts := a.timeouts + 1, waiting := true } })
        else s.auxFail n 3

/-- AUX_RETRY (R311). -/
def State.auxRetry (s : State) (n : Fin 6) : State :=
  match (s.head n).dp.aux with
  | some a => if s.alive && a.waiting
    then (s.modDp n (fun d => { d with aux := some { a with waiting := false } })).auxSend n else s
  | none => s

/-- HPD_BOUNCE_END and AUX_STORM_END (R312). -/
def State.bounceEnd (s : State) (n : Fin 6) : State :=
  if s.alive then s.modDp n (fun d => { d with hpdIgnored := false, plugTimes := [] }) else s

def State.stormEnd (s : State) (n : Fin 6) : State :=
  if s.alive then s.modDp n (fun d => { d with auxSuspended := false, auxFails := [] }) else s

/-! ### The wrap of a head and its lock group -/

/-- The compose beam has finished its frame and may wrap (R130, R304). -/
def State.wrapReady (s : State) (n : Fin 6) : Bool :=
  let h := s.head n
  s.beamsRun n && h.blank ≠ .s4 && !h.noWrap && h.lineOn && !h.composing && h.line + 1 = h.vTotal

end Sys2Proof.Machine
end

