-- ==== Sys2Proof/Machine/Timers.lean ====
section
/-!
DEFINITION. Timer channels (R430 to R439) and general-purpose pins (R440 to R447). One PCLK cycle of
the timers is one step: the channels whose source ticks in it, those whose capture edge falls in it,
and the levels on the pins.
-/

set_option Elab.async false  -- the joined text is large: no thread per declaration

namespace Sys2Proof.Machine

def allTimers : List (Fin 16) := [0, 1, 2, 3, 4, 5, 6, 7, 8, 9, 10, 11, 12, 13, 14, 15]

def State.timer (s : State) (n : Fin 16) : TimerCh := s.tmr.ch[n]

def State.modTimer (s : State) (n : Fin 16) (f : TimerCh → TimerCh) : State :=
  { s with tmr := { s.tmr with ch := s.tmr.ch.set n (f s.tmr.ch[n]) } }

/-! ### Pins -/

/-- Selected function of a pin; none: an input that is never driven (R442). -/
def State.pinFn (s : State) (p : Nat) : Option Nat :=
  (List.range 4).find? (fun k => (s.fld (F.GPIO_PIN_FN_EN p)).testBit k)

/-- The time as the pins see it: in FREEZE every pin holds its level (R447). -/
def State.pinClock (s : State) : Nat := if s.frozen then s.glob.frzClock else s.clock

/-- One cycle of PCLK, in FCLK periods. -/
def pclk : Nat := 8

/-- A tick pulse is high for 64 PCLK cycles from the third after the tick (R441). DEDUCED: the first of them
begins with the tick, as in R443's count (log entry 70). -/
def State.tickPulse (s : State) (k : Nat) : Bool :=
  if h : k < 7 then
    match s.gpio.ticks[k] with
    | some t => t + 2 * pclk ≤ s.pinClock && s.pinClock < t + 66 * pclk
    | none => false
  else false

/-- The value the unit behind a driven pin gives it; none: the pin is not driven (R441). -/
def State.pinSource (s : State) (p : Nat) : Option Bool :=
  match s.pinFn p with
  | some 0 => if s.flag (F.GPIO_PIN_DIR p) then some (bit (s.useReg .GPIO_OUT 0 0) p) else none
  | some 1 => some (s.timer ⟨p % 16, Nat.mod_lt _ (by decide)⟩).out
  | some 3 => some (if p % 8 = 7 then allHeads.any (fun n => s.flag (F.TRUMP_STAT_FAIL n)) else s.tickPulse (p % 8))
  | _ => none

/-- What the pin's function drives: open drain releases the pin for high (R441); asleep, its sleep state
(R446). -/
def State.pinOwn (s : State) (p : Nat) : Option Bool :=
  if s.gpio.asleep then
    if s.flag (F.GPIO_PIN_WAKE_EN p) then none
    else match s.fld (F.GPIO_PIN_SLEEP p) with
      | 0 => if bit s.gpio.drove p then some (bit s.gpio.held p) else none
      | 1 => some false
      | 2 => some true
      | _ => none
  else match s.pinSource p with
    | some v => if s.flag (F.GPIO_PIN_OD p) && v then none else some v
    | none => none

/-- The switch of R443 is under way: four PCLK cycles. -/
def State.swOpen (s : State) (w : PinSwitch) : Bool := s.pinClock < w.since + 4 * pclk

/-- The switch under way on a pin. -/
def State.pinSw (s : State) (p : Nat) : Option PinSwitch := s.gpio.sw.find? (fun w => w.pin = p && s.swOpen w)

/-- What the pin drives: in the first two PCLK cycles of a switch a keeper holds what it drove before
(R443). -/
def State.pinDrive (s : State) (p : Nat) : Option Bool :=
  match s.pinSw p with
  | some w => if s.pinClock < w.since + 2 * pclk then w.drive else s.pinOwn p
  | none => s.pinOwn p

/-- Level of a pin as the device sees it: what the pin drives, else what the outside puts on it; frozen
during a switch (R443). -/
def State.pinLevel (s : State) (p : Nat) : Bool :=
  match s.pinSw p with
  | some w => w.level
  | none => (s.pinDrive p).getD (bit s.gpio.pins p)

/-- A word of the pins of which `f` holds. -/
def pinWord (f : Nat → Bool) : Word :=
  BitVec.ofNat 32 (((List.range 32).map (fun p => if f p then 2 ^ p else 0)).sum)

/-- GPIO_IN. -/
def State.gpioIn (s : State) : Word :=
  pinWord s.pinLevel

/-- The pin that supplies input TMR_IN `j` (R442). -/
def State.tmrInPin (s : State) (j : Nat) : Option Nat :=
  if s.pinFn j = some 2 then some j
  else if s.pinFn (j + 16) = some 2 then some (j + 16) else none

/-- TMR_IN `j` stands frozen by a switch, at the value given (R443). -/
def State.tmrInFrozen (s : State) (j : Nat) : Option Bool :=
  (s.gpio.sw.find? (fun w => w.pin % 16 = j && w.tin.isSome && s.swOpen w)).bind (·.tin)

/-- Level of TMR_IN `j`; 0 where no pin selects it (R442). -/
def State.tmrIn (s : State) (j : Nat) : Bool :=
  match s.tmrInFrozen j with
  | some v => v
  | none => match s.tmrInPin j with | some p => s.pinLevel p | none => false

/-- An edge of TMR_IN `j` counts: a pin supplies it, and no switch holds it (R442, R443). -/
def State.tmrInLive (s : State) (j : Nat) : Bool := (s.tmrInPin j).isSome && (s.tmrInFrozen j).isNone

/-- Pins in `ps` switch: `s0` is the state before (R443). -/
def State.pinSwitch (s s0 : State) (ps : List Nat) : State :=
  let j (p : Nat) := p % 16
  let mk (p : Nat) : PinSwitch :=
    { pin := p, since := s.clock, drive := s0.pinDrive p, level := s0.pinLevel p
      tin := if s0.tmrInPin (j p) = some p || s.tmrInPin (j p) = some p then some (s0.tmrIn (j p)) else none }
  { s with gpio := { s.gpio with
      sw := ps.map mk ++ s0.gpio.sw.filter (fun w => s.swOpen w && !ps.contains w.pin) } }

/-- Pins whose selected function has changed since `s0`, or DIR with function 0 selected, switch (R443). -/
def State.pinReview (s s0 : State) : State :=
  let ps := (List.range 32).filter (fun p => s.pinFn p ≠ s0.pinFn p ||
    (s.pinFn p = some 0 && s.flag (F.GPIO_PIN_DIR p) ≠ s0.flag (F.GPIO_PIN_DIR p)))
  if ps.isEmpty then s else s.pinSwitch s0 ps

/-- Set the flags of GPIO_STAT that the settings in force call for (R442). -/
def State.gpioReview (s : State) : State :=
  let bad := (List.range 32).any (fun p =>
    16 ≤ s.fld (F.GPIO_PIN_FN_EN p) || s.fld (F.GPIO_PIN_PULL p) = 3)
  let two := (List.range 16).any (fun j => s.pinFn j = some 2 && s.pinFn (j + 16) = some 2)
  let s := if bad then s.raiseF F.GPIO_STAT_CFG else s
  if two then s.raiseF F.GPIO_STAT_CONFLICT else s

/-- GPIO_OUT_SET and GPIO_OUT_CLR: committed and live value at arrival (R444). -/
def State.gpioOut (s : State) (f : Word → Word) : State :=
  let live := s.live.find (RegId.addr .GPIO_OUT 0 0)
  let s := s.setReg .GPIO_OUT 0 0 (f (s.reg .GPIO_OUT 0 0))
  match live with
  | some v => s.setLive .GPIO_OUT 0 0 (f v)
  | none => s

/-- Condition of pattern-match unit `u` (R445). -/
def State.pmCond (s : State) (u : Nat) : Bool :=
  let m := s.reg .GPIO_PM_MASK u 0
  s.flag (F.GPIO_PM_CTL_EN u) && (s.gpioIn &&& m) = (s.reg .GPIO_PM_VALUE u 0 &&& m)

/-- The message rule of R437 over the EVENT bits whose unit has IE 1 (R445). -/
def State.gpioMsg (s : State) : State :=
  let on := (List.range 8).any (fun u =>
    (s.fld F.GPIO_PM_STAT_EVENT).testBit u && s.flag (F.GPIO_PM_CTL_IE u))
  let s' := { s with gpio := { s.gpio with irq := on } }
  if on && !s.gpio.irq then s'.signal (s.reg .GPIO_IRQ 0 0) else s'

/-- PATTERN_MATCH_EVENT: unit `u`'s condition has held for its filter time (R445). -/
def State.patternMatch (s : State) (u : Fin 8) (levels : Word) : State :=
  if !s.alive || s.glob.mode = .doze || s.glob.mode = .slumber then s
  else
    let s := { s with gpio := { s.gpio with pins := levels } }
    if s.pmCond u then (s.setF F.GPIO_PM_STAT_EVENT (s.fld F.GPIO_PM_STAT_EVENT ||| 2 ^ u.val)).gpioMsg
    else s

/-! ### Settings and flags of the channels -/

/-- A reserved setting is in force on a channel (R430, R434, R436). -/
def State.tmrBad (s : State) (n : Nat) : Bool :=
  5 ≤ s.fld (F.TMR_CTL_SRC n) || 6 ≤ s.fld (F.TMR_CTL_MATCH_ACT n) || 6 ≤ s.fld (F.TMR_CTL_OVF_ACT n) ||
  s.fld (F.TMR_IN_CAP_SRC n) = 3 || s.fld (F.TMR_IN_CAP_EDGE n) = 3 || s.fld (F.TMR_IN_CLK_EDGE n) = 3

/-- Set STAT.CFG where the settings in force call for it. -/
def State.tmrReview (s : State) : State :=
  allTimers.foldl (fun (s : State) (n : Fin 16) => if s.tmrBad n then s.raiseF (F.TMR_STAT_CFG n) else s) s

/-- The OR of R437, and its message when it changes from 0 to 1. -/
def State.tmrMsg (s : State) : State :=
  let on := allTimers.any (fun n =>
    (s.flag (F.TMR_STAT_MATCH n) && s.flag (F.TMR_IN_IE_MATCH n)) ||
    (s.flag (F.TMR_STAT_OVF n) && s.flag (F.TMR_IN_IE_OVF n)) ||
    (s.flag (F.TMR_STAT_CAP n) && s.flag (F.TMR_IN_IE_CAP n)))
  let s' := { s with tmr := { s.tmr with irq := on } }
  if on && !s.tmr.irq then s'.signal (s.reg .TMR_IRQ 0 0) else s'

/-- An event of a channel: its flag, its latch in every sequencer, and a wake of a device that
sleeps or goes to sleep (R407, R437, R439). -/
def State.tmrEvent (s : State) (n : Fin 16) (ev : Nat) (f : Fld) : State :=
  ((s.raiseF f).timerEvent n ev).noteWake 0x04

/-- A channel restarts its prescaler. -/
def State.tmrPre (s : State) (n : Fin 16) : State := s.modTimer n (fun t => { t with pre := s.clock })

/-! ### One PCLK cycle -/

/-- A beam source has a beam to follow (R430, R439). -/
def State.tmrBeam (s : State) (n : Nat) : Bool :=
  let h := s.fld (F.TMR_CTL_HEAD n)
  if p : h < 6 then
    let k : Fin 6 := ⟨h, p⟩
    s.headPresent k && (s.head k).enabled && (s.head k).beams && !(s.glob.mode = .doze)
  else false

/-- A channel that the scene started waits for the end of boot (R439). -/
def State.tmrHeld (s : State) (n : Nat) : Bool :=
  s.jrnl.boot = .scene &&
  (match s.jrnl.inForce.bind (fun k => s.jrnl.slots[k].scene) with
   | some c => (match c.regs.find (RegId.addr .TMR_CTL n 0) with
     | some w => bits w (F.TMR_CTL_RUN n).hi (F.TMR_CTL_RUN n).lo = 1 | none => false)
   | none => false)

/-- A source tick that the channel may see: it runs, and its source exists (R430, R439). -/
def State.tmrSourceOk (s : State) (n : Nat) : Bool :=
  s.flag (F.TMR_CTL_RUN n) && !s.tmrHeld n &&
  (match s.fld (F.TMR_CTL_SRC n) with
   | 0 => true
   | 1 | 2 => s.tmrBeam n
   | 3 => s.tmrInLive (s.fld (F.TMR_IN_CLK_IN n)) && s.fld (F.TMR_IN_CLK_EDGE n) ≠ 3
   | _ => false)

/-- The gate lets a tick through (R431). -/
def State.tmrGate (s : State) (n : Nat) : Bool :=
  !s.flag (F.TMR_IN_GATE_EN n) || s.tmrIn (s.fld (F.TMR_IN_GATE_IN n)) = s.flag (F.TMR_IN_GATE_LVL n)

/-- An update (R432): the channel after it, whether it counted up, and whether it overflowed. -/
def TimerCh.update (t : TimerCh) (updn : Bool) (top : Nat) : TimerCh × Bool × Bool :=
  if !updn then
    if t.count = top ∨ t.count = 0xFFFFFF then ({ t with count := 0, down := false }, true, true)
    else ({ t with count := t.count + 1, down := false }, true, false)
  else
    let top := max 1 top
    if !t.down then
      if top ≤ t.count then
        let c := t.count - 1
        ({ t with count := c, down := c ≠ 0 }, false, c = 0)
      else ({ t with count := t.count + 1, down := t.count + 1 = top }, true, false)
    else
      let c := (t.count + 0xFFFFFF) % 0x1000000
      ({ t with count := c, down := c ≠ 0 }, false, c = 0)

/-- Output level after an update (R435). -/
def outAfter (mode : Nat) (out up isMatch ovf : Bool) : Bool :=
  match mode with
  | 0 => false
  | 1 => if isMatch then !out else out
  | 2 =>
    let o := if ovf then false else out
    if isMatch then up else o
  | _ =>
    let o := if ovf then true else out
    if isMatch then !up else o

/-- Actions of an event: channel, what, and whether it reaches it in this cycle (R434). -/
def actsOf (code n link : Nat) : List (Nat × TmrAct × Bool) :=
  match code with
  | 1 => [(n, .reset, true)]
  | 2 => [(n, .stop, true)]
  | 3 => [(link, .reset, n < link)]
  | 4 => [(link, .start, n < link)]
  | 5 => [(link, .resetStart, n < link)]
  | _ => []

/-- What one cycle has produced so far for the channels still to come and for the next cycle. -/
structure TmrCycle where
  acts : List (Nat × TmrAct)
  links : List Nat
  nextActs : List (Nat × TmrAct)
  nextLinks : List Nat
  deriving DecidableEq, Repr

/-- Channels whose source is the overflow of channel `n`. -/
def State.tmrLinked (s : State) (n : Nat) : List Nat :=
  (List.range 16).filter (fun k => s.fld (F.TMR_CTL_SRC k) = 4 && s.fld (F.TMR_CTL_LINK k) = n)

/-- A capture of a channel (R436). -/
def State.tmrCapture (s : State) (n : Fin 16) : State :=
  let ok := match s.fld (F.TMR_IN_CAP_SRC n) with
    | 1 => s.tmrInLive (s.fld (F.TMR_IN_CAP_IN n)) && s.fld (F.TMR_IN_CAP_EDGE n) ≠ 3
    | 2 => s.tmrBeam n
    | _ => false
  if !ok then s
  else if 4 ≤ (s.timer n).caps.length then s.raiseF (F.TMR_STAT_CAP_OVR n)
  else (s.modTimer n (fun t => { t with caps := t.caps ++ [t.count] })).tmrEvent n 2 (F.TMR_STAT_CAP n)

/-- RESET of a channel's counter (R434). -/
def State.tmrZero (s : State) (n : Fin 16) : State :=
  s.modTimer n (fun t => { t with count := 0, down := false, pre := s.clock })

/-- Apply the actions that fall on a channel: STOP outranks RESET, RESET outranks START (R434). -/
def State.tmrActs (s : State) (n : Fin 16) (as : List TmrAct) : State :=
  if as.contains .stop then s.setF (F.TMR_CTL_RUN n) 0
  else if as.contains .resetStart then ((s.tmrZero n).raiseF (F.TMR_CTL_RUN n)).tmrPre n
  else if as.contains .reset then s.tmrZero n
  else if as.contains .start then (s.raiseF (F.TMR_CTL_RUN n)).tmrPre n
  else s

/-- Counting of one channel in a cycle: update, match and overflow, output and events (R432 to R435). -/
def State.tmrCount (s : State) (n : Fin 16) (c : TmrCycle) : State × TmrCycle :=
  let r := (s.timer n).update (s.flag (F.TMR_CTL_UPDN n)) (s.useReg .TMR_TOP n 0).toNat
  let isMatch := r.1.count = (s.useReg .TMR_CMP n 0).toNat
  let ovf := r.2.2
  let out := outAfter (s.fld (F.TMR_CTL_OUT_MODE n)) r.1.out r.2.1 isMatch ovf
  let s := s.modTimer n (fun _ => { r.1 with out := out })
  let s := if isMatch then s.tmrEvent n 0 (F.TMR_STAT_MATCH n) else s
  let s := if ovf then s.tmrEvent n 1 (F.TMR_STAT_OVF n) else s
  let link := s.fld (F.TMR_CTL_LINK n)
  let acts := (if isMatch then actsOf (s.fld (F.TMR_CTL_MATCH_ACT n)) n link else []) ++
    (if ovf then actsOf (s.fld (F.TMR_CTL_OVF_ACT n)) n link else [])
  let links := if ovf then s.tmrLinked n else []
  (s, { acts := c.acts ++ (acts.filter (·.2.2)).map (fun a => (a.1, a.2.1))
        links := c.links ++ links.filter (fun k => n.val < k)
        nextActs := c.nextActs ++ (acts.filter (fun a => !a.2.2)).map (fun a => (a.1, a.2.1))
        nextLinks := c.nextLinks ++ links.filter (fun k => k ≤ n.val) })

/-- One channel's part of a cycle, in the order of R434: update, detection, capture, actions. -/
def State.tmrChannel (ticks caps : BitVec 16) (sc : State × TmrCycle) (n : Fin 16) : State × TmrCycle :=
  let s := sc.1
  let c := sc.2
  let linked := s.fld (F.TMR_CTL_SRC n) = 4 && c.links.contains n.val && s.flag (F.TMR_CTL_RUN n)
  let ticked := (ticks.getLsbD n.val && s.tmrSourceOk n) || linked
  let r := if ticked && s.tmrGate n then s.tmrCount n c else (s, c)
  let s := if caps.getLsbD n.val then r.1.tmrCapture n else r.1
  (s.tmrActs n ((r.2.acts.filter (fun a => a.1 = n.val)).map (·.2)), r.2)

/-- The timers run: not in SLUMBER, where PCLK stops, nor frozen or off (R439). -/
def State.tmrAlive (s : State) : Bool := s.alive && !(s.glob.mode = .slumber)

/-- One PCLK cycle in which the channels in `ticks` see a tick of their source and those in `caps` a
capture edge (R430 to R437). Events of the last cycle that reach their channel only now come first. -/
def State.tmrCycle (s : State) (ticks caps : BitVec 16) (pins : Word) : State :=
  if !s.tmrAlive then s
  else
    let s := { s with gpio := { s.gpio with pins := pins } }
    let c0 : TmrCycle := { acts := s.tmr.carryActs, links := s.tmr.carryTicks, nextActs := [], nextLinks := [] }
    let r := allTimers.foldl (State.tmrChannel ticks caps) (s, c0)
    { r.1 with tmr := { r.1.tmr with carryActs := r.2.nextActs, carryTicks := r.2.nextLinks } }.tmrMsg

/-! ### Register commands -/

/-- TMR_START, TMR_STOP and TMR_RESET act on every channel of the mask in one cycle (R435, R438). -/
def State.tmrStart (s : State) (mask : Word) : State :=
  allTimers.foldl (fun s (n : Fin 16) => if bit mask n then
    (if s.flag (F.TMR_CTL_RUN n) then s else (s.raiseF (F.TMR_CTL_RUN n)).tmrPre n) else s) s

def State.tmrStop (s : State) (mask : Word) : State :=
  allTimers.foldl (fun s (n : Fin 16) => if bit mask n then s.setF (F.TMR_CTL_RUN n) 0 else s) s

def State.tmrReset (s : State) (mask : Word) : State :=
  allTimers.foldl (fun s (n : Fin 16) => if bit mask n then
    (s.tmrZero n).modTimer n (fun t => { t with out := false }) else s) s

/-- A write of TMRn_COUNT: no update and no arrival; the prescaler restarts (R433). -/
def State.countWrite (s : State) (n : Fin 16) (v : Word) : State :=
  s.modTimer n (fun t => { t with count := bits v 23 0, pre := s.clock })

/-- A read of TMRn_CAP: its value, and the queue without the oldest entry (R436). -/
def State.capRead (s : State) (n : Fin 16) : State × Word :=
  match (s.timer n).caps with
  | [] => (s, 0)
  | v :: rest =>
    (s.modTimer n (fun t => { t with caps := rest }),
     BitVec.ofNat 32 (0x80000000 + rest.length * 0x1000000 + v % 0x1000000))

/-- Trick writes that touch timers and pins take effect at the end of an application: channels whose
RUN became 1 start, held-low outputs fall, flags of reserved settings rise (R435, R438, R442). -/
def State.tmrApply (s : State) (was : BitVec 16) : State :=
  let s := allTimers.foldl (fun s n =>
    let s := if s.flag (F.TMR_CTL_RUN n) && !was.getLsbD n.val then s.tmrPre n else s
    if s.fld (F.TMR_CTL_OUT_MODE n) = 0 then s.modTimer n (fun t => { t with out := false }) else s) s
  ((s.tmrReview.gpioReview).tmrMsg).gpioMsg

/-- RUN of all channels. -/
def State.tmrRuns (s : State) : BitVec 16 :=
  BitVec.ofNat 16 (((List.range 16).map (fun n => if s.flag (F.TMR_CTL_RUN n) then 2 ^ n else 0)).sum)

/-- The pins take their sleep state, or return to their functions (R446). -/
def State.gpioSleep (s : State) (on : Bool) : State :=
  if on then { s with gpio := { s.gpio with
      drove := pinWord (fun p => (s.pinDrive p).isSome), held := pinWord (fun p => s.pinDrive p = some true)
      asleep := true } }
  else { s with gpio := { s.gpio with asleep := false } }

/-- They do so as a switch under R443 (R446). -/
def State.gpioMove (s : State) (on : Bool) : State := (s.gpioSleep on).pinSwitch s (List.range 32)

/-- Some pin is a wake input (R446). -/
def State.anyWakePin (s : State) : Bool := (List.range 32).any (fun p => s.flag (F.GPIO_PIN_WAKE_EN p))

end Sys2Proof.Machine
end

