-- ==== Sys2Proof/Machine/Stage.lean ====
section
/-!
DEFINITION. Staging into tricks: pool pages (R144 to R148), what MAP_UPDATE, DECK_UPDATE,
PALETTE_LOAD and PATTERN_LOAD write (R172, R188, R189, R211), their damage records (R214, R255,
R256), register writes (R115), sequencer banks (R290), and the discarding of a trick.
-/

set_option Elab.async false  -- the joined text is large: no thread per declaration

namespace Sys2Proof.Machine

/-! ### Pool pages -/

/-- Pool pages a trick holds. -/
def Trick.held (t : Trick) : Nat := t.pages.length

/-- Free pool pages (MEM_POOL_STATUS.FREE). -/
def State.poolFree (s : State) : Nat :=
  s.poolUnits * 16 - ((s.trk.tricks.map Trick.held).sum + s.oldPages.length)

/-- A trick of a function. -/
def Trick.ofFn (t : Trick) (f : Fin 16) : Bool := t.owner = Owner.fn f

/-- Pool pages a function's tricks hold (MEM_FN_POOL.IN_USE). -/
def State.poolOf (s : State) (f : Fin 16) : Nat :=
  ((s.trk.tricks.filter (fun t => t.ofFn f)).map Trick.held).sum

/-- Writes to stage: addresses and bytes. -/
abbrev Plan := List (Nat × List Byte)

/-- Pages a plan needs that the trick does not hold yet. -/
def Trick.lacks (t : Trick) (p : Plan) : List Nat :=
  ((p.flatMap (fun w => pagesOf w.1 w.2.length)).eraseDups).filter
    (fun g => !t.pages.any (fun x => x.page = g))

/-- Whether a staging descriptor may take the pages it needs, waits for pages, or fails (R147). -/
inductive Grant where
  | ok | wait | limit
  deriving DecidableEq, Repr

/-- A replaced page waits for a frame wrap: not one kept for a snapshot alone (R146, R422). -/
def State.pagesWait (s : State) : Bool := s.oldPages.any (fun o => o.heads ≠ 0)

/-- R147 for a trick that needs `n` more pages. -/
def State.poolGrant (s : State) (t : Trick) (n : Nat) : Grant :=
  let tooMany := match t.owner with
    | .fn f => s.fld (F.MEM_FN_POOL_LIMIT f) < s.poolOf f + n
    | _ => false
  if n = 0 then .ok
  else if 4096 < t.held + n || tooMany then .limit
  else if n ≤ s.poolFree then .ok
  else if s.pagesWait ||
    s.trk.tricks.any (fun x => (x.phase = .staged || x.phase = .applying) && !x.pages.isEmpty) then .wait
  else .limit

/-- Content of a byte in a trick's view (R145, R211). -/
def State.trickRead (s : State) (t : Trick) (a : Nat) : Byte :=
  match t.pages.find? (fun x => x.page = pageOf a) with
  | some x => x.img.read a
  | none => s.mem.read a

/-- The committed content of a page, as the page image it fills (R145). -/
def State.pageFill (s : State) (g : Nat) : PageImg :=
  ⟨g, s.mem.slice (g * 4096) (g * 4096 + 4096)⟩

/-- A page two uncommitted tricks hold is counted, and recorded in both (R148, R255). -/
def State.clashPage (s : State) (key g : Nat) : State :=
  match s.trick key with
  | none => s
  | some t =>
    let others := s.trk.tricks.filter (fun x => x.key ≠ key && x.pages.any (fun q => q.page = g))
    if others.isEmpty then s
    else
      let heads := others.foldl (fun a x => a ||| x.heads) t.heads
      let s := (s.incF F.MEM_STAGE_CLASH_COUNT).count 0x23 0 1 t.owner.attr
      { s with trk := { s.trk with tricks := s.trk.tricks.map (fun x =>
          if x.key = key || others.any (fun o => o.key = x.key)
          then { x with marks := x.marks ++ [StageMark.clash heads] } else x) } }

/-- Take pool pages for a trick, each filled with committed content (R145, R148). -/
def State.takePages (s : State) (key : Nat) (gs : List Nat) : State :=
  let a := ((s.trick key).map (·.owner.attr)).getD {}
  gs.foldl (fun s g =>
    let p := s.pageFill g
    ((s.clashPage key g).modTrick key (fun t => { t with pages := t.pages ++ [p] })).count 0x22 0 1 a) s

/-- Write a run of bytes that lies in one page into the page images of a trick. -/
def putCut (ps : List PageImg) (c : Nat × List Byte) : List PageImg :=
  ps.map (fun p => if p.page = pageOf c.1 then { p with img := p.img.writeBytes c.1 c.2 } else p)

/-- Write bytes into the pages a trick holds. -/
def putBytes (ps : List PageImg) (a : Nat) (bs : List Byte) : List PageImg := (pageCuts a bs).foldl putCut ps

/-- A page in a trick's view (R145, R211). -/
def State.trickPage (s : State) (t : Trick) (g : Nat) : DevMem :=
  match t.pages.find? (fun x => x.page = g) with
  | some x => x.img
  | none => s.mem.slice (g * 4096) (g * 4096 + 4096)

/-- Does a write change a bit in the trick's view? -/
def State.changes (s : State) (t : Trick) (w : Nat × List Byte) : Bool :=
  (pageCuts w.1 w.2).any (fun c =>
    let img := s.trickPage t (pageOf c.1)
    c.2.zipIdx.any (fun e => img.read (c.1 + e.2) ≠ e.1))

/-- Stage a plan whose pages are granted, with the damage records `mk` makes of each changed write. -/
def State.stagePlan (s : State) (key : Nat) (p : Plan) (mk : State → Trick → Nat × List Byte → List StageMark) : State :=
  match s.trick key with
  | none => s
  | some t =>
    let s := s.takePages key (t.lacks p)
    p.foldl (fun s w =>
      match s.trick key with
      | none => s
      | some t =>
        let m := if s.changes t w then mk s t w else []
        s.modTrick key (fun t => { t with pages := putBytes t.pages w.1 w.2, marks := t.marks ++ m })) s

/-! ### What the staging descriptors write -/

/-- Cut a byte string. -/
def bytesAt (d : List Byte) (off n : Nat) : List Byte := (d.drop off).take n

/-- Fields of MAP_UPDATE. -/
def mapPlane (p : BitVec 448) : Nat := pay p 16 1
def mapCol (p : BitVec 448) : Nat := pay p 18 2
def mapRow (p : BitVec 448) : Nat := pay p 20 2
def mapWidth (p : BitVec 448) : Nat := pay p 22 2
def mapHeight (p : BitVec 448) : Nat := pay p 24 2
def mapPitch (p : BitVec 448) : Nat := pay p 28 4

/-- Tarn offset of map entry (c, r) of a plane under the committed state (R189). -/
def State.mapEntryAt (s : State) (n : Fin 6) (plane c r : Nat) : Nat :=
  let wl := s.fld (F.PL_MAPDIM_W_LOG2 n plane)
  let hl := s.fld (F.PL_MAPDIM_H_LOG2 n plane)
  s.fld (F.PL_MAP_BASE n plane) * 64 + 3 * (r % 2 ^ hl * 2 ^ wl + c % 2 ^ wl)

/-- MAP_UPDATE as a plan (R189). -/
def State.mapPlan (s : State) (n : Fin 6) (p : BitVec 448) (d : List Byte) : Plan :=
  (List.range (mapHeight p)).flatMap (fun j =>
    (List.range (mapWidth p)).map (fun i =>
      (s.mapEntryAt n (mapPlane p) (mapCol p + i) (mapRow p + j), bytesAt d (j * mapPitch p + 3 * i) 3)))

/-- Fields of DECK_UPDATE. -/
def deckFirst (p : BitVec 448) : Nat := pay p 16 4
def deckCount (p : BitVec 448) : Nat := pay p 20 4
def deckWords (p : BitVec 448) : Nat := pay p 24 1

/-- Committed deck base of a head in bytes. -/
def State.deckBase (s : State) (n : Fin 6) : Nat := s.fld (F.OBJ_DECK_BASE n) * 64

/-- Words of a deck entry in a trick's view. -/
def State.deckView (s : State) (t : Trick) (base i : Nat) : List W24 :=
  (List.range 4).map (fun k => BitVec.ofNat 24 (rd24 (s.trickRead t) base (4 * i + k)))

/-- DECK_UPDATE as a plan of the words it selects; the others keep what the trick's view of their page holds
(R211). -/
def State.deckPlan (s : State) (n : Fin 6) (p : BitVec 448) (d : List Byte) : Plan :=
  (List.range (deckCount p)).flatMap (fun e =>
    ((List.range 4).filter (deckWords p).testBit).map (fun k =>
      (s.deckBase n + 12 * (deckFirst p + e) + 3 * k,
       (List.range 3).map (fun b => ((bytesAt d (12 * e + 3 * k) 3)[b]?).getD 0))))

/-- Fields of PALETTE_LOAD and the plan (R188). -/
def palFirst (p : BitVec 448) : Nat := pay p 16 2
def palCount (p : BitVec 448) : Nat := pay p 18 2

def State.palPlan (s : State) (n : Fin 6) (p : BitVec 448) (d : List Byte) : Plan :=
  [(s.fld (F.PAL_BASE_BASE n) * 64 + 3 * palFirst p, d.take (3 * palCount p))]

/-- Fields of PATTERN_LOAD and the plan (R172). -/
def patDst (p : BitVec 448) : Nat := pay p 16 8
def patLen (p : BitVec 448) : Nat := pay p 24 4

def patPlan (p : BitVec 448) (d : List Byte) : Plan := [(patDst p, d.take (patLen p))]

/-- Damage record of a changed map entry, deck entry, or other range. -/
def markMap (_ : State) (_ : Trick) (w : Nat × List Byte) : List StageMark := [.mapEntry w.1]

/-- The entry as it was before the descriptor's first change of it; `t0` is the trick as the descriptor found it
(R214). -/
def markDeck (t0 : Trick) (base : Nat) (s : State) (t : Trick) (w : Nat × List Byte) : List StageMark :=
  let i := (w.1 - base) / 12
  if (t.marks.drop t0.marks.length).any (fun m => match m with | .deckEntry b k _ => b = base && k = i | _ => false) then []
  else [.deckEntry base i (s.deckView t base i)]

def markRange (_ : State) (_ : Trick) (w : Nat × List Byte) : List StageMark := [.range w.1 w.2.length]

/-- Bytes of source data a descriptor of types 0x04 to 0x08 and 0x0C needs, from its first byte. -/
def srcBytes (type : Nat) (p : BitVec 448) : Nat :=
  match type with
  | 0x04 => (mapHeight p - 1) * mapPitch p + 3 * mapWidth p
  | 0x05 => 12 * deckCount p
  | 0x06 => patLen p
  | 0x07 => 3 * palCount p
  | 0x08 => 3 * pay p 22 2
  | _ => pay p 16 4

/-- Plan of a Tarn-staging descriptor for head `n`, and its damage records. -/
def State.tarnPlan (s : State) (t : Trick) (type : Nat) (n : Fin 6) (p : BitVec 448) (d : List Byte) :
    Plan × (State → Trick → Nat × List Byte → List StageMark) :=
  match type with
  | 0x04 => (s.mapPlan n p d, markMap)
  | 0x05 => (s.deckPlan n p d, markDeck t (s.deckBase n))
  | 0x07 => (s.palPlan n p d, markRange)
  | _ => (patPlan p d, markRange)

/-! ### Sequencer banks -/

/-- Fields of SEQ_LOAD. -/
def seqNo (p : BitVec 448) : Nat := pay p 16 1
def seqMem (p : BitVec 448) : Nat := pay p 18 1
def seqClear (p : BitVec 448) : Bool := (pay p 19 1).testBit 0
def seqFirst (p : BitVec 448) : Nat := pay p 20 2

/-- SEQ_LOAD against the shadow bank: granted, waiting for a pending bank, or busy (R290). -/
def State.seqGrant (s : State) (key : Nat) (q : Fin 8) : Grant :=
  match (s.seq q).shadow with
  | some (k, _) => if k = key then .ok else .limit
  | none => if (s.seq q).pendBank.isSome then .wait else .ok

/-- Load words into the shadow bank of a trick (R290). -/
def State.stageSeq (s : State) (key : Nat) (q : Fin 8) (data : Bool) (clear : Bool) (first : Nat) (ws : List W24) : State :=
  s.modSeq q (fun x =>
    let b0 : SeqBank := match x.shadow with
      | some (_, b) => b
      | none => if clear then {} else x.bank
    let b1 : SeqBank := if data then { b0 with data := wordsPut b0.data first ws }
      else { b0 with prog := wordsPut b0.prog first ws }
    { x with shadow := some (key, b1) })

/-! ### Register writes -/

/-- Stage register writes into a trick, if its limit of 4,096 allows (R115). -/
def State.stageRegs (s : State) (key : Nat) (ws : List RegW) : Option State :=
  match s.trick key with
  | none => some s
  | some t =>
    if 4096 < t.writes.length + ws.length then none
    else some (s.modTrick key (fun t => { t with writes := t.writes ++ ws }))

/-! ### Opening and discarding -/

/-- Open a trick. -/
def State.openTrick (s : State) (owner : Owner) (id : Word) (heads : BitVec 6) (wall : Bool) : State × Nat :=
  let key := s.trk.nextKey
  let t : Trick := { key := key, owner := owner, id := id, heads := heads, wall := wall }
  ({ s with trk := { s.trk with tricks := s.trk.tricks ++ [t], nextKey := key + 1 } }, key)

/-- The uncommitted trick of a function with an ID, in any phase (R111). -/
def State.trickOf (s : State) (f : Fin 16) (id : Word) : Option Trick :=
  s.trk.tricks.find? (fun t => t.ofFn f && t.id = id)

/-- Tricks that hold an open place: open, closing, or waiting for a staged place (R112, R119). -/
def Trick.isOpen (t : Trick) : Bool :=
  t.phase = .opened || t.phase = .closing || t.phase = .waitPlace

/-- Tricks that hold a staged place: not implicit ones, which belong to no ring (R112, R123). -/
def Trick.isStaged (t : Trick) : Bool := t.phase = .staged && t.owner ≠ .implicit && t.owner ≠ .boot

/-- Remove a trick: its pool pages, shadow banks and places are free again (R117, R146, R290). -/
def State.dropTrick (s : State) (key : Nat) : State :=
  let s := s.audDiscard key
  let s := allSeqs.foldl (fun s q => match (s.seq q).shadow with
    | some (k, _) => if k = key then s.modSeq q (fun x => { x with shadow := none }) else s
    | none => s) s
  { s with trk := { s.trk with tricks := s.trk.tricks.filter (fun t => t.key ≠ key)
                               queue := s.trk.queue.filter (· ≠ key) } }

end Sys2Proof.Machine
end

