-- ==== Sys2Proof/Machine/Tokens.lean ====
section
/-!
DEFINITION. Causeway packets and blocks as a port sends them (R383, R384, R389): link sequence
numbers, the replay and forwarding buffers, who a packet goes to, events (R403), the lease a parent
holds (R398), and what the dealer forwards of a wall trick (R390, R401).
-/

set_option Elab.async false  -- the joined text is large: no thread per declaration

namespace Sys2Proof.Machine

/-! ### Ports -/

/-- Downstream ports 0 to 3. -/
def downPorts : List (Fin 5) := [1, 2, 3, 4]

def allPorts : List (Fin 5) := [0, 1, 2, 3, 4]

def State.cport (s : State) (p : Fin 5) : CwyPort := s.cwy.port[p]

def State.modPort (s : State) (p : Fin 5) (f : CwyPort → CwyPort) : State :=
  { s with cwy := { s.cwy with port := s.cwy.port.set p (f s.cwy.port[p]) } }

def State.modCwy (s : State) (f : Cwy → Cwy) : State := { s with cwy := f s.cwy }

/-- The port exists on this part (R2). -/
def State.portPresent (s : State) (p : Fin 5) : Bool := p.val ≤ s.part.cwyDown

/-- ID of this device; 0 on the dealer (R378, R380). -/
def State.cwyId (s : State) : Nat := if s.dealer then 0 else s.fld F.CWY_ID_ID

/-- Path of this device (R379). -/
def State.cwyPath (s : State) : Nat := if s.dealer then 0 else s.fld F.CWY_ID_PATH

/-- STATE of this device (CWY_STAT). -/
def State.cwyState (s : State) : Nat := if s.dealer then 6 else s.cwy.state

/-- LEASE_FRAMES in force: the dealer's own, or as WALL_INFO brought it. -/
def State.leaseFrames (s : State) : Nat :=
  if s.dealer then max 1 (s.fld F.CWY_WALL_CTL_LEASE_FRAMES)
  else match s.cwy.info with | some w => max 1 w.lease | none => 3

/-- DECIDE_LINES in force. -/
def State.decideLines (s : State) : Nat := max 8 (s.fld F.CWY_WALL_CTL_DECIDE_LINES)

/-- The dealer's reference head, if it is one of the six. -/
def State.refHead (s : State) : Option (Fin 6) :=
  if h : s.fld F.CWY_WALL_CTL_REF_HD < 6 then some ⟨s.fld F.CWY_WALL_CTL_REF_HD, h⟩ else none

/-! ### Packets -/

/-- TYPE of a packet (R389). -/
def Pkt.kind : Pkt → Nat
  | .hello .. => 0x01
  | .wallInfo _ => 0x02
  | .alive .. => 0x03
  | .item _ (.desc ..) => 0x10
  | .item _ (.data ..) => 0x11
  | .endT .. => 0x12
  | .prepare .. => 0x13
  | .ready .. => 0x14
  | .commit .. => 0x15
  | .defer .. => 0x16
  | .discard _ => 0x17
  | .sweep _ => 0x18
  | .bench .. => 0x20
  | .benched .. => 0x21
  | .rejoin .. => 0x22
  | .setId .. => 0x30
  | .event .. => 0x31

/-- Bytes of a packet on the link: header, payload and CRC-32. -/
def Pkt.size (k : Pkt) : Nat :=
  let data := match k with | .item _ (.data _ _ bs) => bs.length | _ => 0
  12 + min 1024 (Config.cwyLen k.kind + data)

/-- Scene and commit packets, which a benched child does not receive (R398). -/
def Pkt.scene (k : Pkt) : Bool := 0x10 ≤ k.kind && k.kind ≤ 0x18 && k.kind ≠ 0x14

/-- A buffer of `cap` bytes has room for one more packet. -/
def bufRoom (cap : Nat) (l : List Pkt) (k : Pkt) : Bool :=
  (l.length + 1) * 1036 ≤ cap || (l.map Pkt.size).sum + k.size ≤ cap

/-- Send a packet with the next LSEQ and keep it for replay (R383). -/
def State.transmit (s : State) (p : Fin 5) (k : Pkt) : State :=
  let c := s.cport p
  let s := s.modPort p (fun c => { c with tx := (c.tx + 1) % 65536, replay := c.replay ++ [(c.tx, k)] })
  (s.emit (.cwy p (.pkt c.tx k))).count 0xE0 p k.size

/-- Packets pass on an ACTIVE port, and HELLO while it trains. -/
def CwyPort.passes (c : CwyPort) : Bool := c.run = .active || c.run = .hello

/-- Send a packet, or hold it until the replay buffer has room. -/
def State.pushPkt (s : State) (p : Fin 5) (k : Pkt) : State :=
  let c := s.cport p
  if !c.passes then s
  else if c.fwd.isEmpty && bufRoom 65536 (c.replay.map (·.2)) k then s.transmit p k
  else s.modPort p (fun c => { c with fwd := c.fwd ++ [k] })

/-- Send what the forwarding buffer holds, as far as the replay buffer has room. -/
def State.drainPort (s : State) (p : Fin 5) : Nat → State
  | 0 => s
  | fuel + 1 =>
    let c := s.cport p
    match c.fwd with
    | [] => s
    | k :: rest =>
      if bufRoom 65536 (c.replay.map (·.2)) k then
        ((s.modPort p (fun c => { c with fwd := rest })).transmit p k).drainPort p fuel
      else s

/-- A control block on an ACTIVE port. -/
def State.sendTok (s : State) (p : Fin 5) (t : CwyTok) : State :=
  if (s.cport p).run = .active then s.emit (.cwy p t) else s

/-! ### Events, records and leases -/

/-- Raise an event: at most one of its kind in 100 ms; into the fault records, and up to the dealer,
which logs it (R403). -/
def State.cwyEvent (s : State) (code port : Nat) : State :=
  if s.cwy.events.any (fun e => e.1 = code && s.clock < e.2 + 100 * perMs) then s
  else
    let f := s.cwy.frame
    let s := s.modCwy (fun c => { c with events := (code, s.clock) :: c.events.filter (fun e => e.1 ≠ code) })
    let detail := code + port * 256 + f.toNat * 65536
    let s := s.faultDev 0x17 unitCwy port detail
    if s.dealer then s.logEntry 0 0xFF 0 0x1B detail
    else s.pushPkt 0 (.event s.cwyId code port f)

/-- The dealer enters a bench record. -/
def State.benchRecord (s : State) (id reason : Nat) (frame : Word) : State :=
  let k := s.fld F.CWY_BENCH_NEXT_INDEX
  let s := (s.setF (F.CWY_BENCH_REC0_REASON k) reason).setF (F.CWY_BENCH_REC0_ID k) id
  (s.setReg .CWY_BENCH_REC1 k 0 frame).wrapF F.CWY_BENCH_NEXT_INDEX

/-- BENCHED goes up; at the dealer it becomes a record (R398). -/
def State.reportBenched (s : State) (id reason hands : Nat) : State :=
  if s.dealer then
    (s.benchRecord id reason s.cwy.frame).modCwy (fun c => { c with
      hands := c.hands.map (fun h => if h.1 = id then (h.1, h.2.1, false) else h)
      served := c.served.filter (· ≠ id) })
  else s.pushPkt 0 (.benched id reason hands)

/-- Revoke the lease of the child on a downstream port (R398). -/
def State.benchChild (s : State) (p : Fin 5) (reason : Nat) : State :=
  let c := s.cport p
  if p = 0 || !(c.joined || c.rejoin.isSome) then s
  else
    let s := s.modPort p (fun c => { c with
      joined := false, benched := true, rejoin := none, ready := []
      fwd := c.fwd.filter (fun k => !k.scene) })
    let s := s.pushPkt p (.bench reason s.cwy.frame)
    (s.reportBenched c.peer reason (c.subJoined + c.subBenched)).cwyEvent 0x07 p

/-- Send a packet down a port; a full forwarding buffer benches the child (R384). -/
def State.sendDown (s : State) (p : Fin 5) (k : Pkt) : State :=
  let c := s.cport p
  if c.run = .active && !(c.fwd.isEmpty && bufRoom 65536 (c.replay.map (·.2)) k) &&
     !bufRoom 1048576 c.fwd k then
    ((s.incF (F.CWY_PORT_ERR_OVERFLOW p)).cwyEvent 0x06 p).benchChild p 5
  else s.pushPkt p k

/-- To every joined child. -/
def State.castDown (s : State) (k : Pkt) : State :=
  downPorts.foldl (fun s p =>
    if (s.cport p).run = .active && (s.cport p).joined then s.sendDown p k else s) s

/-- To every child, benched ones included. -/
def State.castAll (s : State) (k : Pkt) : State :=
  downPorts.foldl (fun s p => if (s.cport p).run = .active then s.sendDown p k else s) s

/-- A control block to every child. -/
def State.tokDown (s : State) (t : CwyTok) : State := downPorts.foldl (fun s p => s.sendTok p t) s

/-! ### The dealer's wall information and wall tricks -/

/-- What WALL_INFO carries now (R386). -/
def State.wallInfoNow (s : State) : WallInfo :=
  let t : Timing := match s.refHead with
    | some r => (s.head r).ts.getD (s.tsCommitted r)
    | none => s.tsCommitted 0
  { clk := t.clk, hTotal := t.hTotal, vTotal := t.vTotal, frame := s.cwy.frame
    lease := s.leaseFrames, seq := s.reg .CWY_WALL_SEQ 0 0 }

/-- The dealer sends WALL_INFO to the whole wall (R386). -/
def State.sendWallInfo (s : State) : State :=
  if s.dealer then s.castAll (.wallInfo s.wallInfoNow) else s

/-- Send a packet of a wall trick to those that take part in it: the rejoining hands of a
resynchronisation trick, which every child may lead to, or the joined hands (R401). -/
def State.castWall (s : State) (t : Trick) (k : Pkt) : State :=
  if t.resync then s.castAll k else s.castDown k

/-- Send what of a wall trick's items has not gone out; while hands wait to rejoin, the items of a
trick that is not staged stay with the dealer, for it may become their trick (R401). -/
def State.wallFlush (s : State) (t : Trick) : State :=
  match s.cwy.logs.find? (fun e => e.1 = t.key) with
  | none => s
  | some (_, sent, items) =>
    if !s.cwy.rejoin.isEmpty && !t.announced then s
    else
      let s := s.modCwy (fun c => { c with
        logs := c.logs.map (fun e => if e.1 = t.key then (e.1, items.length, e.2.2) else e) })
      (items.drop sent).foldl (fun s x => s.castWall t (.item t.id x)) s

/-- Cut source bytes into DATA items of at most 1,008 bytes (R389). -/
def dataItems (index off : Nat) (bs : List Byte) : Nat → List WallItem
  | 0 => []
  | fuel + 1 =>
    if bs.isEmpty then []
    else .data index off (bs.take 1008) :: dataItems index (off + 1008) (bs.drop 1008) fuel

/-- The dealer forwards a descriptor of wall trick `key` with its source bytes (R390). -/
def State.wallForward (s : State) (key type : Nat) (h : Hdr) (payload : BitVec 448) (src : List Byte) : State :=
  match s.trick key with
  | none => s
  | some t =>
    if !t.wall || !s.dealer then s
    else
      let items := WallItem.desc t.sent (BitVec.ofNat 8 type) h payload ::
        dataItems t.sent 0 src (src.length / 1008 + 1)
      let s := s.modTrick key (fun t => { t with sent := t.sent + 1 })
      let put (l : List (Nat × Nat × List WallItem)) : List (Nat × Nat × List WallItem) :=
        if l.any (fun e => e.1 = key)
        then l.map (fun e => if e.1 = key then (e.1, e.2.1, e.2.2 ++ items) else e)
        else l ++ [(key, 0, items)]
      let s := s.modCwy (fun c => { c with logs := put c.logs })
      match s.trick key with | some t => s.wallFlush t | none => s

/-- First wall frame whose decision point has not yet passed (R393). -/
def State.nextDecision (s : State) : Word :=
  let f : Word := match s.refHead with | some r => (s.head r).sc.scanFrame + 1 | none => s.cwy.frame + 1
  if s.cwy.decided = some f then f + 1 else f

/-- Later of two frame counts. -/
def laterFrame (a b : Word) : Word := if (a - b).toInt < 0 then b else a

/-- A wall trick has become staged on the dealer: it may be the resynchronisation trick that hands
wait for; END and PREPARE go out, and the target is fixed, never below that of a trick staged before
it (R393, R401). -/
def State.wallStaged (s : State) (key : Nat) : State :=
  match s.trick key with
  | none => s
  | some t =>
    if !t.wall || !s.dealer then s
    else
      let resync := !s.cwy.rejoin.isEmpty && s.cwy.served.isEmpty
      let s := if resync then
          let ids := s.cwy.rejoin
          let gone := match s.cwy.logs.find? (fun e => e.1 = key) with | some e => decide (0 < e.2.1) | none => false
          let s := if gone then s.castDown (.discard t.id) else s
          let s := s.modCwy (fun c => { c with
            rejoin := [], served := ids
            logs := c.logs.map (fun e => if e.1 = key then (e.1, 0, e.2.2) else e) })
          let s := ids.foldl (fun s id => s.castAll (.rejoin id t.id)) s
          downPorts.foldl (fun s p =>
            if ids.contains (s.cport p).peer && (s.cport p).benched
            then s.modPort p (fun c => { c with rejoin := some t.id }) else s) s
        else s
      let w0 := match t.mode with | .atFrame f => f | _ => s.nextDecision
      let w := (s.trk.tricks.filter (fun x => x.wall && x.announced)).foldl (fun w x => laterFrame w x.target) w0
      let s := s.modTrick key (fun t => { t with
        resync := resync, announced := true, target := w, firstW := w })
      let t' := (s.trick key).getD t
      let s := s.wallFlush t'
      let s := s.castWall t' (.endT t.id t'.sent)
      let s := s.castWall t' (.prepare t.id w)
      -- tricks whose items were held back for the rejoining hands go out now
      s.trk.tricks.foldl (fun s x => if x.wall && x.key ≠ key then s.wallFlush x else s) s

/-- Frames of the dealer's anchors, and all else of a trick that is spoiled, discarded or lost before
COMMIT: the hands discard their copies (R395). -/
def State.wallDropped (s : State) (key : Nat) : State :=
  match s.trick key with
  | none => s
  | some t =>
    if !t.wall || !s.dealer then s
    else
      let gone := match s.cwy.logs.find? (fun e => e.1 = key) with | some e => decide (0 < e.2.1) || t.announced | none => t.announced
      let s := if gone && !t.wallGo then s.castWall t (.discard t.id) else s
      let s := s.modCwy (fun c => { c with logs := c.logs.filter (fun e => e.1 ≠ key) })
      if t.resync && !t.wallGo then
        (downPorts.foldl (fun s p => s.modPort p (fun c =>
          { c with rejoin := if c.rejoin = some t.id then none else c.rejoin })) s).modCwy
          (fun c => { c with rejoin := c.rejoin ++ c.served, served := [] })
      else s

/-- Discard a trick whole, at every device (R117, R136, R395). -/
def State.discardTrick (s : State) (key : Nat) : State := (s.wallDropped key).dropTrick key

end Sys2Proof.Machine
end

