-- ==== Sys2Proof/Machine/Trick.lean ====
section
/-!
DEFINITION. The trick unit: how a trick becomes staged (R116, R119, R126, R131), its application at
the anchor's cutoff (R110, R124 to R134), what the application marks as damaged (R214, R215, R255 to
R257), and where each head shows it (R128, R132, R471).
-/

set_option Elab.async false  -- the joined text is large: no thread per declaration

namespace Sys2Proof.Machine

/-! ### Small helpers -/

/-- Heads of a mask. -/
def headsOf (m : BitVec 6) : List (Fin 6) := allHeads.filter (fun n => m.getLsbD n.val)

/-- Mask of a list of heads. -/
def maskOf (l : List (Fin 6)) : BitVec 6 :=
  l.foldl (fun m n => m ||| BitVec.ofNat 6 (2 ^ n.val)) 0

/-! ### Becoming staged -/

/-- The anchor of a trick (R131). -/
def State.anchorOf (s : State) (t : Trick) : Option (Fin 6) :=
  let on := s.enabledHeads
  match on.find? (fun n => t.heads.getLsbD n.val) with
  | some n => some n
  | none => if t.owner = .wall then none else on.head?

/-- Target of a trick that becomes staged on an anchor (R126, R123): an implicit trick is applied at
the next cutoff, which it never misses. An anchor whose beams stand reaches no cutoff of the blank frame
its fresh start makes first (R304). The window of f stays open through steps 1 to 3 of a blanking change
that began in it, so that a NEXT trick staged there has missed f (DESIGN CHOICE, log entry 83). -/
def State.targetOf (s : State) (t : Trick) : Word :=
  match s.anchorOf t with
  | none => 0
  | some n =>
    let h := s.head n
    match t.mode with
    | .atFrame f => f
    | _ =>
      let past := if h.inWindow then t.owner = .implicit || t.owner = .boot else !h.beams
      if past then h.frame + 2 else h.frame + 1

/-- A trick becomes staged: its anchor, target and place in the order are fixed (R116, R126, R131). -/
def State.becomeStaged (s : State) (key : Nat) : State :=
  match s.trick key with
  | none => s
  | some t =>
    let a := s.anchorOf t
    let w := if t.wall then t.target else s.targetOf t
    let order := s.trk.nextOrder
    let s := s.modTrick key (fun t => { t with phase := .staged, anchor := a, target := w, order := order })
    let s := { s with trk := { s.trk with nextOrder := order + 1 } }
    s.wallStaged key

/-- Staged places held (R112). -/
def State.stagedCount (s : State) : Nat := (s.trk.tricks.filter Trick.isStaged).length

/-- A closed and complete trick takes a staged place, or waits for one (R119). -/
def State.takePlace (s : State) (key : Nat) : State :=
  if s.stagedCount < 16 then s.becomeStaged key
  else s.modTrick key (fun t => { t with phase := .waitPlace })

/-- Descriptors in flight that named a trick, its TRICK_COMMIT apart (R116). -/
def State.trickBusy (s : State) (key : Nat) : Bool :=
  s.hif.slots.any (fun x => x.trick = some key && x.st ≠ .commit && x.st ≠ .held)

/-- The TRICK_COMMIT of a trick completes with the spoiling status; the trick goes (R92, R117). -/
def State.endSpoiled (s : State) (t : Trick) (st : Nat) (d : Word) : State :=
  let s := s.discardTrick t.key
  match t.commitSlot with | some id => s.complete id st d | none => s

/-- A closing trick whose descriptors have all completed becomes staged, or ends as spoiled or
discarded (R116, R117). -/
def State.settleTrick (s : State) (key : Nat) : State :=
  match s.trick key with
  | none => s
  | some t =>
    match t.phase with
    | .closing =>
      if s.trickBusy key then s
      else match t.spoil with
        | some (st, d) => s.endSpoiled t st d
        | none =>
          if t.mode = .discard then s.endSpoiled t stDone 0 else s.takePlace key
    | .waitPlace => if s.stagedCount < 16 then s.becomeStaged key else s
    | _ => s

/-- A staged trick whose anchor is off takes the anchor R131 gives now, and its next cutoff. -/
def State.reanchor (s : State) (key : Nat) : State :=
  match s.trick key with
  | none => s
  | some t =>
    let gone := match t.anchor with | some n => !(s.head n).enabled | none => false
    if t.phase = .staged && gone && !(t.owner = .wall) then
      let t' := if t.wall then t else { t with mode := .next }
      let a := s.anchorOf t
      let w := if t.wall then t.target else s.targetOf t'
      s.modTrick key (fun t => { t with anchor := a, target := w })
    else s

/-- Every trick that can move on does, in the order of its opening. -/
def State.settleTricks (s : State) : State :=
  let s := s.trk.tricks.foldl (fun s t => s.settleTrick t.key) s
  s.trk.tricks.foldl (fun s t => s.reanchor t.key) s

/-- A BAR0 write to a trick-class or line-class field forms an implicit trick (R123). -/
def State.implicitTrick (s : State) (w : RegW) : State :=
  let heads : BitVec 6 := match windowHead (w.id.addr w.i w.j) with
    | some n => BitVec.ofNat 6 (2 ^ n.val) | none => 0
  let r := s.openTrick .implicit 0 heads false
  (r.1.modTrick r.2 (fun t => { t with writes := [w] })).becomeStaged r.2

/-! ### Damage of an application -/

/-- Changed registers of head `n`: scroll fields mark footprints, all else the whole area (R255). -/
def State.markRegs (s s0 : State) (n : Fin 6) (ws : List RegW) : State :=
  ws.foldl (fun s w =>
    if regHead w.id w.i w.j ≠ some n || s0.reg w.id w.i w.j = s.reg w.id w.i w.j then s
    else match w.id with
      | .PL_SCROLL_X | .PL_SCROLL_Y | .PL_CSCROLL =>
        (s.markOpt n (s0.footprint n w.j)).markOpt n (s.footprint n w.j)
      | .TRK_HD_CTL | .CWY_VIEW_CTL | .CWY_VIEW_XY | .CWY_VIEW_DECK | .CWY_BENCH_HD | .CWY_BENCH_SIG => s
      | _ => s.markAll n) s

/-- Box of a deck entry given by its words, when EN is 1 (R214). -/
def entryBox (ws : List W24) (ofs : Word) (w h : Nat) : Option Box :=
  match ws with
  | [w0, w1, w2, w3] =>
    let o : ObjSel := ⟨0, w0, w1, w2, w3⟩
    if o.en then o.box ofs w h else none
  | _ => none

/-- Words of a deck entry in memory now. -/
def State.deckNow (s : State) (base i : Nat) : List W24 :=
  (List.range 4).map (fun k => s.mem.word24 base (4 * i + k))

/-- Map entries that plane `p` of head `n` reads, among those changed. -/
def State.planeEntries (s : State) (n : Fin 6) (p : Nat) (addrs : List Nat) : Nat :=
  let base := s.fld (F.PL_MAP_BASE n p) * 64
  let size := 3 * 2 ^ (s.fld (F.PL_MAPDIM_W_LOG2 n p) + s.fld (F.PL_MAPDIM_H_LOG2 n p))
  if s.fld (F.PL_CTL_EN n p) = 1 ∧ s.fld (F.PL_CTL_MODE n p) = 0
  then (addrs.filter (fun a => base ≤ a && a < base + size)).length else 0

/-- Marks of changed map entries (R256). -/
def State.markMaps (s : State) (n : Fin 6) (marks : List StageMark) : State :=
  let addrs := (marks.filterMap (fun m => match m with | .mapEntry a => some a | _ => none)).eraseDups
  let s := (List.range 16).foldl (fun s p =>
    if 4096 < s.planeEntries n p addrs then s.markOpt n (s.footprint n p) else s) s
  addrs.foldl (fun s a => s.markEntry n a) s

/-- Marks of changed deck entries (R214, R215). -/
def State.markDecks (s : State) (n : Fin 6) (marks : List StageMark) : State :=
  let base := s.deckBase n
  let size := 12 * min 65536 (s.fld (F.OBJ_COUNT_COUNT n))
  let ofs := s.reg .OBJ_OFS n 0
  let h := s.head n
  let own := marks.filterMap (fun m => match m with
    | .deckEntry b i old => if b = base then some (i, old) else none | _ => none)
  let other := marks.any (fun m => match m with
    | .deckEntry b i _ => b ≠ base && overlaps (b + 12 * i, b + 12 * i + 12) (base, base + size)
    | _ => false)
  if other || 4096 < ((own.map (·.1)).eraseDups).length then s.markAll n
  else own.foldl (fun s e =>
    (s.markOpt n (entryBox e.2 ofs h.hActive h.vActive)).markOpt n
      (entryBox (s.deckNow base e.1) ofs h.hActive h.vActive)) s

/-- Other staged content, and pages that clashed (R148, R255). -/
def State.markRest (s : State) (n : Fin 6) (marks : List StageMark) : State :=
  if marks.any (fun m => match m with | .range .. => true | .clash hs => hs.getLsbD n.val | _ => false)
  then s.markAll n else s

/-- Everything an application marks on the heads of a trick, and clashes on every head of either. -/
def State.markTrick (s s0 : State) (t : Trick) (ws : List RegW) : State :=
  let s := (headsOf t.heads).foldl (fun s n =>
    (((s.markRegs s0 n ws).markMaps n t.marks).markDecks n t.marks).markRest n t.marks) s
  allHeads.foldl (fun s n => s.markRest n (t.marks.filter (fun m =>
    match m with | .clash _ => true | _ => false))) s

/-! ### Committing register writes -/

/-- A setting of MEM_TRUMP_HD that R151 refuses: it overlaps another head's region or the pool. -/
def State.trumpRefused (s : State) (n : Nat) (w : Word) : Bool :=
  let r : Nat × Nat := (bits w 25 16 * 0x10000, bits w 25 16 * 0x10000 + bits w 7 0 * 0x10000)
  128 < bits w 7 0 || overlaps r (s.tarnTop, 0x4000000) ||
  (List.range 6).any (fun k => k ≠ n && overlaps r (s.trumpRegion k))

/-- What a field stores when it is written out of range, or where it ignores writes (R266, R468). -/
def State.stored (s : State) (w : RegW) (old new : Word) : Word :=
  match w.id with
  | .SINK_RING => putBits new 26 20 (min 64 (max 2 (bits new 26 20)))
  | .SEQ_CTL => if w.i < 6 && s.headPresent w.i then putBits new 22 20 (bits old 22 20) else new
  | _ => new

/-- Commit one staged write. A head that runs keeps what it uses until its wrap (R120, R132). -/
def State.commitReg (s : State) (w : RegW) : State :=
  if !s.regPresent w.id w.i w.j then s
  else
    let old := s.reg w.id w.i w.j
    let new := s.stored w old ((old &&& ~~~w.mask) ||| (w.value &&& w.mask))
    if w.id = .MEM_TRUMP_HD && s.trumpRefused w.i new then s.raiseF F.MEM_POOL_STATUS_TRUMP_ERR
    else
      let inUse := s.useReg w.id w.i w.j
      let s1 := s.setReg w.id w.i w.j new
      let held := match w.id, regHead w.id w.i w.j with
        | .TRK_HD_CTL, _ => false
        | _, some n => (s.head n).enabled && (s.head n).beams
        | _, none => false
      if held then s1.setLive w.id w.i w.j inUse else s1.dropLive w.id w.i w.j

/-! ### Views of a hand (R391) -/

/-- Local heads that map wall head `w`. -/
def State.mapped (s : State) (w : Nat) : List (Fin 6) :=
  allHeads.filter (fun n => s.headPresent n && s.flag (F.CWY_VIEW_CTL_EN n) &&
    s.fld (F.CWY_VIEW_CTL_WHEAD n) = w && w < 6)

def State.viewX (s : State) (n : Fin 6) : Int := signed 16 (s.fld (F.CWY_VIEW_XY_VX n))
def State.viewY (s : State) (n : Fin 6) : Int := signed 16 (s.fld (F.CWY_VIEW_XY_VY n))

/-- The registers of the affine origin and matrix. -/
def isAff (r : RegId) : Bool :=
  match r with
  | .AFF_A | .AFF_B | .AFF_C | .AFF_D | .AFF_OX_HI | .AFF_OX_LO | .AFF_OY_HI | .AFF_OY_LO => true
  | _ => false

/-- Edges of a window less an offset, clamped at 0; (1, 0) when it lies wholly outside. -/
def viewEdges (lo hi : Nat) (v : Int) : Nat × Nat :=
  if (hi : Int) - v < 0 then (1, 0) else ((max 0 ((lo : Int) - v)).toNat, ((hi : Int) - v).toNat)

/-- A component of OBJ_OFS less an offset, and whether it was clamped. -/
def viewOfs (v off : Int) : Int × Bool :=
  let x := v - off
  (max (-8192) (min 8191 x), x < -8192 || 8191 < x)

/-- Value a hand commits for a forwarded write of head `n` outside the affine registers. -/
def State.viewWrite (s : State) (n : Fin 6) (w : RegW) : State × RegW :=
  let vx := s.viewX n
  let vy := s.viewY n
  let add (v : Int) : Word := putBits w.value 15 0 (wrapInt 16 ((bits w.value 15 0 : Int) + v))
  let edges (v : Int) : Word :=
    let e := viewEdges (bits w.value 13 0) (bits w.value 29 16) v
    putBits (putBits w.value 13 0 e.1) 29 16 e.2
  match w.id with
  | .PL_SCROLL_X => (s, { w with value := add vx })
  | .PL_SCROLL_Y => (s, { w with value := add vy })
  | .OBJ_OFS =>
    let x := viewOfs (ofsX w.value) vx
    let y := viewOfs (ofsY w.value) vy
    let v := putBits (putBits w.value 13 0 (wrapInt 14 x.1)) 29 16 (wrapInt 14 y.1)
    (if x.2 || y.2 then s.raiseF F.CWY_STAT_VIEW_ERR else s, { w with value := v })
  | .WIN_X => (s, { w with value := edges vx })
  | .WIN_Y => (s, { w with value := edges vy })
  | .OBJ_DECK =>
    let b := s.fld (F.CWY_VIEW_DECK_BASE n)
    (s, if b = 0 then w else { w with value := putBits w.value 19 0 b })
  | _ => (s, w)

/-- Raw forwarded value of an affine register, or the committed one where none was forwarded. -/
def State.affRaw (s : State) (r : RegId) (n : Fin 6) (q : Nat) : Word :=
  (s.cwy.aff.find (r.addr n q)).getD (s.reg r n q)

/-- The origin a hand commits for plane `q` of head `n`, in 24.8 (R391). -/
def State.viewOrigin (s : State) (n : Fin 6) (q : Nat) : List RegW :=
  let vx := s.viewX n
  let vy := s.viewY n
  let m (r : RegId) : Int := signed 24 (s.affRaw r n q).toNat
  let o (hi lo : RegId) (a b : RegId) : Nat :=
    wrapInt 32 (signed 24 (s.affRaw hi n q).toNat * 256 + bits (s.affRaw lo n q) 7 0 + (m a * vx + m b * vy) / 256)
  let ox := o .AFF_OX_HI .AFF_OX_LO .AFF_A .AFF_B
  let oy := o .AFF_OY_HI .AFF_OY_LO .AFF_C .AFF_D
  [⟨.AFF_OX_HI, n, q, BitVec.ofNat 32 (ox / 256), 0xFFFFFF⟩, ⟨.AFF_OX_LO, n, q, BitVec.ofNat 32 (ox % 256), 0xFF⟩,
   ⟨.AFF_OY_HI, n, q, BitVec.ofNat 32 (oy / 256), 0xFFFFFF⟩, ⟨.AFF_OY_LO, n, q, BitVec.ofNat 32 (oy % 256), 0xFF⟩]

/-- The writes a hand commits for a wall trick: adjusted, the affine origins computed last. -/
def State.viewWrites (s : State) (ws : List RegW) : State × List RegW :=
  let r := ws.foldl (fun (acc : State × List RegW) w =>
    match windowHead (w.id.addr w.i w.j) with
    | some n =>
      if isAff w.id then
        let s := acc.1.modCwy (fun c => { c with aff := c.aff.insert (w.id.addr w.i w.j) w.value })
        (s, if w.id = .AFF_A || w.id = .AFF_B || w.id = .AFF_C || w.id = .AFF_D then acc.2 ++ [w] else acc.2)
      else
        let v := acc.1.viewWrite n w
        (v.1, acc.2 ++ [v.2])
    | none => (acc.1, acc.2 ++ [w])) (s, [])
  let planes := ((ws.filter (fun w => isAff w.id)).map (fun w => (w.i, w.j))).eraseDups
  (r.1, r.2 ++ planes.flatMap (fun e =>
    if h : e.1 < 6 then r.1.viewOrigin ⟨e.1, h⟩ e.2 else []))

/-! ### Application -/

/-- A Tarn page holds some of a snapshot's content (R420, R422). -/
def Scene.holdsPage (c : Scene) (g : Nat) : Bool :=
  (c.trump ++ c.ranges ++ c.early.toList).any (fun r => overlaps (r.1, r.1 + r.2.length) (g * 4096, g * 4096 + 4096))

/-- A store still copies that page of its snapshot (R422). -/
def State.snapHolds (s : State) (g : Nat) : Bool :=
  match s.jrnl.store with
  | some st => st.step = 0 && !st.copied && (match st.scene with | some c => c.holdsPage g | none => false)
  | none => false

/-- Repoint the pages of a trick (R146). -/
def State.applyPages (s : State) (t : Trick) : State :=
  let heads := maskOf (s.enabledHeads.filter (fun n => t.heads.getLsbD n.val))
  t.pages.foldl (fun s p =>
    let snap := s.snapHolds p.page
    let old : OldPage := { page := p.page, img := (s.pageFill p.page).img, heads := heads, snap := snap }
    let s := if heads ≠ 0 || snap then { s with oldPages := s.oldPages ++ [old] } else s
    { s with mem := s.mem.replace (p.page * 4096) (p.page * 4096 + 4096) p.img }) s

/-- Effects of a trick on sequencer `q`: its bank becomes pending, and a program start or a stop is
owed (R291, R293). `en0` and `beam0` are EN and BEAM_HD before the application. -/
def State.applySeq (s : State) (key : Nat) (q : Fin 8) (en0 : Bool) (beam0 : Nat) : State :=
  let x := s.seq q
  let loaded := match x.shadow with | some (k, _) => k = key | none => false
  let s := match x.shadow with
    | some (k, b) => if k = key then s.modSeq q (fun x => { x with pendBank := some b, shadow := none }) else s
    | none => s
  let en := s.flag (F.SEQ_CTL_EN q)
  let frame : Option Word := (s.beamHead q).map (fun n => (s.head n).frame + 1)
  let s := if en && !en0 then s.modSeq q (fun x => { x with stopAt := none })
    else if !en && en0 then s.modSeq q (fun x => { x with stopAt := some frame, owed := none }) else s
  if loaded || (en && !en0) || s.fld (F.SEQ_CTL_BEAM_HD q) ≠ beam0
  then s.oweStart q frame ((s.seq q).pendBank.isSome) else s

/-- A held affine fraction goes with an application that sets OX or OY: the next write of the integer part takes
effect with the committed fraction, which the slot holds from then on (R186). -/
def State.dropHeld (s : State) (w : RegW) : State :=
  let drop (axis : Nat) : State :=
    if h : w.i < 6 then
      s.modHead ⟨w.i, h⟩ (fun x => { x with
        affHeld := x.affHeld.set ((w.j % 2 * 2 + axis) % 4)
          (some ((s.reg (if axis = 0 then .AFF_OX_LO else .AFF_OY_LO) w.i w.j).setWidth 8)) (Nat.mod_lt _ (by decide)) })
    else s
  match w.id with
  | .AFF_OX_HI | .AFF_OX_LO => drop 0
  | .AFF_OY_HI | .AFF_OY_LO => drop 1
  | _ => s

/-- The heads whose registers of a kind the writes touch. -/
def touched (ws : List RegW) (f : RegId → Bool) : List (Fin 6) :=
  allHeads.filter (fun n => ws.any (fun w => f w.id && w.i = n.val))

def isTiming (r : RegId) : Bool :=
  match r with | .TS_H | .TS_HSYNC | .TS_V | .TS_VSYNC | .TS_CLK | .TS_LINK => true | _ => false

/-- Timing sets, DP audio, enables and locks after the writes of an application (R301 to R308, R316). -/
def State.applyHeads (s : State) (ws : List RegW) : State :=
  let aud (s : State) (n : Fin 6) : Word :=
    let w := s.reg .DP_AUD n 0
    if ws.any (fun x => x.id = .DP_AUD && x.i = n.val) && !audReserved w then w else (s.head n).audNext
  let s := (touched ws isTiming).foldl (fun s n => s.applyTiming n (aud s n)) s
  let s := (touched ws (fun r => r = .DP_AUD)).foldl (fun s n => s.applyDpAud n) s
  let s := (touched ws (fun r => r = .HEAD_CTL)).foldl (fun s n => s.applyEnable n) s
  let s := allHeads.foldl (fun s n => s.reviewEnable n) s
  (touched ws (fun r => isTiming r || r = .HEAD_CTL)).foldl (fun s n => s.reviewLocks n) s

/-- Restore what the scene holds beyond registers and Tarn staged through tricks: stored ranges,
sequencer banks and mix programs (R420, R428). -/
def State.bootScene (s : State) (sc : Scene) : State :=
  let s := sc.ranges.foldl (fun s r => s.poke r.1 r.2) s
  let s := sc.seqs.foldl (fun s e => s.modSeq e.1 (fun x => { x with bank := e.2, pendBank := none })) s
  sc.audio.foldl (fun s e => s.audRestore e.1 e.2) s

/-- Head `n` shows a committed trick: its LAST registers (R471); the restored scene brings the IDs
stored with it (R428), and a trick of the SMBus path leaves them (R234). RESTORED falls here with the other
fields (DESIGN CHOICE, log entry 84), and FN reads 0 for a wall trick at a hand, whose packets name no
function (DESIGN CHOICE, log entry 85). -/
def State.lastTrick (s : State) (n : Fin 6) (owner : Owner) (id : Word) : State :=
  match owner with
  | .boot =>
    let ids := match s.jrnl.inForce.bind (fun k => s.jrnl.slots[k].scene) with
      | some c => c.lastIds | none => []
    (s.setReg .TRK_HD_LAST_ID n 0 ((ids[n.val]?).getD 0)).setReg .TRK_HD_LAST_INFO n 0 0x80000000
  | .smbus => s
  | _ =>
    let fn := match owner with | .fn f => f.val | _ => 0
    let s := s.setReg .TRK_HD_LAST_ID n 0 id
    s.setReg .TRK_HD_LAST_INFO n 0 (BitVec.ofNat 32
      (b2n (owner = .implicit) * 2 ^ 30 + fn * 2 ^ 24 + (s.head n).frame.toNat % 2 ^ 24))

/-- A committed trick is shown on every head it spans: its TRICK_COMMIT completes (R127, R128, R395). -/
def State.endShown (s : State) (x : Shown) : State :=
  let s := { s with trk := { s.trk with shown := s.trk.shown.filter (fun y => y.key ≠ x.key) } }
  match x.commitSlot with
  | some id => if x.missed then s.complete id stDeferred x.frame else s.complete id stDone 0
  | none => s

/-- Committed tricks with no enabled head left to show them. -/
def State.settleShown (s : State) : State :=
  let on := maskOf s.enabledHeads
  let s := { s with trk := { s.trk with shown := s.trk.shown.map (fun (x : Shown) => { x with pending := x.pending &&& on }) } }
  s.trk.shown.foldl (fun s x => if x.pending = 0 then s.endShown x else s) s

/-- Head `n` shows a committed trick: it waits for it no longer, and the anchor's frame is the one from which
it is visible (R127). -/
def Shown.seenBy (x : Shown) (n : Fin 6) (frame : Word) : Shown :=
  if x.pending.getLsbD n.val then
    { x with pending := x.pending &&& ~~~BitVec.ofNat 6 (2 ^ n.val)
             frame := if x.anchor = some n then frame else x.frame }
  else x

/-- Head `n` has wrapped into the frame that shows every trick committed for it (R132, R471); in FALLBACK it
shows none (R28, R134). -/
def State.shownAt (s : State) (n : Fin 6) : State :=
  if (s.head n).fb then s
  else
    let now := s.trk.shown.filter (fun x => x.pending.getLsbD n.val)
    let s := { s with trk := { s.trk with shown := s.trk.shown.map (fun (x : Shown) => x.seenBy n (s.head n).frame) } }
    let s := now.foldl (fun s x =>
      let s := s.lastTrick n x.owner x.id
      if x.owner = .boot then s.modHead n (fun h => { h with early := false }) else s) s
    s.settleShown

/-- The application of a trick ends: it is committed, and waits to be shown (R110, R132, R134). -/
def State.commitBody (s : State) (key : Nat) : State :=
  match s.trick key with
  | none => s
  | some t =>
    let s0 := s
    let atHand := t.owner = .wall
    let vw : State × List RegW := if atHand then s.viewWrites t.writes else (s, t.writes)
    let ws := vw.2
    let runs := s.tmrRuns
    let spans := s.enabledHeads.filter (fun n => t.heads.getLsbD n.val)
    let off := (headsOf t.heads).filter (fun n => !(s.head n).enabled)
    let ens := allSeqs.map (fun (q : Fin 8) => (q, s.flag (F.SEQ_CTL_EN q), s.fld (F.SEQ_CTL_BEAM_HD q)))
    let s := (vw.1.applyPages t)
    let s := ws.foldl (fun s w => s.commitReg w) s
    let s := ws.foldl (fun s w => s.dropHeld w) s
    let s := ens.foldl (fun s e => s.applySeq key e.1 e.2.1 e.2.2) s
    let s := s.audApply key
    let s := s.applyHeads ws
    let s := (s.tmrApply runs).pinReview s0
    let s := if t.owner = .boot then
        (match s.jrnl.inForce.bind (fun k => s.jrnl.slots[k].scene) with
         | some sc => s.bootScene sc | none => s)
      else s
    let s := s.markTrick s0 t ws
    let s := if ws.any (fun w => w.id = .CWY_WALL_CTL) && s0.reg .CWY_WALL_CTL 0 0 ≠ s.reg .CWY_WALL_CTL 0 0
      then s.sendWallInfo else s
    let s := s.count 0x20 0 1 t.owner.attr
    let s := if t.wall && s.dealer then
        (s.incF F.CWY_WALL_SEQ_COUNT).modCwy (fun c => { c with logs := c.logs.filter (fun e => e.1 ≠ key) })
      else s
    let s := off.foldl (fun s n => s.lastTrick n t.owner t.id) s
    let frame : Word := match t.anchor with | some n => (s0.head n).frame + 1 | none => 0
    let x : Shown := { key := key, owner := t.owner, id := t.id, pending := maskOf spans,
                       missed := t.missed, anchor := t.anchor, frame := frame, commitSlot := t.commitSlot }
    { s with trk := { s.trk with
      tricks := s.trk.tricks.filter (fun u => u.key ≠ key), queue := s.trk.queue.filter (· ≠ key)
      shown := s.trk.shown ++ [x] } }

/-- The application of a trick ends; one that spans no enabled head is complete (R128). -/
def State.commitTrick (s : State) (key : Nat) : State := (s.commitBody key).settleShown

/-! ### The cutoff and the wrap -/

/-- C of R124 in effect on a head. -/
def State.cutoffLines (s : State) (n : Fin 6) : Nat :=
  let h := s.head n
  min (max 1 (s.fld (F.TRK_HD_CTL_CUTOFF_LINES n))) (h.vTotal - h.vActive)

/-- Insert a trick by the order in which it became staged. -/
def insertByOrder (t : Trick) : List Trick → List Trick
  | [] => [t]
  | u :: us => if t.order < u.order then t :: u :: us else u :: insertByOrder t us

/-- Tricks in the order in which they became staged. -/
def byOrder (l : List Trick) : List Trick := l.foldl (fun acc t => insertByOrder t acc) []

/-- Applications due at a head's anchor are still in the queue. -/
def State.anchorBusy (s : State) (n : Fin 6) : Bool :=
  s.trk.queue.any (fun k => match s.trick k with | some t => t.anchor = some n | none => false)

/-- A trick is applied later than its target's cutoff (R127); at a hand the commit came late too (R397). -/
def State.noteMissed (s : State) (t : Trick) : State :=
  let s := if t.owner = .wall then (s.incF F.CWY_LATE_COUNT).cwyEvent 0x0A 0 else s
  ((s.incF F.TRK_MISSED_COUNT).count 0x21 0 1 t.owner.attr).modTrick t.key (fun t => { t with missed := true })

/-- A trick starts to be applied, or waits behind those before it. -/
def State.enqueueTrick (s : State) (key : Nat) : State :=
  let s := s.modTrick key (fun t => { t with phase := .applying })
  { s with trk := { s.trk with queue := s.trk.queue ++ [key] } }

/-- COMMIT_CUTOFF: the compose beam of head `n` has reached the cutoff of the coming frame (R124, R125). -/
def State.commitCutoff (s : State) (n : Fin 6) : State :=
  let h := s.head n
  if !s.beamsRun n || h.inWindow || !h.lineOn || h.line < h.vTotal - s.cutoffLines n then s
  else
    let f := h.frame + 1
    let s := s.modHead n (fun h => { h with inWindow := true })
    let due := byOrder (s.trk.tricks.filter (fun t =>
      t.phase = .staged && t.anchor = some n && (!t.wall || t.wallGo) && frameDiff t.target f ≤ 0))
    let s := due.foldl (fun s t =>
      let late := t.target ≠ f && !t.missed && t.owner ≠ .implicit && t.owner ≠ .boot
      (if late then s.noteMissed t else s).enqueueTrick t.key) s
    if s.anchorBusy n then s else s.startEval0 n

/-- The wrap of a lock group, with what each head shows from it (R130, R132, R133). -/
def State.wrapGroup (s : State) (g : List (Fin 6)) : State :=
  (g.foldl (fun s k => (s.wrapHead k).shownAt k) s).reviewMode

/-- FRAME_WRAP: the compose beam reaches (f, 0, 0); it waits there for applications still under way
(R130). -/
def State.frameWrap (s : State) (n : Fin 6) : State :=
  let g := s.lockGroup n
  if !g.all (fun k => s.wrapReady k && (s.head k).inWindow) then s
  else if g.any s.anchorBusy then
    g.foldl (fun s k => if (s.head k).wrapWait then s
      else (s.modHead k (fun h => { h with wrapWait := true })).incF (F.TRK_HD_LATE_COUNT k)) s
  else s.wrapGroup g

/-- Line 0 of the coming frame is evaluated, or evaluated again, on the heads of a trick whose evaluation of it
is not held back by further applications (R204). -/
def State.restartEval0 (s : State) (heads : BitVec 6) : State :=
  (headsOf heads).foldl (fun s k => if (s.head k).inWindow && !s.anchorBusy k then s.startEval0 k else s) s

/-- APPLICATION_END: the application under way ends; a wrap that waited for the last one takes place
at that instant (R110, R130). -/
def State.applicationEnd (s : State) : State :=
  match s.trk.queue with
  | [] => s
  | key :: _ =>
    if !s.alive then s
    else
      let anchor := (s.trick key).bind (·.anchor)
      let heads := (((s.trick key).map (·.heads)).getD 0) ||| maskOf anchor.toList
      let s := ((s.commitTrick key).restartEval0 heads).reviewMode
      match anchor with
      | none => s
      | some n =>
        if s.anchorBusy n then s
        else
          let g := s.lockGroup n
          if (s.head n).wrapWait && g.all (fun k => s.wrapReady k) && !g.any s.anchorBusy
          then s.wrapGroup g else s

/-- NO_HEAD_APPLY: with no enabled head the first staged trick is applied (R123, R131). -/
def State.noHeadApply (s : State) : State :=
  let due := byOrder (s.trk.tricks.filter (fun t =>
    t.phase = .staged && t.anchor = none && (!t.wall || t.wallGo)))
  match due with
  | t :: _ => if s.alive && s.trk.queue.isEmpty then (s.commitTrick t.key).reviewMode else s
  | [] => s

/-- A fault waits for the application in progress, which completes nothing (R109); tricks queued behind it are
staged still (R110). -/
def State.finishApplication (s : State) : State :=
  match s.trk.queue with
  | [] => s
  | key :: rest =>
    let s := s.commitBody key
    let s := rest.foldl (fun s k => s.modTrick k (fun t => { t with phase := .staged })) s
    { s with trk := { s.trk with queue := [] } }


end Sys2Proof.Machine
end

