-- ==== Sys2Proof/Machine/Link.lean ====
section
/-!
DEFINITION. Causeway ports: training (R382), link sequence numbers and replay (R383), the port's
answers to violations (R384), clock tracking (R385), wall ticks (R386 to R388), leaving ACTIVE
(R397 to R398), and freeze across the wall (R402).
-/

set_option Elab.async false  -- the joined text is large: no thread per declaration

namespace Sys2Proof.Machine

/-! ### Who may train -/

/-- Link logic runs: neither off nor held in reset. In FREEZE only control blocks pass (R402). -/
def State.linked (s : State) : Bool := !(s.glob.mode = .off) && !s.glob.heldInReset

/-- A port may train: present, enabled, not the dealer's upstream port, and clocked (R378, R381). -/
def State.portMayTrain (s : State) (p : Fin 5) : Bool :=
  s.alive && s.portPresent p && s.flag F.CWY_CTL_EN && s.flag (F.CWY_PORT_CTL_EN p) &&
  !(p = 0 && s.dealer) && s.flag F.GLB_CLK_STATUS_ROOT_LOCK

/-- A port in DOWN starts to train. -/
def State.portStart (s : State) (p : Fin 5) : State :=
  if s.portMayTrain p && (s.cport p).run = .down then s.modPort p (fun c => { c with run := .lock }) else s

/-- Every port that may train and stands in DOWN starts to. -/
def State.portsStart (s : State) : State := allPorts.foldl (fun s p => s.portStart p) s

/-- What a port holds of a link goes with the link; its error history stays. -/
def CwyPort.clear (c : CwyPort) (run : PortRun) : CwyPort :=
  { run := run, bads := c.bads, leaves := c.leaves }

/-! ### Tracking and the wall's lock -/

/-- LOCK 6 heads of a hand take up the lock, or take it up again, through a blanking change; a set
that differs from WALL_INFO is refused (R388). -/
def State.takeWallLock (s : State) : State :=
  if s.dealer then s
  else s.enabledHeads.foldl (fun s n =>
    match (s.head n).ts with
    | some t =>
      if t.lock ≠ 6 then s
      else if !s.lockOk n t then s.tsRefuse n 4
      else s.modHead n (fun h => { h with lockFree := false, noWrap := h.beams && h.blank = .none }) 
    | none => s) s

/-- LOCK 6 heads of a hand run on freely: LOCK_LOST (R388). -/
def State.loseWallLock (s : State) : State :=
  if s.dealer then s
  else s.enabledHeads.foldl (fun s n =>
    match (s.head n).ts with
    | some t => if t.lock = 6 && !(s.head n).lockFree
      then (s.raiseF (F.HEAD_STAT_LOCK_LOST n)).modHead n (fun h => { h with lockFree := true }) else s
    | none => s) s

/-- The root takes the recovered clock of the upstream port as its reference (R24, R385). -/
def State.startTracking (s : State) : State :=
  let slewing := s.glob.ref ≠ .locked
  let s := { s with glob := { s.glob with tracking := true, refCwy := true
                                          ref := if slewing then .slewTo else .locked } }
  (s.setF F.GLB_CLK_STATUS_ROOT_SRC 2).takeWallLock

/-- The upstream link is lost: the root holds its last frequency (R24). -/
def State.stopTracking (s : State) : State :=
  if !s.glob.tracking then s
  else
    let s := { s with glob := { s.glob with tracking := false, ref := .holdover, refCwy := true } }
    (s.raiseF F.GLB_CLK_STATUS_HOLDOVER).loseWallLock

/-! ### Leaving ACTIVE -/

/-- A hand's wall tricks that have not received COMMIT go (R397, R399). -/
def State.handDiscard (s : State) : State :=
  let ks := (s.trk.tricks.filter (fun t => t.owner = Owner.wall && !t.wallGo)).map (fun t => t.key)
  (ks.foldl (fun s k => s.dropTrick k) s).modCwy (fun c => { c with rx := [] })

/-- The subtree of a benched or disconnected hand is benched with it (R398). -/
def State.benchBelow (s : State) : State :=
  downPorts.foldl (fun s p =>
    let c := s.cport p
    if c.run = .active && (c.joined || c.rejoin.isSome) then
      (s.modPort p (fun c => { c with
        joined := false, benched := true, rejoin := none, ready := []
        fwd := c.fwd.filter (fun k => !k.scene) })).pushPkt p (.bench 6 s.cwy.frame)
    else s) s

/-- A hand becomes standalone (R378). -/
def State.standalone (s : State) : State :=
  let s := (s.stopTracking).handDiscard.benchBelow
  (s.setF F.CWY_ID_PATH 0).modCwy (fun c => { c with
    state := 0, reason := 0, info := none, next := none, rejoining := none, through := [] })

/-- Path of the child on a downstream port (R379). -/
def State.childPath (s : State) (p : Fin 5) : Nat :=
  let w := s.cwyPath
  let d := w / 16384
  (d + 1) * 16384 + w % 16384 + (p.val - 1) * 4 ^ d

/-- A path leads to a child or through it (R379). -/
def pathBelow (child path : Nat) : Bool :=
  child / 16384 ≤ path / 16384 && child % 4 ^ (child / 16384) = path % 4 ^ (child / 16384)

/-- The child of a downstream port has gone: its lease ends with reason LINK, and no hand of its subtree is joined
(R398). -/
def State.childGone (s : State) (p : Fin 5) : State :=
  let child := s.childPath p
  let s := s.benchChild p 1
  if s.dealer then
    s.modCwy (fun c => { c with hands := c.hands.map (fun h =>
      if pathBelow child h.2.1 then (h.1, h.2.1, false) else h) })
  else s

/-- A port leaves its link for `run`; from ACTIVE it raises LINK_DOWN and may be held as flapping
(R382, R384, R398). -/
def State.portLeave (s : State) (p : Fin 5) : State :=
  let c := s.cport p
  if c.run ≠ .active then
    s.modPort p (fun c => if c.run = .held then c else c.clear .down)
  else
    let leaves := s.clock :: c.leaves.filter (fun t => s.clock < t + 10000 * perMs)
    let flap := 4 ≤ leaves.length
    let s := s.modPort p (fun c => { c with
      run := if flap then .held else .down, leaves := if flap then [] else leaves })
    let s := s.cwyEvent 0x01 p
    let s := if flap then (s.incF (F.CWY_PORT_ERR_FLAP p)).cwyEvent 0x05 p else s
    let s := if p = 0 then s.standalone else s.childGone p
    s.modPort p (fun c => { c.clear c.run with benched := c.benched })

/-- Training failed: DOWN, to try again 100 ms later (R382). -/
def State.portFail (s : State) (p : Fin 5) : State :=
  let s := s.modPort p (fun c => c.clear .down)
  if p = 0 then s.modCwy (fun c => { c with state := 0 }) else s

/-- Ports whose enable has gone leave their links; ports enabled by the write start (R382). -/
def State.portsReview (s : State) (was : Fin 5 → Bool) : State :=
  allPorts.foldl (fun s p =>
    let may := s.portMayTrain p
    if was p && !may then
      let s := s.portLeave p
      s.modPort p (fun c => if c.run = .active then c else c.clear .down)
    else if !was p && may then s.portStart p else s) s

/-! ### Violations of a partner -/

/-- A NAK goes out; more than 16 in 1 ms are a CRC_BURST (R383, R384). -/
def State.sendNak (s : State) (p : Fin 5) : State :=
  let c := s.cport p
  let naks := s.clock :: c.naks.filter (fun t => s.clock < t + perMs)
  let s := (s.emit (.cwy p (.nak c.rx))).modPort p (fun c => { c with nakked := true, naks := naks })
  if 16 < naks.length then
    ((s.incF (F.CWY_PORT_ERR_CRC_BURST p)).cwyEvent 0x02 p).portLeave p
  else s

/-- A packet no port may send this way is dropped; more than 64 in 1 s are a BAD_STORM (R384). -/
def State.badToken (s : State) (p : Fin 5) : State :=
  let bads := s.clock :: (s.cport p).bads.filter (fun t => s.clock < t + 1000 * perMs)
  let s := s.modPort p (fun c => { c with bads := bads })
  let s := (s.incF (F.CWY_PORT_ERR_BAD_TOKEN p)).cwyEvent 0x03 p
  if 64 < bads.length then
    ((s.modPort p (fun c => { c with bads := [] })).cwyEvent 0x04 p).portLeave p
  else s

/-- A packet with LSEQ `l` arrives (R383): the one expected acts, one ahead is NAKed once and
discarded, one behind is a repeat and is discarded. -/
def State.receive (s : State) (p : Fin 5) (l : Nat) (f : State → State) : State :=
  let c := s.cport p
  if !s.alive || !c.passes then s
  else if l = c.rx then
    f (s.modPort p (fun c => { c with rx := (c.rx + 1) % 65536, nakked := false }))
  else if (l + 65536 - c.rx) % 65536 < 32768 then (if c.nakked then s else s.sendNak p)
  else s

/-- A packet whose direction is down: it arrives upstream, on a hand. -/
def State.receiveUp (s : State) (l : Nat) (f : State → State) : State :=
  s.receive 0 l (fun s => if (s.cport 0).run = .active then f s else s.badToken 0)

/-- A packet whose direction is up: it arrives on a downstream port. -/
def State.receiveDown (s : State) (p : Fin 5) (l : Nat) (f : State → State) : State :=
  s.receive p l (fun s => if p ≠ 0 && (s.cport p).run = .active then f s else s.badToken p)

/-- PACKET_CRC_FAILURE. -/
def State.packetCrc (s : State) (p : Fin 5) : State :=
  if s.alive && (s.cport p).passes then s.sendNak p else s

/-! ### Acknowledgement and replay -/

/-- An ACK: what it covers leaves the replay buffer, and what waits may go (R383). -/
def State.ackPort (s : State) (p : Fin 5) (l : Nat) : State :=
  let c := s.cport p
  if !s.linked || !c.passes then s
  else
    let s := s.modPort p (fun c => { c with
      replay := c.replay.filter (fun e => !((l + 65536 - e.1) % 65536 < 32768)) })
    if s.alive then s.drainPort p c.fwd.length else s

/-- Send again everything not acknowledged. -/
def State.replayPort (s : State) (p : Fin 5) : State :=
  if !s.alive then s
  else (s.cport p).replay.foldl (fun s e =>
    (s.emit (.cwy p (.pkt e.1 e.2))).count 0xE0 p e.2.size) s

/-- A NAK: packets before `l` have arrived; the rest is sent again from there (R383). -/
def State.nakPort (s : State) (p : Fin 5) (l : Nat) : State :=
  let c := s.cport p
  if !s.linked || !c.passes then s
  else ((s.ackPort p ((l + 65535) % 65536)).count 0xE1 p 1).replayPort p

/-- REPLAY_TIMEOUT. -/
def State.replayTimeout (s : State) (p : Fin 5) : State :=
  if (s.cport p).passes then s.replayPort p else s

/-- ACK_INTERVAL. -/
def State.ackInterval (s : State) (p : Fin 5) : State :=
  if s.linked && (s.cport p).passes then s.emit (.cwy p (.ack (((s.cport p).rx + 65535) % 65536))) else s

/-! ### Training -/

/-- This device's HELLO on a port; a parent's carries the path it gives its child (R379, R389). -/
def State.sendHello (s : State) (p : Fin 5) (state : Nat) : State :=
  s.pushPkt p (.hello s.dealer s.cwyId (if p = 0 then s.cwyPath else s.childPath p) s.part.unitPresent state)

/-- PORT_BLOCK_LOCK: LOCK to HELLO. -/
def State.blockLock (s : State) (p : Fin 5) : State :=
  if s.portMayTrain p && (s.cport p).run = .lock then
    ((s.noteWake 0x08).modPort p (fun c => c.clear .hello)).sendHello p s.cwyState
  else s

/-- A port enters MEASURE and sends the first of its probes. -/
def State.startMeasure (s : State) (p : Fin 5) (peer : Nat) : State :=
  (s.modPort p (fun c => { c with run := .measure, peer := peer, probes := 0, sum := 0 })).emit (.cwy p .probe)

/-- HELLO on the upstream port of a hand: it takes its path, and its STATE from its ID and from
what the parent answers (R379, R380). -/
def State.helloUp (s : State) (dealer : Bool) (id path state : Nat) : State :=
  let depth := path / 16384
  if depth = 0 || 7 < depth || (dealer && id ≠ 0) then s.portFail 0
  else
    let s := s.setF F.CWY_ID_PATH path
    let st := if state = 5 then 5 else if s.cwyId = 0 then 4 else 1
    (s.modCwy (fun c => { c with state := st })).startMeasure 0 id

/-- A hand that has joined elsewhere in the wall holds an ID (R380). -/
def State.idTaken (s : State) (id path : Nat) : Bool :=
  id ≠ 0 && s.cwy.hands.any (fun h => h.1 = id && h.2.2 && h.2.1 ≠ path)

/-- The dealer records the ID and the path of a hand that joins; with an ID it is admitted while no wall trick has
been committed (R380, R400). -/
def State.recordHand (s : State) (id path : Nat) : State :=
  if id = 0 then s
  else s.modCwy (fun c => { c with
    hands := c.hands.filter (fun h => h.1 ≠ id && h.2.1 ≠ path) ++ [(id, path, decide (s.reg .CWY_WALL_SEQ 0 0 = 0))] })

/-- HELLO on a downstream port: a dealer below is refused, a child of depth 8 reads TOO_DEEP, and
an ID that a joined hand holds makes the newcomer DUP_ID (R378 to R380). -/
def State.helloDown (s : State) (p : Fin 5) (dealer : Bool) (id : Nat) : State :=
  if dealer then s.portFail p
  else if 8 ≤ s.childPath p / 16384 then
    (s.cwyEvent 0x09 p).modPort p (fun c => c.clear .tooDeep)
  else if s.dealer && s.idTaken id (s.childPath p) then
    ((s.cwyEvent 0x08 p).sendHello p 5).startMeasure p 0
  else s.startMeasure p id

/-- A hand below a child reports itself through its parent's HELLO: on the way up it is passed on; the dealer
records its ID and path, tells it that its ID is taken, and sends WALL_INFO (R380, R386). How the report travels the
manual leaves open (DESIGN CHOICE, log entry 90). -/
def State.helloBelow (s : State) (p : Fin 5) (id path state : Nat) : State :=
  if !s.dealer then s.pushPkt 0 (.hello false id path s.part.unitPresent state)
  else if s.idTaken id path then
    ((s.cwyEvent 0x08 p).pushPkt p (.hello true 0 path s.part.unitPresent 5)).sendWallInfo
  else (s.recordHand id path).sendWallInfo

/-- The dealer's answer to a report: the hand at the path takes the state, others pass it down. -/
def State.helloAbove (s : State) (path state : Nat) : State :=
  if path = s.cwyPath then (if state = 5 then s.modCwy (fun c => { c with state := 5 }) else s)
  else downPorts.foldl (fun s p =>
    if (s.cport p).run = .active && pathBelow (s.childPath p) path
    then s.pushPkt p (.hello false s.cwyId path s.part.unitPresent state) else s) s

/-- A HELLO packet (R382, R389). -/
def State.hello (s : State) (p : Fin 5) (dealer : Bool) (id path state : Nat) : State :=
  if (s.cport p).run = .hello then
    if p = 0 then s.helloUp dealer id path state else s.helloDown p dealer id
  else if (s.cport p).run = .measure && p = 0 && state = 5 then s.modCwy (fun c => { c with state := 5 })
  else if (s.cport p).run = .active then
    if p = 0 then s.helloAbove path state else s.helloBelow p id path state
  else s

/-- PROBE: answered with an ECHO (R382). -/
def State.probe (s : State) (p : Fin 5) (ts turn : Nat) : State :=
  let r := (s.cport p).run
  if s.linked && (r = .measure || r = .active || r = .hello) then s.emit (.cwy p (.echo turn (ts % 2 ^ 24))) else s

/-- ECHO: one round trip less the turnaround; the next probe follows until there are 256 (R382). -/
def State.echo (s : State) (p : Fin 5) (turn rtt : Nat) : State :=
  let c := s.cport p
  if !s.alive || c.run ≠ .measure || 256 ≤ c.probes then s
  else
    let s := s.modPort p (fun c => { c with probes := c.probes + 1, sum := c.sum + ((rtt : Int) - turn) })
    if c.probes + 1 < 256 then s.emit (.cwy p .probe) else s

/-- Latency of a port: the mean of the 256 measurements, rounded to one of the two values around it. -/
def State.latency (s : State) (p : Fin 5) : Nat :=
  wrapInt 24 (divFree s.free 0 ((s.cport p).sum + 512 * signed 16 (s.fld (F.CWY_PORT_CTL_HOP_TRIM p))) 512)

/-- The wall sequence number by which a parent admits a child (R400). -/
def State.wallSeq (s : State) : Word :=
  if s.dealer then s.reg .CWY_WALL_SEQ 0 0
  else match s.cwy.info with | some w => w.seq | none => 0

/-- A child joins (R400): with an ID at once while no wall trick has been committed, else benched with reason JOIN.
The dealer records it and sends WALL_INFO (R380, R386); another parent passes the report up, with what WALL_INFO it
has for the child meanwhile. -/
def State.admitChild (s : State) (p : Fin 5) : State :=
  let id := (s.cport p).peer
  let now := decide (s.wallSeq = 0)
  let s := if id = 0 then s
    else s.modPort p (fun c => { c with joined := now, benched := !now, age := 0 })
  if s.dealer then (s.recordHand id (s.childPath p)).sendWallInfo
  else
    let s := match s.cwy.info with | some w => s.pushPkt p (.wallInfo w) | none => s
    s.pushPkt 0 (.hello false id (s.childPath p) s.part.unitPresent 1)

/-- MEASURE_DONE: the latency is stored and the port becomes ACTIVE (R382, R385). -/
def State.measureDone (s : State) (p : Fin 5) (freqOk : Bool) : State :=
  let c := s.cport p
  if !s.alive || c.run ≠ .measure || c.probes < 256 then s
  else
    let s := (s.setF (F.CWY_PORT_LAT_L p) (s.latency p)).stamp
    let s := s.modPort p (fun c => { c with run := .active })
    if p = 0 then (if freqOk then s.startTracking else s.raiseF F.CWY_STAT_FREQ_ERR)
    else s.admitChild p

/-- TRAINING_FAILURE. -/
def State.trainingFailure (s : State) (p : Fin 5) : State :=
  let r := (s.cport p).run
  if s.alive && (r = .lock || r = .hello || r = .measure) then s.portFail p else s

/-- BLOCK_LOCK_LOSS. -/
def State.blockLockLoss (s : State) (p : Fin 5) : State :=
  if s.linked && (s.cport p).run = .active then s.portLeave p else s

/-- FLAP_HOLD_END: a port held DOWN trains again. -/
def State.flapHoldEnd (s : State) (p : Fin 5) : State :=
  if s.alive && (s.cport p).run = .held then (s.modPort p (fun c => { c with run := .down })).portStart p else s

/-! ### The wall tick -/

/-- One more wall frame without ALIVE from each child (R398). -/
def State.ageChildren (s : State) : State :=
  downPorts.foldl (fun s p => if (s.cport p).run = .active
    then s.modPort p (fun c => { c with age := c.age + 1 }) else s) s

/-- Hands joined and benched below this device. -/
def State.subJoined (s : State) : Nat :=
  (downPorts.map (fun p => let c := s.cport p; if c.joined then 1 + c.subJoined else 0)).sum

def State.subBenched (s : State) : Nat :=
  (downPorts.map (fun p =>
    let c := s.cport p
    if c.joined then c.subBenched else if c.benched then 1 + c.subJoined + c.subBenched else 0)).sum

/-- ALIVE goes up once per wall frame (R389). -/
def State.sendAlive (s : State) : State :=
  if (s.cport 0).run = .active then
    s.pushPkt 0 (.alive s.cwyId s.cwyState s.subJoined s.subBenched)
  else s

/-- A low half seen next to a full count: the count that continues it. -/
def continueCount (f : Word) (w : Half) : Word := f + BitVec.ofNat 32 ((w - f.setWidth 16).toNat)

/-- The wall tick on the dealer: the frame tick of REF_HD (R386). -/
def State.dealerTick (s : State) (n : Fin 6) : State :=
  if s.dealer && s.refHead = some n && (s.tsCommitted n).lock = 7 then
    let f := (s.head n).sc.scanFrame
    let s := (s.modCwy (fun c => { c with frame := f })).ageChildren
    let remain := Config.freeWord s.free
    ((s.tickOut 6).tokDown (.tick ((f + 1).setWidth 16) remain)).stamp
  else s

/-- TICK on a hand: the coming wall tick is placed, and the block goes on with REMAIN less the
latency and the time it took (R386). -/
def State.cwyTick (s : State) (w : Half) (remain : Word) (delay : Nat) : State :=
  if !s.alive || s.dealer || (s.cport 0).run ≠ .active then s
  else
    let s := s.modCwy (fun c => { c with next := some w })
    s.tokDown (.tick w (remain - BitVec.ofNat 32 (s.fld (F.CWY_PORT_LAT_L 0) + delay)))

/-- WALL_TICK: the placed tick arrives, `dev` sixteenths of a nanosecond from the one predicted
(R387). -/
def State.wallTick (s : State) (dev : Int) : State :=
  match s.cwy.next with
  | none => s
  | some w =>
    if !s.alive || s.dealer then s
    else
      let s := (s.tickOut 6).modCwy (fun c => { c with frame := continueCount c.frame w, next := none })
      let s := s.ageChildren.sendAlive
      let s := if 1600 < dev.natAbs then s.cwyEvent 0x0B 0 else s
      if 16000 < dev.natAbs && s.glob.tracking then s.takeWallLock else s

/-! ### Freeze across the wall -/

/-- Some freeze source of the device itself holds: the ball or the register (R455). -/
def State.ownFreeze (s : State) : Bool := s.glob.frzPin || s.glob.frzReg

/-- Any freeze source holds. -/
def State.frzAny (s : State) : Bool := s.ownFreeze || s.glob.frzCwy

/-- Send FREEZE or THAW as this device originates it: the dealer to all, a hand upwards. -/
def State.sendFreeze (s : State) (thaw : Bool) : State :=
  let t : CwyTok := if thaw then .thaw s.cwyId else .freeze s.cwyId
  if s.dealer then s.tokDown t
  else if s.flag F.CWY_CTL_FRZ_UP then s.sendTok 0 t else s

/-- The sources of the device or of the wall changed: what the Causeway says of it (R402). -/
def State.freezeReview (s : State) : State :=
  let want := if s.dealer then s.ownFreeze || !s.cwy.origins.isEmpty else s.ownFreeze
  if want && !s.cwy.sending then
    (s.modCwy (fun c => { c with sending := true, thawing := false })).sendFreeze false
  else if !want && s.cwy.sending then
    let s := s.modCwy (fun c => { c with sending := false, thawing := true })
    let s := if s.dealer then { s with glob := { s.glob with frzCwy := false } } else s
    s.sendFreeze true
  else s

/-- FREEZE_REPEAT. -/
def State.freezeRepeat (s : State) : State :=
  if !s.linked then s
  else if s.cwy.sending then s.sendFreeze false
  else if s.cwy.thawing then s.sendFreeze true else s

/-- FREEZE arrives (R402). -/
def State.cwyFreeze (s : State) (p : Fin 5) (id : Nat) : State :=
  if !s.linked || (s.cport p).run ≠ .active then s
  else if p = 0 then
    if !s.flag F.CWY_CTL_FRZ_DOWN then s
    else
      let s := if s.glob.frzCwy then s else s.cwyEvent 0x0C 0
      ({ s with glob := { s.glob with frzCwy := true } }).tokDown (.freeze id)
  else if s.dealer then
    let s := if s.glob.frzCwy then s else s.cwyEvent 0x0C p
    let s := { s with glob := { s.glob with frzCwy := true } }
    (s.modCwy (fun c => { c with
      origins := if c.origins.contains id then c.origins else c.origins ++ [id] })).freezeReview
  else s.sendTok 0 (.freeze id)

/-- THAW arrives (R402). -/
def State.cwyThaw (s : State) (p : Fin 5) (id : Nat) : State :=
  if !s.linked || (s.cport p).run ≠ .active then s
  else if p = 0 then
    if !s.flag F.CWY_CTL_FRZ_DOWN then s
    else ({ s with glob := { s.glob with frzCwy := false } }).tokDown (.thaw id)
  else if s.dealer then
    (s.modCwy (fun c => { c with origins := c.origins.filter (· ≠ id) })).freezeReview
  else s.sendTok 0 (.thaw id)

/-! ### The commands -/
def execPortBlockLock (p : Fin 5) (s : State) : Host.Outcome State Fault Refusal := .next (s.blockLock p)
def execMeasureDone (p : Fin 5) (ok : Bool) (s : State) : Host.Outcome State Fault Refusal := .next (s.measureDone p ok)
def execTrainingFailure (p : Fin 5) (s : State) : Host.Outcome State Fault Refusal := .next (s.trainingFailure p)
def execPortRetrain (p : Fin 5) (s : State) : Host.Outcome State Fault Refusal := .next (s.portStart p)
def execReplayTimeout (p : Fin 5) (s : State) : Host.Outcome State Fault Refusal := .next (s.replayTimeout p)
def execAckInterval (p : Fin 5) (s : State) : Host.Outcome State Fault Refusal := .next (s.ackInterval p)
def execFreezeRepeat (s : State) : Host.Outcome State Fault Refusal := .next s.freezeRepeat
def execCwyTick (w : BitVec 16) (remain : BitVec 32) (delay : Nat) (s : State) : Host.Outcome State Fault Refusal :=
  .next (s.cwyTick w remain delay)
def execWallTick (dev : Int) (s : State) : Host.Outcome State Fault Refusal := .next (s.wallTick dev)
def execCwyAck (p : Fin 5) (l : BitVec 16) (s : State) : Host.Outcome State Fault Refusal := .next (s.ackPort p l.toNat)
def execCwyNak (p : Fin 5) (l : BitVec 16) (s : State) : Host.Outcome State Fault Refusal := .next (s.nakPort p l.toNat)
def execCwyProbe (p : Fin 5) (ts : BitVec 48) (turn : BitVec 24) (s : State) : Host.Outcome State Fault Refusal :=
  .next (s.probe p ts.toNat turn.toNat)
def execCwyEcho (p : Fin 5) (turn : BitVec 24) (rtt : Nat) (s : State) : Host.Outcome State Fault Refusal :=
  .next (s.echo p turn.toNat rtt)
def execCwyFreeze (p : Fin 5) (id : BitVec 14) (s : State) : Host.Outcome State Fault Refusal :=
  .next (s.cwyFreeze p id.toNat)
def execCwyThaw (p : Fin 5) (id : BitVec 14) (s : State) : Host.Outcome State Fault Refusal :=
  .next (s.cwyThaw p id.toNat)
def execFlapHoldEnd (p : Fin 5) (s : State) : Host.Outcome State Fault Refusal := .next (s.flapHoldEnd p)

end Sys2Proof.Machine
end

