-- ==== Sys2Proof/Machine/Blitter.lean ====
section
/-!
DEFINITION. The blitter (R317 to R333): command fields and checks, rows of the five operations,
race mode, watermarks, completion and interruption.
-/

set_option Elab.async false  -- the joined text is large: no thread per declaration

namespace Sys2Proof.Machine

/-! ### Command fields (R321) -/

/-- Bytes `off` to `off + n − 1` of a command. -/
def cmdAt (c : BitVec 512) (off n : Nat) : Nat := (c.toNat >>> (8 * off)) % 256 ^ n

def cmdOp (c : BitVec 512) : Nat := cmdAt c 0 1
def cmdFlag (c : BitVec 512) (k : Nat) : Bool := (cmdAt c 1 1).testBit k
def cmdDfmt (c : BitVec 512) : Nat := cmdAt c 2 1
def cmdSfmt (c : BitVec 512) : Nat := cmdAt c 3 1
def cmdDpitch (c : BitVec 512) : Nat := cmdAt c 4 2 * 64
def cmdSpitch (c : BitVec 512) : Nat := cmdAt c 6 2 * 64
def cmdDst (c : BitVec 512) : Nat := cmdAt c 8 8
def cmdSrc (c : BitVec 512) : Nat := cmdAt c 16 8
def cmdW (c : BitVec 512) : Nat := cmdAt c 24 2
def cmdH (c : BitVec 512) : Nat := cmdAt c 26 2
def cmdDx (c : BitVec 512) : Nat := cmdAt c 28 2
def cmdDy (c : BitVec 512) : Nat := cmdAt c 30 2
def cmdSx (c : BitVec 512) : Nat := cmdAt c 32 2
def cmdSy (c : BitVec 512) : Nat := cmdAt c 34 2
def cmdFg (c : BitVec 512) : Nat := cmdAt c 36 3
def cmdBg (c : BitVec 512) : Nat := cmdAt c 40 3
def cmdKey (c : BitVec 512) : Nat := cmdAt c 44 3
def cmdKmask (c : BitVec 512) : Nat := cmdAt c 48 3
def cmdBop (c : BitVec 512) : Nat := cmdAt c 52 1
def cmdAlpha (c : BitVec 512) : Nat := cmdAt c 53 1
def cmdWmRow (c : BitVec 512) : Nat := cmdAt c 54 2
def cmdLine0 (c : BitVec 512) : Int := signed 16 (cmdAt c 56 2)
def cmdRaceHd (c : BitVec 512) : Nat := cmdAt c 58 1 % 8

/-- The operation reads a source. -/
def cmdHasSrc (c : BitVec 512) : Bool := cmdOp c ≠ 0
def cmdFen (c : BitVec 512) : Bool := cmdHasSrc c && cmdSfmt c = 6
def cmdRace (c : BitVec 512) : Bool := cmdFlag c 1

/-- Formats an operation admits (R322); the base format of a FEN source is checked when it starts. -/
def cmdFormatsOk (c : BitVec 512) : Bool :=
  let d := cmdDfmt c
  let f := cmdSfmt c
  d ≤ 5 && (match cmdOp c with
    | 0 => true
    | 1 | 2 => f = d || f = 6
    | 3 => (d = 4 || d = 5) && (f = 4 || f = 5 || f = 6)
    | 4 => f = 0
    | _ => false)

/-- First byte and one past the last of a rectangle's extent (R325). -/
def rectExtent (base pitch fmt x y w h : Nat) : Nat × Nat :=
  (base + y * pitch + x * bpp fmt / 8, base + (y + h - 1) * pitch + cdiv ((x + w) * bpp fmt) 8)

def cmdDstExtent (c : BitVec 512) : Nat × Nat :=
  rectExtent (cmdDst c) (cmdDpitch c) (cmdDfmt c) (cmdDx c) (cmdDy c) (cmdW c) (cmdH c)

def cmdSrcExtent (c : BitVec 512) : Nat × Nat :=
  if cmdFen c then (cmdSrc c, cmdSrc c + 64)
  else rectExtent (cmdSrc c) (cmdSpitch c) (cmdSfmt c) (cmdSx c) (cmdSy c) (cmdW c) (cmdH c)

/-- Bytes two extents share. -/
def meetSize (a b : Nat × Nat) : Nat := min a.2 b.2 - max a.1 b.1

/-- Rows run bottom to top (R325). -/
def cmdUpward (c : BitVec 512) : Bool :=
  cmdHasSrc c && 0 < meetSize (cmdDstExtent c) (cmdSrcExtent c) && cmdSy c < cmdDy c

/-- Check 1 of R326. -/
def State.cmdCheck1 (s : State) (heads : Nat) (c : BitVec 512) : Bool :=
  let src := cmdHasSrc c
  let plain := src && !cmdFen c
  let w := cmdW c
  let h := cmdH c
  cmdOp c ≤ 4 && cmdFormatsOk c &&
  cmdAt c 1 1 / 16 = 0 && cmdAt c 59 5 = 0 &&
  ((cmdOp c ≠ 0 && cmdOp c ≠ 4) || cmdAt c 39 1 = 0) && (cmdOp c ≠ 4 || cmdAt c 43 1 = 0) &&
  (cmdOp c ≠ 2 || (cmdAt c 47 1 = 0 && cmdAt c 51 1 = 0)) &&
  64 ≤ cmdDpitch c && cmdDpitch c ≤ 65536 && (!plain || (64 ≤ cmdSpitch c && cmdSpitch c ≤ 65536)) &&
  1 ≤ w && w ≤ 16384 && 1 ≤ h && h ≤ 16384 && cmdDx c ≤ 16383 && cmdDy c ≤ 16383 &&
  (!src || (cmdSx c ≤ 16383 && cmdSy c ≤ 16383)) &&
  cmdDx c + w ≤ 16384 && cmdDy c + h ≤ 16384 && (!plain || (cmdSx c + w ≤ 16384 && cmdSy c + h ≤ 16384)) &&
  (cmdOp c ≠ 3 || (cmdBop c ≤ 4 && cmdAlpha c ≤ 63)) &&
  (!cmdFlag c 0 || cmdWmRow c < h) &&
  (!cmdRace c || (cmdAt c 58 1 / 8 = 0 && cmdRaceHd c < 6 && s.headPresent (cmdRaceHd c) && heads.testBit (cmdRaceHd c))) &&
  cdiv ((cmdDx c + w) * bpp (cmdDfmt c)) 8 ≤ cmdDpitch c &&
  (!plain || cdiv ((cmdSx c + w) * bpp (cmdSfmt c)) 8 ≤ cmdSpitch c)

/-- First misaligned field of a command, as a byte offset in it (R327). -/
def cmdMisaligned (c : BitVec 512) : Option Nat :=
  let unit (f : Nat) : Nat := baseUnit f
  let sub := match cmdDfmt c with | 0 => 8 | 1 => 4 | 2 => 2 | _ => 1
  let fen := cmdFen c
  if cmdDst c % unit (cmdDfmt c) ≠ 0 then some 8
  else if cmdHasSrc c ∧ cmdSrc c % (if fen then 64 else unit (cmdSfmt c)) ≠ 0 then some 16
  else if cmdW c % sub ≠ 0 ∨ (fen ∧ cmdW c % 8 ≠ 0) then some 24
  else if fen ∧ cmdH c % 8 ≠ 0 then some 26
  else if cmdDx c % sub ≠ 0 then some 28
  else if fen ∧ cmdSx c % 8 ≠ 0 then some 32
  else if fen ∧ cmdSy c % 8 ≠ 0 then some 34
  else none

/-- Overlap that R325 does not permit: its size in bytes. -/
def cmdBadOverlap (c : BitVec 512) : Option Nat :=
  let m := meetSize (cmdDstExtent c) (cmdSrcExtent c)
  if !cmdHasSrc c || m = 0 then none
  else if cmdSrc c = cmdDst c ∧ cmdSpitch c = cmdDpitch c ∧ cmdSfmt c = cmdDfmt c ∧
    !(cmdRace c && cmdUpward c) then none
  else some m

/-- Outcome of a command's checks. -/
inductive CmdFail where
  | viol (status code detail : Nat)
  | plain (status detail : Nat)
  deriving DecidableEq, Repr

/-- The checks of R326 on command `k`, in order. -/
def State.cmdFail (s : State) (x : Slot) (k : Nat) (c : BitVec 512) : Option CmdFail :=
  let exts := cmdDstExtent c :: (if cmdHasSrc c then [cmdSrcExtent c] else [])
  if !s.cmdCheck1 (bits x.ctl 13 8) c then some (.viol stViolation 0x02 (64 * k))
  else match exts.find? (fun e => !s.present e.1 (e.2 - e.1)) with
    | some e => some (.viol stViolation 0x08 e.1)
    | none => match exts.find? (fun e => !s.slotRange x (decide (e = cmdDstExtent c)) e.1 (e.2 - e.1)) with
      | some e => some (.viol stPermission 0x0D e.1)
      | none => match cmdMisaligned c with
        | some o => some (.plain stAlign (64 * k + o))
        | none => (cmdBadOverlap c).map (fun m => .plain stOverlap (min m 0xFFFFFFFF))

/-- First failing command of a list. -/
def State.listFail (s : State) (x : Slot) : List (BitVec 512) → Nat → Option CmdFail
  | [], _ => none
  | c :: cs, k => match s.cmdFail x k c with | some f => some f | none => s.listFail x cs (k + 1)

/-! ### Contexts -/

def State.bctx (s : State) (c : Fin 8) : BltCtx := s.mv.blt[c]

def State.modBctx (s : State) (c : Fin 8) (f : BltCtx → BltCtx) : State :=
  { s with mv := { s.mv with blt := s.mv.blt.set c (f s.mv.blt[c]) } }

/-- Context named by a BLIT_LIST. -/
def blitCtx (p : BitVec 448) : Fin 8 := ⟨pay p 18 1 % 8, Nat.mod_lt _ (by decide)⟩

/-- The contexts whose OWNER admits a function, as a mask (R318). -/
def State.ctxMask (s : State) (fn : Fin 16) : Word :=
  ([0, 1, 2, 3, 4, 5, 6, 7] : List (Fin 8)).foldl (fun (m : Word) (c : Fin 8) =>
    let o := s.fld (F.BLT_CTL_OWNER c)
    if 16 ≤ o || o = fn.val then m ||| BitVec.ofNat 32 (2 ^ c.val) else m) 0

/-- A list fetched earlier for the same context has yet to take it (R319). -/
def State.ctxAwaited (s : State) (x : Slot) : Bool :=
  s.hif.slots.any (fun y => y.id < x.id && y.type = 0x09 && blitCtx y.payload = blitCtx x.payload &&
    (y.st = .waitStart || y.st = .waitUnit))

/-- A BLIT_LIST takes its context if it is free and no list fetched earlier waits for it, and starts to read
its list (R317, R319); else it waits on the device. -/
def State.bltStart (s : State) (id : Nat) : State :=
  match s.slot id with
  | none => s
  | some x =>
    let c := blitCtx x.payload
    if (s.bctx c).slot.isSome || s.ctxAwaited x then s.modSlot id (fun x => { x with st := .waitUnit })
    else
      let s := s.modBctx c (fun _ => { slot := some id, reading := true })
      let s := s.modSlot id (fun x => { x with st := .running })
      if pay x.payload 19 1 = 0 then s.emit (.hostRead (pay x.payload 8 8) (64 * pay x.payload 16 2)) else s

/-- The 64-byte commands of a byte list. -/
def splitCmds : Nat → List Byte → List (BitVec 512)
  | 0, _ => []
  | n + 1, bs => BitVec.ofNat 512 (ofLe (bs.take 64)) :: splitCmds n (bs.drop 64)

/-- Release a context. -/
def State.bltFree (s : State) (c : Fin 8) : State := s.modBctx c (fun _ => {})

/-- LIST_READ_DONE: the list is read; it is checked whole, and the run begins (R317, R326). -/
def State.listReadDone (s : State) (c : Fin 8) (r : HostRead) : State :=
  let b := s.bctx c
  match b.slot with
  | none => s
  | some id =>
    match s.slot id with
    | none => s
    | some x =>
      if !s.alive || !b.reading then s
      else
        let n := pay x.payload 16 2
        let got : HostRead := if pay x.payload 19 1 = 1
          then .ok (s.mem.readBytes (pay x.payload 8 8) (64 * n)) else r
        match got with
        | .busError a => (s.bltFree c).completeReadFail id stBusError a
        | .timeout a => (s.bltFree c).completeReadFail id stTimeout a
        | .ok bs =>
          if bs.length ≠ 64 * n then s
          else
          let s := if pay x.payload 19 1 = 0 then s.count 0x07 0 (64 * n) { fn := some x.hdr.fn.val } else s
          let cmds := splitCmds n bs
          match s.listFail x cmds 0 with
          | some (.viol st code d) => (s.bltFree c).completeViol id st code d
          | some (.plain st d) => (s.bltFree c).complete id st (BitVec.ofNat 32 d)
          | none => (s.setF (F.BLT_STAT_CMD c) 0).modBctx c (fun b => { b with reading := false, cmds := cmds })

/-! ### Pixels -/

/-- Store a raw pixel of a destination format. -/
def DevMem.putPixel (m : DevMem) (fmt row x v : Nat) : DevMem :=
  if bpp fmt = 24 then m.writeBytes (row + 3 * x) (leBytes 3 v)
  else
    let b := bpp fmt
    let a := row + x * b / 8
    let sh := x * b % 8
    let old := (m.read a).toNat
    m.write a (BitVec.ofNat 8 (old - old / 2 ^ sh % 2 ^ b * 2 ^ sh + v % 2 ^ b * 2 ^ sh))

/-- Colour and alpha of a stored 24-bit pixel (R323). -/
def pxOf (fmt v : Nat) : Px := if fmt = 5 then argbPx v else rgbPx v

/-- Store a colour pixel in RGB888 or ARGB6666 (R164, R323). -/
def pxTo (fmt : Nat) (p : Px) : Nat :=
  if fmt = 5 then p.a * 2 ^ 18 + narrow p.r * 2 ^ 12 + narrow p.g * 2 ^ 6 + narrow p.b
  else p.r * 65536 + p.g * 256 + p.b

/-- The source value at (i, j): none leaves the destination unchanged (a block error of R170). -/
def State.cmdSource (s : State) (c : BitVec 512) (hd : Option FenHdr) (i j : Nat) : Option Nat :=
  match hd with
  | some h => fenPixel s.mem.read h (cmdSrc c) (cmdSx c + i) (cmdSy c + j)
  | none =>
    if cmdHasSrc c then
      some (rawPixel s.mem.read (cmdSfmt c) (cmdSrc c + cmdSpitch c * (cmdSy c + j)) (cmdSx c + i))
    else some 0

/-- What a command stores at (i, j), given the source value `v` and the old destination `d`. -/
def cmdResult (c : BitVec 512) (sfmt v d : Nat) : Option Nat :=
  match cmdOp c with
  | 0 => some (cmdFg c)
  | 1 => some v
  | 2 =>
    let b := 2 ^ bpp sfmt
    if (v ^^^ (cmdKey c % b)) &&& (cmdKmask c % b) = 0 then none else some v
  | 3 =>
    let p := pxOf sfmt v
    let q := pxOf (cmdDfmt c) d
    some (pxTo (cmdDfmt c) (blend (cmdBop c) ((p.a * cmdAlpha c + 31) / 63) p q))
  | _ => if v = 1 then some (cmdFg c) else if cmdFlag c 3 then none else some (cmdBg c)

/-- Write row `j`: every source pixel and old destination pixel is read first (R325). -/
def State.cmdRow (s : State) (c : BitVec 512) (hd : Option FenHdr) (j : Nat) : State :=
  let drow := cmdDst c + cmdDpitch c * (cmdDy c + j)
  let sfmt := match hd with | some h => h.fmt | none => cmdSfmt c
  let vals := (List.range (cmdW c)).map (fun i =>
    match s.cmdSource c hd i j with
    | some v => cmdResult c sfmt v (rawPixel s.mem.read (cmdDfmt c) drow (cmdDx c + i))
    | none => none)
  { s with mem := (vals.zipIdx.foldl (fun m e =>
      match e.1 with
      | some v => m.putPixel (cmdDfmt c) drow (cmdDx c + e.2) v
      | none => m) s.mem) }

/-! ### FEN sources (R328) -/

/-- Record one FEN error of a context. -/
def State.bltFenErr (s : State) (c : Fin 8) (base : Nat) : State :=
  ((s.incF F.MEM_FEN_ERR_COUNT).raiseF (F.BLT_STAT_FEN c)).faultDev 0x03 unitBlt c base

/-- What reading block (bx, by) reads: its table entry and, where that is without error, its bytes. -/
def fenReads (rd : Nat → Byte) (hd : FenHdr) (base bx by' : Nat) : List (Nat × Nat) :=
  let off := rd32 rd (hd.entry base bx by')
  (hd.entry base bx by', 4) ::
    (if off % 4 ≠ 0 ∨ hd.size ≤ off then []
     else match fenBlock rd hd base bx by' with
       | some (blk, code) => [(blk, hd.blockSize code)]
       | none => [(base + hd.data + off, 1)])

/-- The blocks of a FEN rectangle. -/
def cmdBlocks (c : BitVec 512) : List (Nat × Nat) :=
  (List.range (cmdH c / 8)).flatMap (fun bj =>
    (List.range (cmdW c / 8)).map (fun bi => (cmdSx c / 8 + bi, cmdSy c / 8 + bj)))

/-- The header a command starts with: none when the command writes nothing; the flag says that a read of the
rectangle left the function's windows or met a trump region (R328). -/
def State.cmdFenStart (s : State) (x : Slot) (c : BitVec 512) : Option FenHdr × Bool :=
  match fenHeader s s.mem.read (cmdSrc c) with
  | none => (none, false)
  | some hd =>
    let fmtOk := if cmdOp c = 3 then hd.fmt = 4 || hd.fmt = 5 else hd.fmt = cmdDfmt c
    let inside := cmdSx c + cmdW c ≤ cdiv hd.w 8 * 8 && cmdSy c + cmdH c ≤ cdiv hd.h 8 * 8
    if !fmtOk || !inside then (none, false)
    else if (cmdBlocks c).all (fun b =>
      (fenReads s.mem.read hd (cmdSrc c) b.1 b.2).all (fun r => s.slotRange x false r.1 r.2))
    then (some hd, false) else (none, true)

/-- Blocks of a FEN rectangle in error. -/
def State.cmdFenBad (s : State) (c : BitVec 512) (hd : FenHdr) : Nat :=
  ((cmdBlocks c).filter (fun b => (fenPixel s.mem.read hd (cmdSrc c) (8 * b.1) (8 * b.2)).isNone)).length

/-! ### Running a command -/

/-- The line the raced beam has started, counted from line 0 of the frame F at the command's start (R244,
R331): the compose beam's, or with RACE_SCAN the scan beam's. -/
def BltCtx.raced (b : BltCtx) (h : HeadSt) (scan : Bool) : Int :=
  if scan then frameDiff h.sc.scanFrame b.base * h.vTotal + h.sc.scanLine - (if h.sc.scanOn then 0 else 1)
  else frameDiff h.frame b.base * h.vTotal + h.line - (if h.lineOn then 0 else 1)

/-- The beam line of row `j` (R331). -/
def raceLine (c : BitVec 512) (j : Nat) : Int := cmdLine0 c + cmdDy c + j

/-- Race: row `j` must still wait for the raced beam, which has started line `at'` (R331). -/
def State.raceWaits (s : State) (c : BitVec 512) (j : Nat) (at' : HeadSt → Int) : Bool :=
  if hn : cmdRaceHd c < 6 then
    let h := s.head ⟨cmdRaceHd c, hn⟩
    let l := raceLine c j
    cmdRace c && h.enabled && h.beams && 0 ≤ l && l < h.vActive && at' h < l + 1
  else false

/-- Race: row `j` is written after the beam has started its line in the next frame (R332). -/
def State.raceLate (s : State) (b : BltCtx) (c : BitVec 512) (j : Nat) : Bool :=
  if hn : cmdRaceHd c < 6 then
    let h := s.head ⟨cmdRaceHd c, hn⟩
    cmdRace c && h.enabled && h.vTotal + raceLine c j ≤ b.raced h (cmdFlag c 2)
  else false

/-- Record a late row (R332). -/
def State.raceRecord (s : State) (c : Fin 8) (cmd j : Nat) : State :=
  let s := (s.incF F.BLT_RACE_LATE_COUNT).raiseF (F.BLT_STAT_RACE_LATE c)
  if (s.bctx c).raceSeen then s
  else (s.modBctx c (fun b => { b with raceSeen := true })).faultDev 0x13 unitBlt c (cmd + j * 1024)

/-- End the command in progress. -/
def State.cmdEnd (s : State) (c : Fin 8) : State :=
  s.modBctx c (fun b => { b with idx := b.idx + 1, started := false, rows := 0, waiting := false, raceSeen := false, fen := none })

/-- Write row `j` of a command, and note a watermark (R325, R330, R332). -/
def State.cmdOneRow (s : State) (c : Fin 8) (x : Slot) (cmd : BitVec 512) (j : Nat) : State :=
  let b := s.bctx c
  let s := if s.raceLate b cmd j then s.raceRecord c b.idx j else s
  let s := s.cmdRow cmd b.fen j
  let s := (s.count 0xA0 c 1 { fn := some x.hdr.fn.val }).count 0xA1 0
    (cdiv (cmdW cmd * bpp (cmdDfmt cmd)) 8) { fn := some x.hdr.fn.val }
  s.modBctx c (fun b => { b with
    rows := b.rows + 1, waiting := false
    marks := if cmdFlag cmd 0 ∧ j = cmdWmRow cmd then b.marks ++ [(b.idx, j)] else b.marks })

/-- Write rows from the present one on, as far as the raced beam allows (R325, R331). -/
def State.cmdRows (s : State) (c : Fin 8) (x : Slot) (cmd : BitVec 512) : Nat → State
  | 0 => s
  | fuel + 1 =>
    let b := s.bctx c
    if cmdH cmd ≤ b.rows then s.cmdEnd c
    else
      let j := if cmdUpward cmd then cmdH cmd - 1 - b.rows else b.rows
      if s.raceWaits cmd j (fun h => b.raced h (cmdFlag cmd 2)) then s.modBctx c (fun b => { b with waiting := true })
      else (s.cmdOneRow c x cmd j).cmdRows c x cmd fuel

/-- The command context `c` has to run next, with its slot. -/
def State.cmdNow (s : State) (c : Fin 8) : Option (Slot × BitVec 512) :=
  let b := s.bctx c
  if b.reading then none
  else match b.slot.bind s.slot, b.cmds[b.idx]? with
    | some x, some cmd => some (x, cmd)
    | _, _ => none

/-- Run the next command of a context if it is of operation `op` and has not started: every write of the command
before it, its watermark row among them, has been acknowledged (R322, R324). -/
def State.cmdRun (s : State) (c : Fin 8) (op : Nat) : State :=
  match s.cmdNow c with
  | none => s
  | some (x, cmd) =>
    if !s.alive || (s.bctx c).started || cmdOp cmd ≠ op || !(s.bctx c).marks.isEmpty then s
    else
      let base : Word := if hn : cmdRaceHd cmd < 6 then
          let h := s.head ⟨cmdRaceHd cmd, hn⟩
          if cmdFlag cmd 2 then h.sc.scanFrame else h.frame
        else 0
      let idx := (s.bctx c).idx
      let s := (s.setF (F.BLT_STAT_CMD c) idx).modBctx c (fun b => { b with started := true, base := base })
      if cmdFen cmd then
        let r := s.cmdFenStart x cmd
        match r.1 with
        | none =>
          let s := s.bltFenErr c (cmdSrc cmd)
          let s := if r.2 then s.violate x.hdr.fn x.hdr.ring x.hdr.tag.toNat 0x0D (cmdSrc cmd) else s
          let s := if cmdFlag cmd 0 then s.modBctx c (fun b => { b with marks := b.marks ++ [(idx, cmdWmRow cmd)] }) else s
          s.cmdEnd c
        | some hd =>
          let s := (List.range (s.cmdFenBad cmd hd)).foldl (fun s _ => s.bltFenErr c (cmdSrc cmd)) s
          (s.modBctx c (fun b => { b with fen := some hd })).cmdRows c x cmd (cmdH cmd + 1)
      else s.cmdRows c x cmd (cmdH cmd + 1)

/-- RACE_ROW_RELEASE: the beam has started the waiting row's line (R331). Of a scan beam in the blanking before
that line the release itself says so. -/
def State.raceRelease (s : State) (c : Fin 8) : State :=
  match s.cmdNow c with
  | none => s
  | some (x, cmd) =>
    let b := s.bctx c
    let scan := cmdFlag cmd 2
    let begun (h : HeadSt) : Int := b.raced (if scan then { h with sc := { h.sc with scanOn := true } } else h) scan
    if !s.alive || !b.waiting || s.raceWaits cmd b.rows begun then s
    else (s.cmdOneRow c x cmd b.rows).cmdRows c x cmd (cmdH cmd + 1)

/-- WATERMARK: the oldest watermark row is acknowledged (R330). -/
def State.watermark (s : State) (c : Fin 8) : State :=
  let b := s.bctx c
  match b.marks, b.slot.bind s.slot with
  | (cmd, row) :: rest, some x =>
    if !s.alive then s
    else
      let n : Fin 6 := x.hdr.headFin.getD 0
      let h := s.head n
      let on := s.headPresent n && h.enabled
      let s := s.modBctx c (fun b => { b with marks := rest })
      let s := s.setReg .BLT_WM0 c 0 (if on then h.frame else 0)
      let s := (s.setF (F.BLT_WM1_LINE c) (if on then h.line else 0)).setF (F.BLT_WM1_PIXEL c)
        (if on then h.sc.scanPixel else 0)
      let s := (s.setF (F.BLT_WM2_CMD c) cmd).setF (F.BLT_WM2_ROW c) row
      (s.raiseF (F.BLT_STAT_WM c)).signal (s.reg .BLT_IRQ c 0)
  | _, _ => s

/-- BLIT_LIST_COMPLETE: every write is acknowledged (R320). -/
def State.listComplete (s : State) (c : Fin 8) : State :=
  let b := s.bctx c
  match b.slot with
  | some id =>
    if s.alive && !b.reading && !b.cmds.isEmpty && b.cmds.length ≤ b.idx && b.marks.isEmpty
    then (s.bltFree c).complete id stDone 0 else s
  | none => s

/-- Interrupt the list a slot runs: what its started commands were to write is undefined, and
nothing further is written (R329, R35). -/
def State.bltAbort (s : State) (id : Nat) : State :=
  ([0, 1, 2, 3, 4, 5, 6, 7] : List (Fin 8)).foldl (fun s c =>
    let b := s.bctx c
    if b.slot = some id then
      let n := if b.started then b.idx + 1 else b.idx
      let s := (b.cmds.take n).foldl (fun s cmd =>
        let e := cmdDstExtent cmd
        s.scramble e.1 e.2) s
      s.bltFree c
    else s) s

/-- Interrupt every list without completing it (resets, freeze). -/
def State.bltAbortAll (s : State) : State :=
  ([0, 1, 2, 3, 4, 5, 6, 7] : List (Fin 8)).foldl (fun s c =>
    match (s.bctx c).slot with | some id => s.bltAbort id | none => s) s

end Sys2Proof.Machine
end

