-- ==== Sys2Proof/Machine/Sluice.lean ====
section
/-!
DEFINITION. Sluice (R334 to R344): descriptor fields and checks, channels, bursts through the
funnel, the staging buffer, completion, failures, channel leases and interruption.
-/

set_option Elab.async false  -- the joined text is large: no thread per declaration

namespace Sys2Proof.Machine

/-! ### Descriptor fields -/

def sluSrc (p : BitVec 448) : Nat := pay p 8 8
def sluDst (p : BitVec 448) : Nat := pay p 16 8
def sluSlen (p : BitVec 448) : Nat := pay p 24 4
def sluDlen (p : BitVec 448) : Nat := pay p 28 4
def sluSstr (p : BitVec 448) : Nat := pay p 32 4
def sluDstr (p : BitVec 448) : Nat := pay p 36 4
def sluScnt (p : BitVec 448) : Nat := pay p 40 4
def sluDcnt (p : BitVec 448) : Nat := pay p 44 4
def sluChan (p : BitVec 448) : Nat := pay p 48 1
def sluSrcDev (p : BitVec 448) : Bool := (pay p 49 1).testBit 0
def sluDstDev (p : BitVec 448) : Bool := (pay p 49 1).testBit 1
def sluPix (p : BitVec 448) : Bool := (pay p 50 1).testBit 0
def sluTotal (p : BitVec 448) : Nat := sluSlen p * sluScnt p

/-- Extents of the two sides, end excluded (R334). -/
def sluSrcExt (p : BitVec 448) : Nat × Nat := (sluSrc p, sluSrc p + (sluScnt p - 1) * sluSstr p + sluSlen p)
def sluDstExt (p : BitVec 448) : Nat × Nat := (sluDst p, sluDst p + (sluDcnt p - 1) * sluDstr p + sluDlen p)

/-- Address of stream byte `i` on each side. -/
def sluSrcAt (p : BitVec 448) (i : Nat) : Nat := sluSrc p + i / sluSlen p * sluSstr p + i % sluSlen p
def sluDstAt (p : BitVec 448) (i : Nat) : Nat := sluDst p + i / sluDlen p * sluDstr p + i % sluDlen p

/-- Bytes in which the extents intersect, when both sides lie in the same memory (R338). -/
def sluMeet (p : BitVec 448) : Nat :=
  if sluSrcDev p = sluDstDev p then meetSize (sluSrcExt p) (sluDstExt p) else 0

def sluEqual (p : BitVec 448) : Bool :=
  sluSlen p = sluDlen p && sluSstr p = sluDstr p && sluScnt p = sluDcnt p

/-- Work runs in descending order (R338). -/
def sluDown (p : BitVec 448) : Bool := 0 < sluMeet p && sluEqual p && sluSrc p < sluDst p

/-- The intersection must be staged (R339). -/
def sluStages (p : BitVec 448) : Bool := 0 < sluMeet p && !sluEqual p

/-- Check 1 of R335. -/
def sluFieldsOk (p : BitVec 448) : Bool :=
  1 ≤ sluSlen p && sluSlen p ≤ 16777216 && 1 ≤ sluDlen p && sluDlen p ≤ 16777216 &&
  1 ≤ sluScnt p && sluScnt p ≤ 65536 && 1 ≤ sluDcnt p && sluDcnt p ≤ 65536 &&
  sluTotal p = sluDlen p * sluDcnt p && sluTotal p ≤ 4294967295 &&
  (sluDcnt p = 1 || sluDlen p ≤ sluDstr p) &&
  (sluChan p < 32 || sluChan p = 0xFF) &&
  pay p 49 1 / 4 = 0 && pay p 50 1 / 2 = 0 && pay p 51 1 / 16 = 0 && pay p 52 12 = 0 &&
  (!sluPix p || (pay p 51 1 % 4 ≠ 3 && pay p 51 1 / 4 % 4 ≠ 3)) &&
  (sluSrcDev p || (sluSrcExt p).2 ≤ 2 ^ 64) && (sluDstDev p || (sluDstExt p).2 ≤ 2 ^ 64)

/-- First field that breaks pixel-atomic alignment (R337). -/
def sluMisaligned (p : BitVec 448) : Option Nat :=
  let sp := pay p 51 1 % 4
  let dp := pay p 51 1 / 4 % 4
  if !sluPix p then none
  else if (sluSrc p + 3 - sp) % 3 ≠ 0 then some 8
  else if (sluDst p + 3 - dp) % 3 ≠ 0 then some 16
  else if sluSlen p % 3 ≠ 0 then some 24
  else if sluDlen p % 3 ≠ 0 then some 28
  else if 1 < sluScnt p ∧ sluSstr p % 3 ≠ 0 then some 32
  else if 1 < sluDcnt p ∧ sluDstr p % 3 ≠ 0 then some 36
  else none

/-! ### Channels -/

def allChans : List (Fin 32) :=
  [0, 1, 2, 3, 4, 5, 6, 7, 8, 9, 10, 11, 12, 13, 14, 15, 16, 17, 18, 19, 20, 21, 22, 23, 24, 25, 26, 27,
   28, 29, 30, 31]

def State.chan (s : State) (c : Fin 32) : SluCh := s.mv.slu[c]

def State.modChan (s : State) (c : Fin 32) (f : SluCh → SluCh) : State :=
  { s with mv := { s.mv with slu := s.mv.slu.set c (f s.mv.slu[c]) } }

/-- The channels whose OWNER admits a function, as a mask. -/
def State.chanMask (s : State) (fn : Fin 16) : Word :=
  allChans.foldl (fun (m : Word) (c : Fin 32) =>
    let o := s.fld (F.SLU_CTL_OWNER c)
    if 16 ≤ o || o = fn.val then m ||| BitVec.ofNat 32 (2 ^ c.val) else m) 0

/-- A descriptor may use channel `c`: the one it names, or any that admitted its function (R79, R336). -/
def chanFits (x : Slot) (c : Fin 32) : Bool :=
  if sluChan x.payload = 0xFF then x.chans.getLsbD c.val else sluChan x.payload = c.val

/-- A SLUICE fetched earlier waits for channel `c`, or is named to it and has yet to start (R336). -/
def State.chanAwaited (s : State) (x : Slot) (c : Fin 32) : Bool :=
  s.hif.slots.any (fun y => y.id < x.id && y.type = 0x0A &&
    ((y.st = .waitUnit && chanFits y c) || (y.st = .waitStart && sluChan y.payload = c.val)))

/-- A free channel for a slot: the lowest-numbered that admits the function, or the one named, where no SLUICE
fetched earlier has a claim to it (R336). -/
def State.freeChan (s : State) (x : Slot) : Option (Fin 32) :=
  allChans.find? (fun c => (s.chan c).slot.isNone && chanFits x c && !s.chanAwaited x c)

/-- Bytes of the next burst at most: 512, or whole pixels when pixel-atomic (R337, R344). -/
def sluBurstMax (p : BitVec 448) : Nat := if sluPix p then 510 else 512

/-- Next burst of a channel at stream progress `pos`: first stream byte and length. A burst of a host source stays
in one source line; descending work takes the last bytes first (R337, R338, R344). -/
def sluNext (p : BitVec 448) (pos : Nat) : Nat × Nat :=
  let left := sluTotal p - pos
  let n := min (sluBurstMax p) left
  if sluSrcDev p then (if sluDown p then left - n else pos, n)
  else if sluDown p then
    let i := max (left - n) ((left - 1) / sluSlen p * sluSlen p)
    (i, left - i)
  else (pos, min n (sluSlen p - pos % sluSlen p))

/-- A source byte lies where both extents meet. -/
def sluInMeet (p : BitVec 448) (a : Nat) : Bool := (sluDstExt p).1 ≤ a && a < (sluDstExt p).2

/-- Every byte of a burst comes from the staging buffer. -/
def sluStaged (p : BitVec 448) (h : SluCh) (e : Nat × Nat) : Bool :=
  h.stage.isSome && (List.range e.2).all (fun k => sluInMeet p (sluSrcAt p (e.1 + k)))

/-- Host read requests for a run of bytes, none across a 4 KiB boundary (R337). -/
def State.emitReads (s : State) (a n : Nat) : State :=
  (pagesOf a n).foldl (fun s g =>
    let lo := max a (g * 4096)
    s.emit (.hostRead lo (min (a + n) (g * 4096 + 4096) - lo))) s

/-- Issue the host reads that the next burst of a host source needs. -/
def State.sluRead (s : State) (c : Fin 32) : State :=
  let h := s.chan c
  match h.slot.bind s.slot with
  | some x =>
    let e := sluNext x.payload h.pos
    if sluSrcDev x.payload || sluStaged x.payload h e then s
    else (s.emitReads (sluSrcAt x.payload e.1) e.2).modChan c (fun h => { h with readAt := some s.clock })
  | none => s

/-- The next run of source bytes that lies where the extents meet, from stream byte `i` on: stream byte and length,
at most a burst and in one source line; none when there is no more (R339). -/
def sluFillAt (p : BitVec 448) : Nat → Nat → Option (Nat × Nat)
  | 0, _ => none
  | fuel + 1, i =>
    if sluTotal p ≤ i then none
    else
      let a := sluSrcAt p i
      let eol := a + (sluSlen p - i % sluSlen p)
      let lo := max a (sluDstExt p).1
      let hi := min eol (sluDstExt p).2
      if lo < hi then some (i + (lo - a), min 512 (hi - lo))
      else sluFillAt p fuel (i / sluSlen p * sluSlen p + sluSlen p)

/-- Issue the host reads that fill the staging buffer next; once it is filled, those of the first burst (R339). -/
def State.sluFillRead (s : State) (c : Fin 32) (i : Nat) : State :=
  match (s.chan c).slot.bind s.slot with
  | some x =>
    match sluFillAt x.payload (sluScnt x.payload + 1) i with
    | some (j, n) =>
      (s.emitReads (sluSrcAt x.payload j) n).modChan c (fun h => { h with fill := some j, readAt := some s.clock })
    | none => (s.modChan c (fun h => { h with fill := none, readAt := none })).sluRead c
  | none => s

/-- A channel takes a descriptor and starts (R336, R339). -/
def State.chanStart (s : State) (c : Fin 32) (id : Nat) : State :=
  match s.slot id with
  | none => s
  | some x =>
    let st := sluStages x.payload
    let s := s.modChan c (fun _ => { slot := some id, wantStage := st })
    let s := (s.setF (F.SLU_STAT_FN c) x.hdr.fn).setReg .SLU_REMAIN c 0 (BitVec.ofNat 32 (sluTotal x.payload))
    let s := s.modSlot id (fun x => { x with st := .running })
    if st then { s with mv := { s.mv with stageQ := s.mv.stageQ ++ [c.val] } } else s.sluRead c

/-- A SLUICE takes a free channel or waits on the device (R336). -/
def State.sluStart (s : State) (id : Nat) : State :=
  match s.slot id with
  | none => s
  | some x =>
    match s.freeChan x with
    | some c => s.chanStart c id
    | none => s.modSlot id (fun x => { x with st := .waitUnit })

/-- CHANNEL_GRANT: a freed channel takes the first SLUICE waiting for it (R336). -/
def State.channelGrant (s : State) (c : Fin 32) : State :=
  if !s.alive || (s.chan c).slot.isSome then s
  else match s.hif.slots.find? (fun x => x.type = 0x0A && x.st = .waitUnit && chanFits x c && !s.chanAwaited x c) with
    | some x => s.chanStart c x.id
    | none => s

/-- STAGING_BUFFER_GRANT: the first channel in line takes the buffer and reads the intersection into it before it
writes anything (R339): from device memory at once, from the host as its answers come. -/
def State.stagingGrant (s : State) (c : Fin 32) : State :=
  let h := s.chan c
  if !s.alive || s.mv.stageQ.head? ≠ some c.val || allChans.any (fun k => (s.chan k).stage.isSome) then s
  else match h.slot.bind s.slot with
    | some x =>
      let a := sluSrcExt x.payload
      let b := sluDstExt x.payload
      let lo := max a.1 b.1
      let hi := min a.2 b.2
      let img : DevMem := if sluSrcDev x.payload then s.mem.slice lo hi else {}
      let s := { s with mv := { s.mv with stageQ := s.mv.stageQ.tail } }
      let s := s.modChan c (fun h => { h with stage := some img, wantStage := false })
      let s := s.count 0xA4 0 (hi - lo) { fn := some x.hdr.fn.val }
      if sluSrcDev x.payload then s else s.sluFillRead c 0
    | none => s

/-- Free a channel, its buffer included. -/
def State.chanFree (s : State) (c : Fin 32) : State :=
  let s := s.modChan c (fun _ => {})
  { s with mv := { s.mv with stageQ := s.mv.stageQ.filter (· ≠ c.val) } }

/-- Source byte `i` of the stream, from the staging buffer where it lies in the intersection. -/
def State.sluByte (s : State) (p : BitVec 448) (stage : Option DevMem) (i : Nat) : Byte :=
  let a := sluSrcAt p i
  match stage with
  | some img => if sluInMeet p a then img.read a else s.mem.read a
  | none => s.mem.read a

/-- Host write requests for a run of bytes, none across a 4 KiB boundary (R337). -/
def State.emitWrites (s : State) (fn : Nat) (a : Nat) (bs : List Byte) : State :=
  (pageCuts a bs).foldl (fun s e => s.hostWrite fn e.1 e.2) s

/-- Write stream bytes `i` onward to the destination, one write per destination line. -/
def State.sluWrite (s : State) (p : BitVec 448) (fn : Fin 16) : Nat → Nat → List Byte → State
  | 0, _, _ => s
  | _ + 1, _, [] => s
  | fuel + 1, i, bs =>
    let k := min bs.length (sluDlen p - i % sluDlen p)
    let s := if sluDstDev p then s.poke (sluDstAt p i) (bs.take k)
      else s.emitWrites fn (sluDstAt p i) (bs.take k)
    s.sluWrite p fn fuel (i + k) (bs.drop k)

/-- Channel `c` could move a burst now without waiting for the host; of a host source the command itself tells
(DEDUCED, log entry 97). -/
def State.chanReady (s : State) (c : Fin 32) : Bool :=
  let h := s.chan c
  match h.slot.bind s.slot with
  | some x => !h.wantStage && h.fill.isNone && !h.draining && h.readAt.isNone && h.pos < sluTotal x.payload
  | none => false

/-- Channel `c`, which can move a burst, is the one to go: of the highest PRIO, and next in turn among equals
(R344). -/
def State.chanGoes (s : State) (c : Fin 32) : Bool :=
  let turn (k : Fin 32) : Nat := (k.val + 31 - s.mv.sluTurn % 32) % 32
  let prio (k : Fin 32) : Nat := s.fld (F.SLU_CTL_PRIO k)
  allChans.all (fun k => k = c || !s.chanReady k || prio k < prio c || (prio k = prio c && turn c ≤ turn k))

/-- The bytes of a burst: from the staging buffer where both extents meet, else from device memory or from what the
host read returned. -/
def State.sluData (s : State) (p : BitVec 448) (h : SluCh) (e : Nat × Nat) (data : List Byte) : List Byte :=
  (List.range e.2).map (fun k =>
    if sluSrcDev p then s.sluByte p h.stage (e.1 + k)
    else match h.stage with
      | some img => if sluInMeet p (sluSrcAt p (e.1 + k)) then img.read (sluSrcAt p (e.1 + k)) else (data[k]?).getD 0
      | none => (data[k]?).getD 0)

/-- Last byte a finished transfer wrote: descending work ends at the first byte of the destination (R338). -/
def sluLast (p : BitVec 448) : Nat := if sluDown p then sluDst p else (sluDstExt p).2 - 1

/-- One burst passes the funnel (R334, R337 to R340, R344). -/
def State.sluMove (s : State) (c : Fin 32) (x : Slot) (data : List Byte) : State :=
  let h := s.chan c
  let p := x.payload
  let e := sluNext p h.pos
  let fromHost := !sluSrcDev p && !sluStaged p h e
  let bs := s.sluData p h e data
  let s := if fromHost then s.count 0x07 0 e.2 { fn := some x.hdr.fn.val } else s
  let s := (s.sluWrite p x.hdr.fn (e.2 + 1) e.1 bs).count 0xA3 0 e.2 { fn := some x.hdr.fn.val }
  let pos := h.pos + e.2
  let s := s.setReg .SLU_REMAIN c 0 (BitVec.ofNat 32 (sluTotal p - pos))
  let s := { s with mv := { s.mv with sluTurn := c.val } }
  let s := s.modChan c (fun h => { h with pos := pos, readAt := none, draining := pos = sluTotal p })
  if pos < sluTotal p then s.sluRead c
  else if sluDstDev p then s
  else (s.emit (.hostRead (sluLast p / 4 * 4) 0)).modChan c (fun h => { h with readAt := some s.clock })

/-- Bytes the host returned go into the staging buffer (R339). -/
def State.sluFill (s : State) (c : Fin 32) (x : Slot) (i : Nat) (data : List Byte) : State :=
  match sluFillAt x.payload (sluScnt x.payload + 1) i with
  | some (j, n) =>
    if data.length < n then s
    else
      let s := s.count 0x07 0 n { fn := some x.hdr.fn.val }
      (s.modChan c (fun h => { h with
        stage := h.stage.map (fun img => img.writeBytes (sluSrcAt x.payload j) (data.take n)) })).sluFillRead c (j + n)
  | none => s

/-- SLUICE_BURST: a burst of the channel whose turn it is, or the next bytes of its staging buffer. `data` is what
the host reads returned, for a host source. -/
def State.sluBurst (s : State) (c : Fin 32) (data : List Byte) : State :=
  let h := s.chan c
  match h.slot.bind s.slot with
  | none => s
  | some x =>
    let e := sluNext x.payload h.pos
    if !s.alive || h.wantStage || h.draining || sluTotal x.payload ≤ h.pos then s
    else match h.fill with
      | some i => s.sluFill c x i data
      | none =>
        if !s.chanGoes c || (!sluSrcDev x.payload && !sluStaged x.payload h e && data.length < e.2) then s
        else s.sluMove c x data

/-- SLUICE_DRAIN_DONE: every write is acknowledged (R340). -/
def State.sluDone (s : State) (c : Fin 32) : State :=
  let h := s.chan c
  match h.slot with
  | some id => if s.alive && h.draining then (s.chanFree c).complete id stDone 0 else s
  | none => s

/-- The destination of a transfer that ended early is undefined within its extent (R35, R341, R343). -/
def State.sluSpoilDst (s : State) (x : Slot) : State :=
  if sluDstDev x.payload then
    let e := sluDstExt x.payload
    s.scramble e.1 e.2
  else s

/-- SLUICE_ACCESS_FAIL: the first failed access ends the descriptor (R341). -/
def State.sluFail (s : State) (c : Fin 32) (f : AccessFail) : State :=
  let h := s.chan c
  match h.slot.bind s.slot with
  | none => s
  | some x =>
    let rec_ (s : State) (a : Nat) : State :=
      ((s.setReg .SLU_FAIL_LO c 0 (BitVec.ofNat 32 a)).setReg .SLU_FAIL_HI c 0 (BitVec.ofNat 32 (a / 2 ^ 32))).raiseF
        (F.SLU_STAT_ERR c)
    if !s.alive || h.wantStage then s
    else match f with
      | .hostSource a tmo =>
        if sluSrcDev x.payload || h.readAt.isNone || h.draining then s
        else (((rec_ s a.toNat).sluSpoilDst x).chanFree c).completeReadFail x.id (if tmo then stTimeout else stBusError) a
      | .hostZero a tmo =>
        if sluDstDev x.payload || !h.draining then s
        else
          let s := (((rec_ s a.toNat).sluSpoilDst x).chanFree c).emit .aer
          let s := s.violate x.hdr.fn x.hdr.ring x.hdr.tag.toNat 0x12 a.toNat
          s.complete x.id (if tmo then stTimeout else stBusError) (a.setWidth 32)
      | .dram a =>
        if !sluSrcDev x.payload && !sluDstDev x.payload then s
        else
          let s := (((rec_ s a.toNat).sluSpoilDst x).chanFree c).faultDev 0x14 unitSlu c (a.toNat - dramBase)
          s.complete x.id stBusError (a.setWidth 32)

/-- Interrupt the transfer a slot runs (R343). -/
def State.sluAbort (s : State) (id : Nat) : State :=
  allChans.foldl (fun s c =>
    if (s.chan c).slot = some id then
      match s.slot id with
      | some x => (s.sluSpoilDst x).chanFree c
      | none => s.chanFree c
    else s) s

/-- Interrupt every transfer without completing it. -/
def State.sluAbortAll (s : State) : State :=
  allChans.foldl (fun s c => match (s.chan c).slot with | some id => s.sluAbort id | none => s) s

/-- CHANNEL_LEASE_EXPIRY: the oldest host read has reached LEASE_MS (R342). -/
def State.chanLease (s : State) (c : Fin 32) : State :=
  let h := s.chan c
  match h.slot.bind s.slot with
  | none => s
  | some x =>
    if !s.alive || h.readAt.isNone then s
    else
      let f := x.hdr.fn
      let g := s.ring f x.hdr.ring
      let room := g.held.isEmpty && g.hasRoom
      let seq := s.fld (F.VLG_SEQ_COUNT f)
      let s := s.sluAbort x.id
      let s := s.violate f x.hdr.ring x.hdr.tag.toNat 0x10 (1 + (if room then 0 else 65536) + c.val * 2 ^ 32 + 2 ^ 63)
      let log := (f.val, BitVec.ofNat 32 seq) :: s.mv.leaseSeq.filter (fun e => e.1 ≠ f.val)
      let fenced := s.mv.sluFenced ||| BitVec.ofNat 16 (2 ^ f.val)
      let s := { s with mv := { s.mv with sluFenced := fenced, leaseSeq := log } }
      if room then s.complete x.id stRevoked (BitVec.ofNat 32 seq)
      else
        let s := match x.trick with | some k => s.spoil k stRevoked (BitVec.ofNat 32 seq) | none => s
        s.dropSlot x.id

/-- SLU_CHc_STAT.STATE. -/
def SluCh.code (h : SluCh) : Nat :=
  if h.slot.isNone then 0 else if h.wantStage || h.fill.isSome then 2 else if h.draining then 3 else 1

end Sys2Proof.Machine
end

