-- ==== Sys2Proof/Machine/Rings.lean ====
section
/-!
DEFINITION. Rings of the host interface: doorbell records and knocks (R84 to R88), enabling and
disabling a ring (R82, R83), leases and re-registration (R101 to R103), knock storms (R104), and what
function-level and host-interface resets do to rings and slots (R107, R108).
-/

set_option Elab.async false  -- the joined text is large: no thread per declaration

namespace Sys2Proof.Machine

def allFns : List (Fin 16) := [0, 1, 2, 3, 4, 5, 6, 7, 8, 9, 10, 11, 12, 13, 14, 15]

/-- The 64 rings of a function. -/
def allRings : List (Fin 64) := List.finRange 64

/-- The host reaches a function: the physical one, or a virtual one that VF Enable shows. -/
def State.fnExists (s : State) (f : Fin 16) : Bool :=
  f = 0 || (s.hif.vfEnable && f.val ≤ s.hif.numVfs)

/-- Rings are served: in RUN, COAST and FALLBACK, up to the start of an entry to sleep (R86). -/
def State.serving (s : State) : Bool := s.working && !(s.pwr.entry = 1 || s.pwr.entry = 2)

/-! ### Doorbell records -/

/-- Read a ring's doorbell record; one read is outstanding at a time. -/
def State.readRecord (s : State) (f : Fin 16) (r : Fin 64) : State :=
  let g := s.ring f r
  if g.reading then s
  else ((s.emit (.hostRead g.db 16)).modRing f r (fun g => { g with reading := true })).count 0x04 0 1 { fn := some f.val }

/-- A ring's base, log and vector as its registers stand (R80). -/
def State.ringBase (s : State) (lo hi : RegId) (f : Fin 16) (r : Fin 64) : Nat :=
  (s.reg lo f r).toNat + (s.reg hi f r).toNat * 2 ^ 32

/-- An enable the device refuses (R82). -/
def State.ringBad (s : State) (f : Fin 16) (r : Fin 64) : Bool :=
  let n := s.fld (F.HIF_RING_CTL_LOG2N f r)
  n < 4 || 16 < n || s.fld (F.HIF_FN_CTL_VEC_COUNT f) ≤ s.fld (F.HIF_RING_CTL_VECTOR f r)

/-- A ring becomes enabled: its registers are sampled, its indices start at 0, and its record is
read; or the enable is refused (R82). -/
def State.ringStart (s : State) (f : Fin 16) (r : Fin 64) : State :=
  let g := s.ring f r
  if s.ringBad f r then
    (s.setF (F.HIF_RING_CTL_EN f r) 0).modRing f r (fun g =>
      { lastLog := g.lastLog, cfgErr := true, cons := g.cons, vcount := g.vcount, quar := g.quar })
  else
    let fresh : RingSt :=
      { phase := .on
        sq := s.ringBase .HIF_RING_SQ_LO .HIF_RING_SQ_HI f r
        cq := s.ringBase .HIF_RING_CQ_LO .HIF_RING_CQ_HI f r
        db := s.ringBase .HIF_RING_DB_LO .HIF_RING_DB_HI f r
        log2n := s.fld (F.HIF_RING_CTL_LOG2N f r)
        lastLog := g.lastLog }
    let s := (s.setF (F.HIF_RING_CTL_EN f r) 1).modRing f r (fun _ => fresh)
    let s := if g.quar then s.writeDevFlags f r else s
    s.readRecord f r

/-- What a record read gives a ring: indices and flags, unless it is stale behind a knock (R84, R87). -/
def State.takeRecord (s : State) (f : Fin 16) (r : Fin 64) (d : DbRec) : State :=
  let g := s.ring f r
  let n := 2 ^ g.log2n
  if n ≤ d.prod.toNat || n ≤ d.cqCons.toNat then
    let s := if g.indexBad then s
      else s.violateOnce f r 0x03 (if n ≤ d.prod.toNat then d.prod.toNat else d.cqCons.toNat)
    s.modRing f r (fun g => { g with indexBad := true, knocked := none })
  else
    let stale := match g.knocked with
      | some k => let b := (k - d.kseq.setWidth 16).toNat; decide (1 ≤ b ∧ b ≤ 32767)
      | none => false
    if stale && 0 < g.rereads then s.modRing f r (fun g => { g with indexBad := false })
    else s.modRing f r (fun g => { g with
      indexBad := false, knocked := none
      prod := d.prod.toNat, cqCons := d.cqCons.toNat, kseq := d.kseq
      noIrq := d.hostFlags.getLsbD 0, pause := d.hostFlags.getLsbD 1 })

/-- A record read ends (R84, R87, R104). -/
def State.recordRead (s : State) (f : Fin 16) (r : Fin 64) (d : DbRead) : State :=
  let g := s.ring f r
  if !s.alive || !g.reading || g.phase ≠ .on then s
  else
    let s := s.modRing f r (fun g => { g with reading := false })
    match d with
    | .failed =>
      let s := if g.unreadable then s else s.violateOnce f r 0x04 g.db
      (s.modRing f r (fun g => { g with unreadable := true, knocked := none })).emit .aer
    | .ok d =>
      let s := s.count 0x07 0 16 { fn := some f.val }
      (s.modRing f r (fun g => { g with unreadable := false })).takeRecord f r d

/-- STALE_RECORD_REREAD: 2 µs after a stale record it is read again, up to four times (R87). -/
def State.staleReread (s : State) (f : Fin 16) (r : Fin 64) : State :=
  let g := s.ring f r
  if s.alive && g.phase = .on && g.knocked.isSome && !g.reading && 0 < g.rereads then
    (s.modRing f r (fun g => { g with rereads := g.rereads - 1 })).readRecord f r
  else s

/-- Every enabled ring's record is read: the poll, and the entry to RUN (R86). -/
def State.pollRecords (s : State) : State :=
  s.hif.rings.foldl (fun s e =>
    let f : Fin 16 := ⟨e.1 / 64 % 16, Nat.mod_lt _ (by decide)⟩
    let r : Fin 64 := ⟨e.1 % 64, Nat.mod_lt _ (by decide)⟩
    if (s.ring f r).phase = .on && s.fnExists f then
      (s.modRing f r (fun g => { g with knockWaiting := false })).readRecord f r
    else s) s

/-- DOORBELL_POLL. -/
def State.doorbellPoll (s : State) : State := if s.serving then s.pollRecords else s

/-- Knocks that waited out the sleep are served (R86). -/
def State.serveKnocks (s : State) : State :=
  s.hif.rings.foldl (fun s e =>
    let f : Fin 16 := ⟨e.1 / 64 % 16, Nat.mod_lt _ (by decide)⟩
    let r : Fin 64 := ⟨e.1 % 64, Nat.mod_lt _ (by decide)⟩
    if (s.ring f r).phase = .on && (s.ring f r).knockWaiting then
      (s.modRing f r (fun g => { g with knockWaiting := false })).readRecord f r
    else s) s

/-- A knock to an enabled ring, after the storm count (R86, R104). -/
def State.knockRing (s : State) (f : Fin 16) (r : Fin 64) (k : Half) : State :=
  let g := s.ring f r
  let times := if g.stormSeq = k
    then s.clock :: g.stormTimes.filter (fun t => s.clock ≤ t + 10 * perUs) else [s.clock]
  let s := s.modRing f r (fun g => { g with stormSeq := k, stormTimes := times })
  if 256 < times.length then
    let d := s.freeDetail
    (d.1.violateOnce f r 0x06 d.2).modRing f r (fun g => { g with stormIgnore := true, stormTimes := [] })
  else
    let s := s.modRing f r (fun g => { g with knocked := some k, rereads := 4 })
    if s.serving then s.readRecord f r
    else
      (s.modRing f r (fun g => { g with knockWaiting := true })).noteWake 0x01

/-- KNOCK: a write of KSEQ and a ring number to a function's page (R86, R104, R105). A ring being drained,
whose EN still reads 1, counts as disabled and is logged as KNOCK_RING: no rule says which (DESIGN CHOICE,
log entry 101). -/
def State.knock (s : State) (f : Fin 16) (v : Word) : State :=
  if !s.alive || !s.fnExists f then s
  else
    let s := s.count 0x03 0 1 { fn := some f.val }
    let r : Fin 64 := ⟨bits v 5 0 % 64, Nat.mod_lt _ (by decide)⟩
    let g := s.ring f r
    if s.fenced f then s
    else if g.phase ≠ .on then s.violateFree f r 0 0x07
    else if g.quar || g.stormIgnore then s
    else s.knockRing f r (BitVec.ofNat 16 (bits v 31 16))

/-- KNOCK_STORM_END: 1 ms after the storm, knocks to the ring count again (R104). -/
def State.knockStormEnd (s : State) (f : Fin 16) (r : Fin 64) : State :=
  if s.alive && (s.ring f r).stormIgnore
  then s.modRing f r (fun g => { g with stormIgnore := false, stormTimes := [] }) else s

/-- CQ_FULL: an entry has been held for 1 ms; logged once for the hold (R104). -/
def State.cqFull (s : State) (f : Fin 16) (r : Fin 64) : State :=
  let g := s.ring f r
  if s.alive && !g.held.isEmpty && !g.cqFullLogged then
    let d := s.freeDetail
    (d.1.violateOnce f r 0x05 d.2).modRing f r (fun g => { g with cqFullLogged := true })
  else s

/-- HOLDOFF_EXPIRY: one message covers the entries written during the holdoff (R99). -/
def State.holdoffEnd (s : State) (f : Fin 16) (r : Fin 64) : State :=
  let g := s.ring f r
  if s.alive && g.holdoff then
    let s := s.modRing f r (fun g => { g with holdoff := false, holdoffDue := false })
    if g.holdoffDue then s.ringMsg f r else s
  else s

/-! ### Ending descriptors from outside -/

/-- The TRICK_COMMIT of a trick that is committed, or whose application is in progress (R83, R102). -/
def State.exempt (s : State) (x : Slot) : Bool :=
  x.type = 0x02 && (s.trk.shown.any (fun y => y.commitSlot = some x.id) ||
    (match s.trk.queue with
     | k :: _ => (match s.trick k with | some t => decide (t.commitSlot = some x.id) | none => false)
     | [] => false))

/-- The unit a slot runs on gives it up under its own abort rules (R329, R343, R354). A journal store
runs on without its descriptor (R424). -/
def State.unitAbort (s : State) (x : Slot) : State :=
  match x.type with
  | 0x09 => s.bltAbort x.id
  | 0x0A => s.sluAbort x.id
  | 0x0B => s.playAbandon (fun y => y.id ≠ x.id)
  | 0x10 => { s with jrnl := { s.jrnl with
      store := s.jrnl.store.map (fun (st : Store) => if st.slot = some x.id then { st with slot := none } else st)
      queue := s.jrnl.queue.filter (· ≠ some x.id) } }
  | _ => s

/-- The tricks that a slot's TRICK_COMMIT was to commit end uncommitted with it. -/
def State.loseCommit (s : State) (x : Slot) : State :=
  if x.type = 0x02 then
    (s.trk.tricks.filter (fun t => t.commitSlot = some x.id)).foldl (fun s t => s.discardTrick t.key) s
  else s

/-- A slot ends early with a status: its entry is written while there is room, else discarded. The
answer says whether it was written (R83, R102). -/
def State.endEarly (s : State) (x : Slot) (status : Nat) (detail : Word) : State × Bool :=
  let s := s.unitAbort x
  let s := match x.trick with | some k => if x.joined then s else s.spoil k status detail | none => s
  let s := s.loseCommit x
  let g := s.ring x.hdr.fn x.hdr.ring
  if x.st ≠ .held && g.held.isEmpty && g.hasRoom then
    ((s.writeCpl x.hdr.fn x.hdr.ring (s.cplOf x.hdr status detail)).dropSlot x.id, true)
  else (s.dropSlot x.id, false)

/-- End every slot of a list that is not exempt; held entries of its rings are discarded. Answers how
many ended and how many of their entries were discarded. -/
def State.endSlots (s : State) (xs : List Slot) (status : Nat) (detail : Word) : State × Nat × Nat :=
  let xs := xs.filter (fun x => !s.exempt x)
  let s := xs.foldl (fun s x => s.modRing x.hdr.fn x.hdr.ring (fun g => { g with held := [] })) s
  xs.foldl (fun (a : State × Nat × Nat) x =>
    let e := a.1.endEarly x status detail
    (e.1, a.2.1 + 1, a.2.2 + (if e.2 then 0 else 1))) (s, 0, 0)

/-- A ring being disabled that holds no slot any more is off (R83). -/
def State.ringDrained (s : State) (f : Fin 16) (r : Fin 64) : State :=
  if (s.ring f r).phase = .draining && (s.ringSlots f r).isEmpty then
    (s.setF (F.HIF_RING_CTL_EN f r) 0).modRing f r (fun g => { g with phase := .off })
  else s

/-- Clearing EN stops fetching; the descriptors in flight end with ABORTED_BY_RESET (R83). -/
def State.ringStop (s : State) (f : Fin 16) (r : Fin 64) : State :=
  let s := s.modRing f r (fun g => { g with phase := .draining, knockWaiting := false, knocked := none })
  let s := (s.endSlots (s.ringSlots f r) stAborted 0).1
  s.ringDrained f r

/-- A write of HIF_RING_CTL (R82, R83). EN reads 1 until a ring being disabled is drained. -/
def State.ringCtlWrite (s : State) (f : Fin 16) (r : Fin 64) (v : Word) : State :=
  let w := v &&& 0x9FFFFF00
  let was := (s.ring f r).phase
  let s := s.setReg .HIF_RING_CTL f r (if was = .off then w else w ||| 0x80000000)
  if bit w 31 then (if was = .off then s.ringStart f r else s)
  else if was = .on then s.ringStop f r else s

/-- RING_ENABLE: the write with EN 1. -/
def State.ringEnable (s : State) (f : Fin 16) (r : Fin 64) (v : Word) : State :=
  if s.alive && bit v 31 then s.ringCtlWrite f r v else s

/-- RING_DISABLE: the write with EN 0. -/
def State.ringDisable (s : State) (f : Fin 16) (r : Fin 64) (v : Word) : State :=
  if s.alive && !bit v 31 then s.ringCtlWrite f r v else s

/-! ### Leases and re-registration -/

/-- The rings a function has had enabled, on or draining. -/
def State.ringsOf (s : State) (f : Fin 16) : List (Fin 64) :=
  allRings.filter (fun r => (s.ring f r).phase ≠ .off)

/-- LEASE_EXPIRED: the function is fenced and its descriptors are revoked (R102). -/
def State.leaseExpired (s : State) (f : Fin 16) : State :=
  if !s.alive || s.fenced f || !s.blockedOnFn f then s
  else
    let s := { s with hif := { s.hif with fenced := s.hif.fenced ||| BitVec.ofNat 16 (2 ^ f.val) } }
    let s := (s.ringsOf f).foldl (fun s r => s.writeDevFlags f r) s
    let seq := BitVec.ofNat 32 (s.fld (F.VLG_SEQ_COUNT f))
    let e := s.endSlots (s.hif.slots.filter (fun x => x.hdr.fn = f)) stRevoked seq
    let s := (e.1.trk.tricks.filter (fun t => t.ofFn f && t.isOpen)).foldl (fun s t => s.spoil t.key stRevoked seq) e.1
    s.logEntry f 0xFF 0 0x10 (e.2.1 % 65536 + e.2.2 % 65536 * 65536)

/-- A function is registered anew: its fences end, and every enabled ring starts afresh (R103, R342). -/
def State.rereg (s : State) (f : Fin 16) : State :=
  let m : BitVec 16 := ~~~(BitVec.ofNat 16 (2 ^ f.val))
  let fenced := s.fenced f
  let s := { s with hif := { s.hif with fenced := s.hif.fenced &&& m } }
  let s := { s with mv := { s.mv with sluFenced := s.mv.sluFenced &&& m } }
  (allRings.filter (fun r => (s.ring f r).phase = .on)).foldl (fun s r =>
    let quar := (s.ring f r).quar
    let s := s.ringStart f r
    if fenced && !quar then s.writeDevFlags f r else s) s

/-- FN_REREG (R103). -/
def State.fnRereg (s : State) (f : Fin 16) (v : Word) : State :=
  if s.alive && s.fnExists f && bits v 31 16 = 0xB0C5 && bit v 0 && s.fenced f then s.rereg f else s

/-! ### Resets of the interface -/

/-- Slots end without completions; committed tricks go on without theirs (R107, R108). -/
def State.abandonSlots (s : State) (p : Slot → Bool) : State :=
  let xs := s.hif.slots.filter p
  let gone (c : Option Nat) : Bool := match c with | some id => xs.any (fun x => x.id = id) | none => false
  let s := xs.foldl (fun s x => (s.unitAbort x).dropSlot x.id) s
  { s with trk := { s.trk with
      shown := s.trk.shown.map (fun (y : Shown) => if gone y.commitSlot then { y with commitSlot := none } else y)
      tricks := s.trk.tricks.map (fun (t : Trick) => if gone t.commitSlot then { t with commitSlot := none } else t) } }

/-- Discard the tricks of a kind of owner that are not under application (R37, R108). -/
def State.discardTricks (s : State) (p : Trick → Bool) : State :=
  (s.trk.tricks.filter (fun t => p t && s.trk.queue.head? ≠ some t.key)).foldl (fun s t => s.discardTrick t.key) s

/-- Drop the rings of a kind. -/
def State.dropRings (s : State) (p : Nat → Bool) : State :=
  { s with hif := { s.hif with rings := s.hif.rings.filter (fun e => !p e.1) } }

/-- A function's BAR2 page as its reset leaves it: MSI-X table and pending bits, and its power state (R69,
R73). -/
def State.pageReset (s : State) (f : Fin 16) : State :=
  let m : BitVec 16 := ~~~(BitVec.ofNat 16 (2 ^ f.val))
  { s with
    msix := s.msix.filter (fun e => e.1 / 1024 ≠ f.val)
    pba := s.pba &&& ~~~(BitVec.ofNat 1024 ((2 ^ 64 - 1) * 2 ^ (f.val * 64)))
    hif := { s.hif with d3hot := s.hif.d3hot &&& m } }

/-- VF_FLR: function-level reset of virtual function `f` (R108). In FREEZE it waits for the release (DESIGN
CHOICE, log entry 102). HIF_RING_STATUS of its rings reads 0 afterwards: R108 says nothing of VCOUNT, CONS
and CFG_ERR, and the model drops the rings whole (DESIGN CHOICE, log entry 81). -/
def State.vfFlr (s : State) (f : Fin 16) : State :=
  if f = 0 || !s.fnExists f then s
  else if s.frozen then
    { s with glob := { s.glob with flrPending := s.glob.flrPending ||| BitVec.ofNat 16 (2 ^ f.val) } }
  else if !s.alive then s
  else
    let s := s.pageReset f
    let s := (s.abandonSlots (fun x => x.hdr.fn = f)).discardTricks (fun t => t.ofFn f)
    let s := allRings.foldl (fun s r => s.setF (F.HIF_RING_CTL_EN f r) 0) s
    let s := (s.dropRings (fun k => k / 64 = f.val)).rereg f
    (s.setReg .HIF_FN_LAT f 0 0xFFFFFFFF).playQuit (fun p => s.fld (F.PLAY_CTL_OWNER p) = f.val)

/-- Registers of the HIF and VLG blocks return to their warm values. -/
def State.hifRegs (s : State) : State :=
  { s with regs := s.regs.filter (fun e =>
      !(0x10000 ≤ e.1 && e.1 < 0x20000) && !(0x2E0000 ≤ e.1 && e.1 < 0x2F0000)) }

/-- The host-interface reset of R107: rings, slots, functions, leases and BAR2 pages go; the picture stays.
R107 clears VF Enable and says nothing of NumVFs: the model keeps it (DESIGN CHOICE, log entry 100). -/
def State.hifReset (s : State) : State :=
  let s := s.abandonSlots (fun _ => true)
  let s := s.discardTricks (fun t => match t.owner with | .fn _ => true | _ => false)
  let s := s.hifRegs
  let s := { s with hif := { s.hif with
    vfEnable := false, d3hot := 0, fenced := 0, rings := [], slots := [], fnTurn := 15, ringTurn := [] } }
  { s with mv := { s.mv with sluFenced := 0 }, pmc := { s.pmc with userLatch := [] }, msix := [], pba := 0 }

/-! ### The commands of this file that start nothing else -/
def execKnockStormEnd (f : Fin 16) (r : Fin 64) (s : State) : Host.Outcome State Fault Refusal :=
  .next (s.knockStormEnd f r)
def execDoorbellPoll (s : State) : Host.Outcome State Fault Refusal := .next s.doorbellPoll
def execStaleRecordReread (f : Fin 16) (r : Fin 64) (s : State) : Host.Outcome State Fault Refusal :=
  .next (s.staleReread f r)
def execCqFull (f : Fin 16) (r : Fin 64) (s : State) : Host.Outcome State Fault Refusal := .next (s.cqFull f r)
def execHoldoffExpiry (f : Fin 16) (r : Fin 64) (s : State) : Host.Outcome State Fault Refusal :=
  .next (s.holdoffEnd f r)
def execKnock (f : Fin 16) (v : Word) (s : State) : Host.Outcome State Fault Refusal := .next (s.knock f v)

end Sys2Proof.Machine
end

