-- ==== Sys2Proof/Machine/Trump.lean ====
section
/-!
DEFINITION. The trump key, its session and lockout (R231, R232), ACK and RELEASE (R238), loss of the
host and the Causeway (R32), and the SMBus trump path (R234, R235).
-/

set_option Elab.async false  -- the joined text is large: no thread per declaration

namespace Sys2Proof.Machine

/-! ### Loss of host and Causeway (R32) -/

/-- The host counts as lost. -/
def State.hostLost (s : State) : Bool := !s.hif.linkUp || s.hif.perst

/-- The Causeway counts as lost. -/
def State.cwyLost (s : State) : Bool := s.dealer || (s.cport 0).run ≠ .active

/-! ### Key and session -/

/-- The session closes, and an armed rekey with it (R232). -/
def State.closeSession (s : State) : State :=
  { (s.setF F.GLB_TRUMP_SESSION_OPEN 0) with trump := { s.trump with armed := false } }

/-- Compare a presented key under the BAD and LOCKOUT rules; `via` is 0 from BAR0 and 1 from SMBus.
The answer is 0 accepted, 1 BAD_KEY, 2 LOCKOUT (R231). -/
def State.checkKey (s : State) (k : BitVec 64) (via : Nat) : State × Nat :=
  if s.flag F.GLB_TRUMP_SESSION_LOCKOUT then
    if s.trump.lockRec then (s, 2)
    else (({ s with trump := { s.trump with lockRec := true } }).faultDev 0x0A unitGlb via 3, 2)
  else if k = s.trump.key then (s.setF F.GLB_TRUMP_SESSION_BAD 0, 0)
  else
    let bad := min 3 (s.fld F.GLB_TRUMP_SESSION_BAD + 1)
    let s := (s.setF F.GLB_TRUMP_SESSION_BAD bad).faultDev 0x0A unitGlb via bad
    if bad = 3 then
      ({ (s.raiseF F.GLB_TRUMP_SESSION_LOCKOUT) with trump := { s.trump with lockRec := false } }, 1)
    else (s, 1)

/-- The trump key changes; UNPROV says that it is 0. -/
def State.setKey (s : State) (k : BitVec 64) : State :=
  { (s.setF F.GLB_TRUMP_SESSION_UNPROV (b2n (k = 0))) with trump := { s.trump with key := k, armed := false } }

/-- A pair is presented through BAR0 (R231). -/
def State.presentKey (s : State) (hi : Word) : State :=
  let k : BitVec 64 := hi ++ s.trump.keyLo
  let isOpen := s.flag F.GLB_TRUMP_SESSION_OPEN
  if isOpen && s.trump.armed && !s.flag F.GLB_TRUMP_SESSION_LOCKOUT then s.setKey k
  else
    let r := s.checkKey k 0
    match r.2 with
    | 0 => r.1.raiseF F.GLB_TRUMP_SESSION_OPEN
    | 1 => r.1.closeSession
    | _ => r.1

/-- KEY_LO is kept until KEY_HI is written. -/
def State.keyLoWrite (s : State) (v : Word) : State := { s with trump := { s.trump with keyLo := v } }

/-- REKEY: while a session is open the next pair becomes the key. -/
def State.armRekey (s : State) : State :=
  if s.flag F.GLB_TRUMP_SESSION_OPEN then { s with trump := { s.trump with armed := true } } else s

/-- A write of GLB_TRUMP_SESSION: TIMEOUT, CLOSE and REKEY. -/
def State.sessionWrite (s : State) (v : Word) : State :=
  let s := s.setF F.GLB_TRUMP_SESSION_TIMEOUT (bits v 7 0)
  let s := if bit v 29 then s.closeSession else s
  if bit v 28 then s.armRekey else s

/-- LOCKOUT_END: BAD reads 2. -/
def State.lockoutEnd (s : State) : State :=
  if s.alive && s.flag F.GLB_TRUMP_SESSION_LOCKOUT then
    (s.setF F.GLB_TRUMP_SESSION_LOCKOUT 0).setF F.GLB_TRUMP_SESSION_BAD 2
  else s

/-- SESSION_TIMEOUT: no TRUMP descriptor was accepted for TIMEOUT. -/
def State.sessionTimeout (s : State) : State :=
  if s.alive && s.flag F.GLB_TRUMP_SESSION_OPEN then s.closeSession else s

/-! ### ACK and RELEASE -/

/-- The check of R236 cannot run on a head: the plane is off or no sink is there. -/
def State.checkBlocked (s : State) (n : Fin 6) : Bool :=
  !s.flag (F.TRUMP_CTL_EN n) || !(s.head n).dp.hpd

/-- A value of TRUMP_CMD that the device refuses (R238). -/
def State.trumpCmdRefused (s : State) (n : Fin 6) (v : Word) : Bool :=
  let h := s.head n
  let lost := (h.fb || h.fbEnter) && h.fbCause = .hostLoss && s.hostLost && s.cwyLost
  ((bit v 0 || bit v 1) && s.flag (F.TRUMP_STAT_FAIL n) &&
    s.fld (F.TRUMP_STAT_MATCH_RUN n) < 2 && !s.checkBlocked n) || (bit v 1 && lost)

/-- An accepted TRUMP_CMD: the failure is resolved, and RELEASE ends FALLBACK at the next frame. -/
def State.trumpCmd (s : State) (n : Fin 6) (v : Word) : State :=
  let s := if bit v 0 || bit v 1 then s.setF (F.TRUMP_STAT_FAIL n) 0 else s
  if bit v 1 then s.modHead n (fun h => { h with fbLeave := h.fb, fbEnter := false }) else s

/-! ### The SMBus trump path -/

/-- RESULT of the last command. -/
def State.tpResult (s : State) (r : Nat) : State := { s with trump := { s.trump with result := r } }

/-- A RESULT the manual leaves open: the pool or the trick's limit does not admit the bytes. -/
def State.tpOpenResult (s : State) : State :=
  ({ s with free := s.free + 1 }).tpResult ((Config.freeWord s.free).toNat % 256)

/-- The SMBus answers. -/
def State.smbAlive (s : State) : Bool := !(s.glob.mode = .off) && !s.glob.heldInReset

/-- A command of the path: PEC first, then FREEZE (R234, R235). In DOZE and SLUMBER every transaction is
a wake event too (R407). -/
def State.tpRun (s : State) (pec : Bool) (f : State → State) : State :=
  if !s.smbAlive then s
  else if !pec then { s with trump := { s.trump with pecFails := min 255 (s.trump.pecFails + 1) } }
  else if s.frozen then s.tpResult 6 else f (s.noteWake 0x06)

/-- A command that only the holder may give. -/
def State.tpHeld (s : State) (f : State → Fin 6 → State) : State :=
  match s.trump.held with | some n => f s n | none => s.tpResult 3

/-- Discard the batch. -/
def State.tpDiscard (s : State) : State :=
  let s := match s.trump.batch with | some k => s.dropTrick k | none => s
  { s with trump := { s.trump with batch := none, region := none } }

/-- The batch's trick, opened when first needed. -/
def State.tpBatch (s : State) (n : Fin 6) : State × Nat :=
  match s.trump.batch with
  | some k => (s, k)
  | none =>
    let r := s.openTrick .smbus 0 (BitVec.ofNat 6 (2 ^ n.val)) false
    ({ r.1 with trump := { r.1.trump with batch := some r.2 } }, r.2)

/-- TP_OPEN (R234). -/
def State.tpOpen (s : State) (key : BitVec 64) (head : Nat) : State :=
  let r := s.checkKey key 1
  if r.2 ≠ 0 then r.1.tpResult r.2
  else if h : head < 6 then
    if r.1.headPresent head then
      let s := r.1.tpDiscard
      ({ s with trump := { s.trump with held := some ⟨head, h⟩, revoked := false } }).tpResult 0
    else r.1.tpResult 4
  else r.1.tpResult 4

/-- Trump region of a head as the batch sees it. -/
def State.tpRegion (s : State) (n : Fin 6) : Nat × Nat :=
  match s.trump.region with
  | some w => (bits w 25 16 * 0x10000, bits w 25 16 * 0x10000 + bits w 7 0 * 0x10000)
  | none => s.trumpRegion n

/-- TP_DATA: bytes at an offset from the source's start go into the batch's pages (R228, R234). -/
def State.tpData (s : State) (n : Fin 6) (off : Nat) (data : List Byte) : State :=
  let g := s.tpRegion n
  let a := cdiv g.1 192 * 192 + off
  if g.2 < a + data.length then s.tpResult 4
  else
    let b := s.tpBatch n
    match b.1.trick b.2 with
    | none => s
    | some t =>
      let p : Plan := [(a, data)]
      match b.1.poolGrant t (t.lacks p).length with
      | .ok => (b.1.stagePlan b.2 p markRange).tpResult 0
      | _ => b.1.tpOpenResult

/-- Stage one field of the batch. -/
def State.tpStage (s : State) (n : Fin 6) (r : RegId) (v : Word) : State :=
  let b := s.tpBatch n
  match b.1.stageRegs b.2 [⟨r, n, 0, v, BitVec.ofNat 32 (r.row).rw.toNat⟩] with
  | some s => s.tpResult 0
  | none => b.1.tpOpenResult

/-- TP_REG (R234, R238). -/
def State.tpReg (s : State) (n : Fin 6) (index : Nat) (v : Word) : State :=
  match index with
  | 0 => s.tpStage n .TRUMP_CTL v
  | 1 => s.tpStage n .TRUMP_SRC v
  | 2 => s.tpStage n .TRUMP_POS v
  | 3 => s.tpStage n .TRUMP_SIG v
  | 4 => if s.trumpCmdRefused n v then s.tpResult 5 else (s.trumpCmd n v).tpResult 0
  | 5 => s.tpStage n .TRUMP_FB_BG v
  | 6 =>
    if s.trumpRefused n v then s.tpResult 4
    else
      let s := s.tpStage n .MEM_TRUMP_HD v
      { s with trump := { s.trump with region := some v } }
  | _ => s.tpResult 4

/-- TP_COMMIT: the batch becomes a staged trick, if one of the 16 places is free (R234). -/
def State.tpCommit (s : State) : State :=
  match s.trump.batch with
  | none => s.tpResult 0
  | some k =>
    if s.stagedCount < 16 then
      let s := s.becomeStaged k
      ({ s with trump := { s.trump with batch := none, region := none } }).tpResult 0
    else s.tpResult 8

/-- A trick of the path is staged or not yet shown on every head: STATE 2. -/
def State.tpCommitting (s : State) : Bool :=
  s.trk.tricks.any (fun t => t.owner = .smbus && some t.key ≠ s.trump.batch) ||
  s.trk.shown.any (fun x => x.owner = .smbus)

/-- TP_STATUS: the 16 bytes of the table before R234. What it says of a head while none is held is
left open. -/
def State.tpStatus (s : State) : State :=
  let state := if s.tpCommitting then 2 else if s.trump.held.isSome then 1 else 0
  let result := if s.trump.revoked then 7 else s.trump.result
  let ws : List Nat := match s.trump.held with
    | some n => [(putBits (s.reg .TRUMP_STAT n 0) 28 28 1).toNat, (s.reg .TRUMP_SIG_LAST n 0).toNat,
                 (s.head n).frame.toNat]
    | none => [(Config.freeWord s.free).toNat, (Config.freeWord (s.free + 1)).toNat,
               (Config.freeWord (s.free + 2)).toNat]
  let bs := leBytes 1 state ++ leBytes 1 result ++ leBytes 1 s.trump.pecFails ++
    leBytes 1 (match s.trump.held with | some n => n.val | none => 0xFF) ++ ws.flatMap (fun w => leBytes 4 w)
  { (s.emit (.smb bs)) with free := s.free + 3, trump := { s.trump with revoked := false } }

/-- TP_LEASE_EXPIRY (R235). -/
def State.tpLease (s : State) : State :=
  match s.trump.held with
  | none => s
  | some n =>
    if !s.alive then s
    else
      let s := (s.tpDiscard).faultDev 0x0B unitGlb 0xFF n.val
      { s with trump := { s.trump with held := none, revoked := true } }

/-! ### The commands of this file that start nothing else -/
def execTrumpKeyLoWrite (v : Word) (s : State) : Host.Outcome State Fault Refusal :=
  .next (s.barWrite 0x100 (fun s => s.keyLoWrite v))
def execKeyPresentation (hi : Word) (s : State) : Host.Outcome State Fault Refusal :=
  .next (s.barWrite 0x104 (fun s => s.presentKey hi))
def execSessionClose (s : State) : Host.Outcome State Fault Refusal :=
  .next (s.barWrite 0x108 State.closeSession)
def execRekey (s : State) : Host.Outcome State Fault Refusal :=
  .next (s.barWrite 0x108 State.armRekey)
def execSessionTimeout (s : State) : Host.Outcome State Fault Refusal := .next s.sessionTimeout
def execLockoutEnd (s : State) : Host.Outcome State Fault Refusal := .next s.lockoutEnd
def execTpStatus (pec : Bool) (s : State) : Host.Outcome State Fault Refusal :=
  .next (if !s.smbAlive then s
    else if !pec then { s with trump := { s.trump with pecFails := min 255 (s.trump.pecFails + 1) } }
    else (s.noteWake 0x06).tpStatus)

end Sys2Proof.Machine
end

