-- ==== Sys2Proof/Machine/Reset.lean ====
section
/-!
DEFINITION. Resets (R50 to R60, R107, R408), reference clocks (R21 to R25), temperature (R64), loss
of the host (R32) and the PCIe events that reset nothing else.
-/

set_option Elab.async false  -- the joined text is large: no thread per declaration

namespace Sys2Proof.Machine

/-! ### Flash under a reset or a power cut -/

/-- The slot a store writes: the one not in force (R423); slot 0 where none is. -/
def Journal.target (j : Journal) : Fin 2 :=
  match j.inForce with | some 0 => 1 | _ => 0

/-- SEQ a store writes (R419, R423). -/
def Journal.nextSeq (j : Journal) : Nat :=
  match j.inForce with
  | some k => (j.slots[k].record).getD 0 + 1
  | none => 1

def Journal.modSlot (j : Journal) (k : Fin 2) (f : JSlot → JSlot) : Journal :=
  { j with slots := j.slots.set k (f j.slots[k]) }

/-- What the step in progress leaves when the device stops in it: `whole` says that the flash ended
the operation, `torn` that a header was torn (R51, R424, R425). -/
def Journal.cut (j : Journal) (whole torn : Bool) : Journal :=
  match j.store with
  | none => j
  | some st =>
    let k := j.target
    let q := j.nextSeq
    match st.step with
    | 1 => j.modSlot k (fun x => if whole then { x with record := none } else x)
    | 2 => j.modSlot k (fun x => { x with header := none, headerBad := false })
    | 3 => j.modSlot k (fun x => if whole then { x with header := some q } else { x with headerBad := torn })
    | 7 => j.modSlot k (fun x => if whole then { x with record := some q } else x)
    | _ => j

/-- The journal as a reset leaves it: the flash, and nothing of the store or of boot. -/
def State.flashAfter (s : State) : Journal :=
  { slots := (s.jrnl.cut (Config.freeBool s.free) (Config.freeBool (s.free + 1))).slots }

/-! ### Cold and warm resets -/

/-- Levels of GPIO0 to GPIO4 that straps stand for (R60). -/
def strapPins (x : Straps) : Nat :=
  b2n x.refsel + 2 * b2n x.dealer + 4 * x.smbAddr.toNat + 16 * b2n x.jrnlSkip

/-- Sample the straps (R21, R60). -/
def State.sampleStraps (s : State) (x : Straps) : State :=
  let s := { s with gpio := { s.gpio with pins := putBits s.gpio.pins 4 0 (strapPins x) } }
  let s := (s.setF F.GLB_STRAPS_REFSEL (b2n x.refsel)).setF F.GLB_STRAPS_DEALER (b2n x.dealer)
  let s := (s.setF F.GLB_STRAPS_SMB_ADDR x.smbAddr.toNat).setF F.GLB_STRAPS_JRNL_SKIP (b2n x.jrnlSkip)
  let s := (s.setF F.GLB_CLK_STATUS_REF_STRAP (b2n x.refsel)).setF F.GLB_CLK_STATUS_ROOT_SRC (b2n x.refsel)
  { s with jrnl := { s.jrnl with skip := x.jrnlSkip } }

/-- What no reset reaches: the part, the flash, levels outside, the record of what was sent, the
queue, and the count of free values. -/
def State.bare (s : State) (m : Mode) : State :=
  { part := s.part
    free := s.free + 3
    mem := DevMem.unknown (s.free + 2)
    glob := { mode := m }
    hif := { perst := s.hif.perst }
    gpio := { pins := s.gpio.pins }
    jrnl := s.flashAfter
    out := s.out
    pending := s.pending }

/-- PWR_OK_RISE: a cold start; RESET_N low holds it (R50, R55). -/
def State.powerUp (s : State) (x : Straps) (resetLow : Bool) : State :=
  if s.glob.mode ≠ .off then s
  else
    let s := s.bare .bringUp
    if resetLow then { s with glob := { s.glob with heldInReset := true } } else s.sampleStraps x

/-- PWR_OK_FALL: the device enters OFF (R51). -/
def State.powerDown (s : State) : State :=
  if s.glob.mode = .off then s else s.bare .off

/-- The entries of the Peat mirror as PRIOR entries of the new ring, oldest first (R462). -/
def priorRing (mirror : List Flt) : List Flt :=
  mirror.zipIdx.map (fun (e : Flt × Nat) => { e.1 with prior := true, seq := e.2, orig := e.1.seq })

/-- A warm reset: everything but the always-on domain and the flash (R54, R408). The mirror goes into the
new ring, and is emptied, with the reset: R462 asks that it be done before the 40 ms milestone. -/
def State.warmReset (s : State) : State :=
  let old := s
  let s := s.bare .bringUp
  let s := { s with
    glob := { s.glob with prev := old.glob.mode, cause := 1, hostLossHeld := old.glob.hostLossHeld
                          frzPin := old.glob.frzPin }
    dbg := { ring := priorRing old.dbg.mirror } }
  let s := (s.setF F.DBG_FLT_NEXT_SEQ old.dbg.mirror.length).setF F.DBG_FLT_PRIOR_COUNT old.dbg.mirror.length
  let s := s.setReg .GLB_RESET_CAUSE 0 0 (old.reg .GLB_RESET_CAUSE 0 0)
  let s := s.setReg .GLB_TEMP 0 0 (putBits (old.reg .GLB_TEMP 0 0) 10 0 0)
  let s := s.setReg .GLB_STRAPS 0 0 (old.reg .GLB_STRAPS 0 0)
  let s := (s.setF F.PWR_STAT_PEAT_ERR (old.fld F.PWR_STAT_PEAT_ERR)).raiseF F.GLB_CLK_STATUS_AON_OK
  if old.glob.hifResetPending then s.raiseF F.GLB_RESET_CAUSE_HIF else s

/-- A warm reset from a source that GLB_RESET_CAUSE names, with the straps as sampled at its end. The warm
sources that coincide are one reset, and each sets its bit (R59). -/
def State.warmFrom (s : State) (cause : Fld) (x : Straps) : State :=
  let s := (s.warmReset).raiseF cause
  let s := if x.withPin then s.raiseF F.GLB_RESET_CAUSE_PIN else s
  let s := if x.withSoft then s.raiseF F.GLB_RESET_CAUSE_SOFT else s
  let s := if x.withWdog then s.raiseF F.GLB_RESET_CAUSE_WDOG else s
  s.sampleStraps x

/-- RESET_N_PULSE (R55). -/
def State.resetPulse (s : State) (ns : Nat) (x : Straps) : State :=
  if s.glob.mode = .off then s
  else if s.glob.heldInReset then
    ({ s with glob := { s.glob with heldInReset := false } }).sampleStraps x
  else if 100 ≤ ns then s.warmFrom F.GLB_RESET_CAUSE_PIN x
  else if ns < 20 then s
  else
    let b := Config.shortPulseResets s.free
    let s := { s with free := s.free + 1 }
    if b then s.warmFrom F.GLB_RESET_CAUSE_PIN x else s

/-- The straps as the balls GPIO0 to GPIO4 were last seen, for a warm reset whose row brings none: they are
sampled anew at its end (R60). -/
def State.strapsNow (s : State) : Straps :=
  { refsel := bit s.gpio.pins 0, dealer := bit s.gpio.pins 1
    smbAddr := BitVec.ofNat 2 (bits s.gpio.pins 3 2), jrnlSkip := bit s.gpio.pins 4 }

/-- A write of GLB_RESET (R54). -/
def State.resetWrite (s : State) (v : Word) (x : Straps) : State :=
  if bits v 31 16 = 0xA5C3 && bit v 0 then s.warmFrom F.GLB_RESET_CAUSE_SOFT x else s

/-! ### Clocks -/

/-- PLL_LOCK (R21). The locked root lets boot go on and the Causeway ports train (R426). -/
def State.pllLock (s : State) (p : Pll) : State :=
  if !s.alive then s
  else match p with
    | .root =>
      let s := (s.raiseF F.GLB_CLK_STATUS_ROOT_LOCK).raiseF F.GLB_CLK_STATUS_AON_OK
      let s := if s.jrnl.boot = .start then { s with jrnl := { s.jrnl with boot := .locked } } else s
      s.portsStart
    | .aclk48 => s.raiseF F.GLB_CLK_STATUS_ACLK48_LOCK
    | .aclk44 => s.raiseF F.GLB_CLK_STATUS_ACLK44_LOCK

/-- PLL_LOCK_LOSS, and the other unit failures of R7: a record with its reason, and the unit's presence bit
stays. -/
def State.pllLoss (s : State) (u : UnitFault) : State :=
  let lose (f : Fld) (unit : Nat) : State :=
    if s.alive && s.flag f then (s.setF f 0).faultDev 0x1B unit 0xFF 1 else s
  match u with
  | .pll .root => lose F.GLB_CLK_STATUS_ROOT_LOCK unitGlb
  | .pll .aclk48 => lose F.GLB_CLK_STATUS_ACLK48_LOCK unitAud
  | .pll .aclk44 => lose F.GLB_CLK_STATUS_ACLK44_LOCK unitAud
  | .dramTraining => if s.alive then s.faultDev 0x1B unitMem 0xFF 2 else s
  | .sramRepair unit => if s.alive then s.faultDev 0x1B unit.toNat 0xFF 3 else s

/-- A REFCLK record: lost or returned, with the clock status. -/
def State.refRecord (s : State) (lost : Bool) : State :=
  s.faultDev 0x1D unitGlb 0xFF (b2n lost + bits (s.reg .GLB_CLK_STATUS 0 0) 15 0 * 65536)

def State.setRef (s : State) (r : RefPhase) : State := { s with glob := { s.glob with ref := r } }

/-- REF_LOST (R25). A root that tracks its upstream port is not moved by it. -/
def State.refLost (s : State) : State :=
  if !s.linked || !s.flag F.GLB_CLK_STATUS_REF_STRAP || s.glob.pcieRefLost then s
  else
    let s := { s with glob := { s.glob with pcieRefLost := true } }.raiseF F.GLB_CLK_STATUS_REF_LOST
    let s := if s.glob.tracking || (s.glob.ref ≠ .locked && s.glob.refCwy) then s
      else ({ s with glob := { s.glob with ref := .holdover, refCwy := false } }).raiseF F.GLB_CLK_STATUS_HOLDOVER
    s.refRecord true

/-- HOLDOVER_EXPIRY (R24, R25). -/
def State.holdoverEnd (s : State) : State :=
  if s.linked && s.glob.ref = .holdover then s.setRef .slewAway else s

/-- SLEW_END: the root runs from the reference it slewed to (R24, R25). HOLDOVER outlasts a slew away
from a lost PCIe reference. -/
def State.slewEnd (s : State) : State :=
  if !s.linked then s
  else
    let pcie := s.flag F.GLB_CLK_STATUS_REF_STRAP && !s.glob.pcieRefLost
    match s.glob.ref with
    | .slewAway =>
      let s := (s.setRef .locked).setF F.GLB_CLK_STATUS_ROOT_SRC (b2n pcie)
      if s.glob.refCwy then s.setF F.GLB_CLK_STATUS_HOLDOVER 0 else s
    | .slewTo =>
      ((s.setRef .locked).setF F.GLB_CLK_STATUS_ROOT_SRC (if s.glob.tracking then 2 else b2n pcie)).setF
        F.GLB_CLK_STATUS_HOLDOVER 0
    | _ => s

/-- REF_RETURN (R25). -/
def State.refReturn (s : State) : State :=
  if !s.linked || !s.glob.pcieRefLost then s
  else
    let s := { s with glob := { s.glob with pcieRefLost := false } }
    let s := if s.glob.tracking || (s.glob.ref ≠ .locked && s.glob.refCwy) then s else s.setRef .slewTo
    s.refRecord false

/-! ### Temperature -/

/-- Highest and lowest of the eight readings, in quarter degrees. -/
def tempRange (r : Vector (BitVec 11) 8) : Int × Int :=
  let l := r.toList.map BitVec.toInt
  (l.foldl max (-1024), l.foldl min 1023)

/-- TEMP_MEASUREMENT (R64): an excursion is recorded when it starts. -/
def State.tempMeasure (s : State) (r : Vector (BitVec 11) 8) : State :=
  if !s.alive then s
  else
    let hi := (tempRange r).1
    let lo := (tempRange r).2
    let hot := decide (500 < hi)
    let icy := decide (lo < -220)
    let was := s.glob
    let top := max hi (signed 11 (s.fld F.GLB_TEMP_TEMP_MAX))
    let s := (s.setF F.GLB_TEMP_TEMP_NOW (wrapInt 11 hi)).setF F.GLB_TEMP_TEMP_MAX (wrapInt 11 top)
    let s := if hot then s.raiseF F.GLB_TEMP_OVER else s
    let s := if icy then s.raiseF F.GLB_TEMP_UNDER else s
    let s := if hot && !was.tempOver then s.faultDev 0x01 unitGlb 0xFF (wrapInt 11 hi + 65536) else s
    let s := if icy && !was.tempUnder then s.faultDev 0x01 unitGlb 0xFF (wrapInt 11 lo + 131072) else s
    { s with glob := { s.glob with tempOver := hot, tempUnder := icy } }

/-! ### Loss of the host (R32) -/

/-- Every enabled head goes to FALLBACK for loss of host and Causeway: a composing head at its next
frame, one whose beams are stopped at once. -/
def State.hostFallbackHeads (s : State) : State :=
  s.enabledHeads.foldl (fun s n =>
    let h := s.head n
    if h.fb then s
    else
      let s := s.modHead n (fun h => { h with fbCause := .hostLoss })
      if h.beams && h.blank = .none then s.modHead n (fun h => { h with fbEnter := true })
      else s.enterFb n) s

/-- The heads go to FALLBACK, and the device follows its heads (R29). -/
def State.hostFallback (s : State) : State :=
  let s := s.hostFallbackHeads
  match s.glob.mode with
  | .run | .coast => if s.enabledHeads.isEmpty then s.setMode .fallback 0xA else s.reviewMode
  | _ => s

/-- Host and Causeway are lost and the trigger is enabled. -/
def State.bothLost (s : State) : Bool := s.hostLost && s.cwyLost && s.fld F.GLB_FB_CTL_HOSTLOSS_S ≠ 0

/-- A held expiry is judged again when the device can act on it. -/
def State.hostLossReview (s : State) : State :=
  if s.glob.hostLossHeld then
    let s := { s with glob := { s.glob with hostLossHeld := false } }
    if s.bothLost then s.hostFallback else s
  else s

/-- The expiry wakes a sleeping device, which is in FALLBACK once it is awake (R32, R407). -/
def State.hostLossSleep (s : State) : State :=
  { s with glob := { s.glob with hostLossWake := true } }.noteWake 0x09

/-- The exit of a sleep in which host and Causeway were lost, or an entry abandoned, ends in FALLBACK
(R29, R32). -/
def State.hostLossAwake (s : State) : State :=
  if s.glob.hostLossWake then
    let s := { s with glob := { s.glob with hostLossWake := false } }
    if s.enabledHeads.isEmpty && s.glob.mode ≠ .fallback then s.setMode .fallback 0xA else s
  else s

/-- HOST_LOSS_EXPIRY (R32). During an entry to sleep, whose modes are DOZE and SLUMBER to it, it is the wake
event 0x09, and the mode follows the wake (R405, R413). -/
def State.hostLossExpiry (s : State) : State :=
  if !s.linked || !s.bothLost then s
  else match s.glob.mode with
    | .run | .coast | .fallback => if s.sleeping then s.hostFallbackHeads.hostLossSleep else s.hostFallback
    | .doze | .slumber => s.hostFallbackHeads.hostLossSleep
    | _ => { s with glob := { s.glob with hostLossHeld := true } }

/-! ### Host-interface resets -/

/-- All that R107 does, with what other chapters add: the trump session closes (R232), host-fed audio and
samples in flight are lost (R377), capture rings stop (R373), and GLB_RESET_CAUSE.HIF is set. -/
def State.hifResetAll (s : State) : State :=
  let old := s
  let s := (s.hifReset.closeSession.playQuit (fun _ => true)).audLoseFlight
  let s := (List.range 8).foldl (fun s r => s.setF (F.CAP_CTL_EN r) 0) s
  (s.raiseF F.GLB_RESET_CAUSE_HIF).ltrFrom old

/-- A cause of host-interface reset arrives; in FREEZE its effects wait for the release (R457). -/
def State.hifCause (s : State) : State :=
  if !s.linked then s
  else if s.frozen then { s with glob := { s.glob with hifResetPending := true } }
  else s.hifResetAll

def State.perstAssert (s : State) : State :=
  ({ s with hif := { s.hif with perst := true, linkUp := false } }).hifCause

def State.linkDown (s : State) : State := ({ s with hif := { s.hif with linkUp := false } }).hifCause

/-- PCIE_LINK_UP: the host no longer counts as lost. -/
def State.linkUp (s : State) : State :=
  if s.linked then { s with hif := { s.hif with linkUp := true, perst := false } } else s

/-- A poisoned write to the device: dropped, reported and logged (R71). That it wakes a sleeping device as
any request does is a choice of the model (DESIGN CHOICE, log entry 79): no rule says whether it does. -/
def State.poisoned (s : State) (f : Fin 16) (addr : BitVec 64) : State :=
  if !s.linked then s
  else
    let s := s.emit .aer
    if s.alive then (s.noteWake 0x02).logEntry f 0xFF 0 0x12 addr.toNat else s

/-- HOST_WRITE: a poisoned write to the device, or a write of the device that failed. It is dropped and
logged, against its ring where it is of one (R104); a log entry's only counts as dropped (R106). -/
def State.writeFailed (s : State) (w : WriteFault) (a : BitVec 64) : State :=
  match w with
  | .poisoned f => s.poisoned f a
  | .ring f r tag => if s.alive then s.violate f r tag.toNat 0x12 a.toNat else s
  | .data f => if s.alive then s.logEntry f 0xFF 0 0x12 a.toNat else s
  | .log f => if s.alive then s.incF (F.VLG_DROP_COUNT f) else s

/-- NUMVFS_WRITE: a number above VF_MAX is rejected; the number stands while VF Enable is 1 (R8). -/
def State.numVfsWrite (s : State) (num : Nat) (enable : Bool) : State :=
  if !s.linked || s.part.vfMax < num then s
  else { s with hif := { s.hif with
    numVfs := if s.hif.vfEnable then s.hif.numVfs else num, vfEnable := enable } }

/-! ### The commands of this file that start nothing else -/
def execPwrOkRise (x : Straps) (low : Bool) (s : State) : Host.Outcome State Fault Refusal := .next (s.powerUp x low)
def execPwrOkFall (s : State) : Host.Outcome State Fault Refusal := .next s.powerDown
def execResetNPulse (ns : Nat) (x : Straps) (s : State) : Host.Outcome State Fault Refusal := .next (s.resetPulse ns x)
def execGlbResetWarm (v : Word) (x : Straps) (s : State) : Host.Outcome State Fault Refusal :=
  .next (s.barWrite 0x40 (fun s => s.resetWrite v x))
def execWatchdogExpiry (x : Straps) (s : State) : Host.Outcome State Fault Refusal :=
  .next (if s.linked then s.warmFrom F.GLB_RESET_CAUSE_WDOG x else s)
def execRefLost (s : State) : Host.Outcome State Fault Refusal := .next s.refLost
def execHoldoverExpiry (s : State) : Host.Outcome State Fault Refusal := .next s.holdoverEnd
def execSlewEnd (s : State) : Host.Outcome State Fault Refusal := .next s.slewEnd
def execRefReturn (s : State) : Host.Outcome State Fault Refusal := .next s.refReturn
def execTempMeasurement (r : Vector (BitVec 11) 8) (s : State) : Host.Outcome State Fault Refusal :=
  .next (s.tempMeasure r)
def execPoisonedWrite (w : WriteFault) (a : BitVec 64) (s : State) : Host.Outcome State Fault Refusal :=
  .next (s.writeFailed w a)
def execNumvfsWrite (num : Nat) (enable : Bool) (s : State) : Host.Outcome State Fault Refusal :=
  .next (s.numVfsWrite num enable)

end Sys2Proof.Machine
end

