-- ==== Sys2Proof/Machine/Journal.lean ====
section
/-!
DEFINITION. The configuration journal (R417 to R425) and boot (R426 to R429): what a store captures
and writes, how it ends, which slot boot chooses, and what it restores from it. A slot's sections are
kept as what they hold; the flash operations of a step end with one command each, those of R423
step 5 with one for each 64 KiB unit.
-/

set_option Elab.async false  -- the joined text is large: no thread per declaration

namespace Sys2Proof.Machine

def State.modJ (s : State) (f : Journal → Journal) : State := { s with jrnl := f s.jrnl }

/-! ### Sections -/

/-- Registers of the EARLY section (R420). -/
def isEarlyReg (r : RegId) : Bool :=
  match r with
  | .HEAD_CTL | .TS_H | .TS_HSYNC | .TS_V | .TS_VSYNC | .TS_CLK | .TS_LINK | .SINK_CTL | .SINK_RING
  | .SINK_WB_LO | .SINK_WB_HI | .SINK_WB_CFG | .PACE_CTL | .MELD_BG => true
  | _ => false

/-- Registers of the TRUMP section (R420). -/
def isTrumpReg (r : RegId) : Bool :=
  match r with
  | .MEM_TRUMP_HD | .TRUMP_CTL | .TRUMP_SRC | .TRUMP_POS | .TRUMP_SIG | .TRUMP_FB_BG | .CWY_BENCH_HD
  | .CWY_BENCH_SIG => true
  | _ => false

/-- Registers of the CONFIG section: GLB, MEM_POOL, TRK_HD_CTL, PWR, JOURNAL and CWY (R420). -/
def isConfigReg (r : RegId) : Bool :=
  let a := r.row.base
  !isTrumpReg r && !isEarlyReg r &&
  (a < 0x20000 || (0x280000 ≤ a && a < 0x2A0000) || (match r with | .MEM_POOL | .TRK_HD_CTL => true | _ => false))

/-- Registers of the REGS section: every other field marked "kept". -/
def isSceneReg (r : RegId) : Bool := !isTrumpReg r && !isEarlyReg r && !isConfigReg r

/-- Kept fields of the registers of a kind that differ from their Cold values, as they are committed. -/
def State.keptRegs (s : State) (p : RegId → Bool) : SMap :=
  s.regs.filterMap (fun e => match decodeReg e.1 with
    | some (r, _, _) => if r.row.kept ≠ 0 && p r then some e else none
    | none => none)

/-- Tarn or DRAM byte of the content a store captures: pages replaced since the snapshot are still
there (R422). -/
def State.snapRead (s : State) (a : Nat) : Byte :=
  match s.oldPages.find? (fun p => p.snap && p.page = pageOf a) with
  | some p => p.img.read a
  | none => s.mem.read a

def State.snapBytes (s : State) (a n : Nat) : List Byte := (List.range n).map (fun k => s.snapRead (a + k))

/-- The early plane, when it is a FEN surface over one of the two colour formats (R420). -/
def State.snapEarly (s : State) : Option (Nat × List Byte) :=
  if s.flag F.JOURNAL_EARLY_EN then
    let base := s.fld F.JOURNAL_EARLY_BASE * 64
    match fenHeader s s.snapRead base with
    | some hd => if hd.fmt = 4 || hd.fmt = 5 then some (base, s.snapBytes base (hd.data + hd.size)) else none
    | none => none
  else none

/-- A stored range: enabled and of some size. -/
def State.rangeOn (s : State) (k : Nat) : Bool :=
  s.flag (F.JOURNAL_RANGE_LO_EN k) && s.fld (F.JOURNAL_RANGE_HI_SIZE k) ≠ 0

/-- Device address and size of range `k`. -/
def State.rangeOf (s : State) (k : Nat) : Nat × Nat :=
  ((if s.flag (F.JOURNAL_RANGE_LO_MEM k) then dramBase else 0) + s.fld (F.JOURNAL_RANGE_LO_BASE k) * 0x10000,
   s.fld (F.JOURNAL_RANGE_HI_SIZE k) * 0x10000)

/-- The range lies where its content may be stored. -/
def State.rangeOk (s : State) (k : Nat) : Bool :=
  let r := s.rangeOf k
  s.present r.1 r.2 && !s.touchesTrump r.1 r.2 && (s.flag (F.JOURNAL_RANGE_LO_MEM k) || r.1 + r.2 ≤ s.tarnTop)

/-- The active bank of a domain as an image. -/
def AudDom.bankNow (m : AudDom) : Option AudImage :=
  m.image.map (fun i => { i with
    coef := (List.range 1024).map (fun k => BitVec.ofInt 24 (cAt m.coef k))
    samp := (List.range 1024).map (fun k => BitVec.ofInt 32 (sAt m.samp k)) })

/-- What a store captures (R420, R422). -/
def State.capture (s : State) : Scene :=
  { config := s.keptRegs isConfigReg
    regs := s.keptRegs isSceneReg
    key := s.trump.key
    early := s.snapEarly
    trump := allHeads.filterMap (fun (n : Fin 6) =>
      let r := s.trumpRegion n
      if s.headPresent n && r.1 < r.2 then some (r.1, s.snapBytes r.1 (r.2 - r.1)) else none)
    trumpRegs := s.keptRegs isTrumpReg
    earlyRegs := s.keptRegs isEarlyReg
    lastIds := allHeads.map (fun (n : Fin 6) => s.reg .TRK_HD_LAST_ID n 0)
    seqs := allSeqs.filterMap (fun (q : Fin 8) =>
      if s.flag (F.SEQ_CTL_EN q) then some (q, (s.seq q).bank) else none)
    audio := allDoms.filterMap (fun (d : Fin 3) => (s.dm d).bankNow.map (fun i => (d, i)))
    ranges := ((List.range 16).filter (fun k => s.rangeOn k && s.rangeOk k)).map (fun k =>
      let r := s.rangeOf k
      (r.1, s.snapBytes r.1 r.2)) }

/-- Writes that bypass tricks and land during the copy are included or not in whole 64-byte units
(R422): each unit of the section holds the content at the snapshot or at the end of the copy. -/
def State.mergeCopy (s : State) (stamp : Nat) (sec : Nat × List Byte) : Nat × List Byte :=
  (sec.1, sec.2.zipIdx.map (fun (e : Byte × Nat) =>
    let a := sec.1 + e.2
    if Config.roundUp stamp (a / 64) then s.snapRead a else e.1))

/-- Bytes on the flash of a section: it starts on a 4 KiB boundary. -/
def sectionSize (n : Nat) : Nat := cdiv n 4096 * 4096

/-- Bytes of all sections (R418, R420). -/
def Scene.size (c : Scene) : Nat :=
  let own (k : Nat) : Nat := Config.sectionBytes k
  sectionSize (own 1) + sectionSize (own 2) +
  sectionSize (own 3 + (match c.early with | some e => e.2.length | none => 0)) +
  sectionSize (own 4 + (c.trump.map (fun e => e.2.length)).sum) + sectionSize (own 5) +
  (if c.seqs.isEmpty then 0 else sectionSize (own 6 + c.seqs.length * 61440)) +
  (if c.audio.isEmpty then 0 else sectionSize (own 7)) +
  (c.ranges.map (fun e => sectionSize e.2.length)).sum

/-- 64 KiB units a store programs: the header's sector and the sections. -/
def Scene.units (c : Scene) : Nat := cdiv (4096 + c.size) 65536

/-! ### A store -/

/-- Flash offset at which the slot being written starts. -/
def State.storeBase (s : State) : Nat := s.jrnl.target.val * 0x800000

/-- Start the flash operation of a step (R423): 0 erase, 1 program, 2 read back. -/
def State.storeStep (s : State) (k : Nat) : State :=
  let base := s.storeBase
  let s := s.modJ (fun j => { j with store := j.store.map (fun (st : Store) => { st with step := k }) })
  match k with
  | 1 => s.emit (.qspi 0 (base + 0x7FF000))
  | 2 => s.emit (.qspi 0 base)
  | 3 => s.emit (.qspi 1 base)
  | 4 => s.emit (.qspi 0 (base + 0x10000))
  | 5 => s.emit (.qspi 1 (base + 0x1000))
  | 6 => s.emit (.qspi 2 (base + 0x1000))
  | _ => s.emit (.qspi 1 (base + 0x7FF000))

/-- A store starts: BUSY, its origin, and no unit programmed. It waits for its snapshot. -/
def State.storeStart (s : State) (slot : Option Nat) : State :=
  let s := (s.raiseF F.JOURNAL_STATUS_BUSY).setF F.JOURNAL_STATUS_ORIGIN (if slot.isSome then 1 else 2)
  (s.setF F.JOURNAL_STATUS_PROGRESS 0).modJ (fun j => { j with
    store := some { slot := slot, origin := if slot.isSome then 1 else 2 } })

/-- The next store in the queue starts when none runs (R421). -/
def State.storeNext (s : State) : State :=
  match s.jrnl.store, s.jrnl.queue with
  | none, x :: rest => (s.modJ (fun j => { j with queue := rest })).storeStart x
  | _, _ => s

/-- Ask for a store: of a descriptor, or of the device's own (R421). With STRAP_JRNL_SKIP the journal is
never written (R429). -/
def State.storeAsk (s : State) (slot : Option Nat) : State :=
  if s.jrnl.skip then s
  else (s.modJ (fun j => { j with queue := j.queue ++ [slot] })).storeNext

/-- Pages held for the snapshot alone return to the pool (R422). -/
def State.dropSnaps (s : State) : State :=
  { s with oldPages := (s.oldPages.map (fun (p : OldPage) => { p with snap := false })).filter (fun p => p.heads ≠ 0) }

/-- The store is over; the next may start. -/
def State.storeOver (s : State) : State :=
  ((s.dropSnaps.setF F.JOURNAL_STATUS_BUSY 0).modJ (fun j => { j with store := none })).storeNext

/-- A store that failed in the flash (R424). -/
def State.storeFail (s : State) (st : Store) (status off : Nat) : State :=
  let s := (s.raiseF F.JOURNAL_STATUS_FAILED).setF F.JOURNAL_FAIL_V off
  let s := match st.slot with | some id => s.complete id status (BitVec.ofNat 32 off) | none => s
  s.storeOver

/-- JOURNAL_SNAPSHOT: the scene at the first instant without an application (R422). Ranges that may
not be stored are recorded; content that does not fit ends the store. -/
def State.journalSnapshot (s : State) : State :=
  match s.jrnl.store with
  | none => s
  | some st =>
    if !s.alive || st.scene.isSome || !s.trk.queue.isEmpty then s
    else
      let c := s.capture
      let s := ((List.range 16).filter (fun k => s.rangeOn k && !s.rangeOk k)).foldl (fun s k =>
        s.faultDev 0x19 unitPwr k (s.reg .JOURNAL_RANGE_LO k 0).toNat) s
      if 8 * 0x100000 - 8192 < c.size then
        let s := match st.slot with
          | some id =>
            let d := s.freeDetail
            d.1.completeViol id stViolation 0x1C d.2
          | none => s
        s.storeOver
      else s.modJ (fun j => { j with store := some { st with scene := some c } })

/-- SNAPSHOT_COPY_END: the copy is whole, and the flash operations begin (R422, R423). -/
def State.snapshotCopyEnd (s : State) : State :=
  match s.jrnl.store with
  | none => s
  | some st =>
    match st.scene with
    | none => s
    | some c =>
      if !s.alive || st.copied then s
      else
        let c := { c with early := c.early.map (s.mergeCopy s.free), trump := c.trump.map (s.mergeCopy s.free)
                          ranges := c.ranges.map (s.mergeCopy s.free) }
        let s := { s with free := s.free + 1 }
        let s := s.modJ (fun j => { j with store := some { st with scene := some c, copied := true } })
        s.dropSnaps.storeStep 1

/-- The commit record is whole: the new slot is in force and the descriptor completes (R423). -/
def State.storeDone (s : State) (st : Store) : State :=
  let k := s.jrnl.target
  let q := s.jrnl.nextSeq
  let s := s.modJ (fun j => { (j.modSlot k (fun x => { x with record := some q })) with inForce := some k })
  let s := ((s.raiseF F.JOURNAL_STATUS_VALID).setF F.JOURNAL_STATUS_SLOT k).setF F.JOURNAL_SEQ_V q
  let s := match st.slot with | some id => s.complete id stDone 0 | none => s
  s.storeOver

/-- FLASH_OP_DONE: an erase, program or read-back of the store ends (R423, R424). -/
def State.flashOpDone (s : State) (ok : Bool) (off : Nat) : State :=
  match s.jrnl.store with
  | none => s
  | some st =>
    if !s.alive || !st.copied then s
    else if !ok then s.storeFail st stBusError off
    else
      let k := s.jrnl.target
      let q := s.jrnl.nextSeq
      let done := s.fld F.JOURNAL_STATUS_PROGRESS
      let units := match st.scene with | some c => c.units | none => 0
      match st.step with
      | 1 => (s.modJ (fun j => j.modSlot k (fun x => { x with record := none }))).storeStep 2
      | 2 => (s.modJ (fun j => j.modSlot k (fun x => { x with header := none, headerBad := false }))).storeStep 3
      | 3 => (s.modJ (fun j => j.modSlot k (fun x => { x with header := some q }))).storeStep 4
      | 4 => s.storeStep 5
      | 5 =>
        let s := s.setF F.JOURNAL_STATUS_PROGRESS (done + 1)
        if done + 1 < units then s.storeStep 5 else s.storeStep 6
      | 6 => (s.modJ (fun j => j.modSlot k (fun x => { x with scene := st.scene }))).storeStep 7
      | _ => s.storeDone st

/-- FLASH_TIMEOUT (R424). -/
def State.flashTimeout (s : State) (off : Nat) : State :=
  match s.jrnl.store with
  | none => s
  | some st => if s.alive && st.copied then s.storeFail st stTimeout off else s

/-- A freeze abandons the store after the flash operation in progress (R424). -/
def State.storeAbandon (s : State) : State :=
  match s.jrnl.store with
  | none => s
  | some _ =>
    let q := s.jrnl.nextSeq
    let s := s.modJ (fun j => { (j.cut true false) with store := none })
    ((s.dropSnaps.setF F.JOURNAL_STATUS_BUSY 0).raiseF F.JOURNAL_STATUS_ABORTED).setF F.JOURNAL_ABORT_SEQ_V q

/-! ### The slot in force -/

/-- SEQ of a valid slot (R419). -/
def JSlot.valid (x : JSlot) (readable : Bool) : Option Nat :=
  match x.record, x.header with
  | some a, some b => if readable && a = b && !x.headerBad then some a else none
  | _, _ => none

/-- The slot in force and its SEQ: the valid one with the larger SEQ (R419). -/
def Journal.choose (j : Journal) (f : FlashRead) : Option (Fin 2 × Nat) :=
  match j.slots[0].valid f.slot0, j.slots[1].valid f.slot1 with
  | some a, some b => if a < b then some (1, b) else some (0, a)
  | some a, none => some (0, a)
  | none, some b => some (1, b)
  | none, none => none

/-- JOURNAL_ABORT_SEQ of the aborted store a slot shows, if it shows one (R425). -/
def JSlot.aborted (x : JSlot) (readable : Bool) (inForce : Nat) : Option Nat :=
  if !readable || (x.valid readable).isSome then none
  else if x.headerBad then some 0xFFFFFFFF
  else match x.header with | some q => if inForce < q then some q else none | none => none

/-- The registers boot sets from the journal (JOURNAL_STATUS, SEQ, ABORT_SEQ). -/
def State.journalStatus (s : State) (f : FlashRead) : State :=
  let j := s.jrnl
  let s := (s.setF F.JOURNAL_STATUS_SKIPPED (b2n j.skip)).setF F.JOURNAL_STATUS_SFDP_ERR (b2n (!f.sfdp))
  if !f.sfdp then s
  else
    let c := j.choose f
    let q := match c with | some (_, q) => q | none => 0
    let s := match c with
      | some (k, q) => ((s.raiseF F.JOURNAL_STATUS_VALID).setF F.JOURNAL_STATUS_SLOT k).setF F.JOURNAL_SEQ_V q
      | none => s
    match j.slots[0].aborted f.slot0 q, j.slots[1].aborted f.slot1 q with
    | some a, _ => (s.raiseF F.JOURNAL_STATUS_ABORTED).setF F.JOURNAL_ABORT_SEQ_V a
    | none, some a => (s.raiseF F.JOURNAL_STATUS_ABORTED).setF F.JOURNAL_ABORT_SEQ_V a
    | none, none => s

/-! ### Boot -/

/-- Boot is over: the BOOT record, the sinks' fade-in, the Causeway ports and the doorbell records
(R86, R426, R439, R461), and a host-loss time that ran out in between (R32). -/
def State.bootOver (s : State) : State :=
  let s := s.modJ (fun j => { j with boot := .done })
  let s := s.faultDev 0x1C unitGlb 0xFF (bits (s.reg .GLB_RESET_CAUSE 0 0) 4 0 + s.fld F.JOURNAL_STATUS_BOOT * 256)
  let s := s.audReview
  let s := allDoms.foldl (fun s (d : Fin 3) =>
    if (s.dm d).run then s.sinksFadeIn d 0 (s.dm d).num (s.dm d).den else s) s
  s.portsStart.pollRecords.hostLossReview.reviewMode

/-- Boot ends in RUN without a slot: every head disabled, every field at its Cold value (R429). -/
def State.bootNoSlot (s : State) (code : Nat) : State :=
  let s := s.enabledHeads.foldl (fun s n => s.headOff n) s
  let s := { s with regs := s.regs.filter (fun e => match decodeReg e.1 with
    | some (r, _, _) => r.row.kept = 0 | none => true) }
  let s := ({ s with live := [] }.modJ (fun j => { j with inForce := none })).setKey 0
  let s := (s.setF F.JOURNAL_STATUS_BOOT code).setMode .run 3
  s.bootOver

/-- SLOT_CHOICE (R419, R425, R429). -/
def State.slotChoice (s : State) (f : FlashRead) : State :=
  if !s.alive || s.jrnl.boot ≠ .locked then s
  else
    let s := s.journalStatus f
    if s.jrnl.skip then s.bootNoSlot 3
    else if !f.sfdp then s.bootNoSlot 0
    else match s.jrnl.choose f with
      | none => s.bootNoSlot 0
      | some (k, _) =>
        (s.setF F.JOURNAL_STATUS_BOOT 1).modJ (fun j => { j with inForce := some k, boot := .chosen })

/-- Write stored registers of absent value kinds back: the listed ones, and at their Cold values those
of the kind that are listed now. -/
def State.restoreWrites (s : State) (m : SMap) (p : RegId → Bool) : List RegW :=
  let gone := (s.keptRegs p).filter (fun e => (m.find e.1).isNone)
  (m.filterMap (fun e => (decodeReg e.1).map (fun x => (⟨x.1, x.2.1, x.2.2, e.2, x.1.row.kept⟩ : RegW)))) ++
  (gone.filterMap (fun e => (decodeReg e.1).map (fun x =>
    (⟨x.1, x.2.1, x.2.2, coldOf s.part x.1 x.2.1 x.2.2, x.1.row.kept⟩ : RegW))))

/-- Set registers directly. -/
def State.restoreRegs (s : State) (m : SMap) (p : RegId → Bool) : State :=
  (s.restoreWrites m p).foldl (fun s w =>
    s.setReg w.id w.i w.j ((s.reg w.id w.i w.j &&& ~~~w.mask) ||| (w.value &&& w.mask))) s

/-- The scene of the slot in force. -/
def State.storedScene (s : State) : Option Scene := s.jrnl.inForce.bind (fun k => s.jrnl.slots[k].scene)

/-- The heads that the slot enables start the sequence of R304 from step 2 (R426, R427). -/
def State.lightHeads (s : State) (c : Scene) : State :=
  let s := s.restoreRegs c.earlyRegs isEarlyReg
  let s := allHeads.foldl (fun s (n : Fin 6) => if s.flag (F.HEAD_CTL_EN n) then s.applyTiming n (s.head n).audNext else s) s
  let s := allHeads.foldl (fun s n => s.reviewEnable n) s
  s.enabledHeads.foldl (fun s n => s.modHead n (fun h => { h with early := true })) s

/-- EARLY_LOADED: the EARLY and TRUMP sections have been read and their CRCs checked (R426, R427,
R429). The pool stands as CONFIG has it, so that what was stored lies where it lay. -/
def State.earlyLoaded (s : State) (earlyOk trumpOk : Bool) : State :=
  match s.storedScene with
  | none => s
  | some c =>
    if !s.alive || s.jrnl.boot ≠ .chosen then s
    else
      let s := match c.config.find (RegId.addr .MEM_POOL 0 0) with
        | some w => s.setReg .MEM_POOL 0 0 w | none => s
      let s := if trumpOk then
          c.trump.foldl (fun s e => s.poke e.1 e.2) (s.restoreRegs c.trumpRegs isTrumpReg)
        else s
      let s := match c.early with | some e => if earlyOk then s.poke e.1 e.2 else s | none => s
      let s := if earlyOk && trumpOk then s.lightHeads c else s
      s.modJ (fun j => { j with boot := .early, dark := !(earlyOk && trumpOk) })

/-- The scene fails to restore: every head enters FALLBACK (R428), one that composes at its next frame. -/
def State.sceneFails (s : State) : State :=
  let s := s.modJ (fun j => { j with failed := true })
  let s := s.enabledHeads.foldl (fun s n =>
    let h := s.head n
    let s := s.modHead n (fun h => { h with fbCause := .restore })
    if h.beams && h.blank = .none then s.modHead n (fun h => { h with fbEnter := true })
    else s.enterFb n) s
  ((s.setF F.JOURNAL_STATUS_BOOT 2).setMode .fallback 4).bootOver

/-- SCENE_RESTORE: CONFIG is set, and the scene becomes one trick, or fails (R428, R429). -/
def State.sceneRestore (s : State) (configOk sceneOk : Bool) : State :=
  match s.storedScene with
  | none => s
  | some c =>
    if !s.alive || s.jrnl.boot ≠ .early then s
    else if !configOk then
      ((s.setF F.JOURNAL_STATUS_VALID 0).setF F.JOURNAL_SEQ_V 0).bootNoSlot 0
    else
      let may (p : Fin 5) : Bool := s.portMayTrain p
      let s := ((s.restoreRegs c.config isConfigReg).setKey c.key).portsReview may
      let s := if s.jrnl.dark then s.lightHeads c else s
      if !sceneOk then s.sceneFails
      else
        let ws := s.restoreWrites c.regs isSceneReg
        let r := s.openTrick .boot 0 (maskOf (allHeads.filter (fun n => s.headPresent n))) false
        let s := (r.1.modTrick r.2 (fun t => { t with writes := ws })).becomeStaged r.2
        s.modJ (fun j => { j with boot := .scene, sceneKey := some r.2 })

/-- BOOT_END: the scene has been applied and full service is reached (R426). Channels the scene started
count from 0 (R439). -/
def State.bootEnd (s : State) : State :=
  let applied := match s.jrnl.sceneKey with | some k => (s.trick k).isNone | none => true
  if !s.alive || s.jrnl.boot ≠ .scene || !applied then s
  else
    let s := allTimers.foldl (fun s n => if s.tmrHeld n then
      (s.tmrZero n).modTimer n (fun t => { t with out := false }) else s) s
    let s := s.modJ (fun j => { j with sceneKey := none })
    (s.setMode .run 2).bootOver

end Sys2Proof.Machine
end

