-- ==== Sys2Proof/Machine/Power.lean ====
section
/-!
DEFINITION. Sleep (R404 to R416): latency tolerance, blockers, entry to DOZE and SLUMBER with their
abort points, and the exits. The walker's image is the state itself: every register regains its value.
-/

set_option Elab.async false  -- the joined text is large: no thread per declaration

namespace Sys2Proof.Machine

/-! ### Tolerance and blockers -/

/-- T of R404 in microseconds. -/
def State.tolerance (s : State) : Nat :=
  ((allFns.filter (fun f => s.fnEnabled f)).map (fun (f : Fin 16) => s.fld (F.HIF_FN_LAT_TOL_US f))).foldl min 0xFFFFFFFF

/-- A head sends video other than in panel self-refresh (R315). -/
def State.headSends (s : State) (n : Fin 6) : Bool :=
  let h := s.head n
  h.enabled && h.sc.video && !(h.command && h.dp.prOn && h.sc.pushing.isEmpty)

/-- Blockers of R406, bit 0 first; `deep` asks for the entry to SLUMBER. -/
def State.blocker (s : State) (deep : Bool) (b : Nat) : Bool :=
  match b with
  | 0 => s.glob.mode ≠ .coast
  | 1 => allHeads.any s.headSends
  | 2 => !s.hif.slots.isEmpty
  | 3 => !s.trk.tricks.isEmpty || s.trump.held.isSome
  | 4 => s.mv.blt.toList.any (fun c => c.slot.isSome) || s.mv.slu.toList.any (fun c => c.slot.isSome)
  | 5 => !s.audIdle
  | 6 => allSeqs.any (fun q => match (s.seq q).run with
      | .running | .stalled | .waitSync _ => true | _ => false)
  | 7 => s.jrnl.store.isSome
  | 8 => allPorts.any (fun p => (s.cport p).run = .active)
  | 9 => decide (s.tolerance < if deep then 4060 else 270)
  | 10 => allTimers.any (fun n => s.flag (F.TMR_CTL_RUN n))
  | 11 => decide (s.fld F.PWR_CTL_MAX_MODE < if deep then 2 else 1)
  | _ => false

/-- The next mode is SLUMBER. -/
def State.nextDeep (s : State) : Bool := s.glob.mode = .doze

/-- PWR_STAT.BLOCK. -/
def State.blockers (s : State) : Nat :=
  ((List.range 12).map (fun b => if s.blocker s.nextDeep b then 2 ^ b else 0)).sum

/-- No blocker that applies to the next mode is set. -/
def State.mayDoze (s : State) : Bool := [0, 1, 2, 3, 4, 5, 6, 7, 8, 9, 11].all (fun b => !s.blocker false b)
def State.maySlumber (s : State) : Bool := [1, 2, 3, 4, 5, 6, 7, 8, 9, 10, 11].all (fun b => !s.blocker true b)

/-! ### Heads -/

/-- The beams of every head stop: video off, command-mode heads in panel self-refresh (R315, R411). -/
def State.sleepHeads (s : State) : State :=
  let ran := s.enabledHeads.filter (fun n => (s.head n).beams)
  let s := ran.foldl (fun s n =>
    if (s.head n).command then (s.stopBeams n).modDp n (fun d => { d with alpmSleep := d.alpm })
    else (s.endVideo n).stopBeams n) s
  { s with pwr := { s.pwr with ran := maskOf ran } }

/-- Composition starts afresh on the heads that ran, from step 4 of R304 (R315, R413). -/
def State.resumeHeads (s : State) : State :=
  let ran := headsOf s.pwr.ran
  let s := { s with pwr := { s.pwr with ran := 0 } }
  ran.foldl (fun s n => if (s.head n).enabled && !(s.head n).beams && (s.head n).blank = .none
    then s.blankFrame n else s) s

/-- The transmitters are off: no link is trained (R315). -/
def State.darkenHeads (s : State) : State :=
  allHeads.foldl (fun s n =>
    ((s.endVideo n).modDp n (fun d => { d with trained := false, retryWait := false })).endTraining n) s

/-- On exit from SLUMBER every enabled head runs R304 from step 2 (R315). -/
def State.relightHeads (s : State) : State :=
  let s := { s with pwr := { s.pwr with ran := 0 } }
  s.enabledHeads.foldl (fun s n =>
    (s.modDp n (fun d => { d with needTrain := true })).blankFromRelock n) s

/-! ### Entry -/

def State.setPwr (s : State) (entry step : Nat) : State :=
  { s with pwr := { s.pwr with entry := entry, step := step } }

/-- A wake input at its wake level is a pending wake at an abort point (R446). -/
def State.pollWakePins (s : State) : State :=
  if (List.range 32).any (fun p => s.flag (F.GPIO_PIN_WAKE_EN p) && s.pinLevel p = s.flag (F.GPIO_PIN_WAKE_LVL p))
  then s.noteWake 0x03 else s

/-- Entry is abandoned: count it, and name the abort point (R413). -/
def State.noteAbort (s : State) (pt : Nat) : State :=
  let s := (s.incF F.PWR_ABORTS_COUNT).setF F.PWR_WAKE_ABORT_PT pt
  { s with pwr := { s.pwr with wake := none } }

/-- Polling and fetching go on, and what knocked is served; a loss of the host that ended the entry shows. -/
def State.awake (s : State) : State := (s.setPwr 0 0).serveKnocks.hostLossAwake.reviewMode.audReview

/-- The abort point before step `k` of the entry in progress: without a pending wake the step starts;
with one the entry is abandoned there (R411 to R413). -/
def State.abortPoint (s : State) (k : Nat) : State :=
  let s := s.pollWakePins
  let deep := decide (s.pwr.entry = 2)
  let open' := if deep then k ≤ 10 else k ≤ 4
  if open' && s.pwr.wake.isSome then
    let s := s.noteAbort (if deep then 10 + k else k)
    if !deep then s.resumeHeads.awake
    else
      let s := { s with pwr := { s.pwr with deep := false } }
      if k = 1 then s.setPwr 3 0 else s.setPwr 3 3
  else s.setPwr s.pwr.entry k

/-- DOZE_IDLE_EXPIRY: entry starts; step D1 reads every enabled record once more (R406, R411). -/
def State.dozeStart (s : State) : State :=
  if s.mayDoze && s.pwr.entry = 0 then
    let s := (s.setPwr 1 0).abortPoint 1
    if s.pwr.entry = 1 then s.pollRecords else s
  else s

/-- SLUMBER_IDLE_EXPIRY (R406, R412). -/
def State.slumberStart (s : State) : State :=
  if s.glob.mode = .doze && s.maySlumber && s.pwr.entry = 0 then (s.setPwr 2 0).abortPoint 1 else s

/-- Entry is complete: the mode is entered, and a wake that waited is served by a full exit (R405, R413). -/
def State.entered (s : State) (deep : Bool) : State :=
  let s := if s.pwr.wake.isSome
    then { (s.setPwr 3 0) with pwr := { s.pwr with entry := 3, step := 0, deep := deep } }
    else s.setPwr 0 0
  s.audReview

/-- DOZE is entered at the end of step D5 (R411, R439, R446). -/
def State.enterDoze (s : State) : State :=
  let s := ((s.gpioMove true).incF F.PWR_DOZES_COUNT).setMode .doze 5
  s.voicesIdle.entered false

/-- SLUMBER is entered at the end of step S11 (R412). -/
def State.enterSlumber (s : State) : State :=
  ((s.darkenHeads.incF F.PWR_SLUMBERS_COUNT).setMode .slumber 5).entered true

/-- ENTRY_STEP_END: the step in progress ends; then the abort point before the next (R411, R412). -/
def State.entryStepEnd (s : State) : State :=
  let k := s.pwr.step
  if !s.alive then s
  else match s.pwr.entry with
    | 1 =>
      let s := if k = 2 then s.sleepHeads else s
      if k < 5 then s.abortPoint (k + 1) else s.enterDoze
    | 2 =>
      let s := if k = 1 then s.fltFlush else s
      if k < 11 then s.abortPoint (k + 1) else s.enterSlumber
    | _ => s

/-- WAKE_EVENT: a source of R407 with no command of its own. A timer event or a pin wakes only a device
that has them. -/
def State.wakeEvent (s : State) (src : Nat) : State :=
  if !s.alive || src = 0 || 9 < src || (src = 7 && !s.part.headset) || (src = 4 && s.glob.mode = .slumber) ||
    (src = 3 && !s.anyWakePin) then s
  else s.noteWake src

/-! ### Exit -/

/-- The sleep image fails its CRC: it is not restored, and a warm reset follows (R410). -/
def State.peatFail (s : State) : State :=
  let crc := Config.freeWord s.free
  let s := { s with free := s.free + 1 }
  let s := (s.raiseF F.PWR_STAT_PEAT_ERR).faultDev 0x18 unitPwr 0xFF crc.toNat
  (s.warmReset).sampleStraps s.strapsNow

/-- GLB_MODE reads RUN: heads, sequencers, sinks and doorbell records take up again (R86, R294, R315,
R415, R416). -/
def State.exitDone (s : State) (deep : Bool) : State :=
  let s := { (s.setPwr 0 0) with pwr := { s.pwr with entry := 0, step := 0, wake := none, deep := false } }
  let s := s.setMode .run 6
  let s := if deep then s.relightHeads else s.resumeHeads
  let s := (s.seqFreeStart).audReview
  s.pollRecords.hostLossReview.hostLossAwake.reviewMode

/-- EXIT_STEP: the next step of R415 or R416 runs. The walker restores the sleep image in step 4 or 5,
and DRAM leaves self-refresh in the step after it; after the last step the device is in RUN. -/
def State.exitStep (s : State) (crcOk : Bool) : State :=
  if !s.alive || s.pwr.entry ≠ 3 then s
  else
    let deep := s.pwr.deep
    let k := s.pwr.step + 1
    let restore := if deep then 5 else 4
    if k = restore && !crcOk then s.peatFail
    else
      let s := if k = restore + 1 then s.fltFlush else s
      let s := s.setPwr 3 k
      if k < (if deep then 9 else 7) then s
      else (s.gpioMove false).exitDone deep

/-! ### The commands -/
def execSlumberIdleExpiry (s : State) : Host.Outcome State Fault Refusal := .next s.slumberStart
def execDozeIdleExpiry (s : State) : Host.Outcome State Fault Refusal :=
  .next (if s.alive then s.dozeStart else s)
def execWakeEvent (src : BitVec 8) (s : State) : Host.Outcome State Fault Refusal := .next (s.wakeEvent src.toNat)
def execJournalSnapshot (s : State) : Host.Outcome State Fault Refusal := .next s.journalSnapshot

end Sys2Proof.Machine
end

