-- ==== Sys2Proof/Machine/Freeze.lean ====
section
/-!
DEFINITION. The freeze latch and its sources (R56, R455), entry to FREEZE (R456), release and restart
(R33, R109, R136, R457, R459, R460). The snapshot is the state itself: nothing else changes it until
the restart.
-/

set_option Elab.async false  -- the joined text is large: no thread per declaration

namespace Sys2Proof.Machine

/-- Sources of the latch: pin, register, Causeway (DBG_FRZ_STAT.SRC). -/
def State.frzSources (s : State) : Nat := b2n s.glob.frzPin + 2 * b2n s.glob.frzReg + 4 * b2n s.glob.frzCwy

/-- A source changed: the record of the present freeze keeps it, and the Causeway hears of it (R402). -/
def State.frzChanged (s : State) : State :=
  ({ s with glob := { s.glob with frzSeen := s.glob.frzSeen ||| s.frzSources } }).freezeReview

/-- FREEZE_N_ASSERT: 50 ns or longer sets the latch (R56). No rule says what a shorter low does: that it
does nothing is a choice of the model (DESIGN CHOICE, log entry 80). -/
def State.frzAssert (s : State) (ns : Nat) : State :=
  if s.linked && 50 ≤ ns then ({ s with glob := { s.glob with frzPin := true } }).frzChanged else s

/-- FREEZE_N_RELEASE (R56). -/
def State.frzUnpin (s : State) : State :=
  if s.linked then ({ s with glob := { s.glob with frzPin := false } }).frzChanged else s

/-- A write of DBG_FRZ_CTL: with its key it sets or clears the register source, in FREEZE too (R455,
R457). A write with both bits sets it. -/
def State.frzCtl (s : State) (v : Word) : State :=
  if !s.linked then s
  else
    let s := if s.frozen then s else s.noteWake 0x02
    if bits v 31 16 ≠ 0x6D1A then s
    else if bit v 0 then ({ s with glob := { s.glob with frzReg := true } }).frzChanged
    else if bit v 1 then ({ s with glob := { s.glob with frzReg := false } }).frzChanged
    else s

/-- The device stops: the application in progress is carried to its end, a store is abandoned, and the
trump session closes (R110, R232, R424, R456). -/
def State.freezeStop (s : State) : State :=
  let s := ((s.finishApplication).storeAbandon).closeSession
  let from' := s.glob.mode
  let s := (s.setReg .DBG_FRZ_ENTRY 0 0 (s.head 0).frame).setReg .DBG_FRZ_DROPS 0 0 0
  let s := s.setMode .freeze 7
  { s with glob := { s.glob with
    frozenFrom := from', frzSeen := s.frzSources, frzClock := s.clock, restarting := false } }

/-- FREEZE_ENTRY (R456); during the restart the device stops again (R460). -/
def State.freezeEntry (s : State) : State :=
  if !s.linked || !s.frzAny then s
  else if s.frozen then { s with glob := { s.glob with restarting := false } }
  else s.freezeStop

/-- FREEZE_RELEASED: the last source has cleared and the clocks restart (R459). -/
def State.freezeReleased (s : State) : State :=
  if s.frozen && !s.frzAny then { s with glob := { s.glob with restarting := true } } else s

/-- DETAIL of the FREEZE record: sources, duration in always-on periods, dropped writes (R461). -/
def State.freezeDetail (s : State) : Nat :=
  let periods := (s.clock - s.glob.frzClock) * 32768 / (1000 * perMs)
  s.glob.frzSeen % 8 + min periods 0xFFFFFF * 256 + (s.reg .DBG_FRZ_DROPS 0 0).toNat * 2 ^ 32

/-- Descriptors fetched and not completed end with FROZEN, and spoil the tricks they named; the TRICK_COMMIT
of a committed trick ends so too, and its trick is shown without it (R109, R136). -/
def State.freezeSlots (s : State) : State :=
  let xs := s.hif.slots.filter (fun x => x.st ≠ .held)
  let s := xs.foldl (fun s x =>
    ((s.unitAbort x).loseCommit x).complete x.id stFrozen (s.reg .DBG_FRZ_ENTRY 0 0)) s
  { s with trk := { s.trk with shown := s.trk.shown.map (fun (y : Shown) =>
      if xs.any (fun x => y.commitSlot = some x.id) then { y with commitSlot := none } else y) } }

/-- Staged tricks are discarded, but for implicit ones, the scene's, and wall tricks whose COMMIT has
gone out or come in (R136, R402). -/
def State.freezeTricks (s : State) : State :=
  s.discardTricks (fun t => (t.phase = .staged || t.phase = .waitPlace || t.phase = .applying) &&
    t.owner ≠ .implicit && t.owner ≠ .boot && !t.wallGo)

/-- Every head resumes from step 2 of R304 with its link treated as down; a disable under way is
complete (R306, R459). -/
def State.freezeHeads (s : State) : State :=
  s.enabledHeads.foldl (fun s n =>
    if (s.head n).disabling then s.headOff n
    else
      let s := (s.endVideo n).stopBeams n
      let s := s.modDp n (fun d => { d with trained := false, retryWait := false, retries := 0, needTrain := true })
      (s.endTraining n).blankFromRelock n) s

/-- An entry to sleep that the freeze interrupted counts as abandoned at the last abort point passed,
or as complete when DRAM was in self-refresh by then (R31, R414). -/
def State.freezeSleep (s : State) : State :=
  let p := s.pwr
  let s := match p.entry with
    | 1 => if p.step = 5 then (s.incF F.PWR_DOZES_COUNT).voicesIdle else s.noteAbort p.step
    | 2 => if p.step = 11 then s.incF F.PWR_SLUMBERS_COUNT else s.noteAbort (10 + p.step)
    | _ => s
  { (s.gpioSleep false) with pwr := {} }

/-- The device frozen takes an exit path on its release: it was in DOZE or SLUMBER, or so far on its way to
DOZE that the entry is completed for the full round trip (R31, R33). -/
def State.thawsAsleep (s : State) : Bool :=
  match s.glob.frozenFrom with
  | .doze | .slumber => true
  | _ => s.pwr.entry = 1 && s.pwr.step = 5

/-- The walker has yet to restore the sleep image on that path (R415, R416). -/
def State.thawsImage (s : State) : Bool :=
  s.thawsAsleep && !(s.pwr.entry = 3 && (if s.pwr.deep then 5 else 4) ≤ s.pwr.step)

/-- The mode after release (R33). -/
def thawMode (m : Mode) : Mode :=
  match m with
  | .bringUp => .bringUp
  | .fallback => .fallback
  | _ => .run

/-- The virtual functions whose reset came during FREEZE are reset now (R108, R457). -/
def State.flrDue (s : State) : State :=
  let fs := allFns.filter (fun f => s.glob.flrPending.getLsbD f.val)
  fs.foldl (fun s f => s.vfFlr f) { s with glob := { s.glob with flrPending := 0 } }

/-- The mode of R33 is entered, with one record for the freeze; the pins resume as a switch (R447, R459,
R461). -/
def State.thawEnter (s : State) : State :=
  let s0 := s
  let detail := s.freezeDetail
  let s := s.setMode (thawMode s.glob.frozenFrom) 8
  let s := { s with glob := { s.glob with restarting := false, hifResetPending := false, frzSeen := 0 } }
  (s.freezeSleep.pinSwitch s0 (List.range 32)).fltFlush.faultDev 0x1A unitDbg 0xFF detail

/-- The restart after a freeze: the device wakes in the mode of R33, descriptors, tricks, heads, sequencers
and audio resume as their rules say, and one record is entered (R459). A device frozen asleep reads every
doorbell record, as its exit path does (R415, R416). -/
def State.thaw (s : State) : State :=
  let hif := s.glob.hifResetPending
  let asleep := s.thawsAsleep
  let s := s.thawEnter.flrDue
  let s := if hif then s.hifResetAll else s.freezeSlots
  let s := (s.freezeTricks).freezeHeads
  let s := (s.seqFreeStart).audReview.audEmpty
  let s := if asleep then s.pollRecords else s
  let s := if s.glob.mode = .bringUp then s else s.hostLossReview.hostLossAwake
  s.storeNext

/-- FREEZE_RESTART_DONE (R459). On the exit path of a sleep the walker checks the sleep image: one that fails
its CRC ends in a warm reset (R33, R410). Whether the image in Peat has kept its content is a free value
(log entry 63). -/
def State.freezeDone (s : State) : State :=
  if !s.frozen || !s.glob.restarting then s
  else if s.thawsImage then
    let t := { s with free := s.free + 1 }
    if Config.freeBool s.free then t.peatFail else t.thaw
  else s.thaw

/-! ### The commands of this file that start nothing else -/
def execFreezeNAssert (ns : Nat) (s : State) : Host.Outcome State Fault Refusal := .next (s.frzAssert ns)
def execFreezeNRelease (s : State) : Host.Outcome State Fault Refusal := .next s.frzUnpin
def execFrzSet (v : Word) (s : State) : Host.Outcome State Fault Refusal := .next (s.frzCtl v)
def execFrzRelease (v : Word) (s : State) : Host.Outcome State Fault Refusal := .next (s.frzCtl v)
def execFreezeReleased (s : State) : Host.Outcome State Fault Refusal := .next s.freezeReleased

end Sys2Proof.Machine
end

