-- ==== Sys2Proof/Machine/RegRead.lean ====
section
/-!
DEFINITION. Reads of registers: the committed value of R121 with the status fields that the units
give, the fault ring in BAR0 (R461), the reads with side effects (R436, R452, R465), and the readout
of frozen state over BAR0, JTAG and SMBus (R458).
-/

set_option Elab.async false  -- the joined text is large: no thread per declaration

namespace Sys2Proof.Machine

/-- `w` with a field's bits replaced by `v`. -/
def putF (w : Word) (f : Fld) (v : Nat) : Word := putBits w f.hi f.lo v

/-- Replace several fields. -/
def putFs (w : Word) (l : List (Fld × Nat)) : Word := l.foldl (fun w e => putF w e.1 e.2) w

/-- Use index `i` where it is below `n`. -/
def atIdx (n i : Nat) (d : Word) (f : Fin n → Word) : Word := if h : i < n then f ⟨i, h⟩ else d

/-- The number whose bit k says whether `p k`. -/
def maskN (n : Nat) (p : Nat → Bool) : Nat :=
  ((List.range n).map (fun k => if p k then 2 ^ k else 0)).sum

/-- HEAD_STAT.STATE. -/
def HeadSt.statCode (h : HeadSt) : Nat :=
  if !h.enabled then 0
  else if h.blank ≠ .none then 4
  else if !h.dp.hpd then 1
  else if h.sc.video then 3
  else if h.dp.trained then 5
  else 2

/-- HEAD_STAT as the head stands. -/
def State.headStat (s : State) (n : Fin 6) (w : Word) : Word :=
  let h := s.head n
  putFs w ((F.HEAD_STAT_STATE n, h.statCode) :: (F.HEAD_STAT_TS_PENDING n, b2n h.tsNext.isSome) :: [])

/-- DP_STAT. -/
def State.dpStat (s : State) (n : Fin 6) (w : Word) : Word :=
  let d := (s.head n).dp
  putFs w
    ((F.DP_STAT_HPD n, b2n d.hpd) :: (F.DP_STAT_TRAINED n, b2n d.trained) ::
     (F.DP_STAT_PR_SU n, b2n d.prSu) :: (F.DP_STAT_ALPM n, b2n d.alpm) ::
     (F.DP_STAT_LTTPR n, d.lttpr) :: (F.DP_STAT_SINK_RATE n, d.sinkRate) ::
     (F.DP_STAT_SINK_LANES n, d.sinkLanes) :: [])

/-- SEQn_STAT. -/
def State.seqStat (s : State) (q : Fin 8) (w : Word) : Word :=
  let x := s.seq q
  putFs w
    ((F.SEQ_STAT_STATE q, x.run.code) :: (F.SEQ_STAT_FAULT q, x.fault) :: (F.SEQ_STAT_PC q, x.pc) :: [])

/-- SEQn_TAG. -/
def State.seqTag (s : State) (q : Fin 8) : Word :=
  match (s.seq q).tag with
  | some (line, col, _) =>
    putFs 0 ((F.SEQ_TAG_VALID q, 1) :: (F.SEQ_TAG_COL q, col) :: (F.SEQ_TAG_LINE q, line) :: [])
  | none => 0

/-- HIF_RING_STATUS. -/
def State.ringStat (s : State) (f : Fin 16) (r : Fin 64) : Word :=
  let g := s.ring f r
  putFs 0
    ((F.HIF_RING_STATUS_ACTIVE f r, b2n (g.phase = .on && !g.quar && !s.fenced f && s.fnEnabled f)) ::
     (F.HIF_RING_STATUS_QUAR f r, b2n g.quar) :: (F.HIF_RING_STATUS_CFG_ERR f r, b2n g.cfgErr) ::
     (F.HIF_RING_STATUS_VCOUNT f r, g.vcount) :: (F.HIF_RING_STATUS_CONS f r, g.cons) :: [])

/-- Open and closing tricks of a function. -/
def State.openOf (s : State) (f : Fin 16) : Nat :=
  (s.trk.tricks.filter (fun t => t.ofFn f && t.isOpen)).length

/-- Open and closing tricks of the device. A batch of the SMBus path is no trick before TP_COMMIT, where it
takes a staged place (R234). -/
def State.openTricks (s : State) : Nat :=
  (s.trk.tricks.filter (fun t => t.isOpen && t.owner ≠ .implicit && t.owner ≠ .boot && t.owner ≠ .smbus)).length

/-- STATE of a Causeway port (R382). -/
def PortRun.code : PortRun → Nat
  | .down => 0 | .lock => 1 | .hello => 2 | .measure => 3 | .active => 4 | .held => 5 | .tooDeep => 6

/-- CWY_PORTp_STAT. -/
def State.portStat (s : State) (p : Fin 5) : Word :=
  let c := s.cport p
  putFs 0 ((F.CWY_PORT_STAT_STATE p, c.run.code) :: (F.CWY_PORT_STAT_BENCHED p, b2n c.benched) ::
    (F.CWY_PORT_STAT_PEER_ID p, c.peer) :: [])

/-- CWY_MAX_PATH of a dealer: exact where no joined hand is deeper than one hop and the latency is
whole; otherwise a free value, since packets report no deeper path. -/
def State.maxPath (s : State) : Nat :=
  if !s.dealer then 0
  else
    let ps := downPorts.filter (fun p => (s.cport p).joined && !(s.cport p).benched)
    if ps.isEmpty then 0
    else if ps.all (fun p => (s.cport p).subJoined ≤ 1 && s.fld (F.CWY_PORT_LAT_L p) % 16 = 0) then
      (ps.map (fun (p : Fin 5) => s.fld (F.CWY_PORT_LAT_L p) / 16 + 1000)).foldl max 0
    else (Config.freeWord s.free).toNat % 2 ^ 20

/-- STAGE of a voice. -/
def Stage.code : Stage → Nat
  | .idle => 0 | .attack => 1 | .decay => 2 | .sustain => 3 | .release => 4

/-- STATE of a player. -/
def PlayRun.code : PlayRun → Nat
  | .idle => 0 | .playing => 1 | .dry => 2

/-- AUD_RAMP of slot `j` of domain `d`: it reads 0 where the active program declares none (R366). -/
def State.rampStat (s : State) (d : Fin 3) (j : Nat) : Word :=
  match (s.dm d).ramps.find? (fun r => r.decl.slot = j) with
  | some r => putFs 0 ((F.AUD_RAMP_MOVING d j, b2n r.ramp.moving) :: (F.AUD_RAMP_G d j, wrapInt 24 r.ramp.cur) :: [])
  | none => 0

/-- Fields of registers of the display and of the device's own status. -/
def State.derivedA (s : State) (r : RegId) (i j : Nat) (w : Word) : Word :=
  match r with
  | .GLB_MODE => putFs 0
      ((F.GLB_MODE_MODE, s.glob.mode.code) :: (F.GLB_MODE_PREV, s.glob.prev.code) ::
       (F.GLB_MODE_LAST_CAUSE, s.glob.cause) ::
       (F.GLB_MODE_HEAD_FB, maskN 6 (fun n => allHeads.any (fun k => k.val = n && (s.head k).fb))) ::
       (F.GLB_MODE_HEAD_COAST, maskN 6 (fun n => allHeads.any (fun k => k.val = n && (s.head k).coast))) :: [])
  | .HIF_STATUS => putF w F.HIF_STATUS_SLOTS_USED s.hif.slots.length
  | .HIF_FN_SLOTS => atIdx 16 i w (fun f => putF w (F.HIF_FN_SLOTS_IN_USE f) (s.slotsOf f))
  | .HIF_FN_CTL => atIdx 16 i w (fun f => putF w (F.HIF_FN_CTL_FENCED f) (b2n (s.fenced f)))
  | .HIF_RING_STATUS => atIdx 16 i w (fun f => atIdx 64 j w (fun q => s.ringStat f q))
  | .TRK_STATUS => putFs w ((F.TRK_STATUS_OPEN, s.openTricks) :: (F.TRK_STATUS_STAGED, s.stagedCount) :: [])
  | .TRK_FN_OPEN => atIdx 16 i w (fun f => putF w (F.TRK_FN_OPEN_IN_USE f) (s.openOf f))
  | .MEM_POOL_STATUS => putF w F.MEM_POOL_STATUS_FREE s.poolFree
  | .MEM_FN_POOL => atIdx 16 i w (fun f => putF w (F.MEM_FN_POOL_IN_USE f) (s.poolOf f))
  | .HEAD_STAT => atIdx 6 i w (fun n => s.headStat n w)
  | .FRAME => atIdx 6 i w (fun n => (s.head n).frame)
  | .BEAM_COMP => atIdx 6 i w (fun n => (s.head n).sc.latchComp)
  | .BEAM_SCAN => atIdx 6 i w (fun n => (s.head n).sc.latchScan)
  | .TRUMP_STAT => atIdx 6 i w (fun n => putF w (F.TRUMP_STAT_SMB_HELD n) (b2n (s.trump.held = some n)))
  | .PACE_STAT => atIdx 6 i w (fun n => putF w (F.PACE_STAT_CFG n) (b2n (s.head n).paceCfg))
  | .DP_STAT => atIdx 6 i w (fun n => s.dpStat n w)
  | _ => w

/-- Fields of registers of the sequencers, movers and the audio engine. -/
def State.derivedB (s : State) (r : RegId) (i j : Nat) (w : Word) : Word :=
  match r with
  | .SEQ_STAT => atIdx 8 i w (fun q => s.seqStat q w)
  | .SEQ_TAG => atIdx 8 i w (fun q => s.seqTag q)
  | .SEQ_G => atIdx 8 i w (fun q => atIdx 16 j w (fun g => ((s.seq q).g[g]).setWidth 32))
  | .BLT_STATUS => putFs 0
      ((F.BLT_STATUS_BUSY, maskN 8 (fun c => (s.mv.blt.toList.getD c {}).slot.isSome)) ::
       (F.BLT_STATUS_RACE_WAIT, maskN 8 (fun c => (s.mv.blt.toList.getD c {}).waiting)) :: [])
  | .SLU_STATUS => BitVec.ofNat 32 (maskN 32 (fun c => (s.mv.slu.toList.getD c {}).slot.isSome))
  | .SLU_STAGE =>
    match (List.range 32).find? (fun c => (s.mv.slu.toList.getD c {}).stage.isSome) with
    | some c => putFs 0 ((F.SLU_STAGE_BUSY, 1) :: (F.SLU_STAGE_CH, c) :: [])
    | none => 0
  | .SLU_FENCED => s.mv.sluFenced.setWidth 32
  | .SLU_STAT => atIdx 32 i w (fun c => putF w (F.SLU_STAT_STATE c) (s.chan c).code)
  | .AUD_STAT => putF w F.AUD_STAT_PENDING
      (maskN 3 (fun d => (s.aud.dom.toList.getD d {}).pend.isSome))
  | .AUD_DOM_STAT => atIdx 3 i w (fun d => putFs w
      ((F.AUD_DOM_STAT_RUN d, b2n (s.dm d).run) :: (F.AUD_DOM_STAT_RATE_HZ d, (s.dm d).hz) :: []))
  | .AUD_RAMP => atIdx 3 i w (fun d => s.rampStat d j)
  | .VOICE_STAT => atIdx 64 i w (fun v => putFs w
      ((F.VOICE_STAT_STAGE v, (s.voice v).stage.code) ::
       (F.VOICE_STAT_E v, wrapInt 24 (s.voice v).env.cur) :: []))
  | .PLAY_STAT => atIdx 16 i w (fun p => putFs w
      ((F.PLAY_STAT_STATE p, (s.play p).run.code) :: (F.PLAY_STAT_QUEUED p, (s.play p).bufs.length) :: []))
  | .ASINK_STAT => atIdx 17 i w (fun k =>
      let d := s.sinkDomain k
      let run := allDoms.any (fun e => e.val = d && (s.dm e).run)
      putFs w ((F.ASINK_STAT_ACTIVE k, b2n run) :: (F.ASINK_STAT_DOMAIN k, d) :: []))
  | _ => w

/-- Fields of registers of the Causeway, power, timers, pins, counters and debug blocks. -/
def State.derivedC (s : State) (r : RegId) (i _j : Nat) (w : Word) : Word :=
  match r with
  | .TMR_COUNT => atIdx 16 i w (fun n => putF (BitVec.ofNat 32 ((s.timer n).count % 2 ^ 24)) (F.TMR_COUNT_DOWN n) (b2n (s.timer n).down))
  | .TMR_CAP => atIdx 16 i w (fun n => (s.capRead n).2)
  | .TMR_STAT => atIdx 16 i w (fun n => putF w (F.TMR_STAT_OUT n) (b2n (s.timer n).out))
  | .GPIO_IN => s.gpioIn
  | .GPIO_STAT => putF w F.GPIO_STAT_BANK_3V3 Config.bank3v3.toNat
  | .GPIO_PM_STAT => putF w F.GPIO_PM_STAT_COND (maskN 8 s.pmCond)
  | .CWY_CTL => putF w F.CWY_CTL_ROLE (b2n s.dealer)
  | .CWY_ID => putF w F.CWY_ID_ID s.cwyId
  | .CWY_STAT => putFs w
      ((F.CWY_STAT_STATE, s.cwyState) :: (F.CWY_STAT_TRACKING, b2n s.glob.tracking) ::
       (F.CWY_STAT_BENCH_REASON, if s.cwyState = 3 then s.cwy.reason else 0) :: [])
  | .CWY_WALL_FRAME => s.cwy.frame
  | .CWY_TREE => putFs 0 ((F.CWY_TREE_BENCHED, s.subBenched) :: (F.CWY_TREE_JOINED, s.subJoined) :: [])
  | .CWY_MAX_PATH => BitVec.ofNat 32 s.maxPath
  | .CWY_PORT_STAT => atIdx 5 i w (fun p => s.portStat p)
  | .PWR_STAT => putFs w ((F.PWR_STAT_ENTRY, s.pwr.entry) :: (F.PWR_STAT_BLOCK, s.blockers) :: [])
  | .PWR_TOL => BitVec.ofNat 32 s.tolerance
  | .PMC_LO => atIdx 32 i w (fun k => (s.pmc.count[k]).setWidth 32)
  | .PMC_HI => atIdx 32 i w (fun k =>
      if s.pmc.latched.getLsbD k.val then (s.pmc.latch[k]).setWidth 32
      else (s.pmc.count[k] >>> 32).setWidth 32)
  | .DBG_FRZ_STAT => putFs 0 ((F.DBG_FRZ_STAT_FROZEN, b2n s.frozen) :: (F.DBG_FRZ_STAT_SRC, s.frzSources) :: [])
  | _ => w

/-- What a read of a register instance returns: 0 for an absent unit (R9), 0 in write-only bits
(R14), and else the committed value with the fields the units give (R121). -/
def State.readReg (s : State) (r : RegId) (i j : Nat) : Word :=
  if !s.regPresent r i j then 0
  else
    let w := s.derivedC r i j (s.derivedB r i j (s.derivedA r i j (s.reg r i j)))
    w &&& ~~~(r.row).wo

/-! ### The fault ring (R461) -/

/-- The 32 bytes of a fault entry. -/
def Flt.bytes (e : Flt) : List Byte :=
  leBytes 1 e.code ++ leBytes 1 (b2n e.prior) ++ leBytes 1 e.unit ++ leBytes 1 e.index ++
  leBytes 4 e.seq ++ leBytes 4 e.frame.toNat ++ leBytes 2 e.line ++ leBytes 2 e.pixel ++
  leBytes 8 e.detail.toNat ++ leBytes 4 e.time ++ leBytes 4 e.orig

/-- Offset of the fault ring in BAR0. -/
def fltBase : Nat := 0x2D8000

/-- A word of the fault ring: an entry's, or what the reserved DRAM held before (R157, R158). -/
def State.fltWord (s : State) (a : Nat) : Word :=
  let k := (a - fltBase) / 32
  let off := (a - fltBase) % 32
  match s.dbg.ring.find? (fun e => e.seq % 1024 = k) with
  | some e => BitVec.ofNat 32 (ofLe ((e.bytes.drop off).take 4))
  | none =>
    BitVec.ofNat 32 (ofLe (s.mem.readBytes (dramBase + s.part.dramUsable + (a - fltBase)) 4))

/-- A word of BAR0 without side effects; offsets the map does not list read 0 (R464). -/
def State.bar0 (s : State) (a : Nat) : Word :=
  if fltBase ≤ a ∧ a < fltBase + 32768 then s.fltWord a
  else match decodeReg a with
    | some (r, i, j) => s.readReg r i j
    | none => 0

/-! ### Reads with side effects -/

/-- CTR_LO_READ: bits 47 to 32 are latched for the next read of HI (R452). -/
def State.latchCtr (s : State) (k : Fin 32) : State :=
  { s with pmc := { s.pmc with
      latch := s.pmc.latch.set k ((s.pmc.count[k] >>> 32).setWidth 16)
      latched := s.pmc.latched ||| (1#32 <<< k.val) } }

/-- A read of a head's FRAME latches its beams (R465 and HDn_FRAME). A compose beam held at its wrap stands
on line 0 (R130). -/
def State.latchBeams (s : State) (n : Fin 6) : State :=
  let h := s.head n
  let line := if h.wrapWait then 0 else h.line
  let comp := putFs 0 ((F.BEAM_COMP_SCAN_FRAME n, h.sc.scanFrame.toNat) :: (F.BEAM_COMP_LINE n, line) :: [])
  let scan := putFs 0 ((F.BEAM_SCAN_LINE n, h.sc.scanLine) :: (F.BEAM_SCAN_PIXEL n, h.sc.scanPixel) :: [])
  s.modSc n (fun c => { c with latchComp := comp, latchScan := scan })

/-- The side effect of reading a register: none in FREEZE (R457). -/
def State.readEffect (s : State) (r : RegId) (i _j : Nat) : State :=
  if !s.alive || !s.regPresent r i 0 then s
  else match r with
    | .FRAME => if h : i < 6 then s.latchBeams ⟨i, h⟩ else s
    | .TMR_CAP => if h : i < 16 then (s.capRead ⟨i, h⟩).1 else s
    | .PMC_LO => if h : i < 32 then s.latchCtr ⟨i, h⟩ else s
    | .PMC_HI => { s with pmc := { s.pmc with latched := s.pmc.latched &&& ~~~(1#32 <<< i) } }
    | _ => s

/-- A BAR0 read of one word: a wake event in DOZE and SLUMBER (R407), the value, and its side effect. -/
def State.bar0Read (s : State) (a : Nat) : State :=
  if s.glob.mode = .off || s.glob.heldInReset then s
  else
    let s := s.noteWake 0x02
    let v := s.bar0 a
    let s := match decodeReg a with
      | some (r, i, j) => s.readEffect r i j
      | none => s
    s.emit (.regData v)

/-- The user counter page of R454, offset within the function's BAR2 page. -/
def State.userCtr (s : State) (f : Fin 16) (k : Fin 32) (high : Bool) : State × Word :=
  let own := s.fld (F.PMC_CFG_OWNER k) = f.val
  if !bit (s.reg .PMC_USER_EN 0 0) f.val || !own then (s, 0)
  else
    let key := f.val * 32 + k.val
    if high then
      let v := ((s.pmc.userLatch.find? (fun e => e.1 = key)).map (fun e => e.2)).getD 0
      (s, 0x80000000 ||| v.setWidth 32)
    else
      let hi : BitVec 16 := (s.pmc.count[k] >>> 32).setWidth 16
      let l := s.pmc.userLatch.filter (fun e => e.1 ≠ key)
      ((if s.frozen then s else { s with pmc := { s.pmc with userLatch := l ++ [(key, hi)] } }),
       (s.pmc.count[k]).setWidth 32)

/-! ### Readout of frozen state (R458) -/

/-- A word and whether it is valid, at a readout address laid out as DBG_RD_ADDR. Words the manual
does not give (the staging pool, Peat) are free. -/
def State.readout (s : State) (sel : Word) : Word × Bool :=
  let a := bits sel 23 0
  if !s.frozen then (0, false)
  else match bits sel 31 28 with
    | 0 => if a < 4194304 then (s.bar0 (4 * a), true) else (0, false)
    | 1 =>
      if a < 16777216 then
        (if 4 * a < s.tarnTop then BitVec.ofNat 32 (ofLe (s.mem.readBytes (4 * a) 4))
         else Config.freeWord s.free, true)
      else (0, false)
    | 2 => if a < 65536 then (Config.freeWord s.free, true) else (0, false)
    | 3 =>
      match allSeqs.find? (fun q => q.val = a / 16384) with
      | some q => ((wordAt (s.seq q).bank.prog (a % 16384)).setWidth 32, true)
      | none => (0, false)
    | 4 =>
      match allSeqs.find? (fun q => q.val = a / 4096) with
      | some q => ((wordAt (s.seq q).bank.data (a % 4096)).setWidth 32, true)
      | none => (0, false)
    | 5 =>
      match allDoms.find? (fun d => d.val = a / 8192) with
      | some d =>
        let m := s.dm d
        let k := a % 8192
        if k < 4096 then ((m.image.map (fun i => i.prog.getD k 0)).getD 0, true)
        else if k < 5120 then (BitVec.ofNat 32 (wrapInt 24 (cAt m.coef (k - 4096))), true)
        else if k < 6144 then (BitVec.ofNat 32 (wrapInt 32 (sAt m.samp (k - 5120))), true)
        else (0, false)
      | none => (0, false)
    | _ => (0, false)

/-- The address after a read: ADDR advances by 1 (R458). -/
def nextSel (sel : Word) : Word := putBits sel 23 0 (bits sel 23 0 + 1)

/-- One readout: the word, and the free value it may have taken is not taken again. -/
def State.readoutStep (s : State) (sel : Word) : State × Word × Bool :=
  let r := s.readout sel
  ({ s with free := s.free + 1 }, r.1, r.2)

/-- RD_DATA_READ. -/
def State.rdData (s : State) : State :=
  if s.glob.mode = .off || s.glob.heldInReset then s
  else if !s.frozen then (s.noteWake 0x02).emit (.regData 0)
  else
    let sel := s.reg .DBG_RD_ADDR 0 0
    let r := s.readoutStep sel
    (r.1.setReg .DBG_RD_ADDR 0 0 (nextSel sel)).emit (.regData r.2.1)

/-- FRZ_DATA: the 33-bit register at Capture-DR. -/
def State.jtagData (s : State) : State :=
  if s.glob.mode = .off || s.glob.heldInReset then s
  else if !s.frozen then s.emit (.jtag 0)
  else
    let sel := s.dbg.jtagSel
    let r := s.readoutStep sel
    ({ r.1 with dbg := { r.1.dbg with jtagSel := nextSel sel } }).emit
      (.jtag (BitVec.ofNat 33 (r.2.1.toNat + b2n r.2.2 * 2 ^ 32)))

/-- FRZ_SEL of JTAG. -/
def State.jtagSel (s : State) (v : Word) : State :=
  if s.glob.mode = .off || s.glob.heldInReset then s else { s with dbg := { s.dbg with jtagSel := v } }

/-- An SMBus transaction of the readout path; one whose PEC fails is ignored and counted (R234, R458). -/
def State.smbRun (s : State) (pec : Bool) (f : State → State) : State :=
  if !s.smbAlive then s
  else if !pec then { s with trump := { s.trump with pecFails := min 255 (s.trump.pecFails + 1) } }
  else f (s.noteWake 0x06)

/-- FRZ_SEL of SMBus. -/
def State.smbSel (s : State) (v : Word) : State := { s with dbg := { s.dbg with smbSel := v } }

/-- FRZ_READ: `n` words from the SMBus address. -/
def State.smbWords (s : State) : Nat → State × List Byte
  | 0 => (s, [])
  | n + 1 =>
    let sel := s.dbg.smbSel
    let r := s.readoutStep sel
    let s' : State := { r.1 with dbg := { r.1.dbg with smbSel := nextSel sel } }
    let t := s'.smbWords n
    (t.1, leBytes 4 r.2.1.toNat ++ t.2)

/-- FRZ_READ: 1 to 8 words, or a count of 0 outside FREEZE. -/
def State.smbRead (s : State) (words : Nat) : State :=
  if s.frozen then
    let r := s.smbWords (max 1 (min 8 words))
    r.1.emit (.smb r.2)
  else s.emit (.smb [])

/-- FRZ_STAT: frozen and sources, three bytes of 0, and DBG_FRZ_ENTRY. -/
def State.smbStat (s : State) : State :=
  let b0 := b2n s.frozen + 2 * s.frzSources
  s.emit (.smb (leBytes 4 b0 ++ leBytes 4 (s.reg .DBG_FRZ_ENTRY 0 0).toNat))

def execRdDataRead (s : State) : Host.Outcome State Fault Refusal := .next s.rdData
def execJtagFrzSel (v : Word) (s : State) : Host.Outcome State Fault Refusal := .next (s.jtagSel v)
def execFrzData (s : State) : Host.Outcome State Fault Refusal := .next s.jtagData
def execFrzSel (pec : Bool) (v : Word) (s : State) : Host.Outcome State Fault Refusal :=
  .next (s.smbRun pec (fun s => s.smbSel v))
def execFrzRead (pec : Bool) (words : Nat) (s : State) : Host.Outcome State Fault Refusal :=
  .next (s.smbRun pec (fun s => s.smbRead words))
def execFrzStat (pec : Bool) (s : State) : Host.Outcome State Fault Refusal :=
  .next (s.smbRun pec State.smbStat)

def execFrameRead (n : Fin 6) (s : State) : Host.Outcome State Fault Refusal :=
  .next (s.bar0Read (RegId.addr .FRAME n 0))
def execCapRead (n : Fin 16) (s : State) : Host.Outcome State Fault Refusal :=
  .next (s.bar0Read (RegId.addr .TMR_CAP n 0))
def execCtrLoRead (k : Fin 32) (s : State) : Host.Outcome State Fault Refusal :=
  .next (s.bar0Read (RegId.addr .PMC_LO k 0))

/-- USER_CTR_READ: a read of a function's BAR2 page (R454). -/
def State.userCtrRead (s : State) (f : Fin 16) (k : Fin 32) (high : Bool) : State :=
  if s.glob.mode = .off || s.glob.heldInReset || !s.fnExists f then s
  else
    let r := s.userCtr f k high
    r.1.emit (.regData r.2)

def execUserCtrRead (f : Fin 16) (k : Fin 32) (high : Bool) (s : State) : Host.Outcome State Fault Refusal :=
  .next (s.userCtrRead f k high)

end Sys2Proof.Machine
end

