-- ==== Sys2Proof/Machine/Checks.lean ====
section
/-!
DEFINITION. The checks of a descriptor in the order of R91: type, reserved fields, TYPES, the trump
flag, presence, HEADS, the trick, memory present, windows and permission maps, and the unit-specific
checks of the chapters that define the types. A DETAIL the manual does not give is left free.
-/

set_option Elab.async false  -- the joined text is large: no thread per declaration

namespace Sys2Proof.Machine

/-! ### Verdicts -/

/-- VIOLATION with DESC_FIELD. -/
def badField : Option Verdict := some (.viol stViolation 0x02 none)

/-- The first verdict of a list of checks. -/
def firstOf : List (Option Verdict) → Option Verdict
  | [] => none
  | some v :: _ => some v
  | none :: vs => firstOf vs

/-- A verdict when a test fails. -/
def need (ok : Bool) (v : Option Verdict) : Option Verdict := if ok then none else v

/-! ### Checks 1 to 7 -/

/-- TRICK of a type (R90): 0 it must be zero, 1 it may be, 2 it is required. -/
def trickNeed (type : Nat) : Nat :=
  match type with
  | 0x01 | 0x02 | 0x04 | 0x05 | 0x06 | 0x07 | 0x08 | 0x0C => 2
  | 0x03 | 0x09 | 0x0A => 1
  | _ => 0

/-- Reserved header bits are 0, HEAD is not 0b110, and TRICK follows R90. -/
def headerOk (type : Nat) (h : Hdr) : Bool :=
  !h.flags.getLsbD 3 && !h.flags.getLsbD 7 && h.head ≠ 6 &&
  (match trickNeed type with
   | 0 => h.trick = 0
   | 1 => true
   | _ => h.trick ≠ 0)

/-- Bytes `off` to 63 are 0. -/
def tailZero (p : BitVec 448) (off : Nat) : Bool := pay p off (64 - off) = 0

/-- Pairs of a REG_WRITE: address and value. -/
def regPairs (p : BitVec 448) : List (Nat × Word) :=
  (List.range (pay p 8 1)).map (fun i => (pay p (12 + 8 * i) 4, BitVec.ofNat 32 (pay p (16 + 8 * i) 4)))

/-- An address is a multiple of 4 below the size of BAR0. -/
def bar0Addr (a : Nat) : Bool := a % 4 = 0 && a < 0x1000000

/-- The payload of a type passes check 2 (R91, R94, R95, R469). -/
def payloadOk (type : Nat) (h : Hdr) (p : BitVec 448) : Bool :=
  match type with
  | 0x01 => pay p 8 1 / 64 = 0 && pay p 9 1 / 2 = 0 && tailZero p 10
  | 0x02 => pay p 9 3 = 0 && tailZero p 16
  | 0x03 =>
    pay p 9 3 = 0 && pay p 60 4 = 0 && 1 ≤ pay p 8 1 && pay p 8 1 ≤ 6 &&
    (regPairs p).all (fun e => bar0Addr e.1)
  | 0x04 => pay p 26 2 = 0 && tailZero p 32
  | 0x05 => pay p 24 1 / 16 = 0 && tailZero p 26
  | 0x06 => tailZero p 29
  | 0x07 => tailZero p 21
  | 0x08 => pay p 19 1 / 2 = 0 && tailZero p 24
  | 0x09 => tailZero p 20
  | 0x0A => pay p 49 1 / 4 = 0 && pay p 50 1 / 2 = 0 && pay p 51 1 / 16 = 0 && tailZero p 52
  | 0x0B => pay p 21 1 / 2 = 0 && tailZero p 22
  | 0x0C => tailZero p 21
  | 0x0D => pay p 10 2 = 0 && tailZero p 16 && pay p 8 1 ≤ 1 && pay p 9 1 ≤ 1 && !(pay p 9 1 = 1 && h.head = 7)
  | 0x0E =>
    pay p 9 3 = 0 && tailZero p 16 && pay p 8 1 ≤ 4 &&
    (if pay p 8 1 = 0 then bar0Addr (pay p 12 4) else pay p 12 4 = 0) &&
    !(pay p 8 1 = 4 && h.head = 7)
  | 0x0F => tailZero p 12
  | 0x10 => tailZero p 8
  | _ => true

/-- Check 4: FLAGS.TRUMP is accepted (R91, R232). -/
def State.trumpOk (s : State) (h : Hdr) : Bool :=
  h.fn = 0 && s.flag F.GLB_TRUMP_SESSION_OPEN &&
  (match h.headFin with
   | some n => !s.flag (F.TRUMP_CTL_SMB_EXCL n)
   | none => true)

/-- Check 5: the named head and the unit of the type are present. -/
def State.unitsPresent (s : State) (type : Nat) (h : Hdr) : Bool :=
  (match h.headFin with | some n => s.headPresent n | none => true) && (type ≠ 0x09 || s.part.blt)

/-- HEADS of a slot's function at its fetch. -/
def Slot.heads (x : Slot) : Nat := bits x.ctl 13 8

/-- The head of the sequencer a SEQ_LOAD loads, if it is one of 0 to 5 and its head is present. -/
def State.loadHead (s : State) (p : BitVec 448) : Option (Fin 6) :=
  if h : seqNo p < 6 then (if s.headPresent (seqNo p) then some ⟨seqNo p, h⟩ else none) else none

/-- Check 6: the heads a descriptor names are in HEADS. -/
def State.headsAllowed (s : State) (x : Slot) : Bool :=
  (match x.hdr.headFin with | some n => x.heads.testBit n.val | none => true) &&
  (x.type ≠ 0x08 || (match s.loadHead x.payload with | some n => x.heads.testBit n.val | none => true))

/-- The trick a descriptor names as it is fetched: open, and its function's (R92, R116). -/
def State.trickAt (s : State) (h : Hdr) : Option Nat :=
  if h.trick = 0 then none
  else match s.trickOf h.fn h.trick with
    | some t => if t.phase = .opened then some t.key else none
    | none => none

/-- What R390 keeps out of a wall trick. -/
def State.wallLimits (s : State) (x : Slot) : Option Verdict :=
  match x.trick.bind s.trick with
  | some t =>
    if !t.wall then none
    else if x.hdr.trumpFlag then some (.viol stPermission 0x0E none)
    else need (x.type ≠ 0x09 && x.type ≠ 0x0A) badField
  | none => none

/-- Checks 1 to 6 of R91, made at the fetch. -/
def State.checkEarly (s : State) (x : Slot) : Option Verdict :=
  firstOf (
    need (x.type ≤ 0x10) (some (.viol stViolation 0x01 none)) ::
    need (headerOk x.type x.hdr && payloadOk x.type x.hdr x.payload) badField ::
    need (bit (s.reg .HIF_FN_TYPES x.hdr.fn 0) x.type && (x.type ≠ 0x10 || x.hdr.fn = 0))
      (some (.viol stPermission 0x0A none)) ::
    need (!x.hdr.trumpFlag || s.trumpOk x.hdr) (some (.viol stPermission 0x0E none)) ::
    need (s.unitsPresent x.type x.hdr) (some (.plain stAbsent s.part.unitPresent)) ::
    need (s.headsAllowed x) (some (.viol stPermission 0x0B none)) :: [])

/-- A descriptor must name an open trick where it names one, except TRICK_BEGIN. -/
def Slot.wantsTrick (x : Slot) : Bool := x.type ≠ 0x01 && x.hdr.trick ≠ 0

/-- Check 7, and what R390 keeps out of a wall trick. It is made when the descriptor starts, so that a
TRICK_BEGIN that waits before it has opened its trick. -/
def State.checkTrick (s : State) (x : Slot) : Option Verdict :=
  firstOf (
    need (!x.wantsTrick || x.trick.isSome) (some (.viol stViolation 0x09 none)) ::
    s.wallLimits x :: [])

/-! ### Permission maps (R74 to R76) -/

/-- Registers whose writes only the physical function's map admits (R74 and the chapters that say so). That a VF's
map may grant TMR_IRQ and GPIO_IRQ, which have "the layout and access of SEQn_IRQ", is a choice of the model (DESIGN
CHOICE, log entry 89). -/
def pfOnly (r : RegId) : Bool :=
  match r with
  | .GLB_FB_CTL | .GLB_RESET | .TRK_FN_OPEN | .SEQ_CMD | .SEQ_IRQ | .BLT_CTL | .SLU_CTL | .PLAY_CTL
  | .CAP_CTL | .CAP_BASE_LO | .CAP_BASE_HI | .CAP_REC_LO | .CAP_REC_HI | .HS_IRQ
  | .HIF_FN_CTL | .HIF_FN_TYPES | .HIF_FN_SLOTS | .HIF_FN_LAT | .HIF_FN_TARN | .HIF_FN_DRAM
  | .HIF_PMAP_RANGE | .HIF_PMAP_MASK | .HIF_RING_SQ_LO | .HIF_RING_SQ_HI | .HIF_RING_CQ_LO
  | .HIF_RING_CQ_HI | .HIF_RING_DB_LO | .HIF_RING_DB_HI | .HIF_RING_CTL | .HIF_RING_STATUS
  | .VLG_QUARANTINE_COUNT | .VLG_BASE_LO | .VLG_BASE_HI | .VLG_FN_CTL | .VLG_TOTAL | .VLG_SEQ | .VLG_DROP => true
  | _ =>
    let a := r.row.base
    (0x280000 ≤ a && a < 0x2A0000) || (0x2C0000 ≤ a && a < 0x2E0000)

/-- The trump key registers, which no map admits (R233). -/
def isKeyReg (r : RegId) : Bool :=
  match r with
  | .GLB_TRUMP_KEY_LO | .GLB_TRUMP_KEY_HI | .GLB_TRUMP_SESSION => true
  | _ => false

/-- The trump fields of a head (R233), and the settings of its bench indicator. -/
def isTrumpField (r : RegId) : Bool := isTrumpReg r || r = .TRUMP_CMD

/-- Entry `e` of a function's map admits an address. -/
def State.pmapHit (s : State) (f e a : Nat) : Bool :=
  let w := s.reg .HIF_PMAP_RANGE f e
  let lo := bits w 23 2 * 4
  bit w 0 && lo ≤ a && a ≤ lo + 4 * bits w 31 24

/-- Writable bits a virtual function's map gives an address: the union over its entries (R75). -/
def State.pmapMask (s : State) (f a : Nat) : Option Word :=
  (List.range 128).foldl (fun m e =>
    if s.pmapHit f e a then some (m.getD 0 ||| s.reg .HIF_PMAP_MASK f e) else m) none

/-- What the map of a function gives a write of an address. -/
def State.writeMask (s : State) (f : Fin 16) (a : Nat) : Option Word :=
  if f = 0 then some 0xFFFFFFFF
  else match decodeReg a with
    | some (r, _, _) => if pfOnly r then none else s.pmapMask f a
    | none => s.pmapMask f a

/-- What the map gives a QUERY of an address (R76, R467). -/
def State.queryMask (s : State) (f : Fin 16) (a : Nat) : Option Word :=
  if f = 0 then some 0xFFFFFFFF
  else match decodeReg a with
    | some (.GLB_ID, _, _) | some (.GLB_PART, _, _) | some (.GLB_CAP0, _, _) | some (.GLB_CAP1, _, _)
    | some (.GLB_CAP2, _, _) => some 0xFFFFFFFF
    | _ => s.pmapMask f a

/-- The masks of a descriptor at its fetch (R79). -/
def State.masksOf (s : State) (type : Nat) (f : Fin 16) (p : BitVec 448) : List (Option Word) :=
  match type with
  | 0x03 => (regPairs p).map (fun e => s.writeMask f e.1)
  | 0x0E => if pay p 8 1 = 0 then [s.queryMask f (pay p 12 4)] else []
  | _ => []

/-- A pair passes check 9: its map, and the rules on trump registers (R75, R233). -/
def pairOk (h : Hdr) (e : (Nat × Word) × Option Word) : Bool :=
  match e.2 with
  | none => false
  | some m =>
    e.1.2 &&& ~~~m = 0 &&
    (match decodeReg e.1.1 with
     | some (r, i, _) => !isKeyReg r && (!isTrumpField r || (h.trumpFlag && h.head = i))
     | none => true)

/-! ### Checks 8 and 9 -/

/-- Source range in device memory, for the types whose byte `k` is SRC_KIND. -/
def devSource (k : Nat) (type : Nat) (p : BitVec 448) : List (Bool × Nat × Nat) :=
  if pay p k 1 = 1 then [(false, pay p 8 8, srcBytes type p)] else []

/-- Device ranges a descriptor names: whether a destination, start, length. Those of map, palette and
deck entries lie where the committed registers put them (R188, R189, R211). -/
def State.devRanges (s : State) (x : Slot) : List (Bool × Nat × Nat) :=
  let p := x.payload
  match x.type, x.hdr.headFin with
  | 0x04, some n =>
    devSource 17 x.type p ++
    (if mapPlane p < 16 then (s.mapPlan n p []).map (fun w => (true, w.1, 3)) else [])
  | 0x04, none => devSource 17 x.type p
  | 0x05, some n => devSource 25 x.type p ++ [(true, s.deckBase n + 12 * deckFirst p, 12 * deckCount p)]
  | 0x05, none => devSource 25 x.type p
  | 0x06, _ => devSource 28 x.type p ++ [(true, patDst p, patLen p)]
  | 0x07, some n => devSource 20 x.type p ++ [(true, s.fld (F.PAL_BASE_BASE n) * 64 + 3 * palFirst p, 3 * palCount p)]
  | 0x07, none => devSource 20 x.type p
  | 0x08, _ => devSource 17 x.type p
  | 0x09, _ => if pay p 19 1 = 1 then [(false, pay p 8 8, 64 * pay p 16 2)] else []
  | 0x0A, _ =>
    let e (dst : Bool) (r : Nat × Nat) : Bool × Nat × Nat := (dst, r.1, r.2 - r.1)
    (if sluSrcDev p then [e false (sluSrcExt p)] else []) ++ (if sluDstDev p then [e true (sluDstExt p)] else [])
  | 0x0C, _ => devSource 20 x.type p
  | _, _ => []

/-- DETAIL of an address check: the start of the range when its first byte already fails. -/
def addrDetail (firstOk : Bool) (a : Nat) : Option Nat := if firstOk then none else some a

/-- Check 8. -/
def State.check8 (s : State) (x : Slot) : Option Verdict :=
  match (s.devRanges x).find? (fun e => !s.present e.2.1 e.2.2) with
  | some e => some (.viol stViolation 0x08 (addrDetail (s.present e.2.1 1) e.2.1))
  | none => none

/-- Check 9. -/
def State.check9 (s : State) (x : Slot) : Option Verdict :=
  match (s.devRanges x).find? (fun e => !s.slotRange x e.1 e.2.1 e.2.2) with
  | some e => some (.viol stPermission 0x0D (addrDetail (s.slotRange x e.1 e.2.1 1) e.2.1))
  | none =>
    let maps :=
      if x.type = 0x03 then ((regPairs x.payload).zip x.masks).all (pairOk x.hdr)
      else x.masks.all Option.isSome
    need maps (some (.viol stPermission 0x0C none))

/-! ### Check 10 -/

/-- SRC_KIND is legal, and a device source is a multiple of 64. -/
def sourceOk (k : Nat) (p : BitVec 448) : Bool :=
  pay p k 1 ≤ 1 && (pay p k 1 = 0 || pay p 8 8 % 64 = 0)

/-- HEADS of the trick a slot named; all of them where it named none. -/
def State.trickHeads (s : State) (x : Slot) : BitVec 6 :=
  match x.trick.bind s.trick with | some t => t.heads | none => 0x3F

/-- TRICK_BEGIN (R113, R135); check 7 in its own form comes first. -/
def State.checkBegin (s : State) (x : Slot) : Option Verdict :=
  let f := x.hdr.fn
  firstOf (
    need (!(s.trickOf f x.hdr.trick).isSome) (some (.viol stViolation 0x09 none)) ::
    need (pay x.payload 9 1 = 0 || s.dealer) badField ::
    need (s.openOf f < s.fld (F.TRK_FN_OPEN_LIMIT f) && pay x.payload 8 1 &&& x.heads = pay x.payload 8 1)
      (some (.viol stViolation 0x13 none)) :: [])

/-- Check 10 of TRICK_COMMIT: MODE and TARGET (R118, R139). -/
def State.checkCommit (s : State) (x : Slot) : Option Verdict :=
  if pay x.payload 8 1 ≠ 1 then need (pay x.payload 8 1 ≤ 2 && pay x.payload 12 4 = 0) badField
  else match (x.trick.bind s.trick).bind s.anchorOf with
    | some n => need (decide (frameDiff (BitVec.ofNat 32 (pay x.payload 12 4)) (s.head n).frame ≤ 255)) badField
    | none => none

/-- A register write of a pair staged into a trick: trick-class and line-class fields (R94, R122). -/
def stagedPair (e : (Nat × Word) × Option Word) : Option RegW :=
  match decodeReg e.1.1 with
  | some (r, i, j) =>
    if r.row.cls = .trick || r.row.cls = .line then
      some ⟨r, i, j, e.1.2, e.2.getD 0⟩
    else none
  | none => none

/-- The writes a REG_WRITE stages. -/
def Slot.stagedPairs (x : Slot) : List RegW :=
  ((regPairs x.payload).zip x.masks).filterMap stagedPair

/-- REG_WRITE (R94, R114, R115, R238). -/
def State.checkRegs (s : State) (x : Slot) : Option Verdict :=
  let ws := x.stagedPairs.filter (fun w => s.regPresent w.id w.i w.j)
  firstOf (
    need (x.stagedPairs.isEmpty || x.hdr.trick ≠ 0) badField ::
    need (ws.all (fun w => match windowHead (w.id.addr w.i w.j) with
      | some n => (s.trickHeads x).getLsbD n.val | none => true)) badField ::
    need (match x.trick.bind s.trick with
      | some t => t.spoil.isSome || t.writes.length + ws.length ≤ 4096 | none => true)
      (some (.viol stViolation 0x13 none)) ::
    need ((regPairs x.payload).all (fun e => match decodeReg e.1 with
      | some (.TRUMP_CMD, i, _) => if q : i < 6 then !s.trumpCmdRefused ⟨i, q⟩ e.2 else true
      | _ => true)) (some (.viol stViolation 0x14 none)) :: [])

/-- MAP_UPDATE (R190). -/
def State.checkMap (s : State) (x : Slot) : Option Verdict :=
  let p := x.payload
  match x.hdr.headFin with
  | none => badField
  | some n =>
    let k := mapPlane p
    let wl := s.fld (F.PL_MAPDIM_W_LOG2 n k)
    let hl := s.fld (F.PL_MAPDIM_H_LOG2 n k)
    need (k < 16 && s.fld (F.PL_CTL_MODE n k) = 0 && 4 ≤ wl && wl ≤ 11 && 4 ≤ hl && hl ≤ 11 &&
      mapCol p < 2 ^ wl && mapRow p < 2 ^ hl && 1 ≤ mapWidth p && mapWidth p ≤ 2 ^ wl &&
      1 ≤ mapHeight p && mapHeight p ≤ 2 ^ hl && 3 * mapWidth p ≤ mapPitch p && sourceOk 17 p &&
      (pay p 17 1 = 0 || mapPitch p % 64 = 0) && (s.trickHeads x).getLsbD n.val) badField

/-- DECK_UPDATE (R212). -/
def State.checkDeck (s : State) (x : Slot) : Option Verdict :=
  let p := x.payload
  match x.hdr.headFin with
  | none => badField
  | some n =>
    need (deckFirst p ≤ 65535 && 1 ≤ deckCount p && deckFirst p + deckCount p ≤ 65536 &&
      deckWords p % 16 ≠ 0 && s.fld (F.OBJ_DECK_BASE n) % 3 = 0 && sourceOk 25 p &&
      (s.trickHeads x).getLsbD n.val) badField

/-- PATTERN_LOAD (R172). -/
def checkPat (x : Slot) : Option Verdict :=
  let p := x.payload
  need (patDst p % 64 = 0 && patLen p % 64 = 0 && 64 ≤ patLen p && patLen p ≤ 16777216 &&
    patDst p + patLen p ≤ 0x4000000 && sourceOk 28 p) badField

/-- PALETTE_LOAD (R188). -/
def State.checkPal (s : State) (x : Slot) : Option Verdict :=
  let p := x.payload
  match x.hdr.headFin with
  | none => badField
  | some n =>
    need (palFirst p ≤ 4095 && 1 ≤ palCount p && palFirst p + palCount p ≤ 4096 && sourceOk 20 p &&
      (s.trickHeads x).getLsbD n.val) badField

/-- Another uncommitted trick holds the shadow bank that a SEQ_LOAD names (R290). -/
def State.shadowBusy (s : State) (x : Slot) : Bool :=
  match x.trick, allSeqs.find? (fun q => q.val = seqNo x.payload) with
  | some k, some q => (match s.seqGrant k q with | .limit => true | _ => false)
  | _, _ => false

/-- SEQ_LOAD (R114, R289, R290). -/
def State.checkSeq (s : State) (x : Slot) : Option Verdict :=
  let p := x.payload
  let size := if seqMem p = 0 then 16384 else 4096
  let bound := s.loadHead p
  firstOf (need (seqNo p ≤ 7 && seqMem p ≤ 1 && 1 ≤ pay p 22 2 && seqFirst p + pay p 22 2 ≤ size && sourceOk 17 p &&
    (x.hdr.head = 7 || (match bound with | some n => n.val = x.hdr.head | none => false)) &&
    (match bound with | some n => (s.trickHeads x).getLsbD n.val | none => true)) badField ::
    need (!s.shadowBusy x) (some (.viol stViolation 0x15 none)) :: [])

/-- BLIT_LIST (R318): the contexts open to its function are those of its fetch (R79). -/
def checkBlit (x : Slot) : Option Verdict :=
  let p := x.payload
  firstOf (
    need (1 ≤ pay p 16 2 && pay p 16 2 ≤ 1024 && pay p 18 1 ≤ 7 && pay p 19 1 ≤ 1 && pay p 8 8 % 64 = 0) badField ::
    need (x.chans.getLsbD (pay p 18 1)) (some (.viol stPermission 0x16 none)) :: [])

/-- SEQ of the log entry of the lease that fenced a function from Sluice (R342). -/
def State.leaseEntry (s : State) (f : Fin 16) : Word :=
  match s.mv.leaseSeq.find? (fun e => e.1 = f.val) with | some e => e.2 | none => 0

/-- SLUICE (R335, R337, R338). -/
def State.checkSluice (s : State) (x : Slot) : Option Verdict :=
  let p := x.payload
  firstOf (
    need (sluFieldsOk p) badField ::
    need (!s.mv.sluFenced.getLsbD x.hdr.fn.val) (some (.plain stRevoked (s.leaseEntry x.hdr.fn))) ::
    need (if sluChan p = 0xFF then x.chans ≠ 0 else x.chans.getLsbD (sluChan p))
      (some (.viol stPermission 0x17 none)) ::
    (sluMisaligned p).map (fun o => Verdict.plain stAlign (BitVec.ofNat 32 o)) ::
    need (sluMeet p = 0 || sluEqual p || sluMeet p ≤ 65536)
      (some (.plain stOverlap (BitVec.ofNat 32 (min (sluMeet p) 0xFFFFFFFF)))) :: [])

/-- AUDIO_STREAM (R353). -/
def State.checkAudio (s : State) (x : Slot) : Option Verdict :=
  let p := x.payload
  if h : pay p 20 1 < 16 then
    let n : Fin 16 := ⟨pay p 20 1, h⟩
    let len := pay p 16 4
    let fb := s.frameBytes n
    let o := s.fld (F.PLAY_CTL_OWNER n)
    firstOf (
      need (fb ≤ len && len ≤ 16777216 && len % fb = 0) badField ::
      need (s.flag (F.PLAY_CTL_EN n) && (16 ≤ o || o = x.hdr.fn.val)) (some (.viol stPermission 0x1A none)) :: [])
  else badField

/-- GRAPH_LOAD, step 1 of R364; the rest needs the image. -/
def checkGraph (x : Slot) : Option Verdict :=
  let p := x.payload
  need (64 ≤ pay p 16 4 && pay p 16 4 ≤ 65536 && pay p 16 4 % 4 = 0 && sourceOk 20 p) badField

/-- Check 10 of R91. -/
def State.check10 (s : State) (x : Slot) : Option Verdict :=
  match x.type with
  | 0x01 => s.checkBegin x
  | 0x02 => s.checkCommit x
  | 0x03 => s.checkRegs x
  | 0x04 => s.checkMap x
  | 0x05 => s.checkDeck x
  | 0x06 => checkPat x
  | 0x07 => s.checkPal x
  | 0x08 => s.checkSeq x
  | 0x09 => checkBlit x
  | 0x0A => s.checkSluice x
  | 0x0B => s.checkAudio x
  | 0x0C => checkGraph x
  | 0x10 => need (!s.jrnl.skip) badField
  | _ => none

/-- Checks 8 to 10 of R91, as things stand when the descriptor starts. -/
def State.checkLate (s : State) (x : Slot) : Option Verdict :=
  firstOf (s.check8 x :: s.check9 x :: s.check10 x :: [])

/-- End a slot with a verdict: a violation is logged, its DETAIL free where the manual gives none. -/
def State.endVerdict (s : State) (id : Nat) (v : Verdict) : State :=
  match v with
  | .plain st d => s.complete id st d
  | .viol st code (some d) => s.completeViol id st code d
  | .viol st code none =>
    let d := s.freeDetail
    d.1.completeViol id st code d.2

end Sys2Proof.Machine
end

