-- ==== Sys2Proof/Machine/RegIo.lean ====
section
/-!
DEFINITION. Register writes (R14, R15, R468): what a write of each commit-class-now register does
beyond storing its fields, and BAR0 writes, which form implicit tricks where a field's class is trick
or line (R123, R465).
-/

set_option Elab.async false  -- the joined text is large: no thread per declaration

namespace Sys2Proof.Machine

/-! ### Fields the device refuses or clamps -/

/-- A write of HIF_FN_SLOTS: a QUOTA that would take the sum past 4,096 is refused (R78). -/
def State.quotaWrite (s : State) (f : Fin 16) (new : Word) : State :=
  let q (g : Fin 16) : Nat := if g = f then bits new 12 0 else s.fld (F.HIF_FN_SLOTS_QUOTA g)
  if 4096 < (allFns.map q).sum then s.raiseF F.HIF_STATUS_QUOTA_ERR else s.setReg .HIF_FN_SLOTS f 0 new

/-- A write of HIF_FN_CTL: a VEC_COUNT that would take the sum past 512 is refused, the other fields
are written (R78). -/
def State.fnCtlWrite (s : State) (f : Fin 16) (new : Word) : State :=
  let v (g : Fin 16) : Nat := if g = f then bits new 6 0 else s.fld (F.HIF_FN_CTL_VEC_COUNT g)
  if 512 < (allFns.map v).sum then
    (s.setReg .HIF_FN_CTL f 0 (putBits new 6 0 (s.fld (F.HIF_FN_CTL_VEC_COUNT f)))).raiseF F.HIF_STATUS_QUOTA_ERR
  else s.setReg .HIF_FN_CTL f 0 new

/-- A write of TRK_FN_OPEN: a LIMIT that would take the sum past 64 is refused (R138). -/
def State.limitWrite (s : State) (f : Fin 16) (new : Word) : State :=
  let v (g : Fin 16) : Nat := if g = f then bits new 6 0 else s.fld (F.TRK_FN_OPEN_LIMIT g)
  if 64 < (allFns.map v).sum then s.raiseF F.TRK_STATUS_LIMIT_ERR else s.setReg .TRK_FN_OPEN f 0 new

/-- A write of MEM_POOL (R150). -/
def State.poolWrite (s : State) (units : Nat) : State :=
  let u := min 512 (max 16 units)
  let top := 0x4000000 - u * 0x10000
  let ok := s.openTricks = 0 && s.stagedCount = 0 && !s.pagesWait &&
    !(List.range 6).any (fun n => overlaps (top, 0x4000000) (s.trumpRegion n))
  if !ok then s.raiseF F.MEM_POOL_STATUS_CFG_ERR
  else
    let was := s.tarnTop
    let s := s.setF F.MEM_POOL_UNITS u
    if top < was then s.scramble top was
    else if was < top then { s with mem := s.mem.fill was top .zero }
    else s

/-! ### The Causeway's registers -/

/-- SET_ID on its way to the hand at `path`: it goes down the port its next hop names. A parent
learns the new ID of its child, and admits a child that had none (R379, R380). -/
def State.sendSetId (s : State) (path id : Nat) : State :=
  let d := s.cwyPath / 16384
  let hops := path % 16384
  if path / 16384 ≤ d || hops % 4 ^ d ≠ s.cwyPath % 16384 then s
  else match downPorts.find? (fun p => p.val = hops / 4 ^ d % 4 + 1) with
    | none => s
    | some p =>
      let c := s.cport p
      if c.run ≠ .active then s
      else
        let s := s.sendDown p (.setId path id)
        if path / 16384 ≠ d + 1 then s
        else
          let s := s.modPort p (fun c => { c with peer := id })
          if c.joined || c.benched then
            if s.dealer then s.modCwy (fun y => { y with
              hands := y.hands.map (fun h => if h.2.1 = path then (id, h.2) else h) }) else s
          else s.admitChild p

/-- A write of CWY_SETID with GO on the dealer (R380). -/
def State.setIdWrite (s : State) (v : Word) : State :=
  if s.dealer && bit v 31 then s.sendSetId (s.fld ⟨.CWY_SETID_PATH, 0, 0, 16, 0⟩) (bits v 13 0) else s

/-- A write of CWY_REJOIN with GO on the dealer: the hand named waits for the resynchronisation trick
(R401). -/
def State.rejoinWrite (s : State) (v : Word) : State :=
  let id := bits v 13 0
  if s.dealer && bit v 31 && id ≠ 0 && !s.cwy.rejoin.contains id then
    s.modCwy (fun c => { c with rejoin := c.rejoin ++ [id] })
  else s

/-! ### Counters -/

/-- PMC_START and PMC_STOP: EN of every counter of the mask (R452). -/
def State.pmcRun (s : State) (mask : Word) (on : Nat) : State :=
  (List.range 32).foldl (fun s k => if bit mask k then s.setF (F.PMC_CFG_EN k) on else s) s

/-- A write of a register that can raise the condition of R453. -/
def State.pmcWrite (s : State) (r : RegId) (i : Nat) (new : Word) : State :=
  let armed := s.pmcArmed
  let s := s.setReg r i 0 new
  if !armed && s.pmcArmed then s.signal (s.reg .PMC_IRQ 0 0) else s

/-- A write of a counter's value: it takes effect only while EN is 0 (R452). -/
def State.pmcValue (s : State) (k : Fin 32) (high : Bool) (v mask : Word) : State :=
  if s.flag (F.PMC_CFG_EN k) then s
  else
    let old : BitVec 48 := s.pmc.count[k]
    let new : BitVec 48 :=
      if high then
        let o : Word := (old >>> 32).setWidth 32
        let h : BitVec 16 := ((o &&& ~~~mask) ||| (v &&& mask)).setWidth 16
        h ++ old.setWidth 32
      else
        let o : Word := old.setWidth 32
        let h : BitVec 16 := (old >>> 32).setWidth 16
        h ++ ((o &&& ~~~mask) ||| (v &&& mask))
    { s with pmc := { s.pmc with count := s.pmc.count.set k new } }

/-! ### A write of commit class now -/

/-- What a register holds after a write of the masked bits of `v`: fields that a write sets are
replaced, and fields that a written 1 clears are cleared (R14, R75). -/
def writtenWord (w : RegRow) (old v mask : Word) : Word :=
  ((old &&& ~~~(w.rw &&& mask)) ||| (v &&& w.rw &&& mask)) &&& ~~~(v &&& w.w1c &&& mask)

/-- Apply a write to the instance of an index below `m`. -/
def onIdx (m i : Nat) (s : State) (f : Fin m → State) : State := if h : i < m then f ⟨i, h⟩ else s

/-- Registers of the host interface, tricks, memory and the device itself. -/
def State.writeA (s : State) (r : RegId) (i j : Nat) (vm new : Word) : Option State :=
  match r with
  | .GLB_RESET => some (s.resetWrite vm s.strapsNow)
  | .GLB_TRUMP_KEY_LO => some (s.keyLoWrite vm)
  | .GLB_TRUMP_KEY_HI => some (s.presentKey vm)
  | .GLB_TRUMP_SESSION => some (s.sessionWrite vm)
  | .HIF_CTL => some (s.setReg r i j (putBits new 25 16 (min 1000 (max 10 (bits new 25 16)))))
  | .HIF_FN_SLOTS => some (onIdx 16 i s (fun f => s.quotaWrite f new))
  | .HIF_FN_CTL => some (onIdx 16 i s (fun f => s.fnCtlWrite f new))
  | .HIF_RING_CTL => some (onIdx 16 i s (fun f => onIdx 64 j s (fun q => s.ringCtlWrite f q new)))
  | .TRK_FN_OPEN => some (onIdx 16 i s (fun f => s.limitWrite f new))
  | .MEM_POOL => some (s.poolWrite (bits new 9 0))
  | _ => none

/-- Registers of the heads and the sequencers. -/
def State.writeB (s : State) (r : RegId) (i j : Nat) (vm new : Word) : Option State :=
  match r with
  | .SINK_WB_HOLD => some (onIdx 6 i s (fun n => s.holdReg n ((new &&& 0xF) ||| (vm &&& 0x100))))
  | .TRUMP_CMD => some (onIdx 6 i s (fun n => if s.trumpCmdRefused n vm then s else s.trumpCmd n vm))
  | .DMG_ADD => some (onIdx 6 i s (fun n => s.dmgAdd n (bit vm 1) (bit vm 0)))
  | .DP_CTL => some (onIdx 6 i s (fun n =>
      let s := s.setReg r i j new
      if bit vm 31 then s.retrainHead n else s))
  | .DP_AUX_CMD => some (onIdx 6 i s (fun n =>
      if bit vm 31 then s.auxStart n (bits vm 30 28) (bits vm 27 24 + 1) (bits vm 19 0) else s))
  | .SEQ_CMD => some (onIdx 8 i s (fun q =>
      let s := if bit vm 0 then s.cmdHalt q else s
      if bit vm 1 then s.cmdRestart q else s))
  | .SEQ_RAISE => some (s.setReg r i j (if bit vm 31 then putBits new 23 16 0 else new))
  | _ => none

/-- Registers of audio, the Causeway, timers, pins, counters and debug. -/
def State.writeC (s : State) (r : RegId) (i j : Nat) (v mask new : Word) : Option State :=
  let vm := v &&& mask
  match r with
  | .AUD_RAMP_SET => some (s.rampSet vm)
  | .AUD_COEF_SET => some (s.coefSet vm)
  | .CAP_CTL => some (onIdx 8 i s (fun k =>
      let was := bit (s.reg r i j) 31
      let t := (s.setReg r i j new).ltrFrom s
      if bit new 31 && !was then { t with aud := { t.aud with capTotal := t.aud.capTotal.set k 0 } } else t))
  | .CWY_CTL | .CWY_PORT_CTL => some ((s.setReg r i j new).portsReview (fun p => s.portMayTrain p))
  | .CWY_SETID => some (s.setIdWrite vm)
  | .CWY_REJOIN => some (s.rejoinWrite vm)
  | .TMR_COUNT => some (onIdx 16 i s (fun n =>
      s.countWrite n ((BitVec.ofNat 32 (s.timer n).count &&& ~~~mask) ||| vm)))
  | .TMR_STAT => some ((s.setReg r i j new).tmrReview.tmrMsg)
  | .TMR_START => some (s.tmrStart vm)
  | .TMR_STOP => some (s.tmrStop vm)
  | .TMR_RESET => some (s.tmrReset vm)
  | .GPIO_OUT_SET => some (s.gpioOut (· ||| vm))
  | .GPIO_OUT_CLR => some (s.gpioOut (· &&& ~~~vm))
  | .GPIO_STAT => some ((s.setReg r i j new).gpioReview)
  | .GPIO_PM_STAT => some ((s.setReg r i j new).gpioMsg)
  | .PMC_START => some (s.pmcRun vm 1)
  | .PMC_STOP => some (s.pmcRun vm 0)
  | .PMC_CFG | .PMC_OVF => some (s.pmcWrite r i new)
  | .PMC_LO => some (onIdx 32 i s (fun k => s.pmcValue k false v mask))
  | .PMC_HI => some (onIdx 32 i s (fun k => s.pmcValue k true v mask))
  | .DBG_FRZ_CTL => some (s.frzCtl vm)
  | _ => none

/-- A write that takes effect at once, of the bits of `mask`. Registers of an absent unit ignore it
(R9). -/
def State.writeReg (s : State) (r : RegId) (i j : Nat) (v mask : Word) : State :=
  if !s.regPresent r i j then s
  else
    let vm := v &&& mask
    let new := writtenWord r.row (s.reg r i j) v mask
    match s.writeA r i j vm new with
    | some s => s
    | none => match s.writeB r i j vm new with
      | some s => s
      | none => match s.writeC r i j v mask new with
        | some s => s
        | none => s.setReg r i j new

/-! ### BAR0 writes -/

/-- A write of the whole word at a BAR0 offset outside FREEZE: at once, or as an implicit trick; the
trump fields and the settings of the bench indicator ignore it (R15, R123, R233, R399, R464). -/
def State.bar0Write (s : State) (a : Nat) (v : Word) : State :=
  match decodeReg a with
  | none => s
  | some (r, i, j) =>
    if isTrumpField r || !s.regPresent r i j then s
    else if r.row.cls = .trick || r.row.cls = .line then s.implicitTrick ⟨r, i, j, v, r.row.rw⟩
    else s.writeReg r i j v 0xFFFFFFFF

/-- A BAR0 offset lies in the window of an absent unit (R9). -/
def State.absentAt (s : State) (a : Nat) : Bool :=
  s.absentWindow a || (match decodeReg a with | some (r, i, j) => !s.regPresent r i j | none => false)

/-- A write of one aligned word of BAR0 with its byte enables (R465): a partial one is logged, but in the
window of an absent unit (R9). In FREEZE only DBG_FRZ_CTL and DBG_RD_ADDR act (R457). -/
def State.registerWrite (s : State) (a : Nat) (v : Word) (be : BitVec 4) : State :=
  let a := a / 4 * 4
  let dbg := a = RegId.addr .DBG_FRZ_CTL 0 0 || a = RegId.addr .DBG_RD_ADDR 0 0
  if !(s.glob.mode = .off) && !s.glob.heldInReset && s.frozen && dbg && be = 0xF then s.bar0Write a v
  else s.barWrite a (fun s =>
    if be = 0xF then s.bar0Write a v
    else if s.absentAt a then s
    else
      let d := s.freeDetail
      d.1.logEntry 0 0xFF 0 0x0C d.2)

end Sys2Proof.Machine
end

