-- ==== Sys2Proof/Machine/Host.lean ====
section
/-!
DEFINITION. Descriptors from fetch to completion: which rings are served (R88), the fetch and its
checks (R85, R91, R93), what each type does when it starts (R90), staging in ring order (R93, R147),
FENCE and QUERY (R95, R76), host reads (R71), and everything that waits on the device and can move on.
-/

set_option Elab.async false  -- the joined text is large: no thread per declaration

namespace Sys2Proof.Machine

/-! ### Staging source data into a trick -/

/-- How an attempt to stage ended. -/
inductive Staged where
  | done
  | wait
  | fail (v : Verdict)
  deriving DecidableEq, Repr

/-- Stage Tarn writes through the pool (R145, R147); a spoiled trick takes nothing (R117). -/
def State.stageTarn (s : State) (key : Nat) (p : Plan) (mk : State → Trick → Nat × List Byte → List StageMark) :
    State × Staged :=
  match s.trick key with
  | none => (s, .done)
  | some t =>
    if t.spoil.isSome then (s, .done)
    else match s.poolGrant t (t.lacks p).length with
      | .ok => (s.stagePlan key p mk, .done)
      | .wait => (s, .wait)
      | .limit => (s, .fail (.viol stViolation 0x13 none))

/-- Stage a SEQ_LOAD into the shadow bank of sequencer `q` (R290). -/
def State.stageLoad (s : State) (key : Nat) (q : Fin 8) (p : BitVec 448) (d : List Byte) : State × Staged :=
  match s.trick key with
  | none => (s, .done)
  | some t =>
    if t.spoil.isSome then (s, .done)
    else match s.seqGrant key q with
      | .ok => (s.stageSeq key q (seqMem p = 1) (seqClear p) (seqFirst p) (words24 d), .done)
      | .wait => (s, .wait)
      | .limit => (s, .fail (.viol stViolation 0x15 none))

/-- Stage a mix program: checks 2 to 4 of R364, then the shadow bank. -/
def State.stageImage (s : State) (key : Nat) (d : List Byte) : State × Staged :=
  if !imgOk d then (s, .fail (.viol stViolation 0x19 none))
  else
    let m := imgParse d
    if !s.imgPresent m then (s, .fail (.plain stAbsent s.part.unitPresent))
    else if s.audBusy (some key) m then (s, .fail (.viol stViolation 0x18 none))
    else match s.trick key with
      | some t => (if t.spoil.isSome then s else s.audStage key m, .done)
      | none => (s, .done)

/-- Stage the source data of a descriptor of types 0x04 to 0x08 and 0x0C. -/
def State.stageSource (s : State) (x : Slot) (key : Nat) (d : List Byte) : State × Staged :=
  match x.type with
  | 0x08 =>
    match allSeqs.find? (fun q => q.val = seqNo x.payload) with
    | some q => s.stageLoad key q x.payload d
    | none => (s, .done)
  | 0x0C => s.stageImage key d
  | _ =>
    match s.trick key with
    | some t =>
      let pl := s.tarnPlan t x.type (x.hdr.headFin.getD 0) x.payload d
      s.stageTarn key pl.1 pl.2
    | none => (s, .done)

/-! ### Slots -/

/-- A slot that has not started. -/
def SlotSt.unstarted : SlotSt → Bool
  | .waitStart | .failing _ => true
  | _ => false

/-- A slot whose data is not yet staged. -/
def SlotSt.unstaged : SlotSt → Bool
  | .waitStart | .failing _ | .waitHost | .waitPages _ | .waitBank _ => true
  | _ => false

/-- What the types that stage through one resource contend for: the pool, a shadow bank of a
sequencer, or one of a rate domain. -/
def stageKind (type : Nat) : Nat :=
  match type with
  | 0x04 | 0x05 | 0x06 | 0x07 => 1
  | 0x08 => 2
  | 0x0C => 3
  | _ => 0

/-- A slot may start: earlier descriptors of its ring have started, or with BARRIER completed (R93). -/
def State.mayStart (s : State) (x : Slot) : Bool :=
  x.st.unstarted &&
  (s.ringSlots x.hdr.fn x.hdr.ring).all (fun y =>
    x.id ≤ y.id || (!y.st.unstarted && (!x.hdr.barrier || y.st = .held)))

/-- Earlier descriptors of the ring that stage into the same trick have staged (R93). -/
def State.mayStage (s : State) (x : Slot) : Bool :=
  (s.ringSlots x.hdr.fn x.hdr.ring).all (fun y =>
    x.id ≤ y.id || y.trick ≠ x.trick || stageKind y.type ≠ stageKind x.type || !y.st.unstaged)

/-- Try to stage a slot whose data has arrived; the checks run again, since the registers they read may
have changed. -/
def State.tryStage (s : State) (id : Nat) : State :=
  match s.slot id with
  | none => s
  | some x =>
    let data : Option (List Byte) := match x.st with
      | .waitPages d | .waitBank d => some d
      | _ => none
    match data, x.trick with
    | some d, some key =>
      if !s.mayStage x then s
      else match s.checkLate x with
        | some v => s.endVerdict id v
        | none =>
          match s.stageSource x key d with
          | (s, .done) => (s.wallForward key x.type x.hdr x.payload d).complete id stDone 0
          | (s, .wait) => s
          | (s, .fail v) => s.endVerdict id v
    | some _, none => s.complete id stDone 0
    | none, _ => s

/-- Offset of SRC_KIND in the payload of a type. -/
def kindByte (type : Nat) : Nat :=
  match type with
  | 0x05 => 25
  | 0x06 => 28
  | 0x07 | 0x0C => 20
  | _ => 17

/-- A descriptor with source data starts: a host source is read, a device source is there (R172). -/
def State.startSource (s : State) (x : Slot) : State :=
  let n := srcBytes x.type x.payload
  let a := pay x.payload 8 8
  if pay x.payload (kindByte x.type) 1 = 0 then
    (s.emit (.hostRead a n)).modSlot x.id (fun y => { y with st := .waitHost })
  else
    let d := s.mem.readBytes a n
    let st : SlotSt := if stageKind x.type = 1 then .waitPages d else .waitBank d
    (s.modSlot x.id (fun y => { y with st := st })).tryStage x.id

/-- Pairs of a REG_WRITE that take effect at once, in order (R94). A warm reset by a pair ends the descriptor,
and with it the pairs behind (R54). -/
def State.writePairs (s : State) (x : Slot) : State :=
  ((regPairs x.payload).zip x.masks).foldl (fun s e =>
    match decodeReg e.1.1 with
    | some (r, i, j) =>
      if r.row.cls = .trick || r.row.cls = .line || (s.slot x.id).isNone then s
      else s.writeReg r i j e.1.2 (e.2.getD 0)
    | none => s) s

/-- REG_WRITE: its staged pairs join the trick unless that is spoiled, the others are written (R94). -/
def State.startRegs (s : State) (x : Slot) : State :=
  let ws := x.stagedPairs.filter (fun w => s.regPresent w.id w.i w.j)
  let s := match x.trick.bind s.trick with
    | some t => if t.spoil.isSome || ws.isEmpty then s
        else s.modTrick t.key (fun t => { t with writes := t.writes ++ ws })
    | none => s
  let s := match x.trick with
    | some key => s.wallForward key x.type x.hdr x.payload []
    | none => s
  (s.writePairs x).complete x.id stDone 0

/-- TRICK_BEGIN opens its trick (R110). -/
def State.startBegin (s : State) (x : Slot) : State :=
  let wall := pay x.payload 9 1 = 1
  let r := s.openTrick (.fn x.hdr.fn) x.hdr.trick (BitVec.ofNat 6 (pay x.payload 8 1)) wall
  (r.1.wallForward r.2 x.type x.hdr x.payload []).complete x.id stDone 0

/-- FENCE: it waits for the earlier slots of its scope (R95). -/
def State.startFence (s : State) (x : Slot) : State :=
  let scope := s.hif.slots.filter (fun y => y.id < x.id && y.hdr.fn = x.hdr.fn && y.st ≠ .held &&
    (pay x.payload 8 1 = 1 || y.hdr.ring = x.hdr.ring))
  s.modSlot x.id (fun y => { y with st := .fence (scope.map (fun y => y.id)) })

/-- FN_STATUS of a function (R85). -/
def State.fnStatus (s : State) (f : Fin 16) : Word :=
  BitVec.ofNat 32 (b2n (s.fenced f) * 2 ^ 31 + b2n (s.flag (F.HIF_FN_CTL_EN f)) * 2 ^ 30 +
    s.slotsOf f * 2 ^ 16 + s.fld (F.HIF_FN_SLOTS_QUOTA f))

/-- QUERY: the value read, and the side effect of reading a register (R76, R469). -/
def State.startQuery (s : State) (x : Slot) : State :=
  let a := pay x.payload 12 4
  match pay x.payload 8 1 with
  | 0 =>
    let v := s.bar0 a
    let s := match decodeReg a with
      | some (r, i, j) => s.readEffect r i j
      | none => s
    s.complete x.id stDone v
  | 1 => s.complete x.id stDone (s.readReg .GLB_MODE 0 0)
  | 2 => s.complete x.id stDone (s.readReg .HIF_FN_SLOTS x.hdr.fn 0)
  | 3 => s.complete x.id stDone (s.fnStatus x.hdr.fn)
  | _ => s.complete x.id stDone (s.reg .TRK_HD_LAST_ID x.hdr.head 0)

/-- A descriptor that passed its checks starts. -/
def State.runSlot (s : State) (x : Slot) : State :=
  match x.type with
  | 0x00 => s.complete x.id stDone 0
  | 0x01 => s.startBegin x
  | 0x02 => s.modSlot x.id (fun y => { y with st := .commit })
  | 0x03 => s.startRegs x
  | 0x09 => s.bltStart x.id
  | 0x0A => s.sluStart x.id
  | 0x0B => s.playStart x.id
  | 0x0D => s.startFence x
  | 0x0E => s.startQuery x
  | 0x0F =>
    (s.setReg .HIF_FN_LAT x.hdr.fn 0 (BitVec.ofNat 32 (pay x.payload 8 4))).complete x.id stDone 0
  | 0x10 => (s.modSlot x.id (fun y => { y with st := .journal })).storeAsk (some x.id)
  | _ => s.startSource x

/-- A TRICK_COMMIT that fails a check when it starts takes its trick with it (R92, R118). -/
def State.failCommit (s : State) (x : Slot) : State :=
  if x.type = 0x02 then (match x.trick with | some k => s.discardTrick k | none => s) else s

/-- The trick of a TRICK_COMMIT that passes checks 1 to 9 closes at the fetch (R116). -/
def State.closeTrick (s : State) (x : Slot) : State :=
  match x.trick with
  | none => s
  | some key =>
    if x.type ≠ 0x02 || (s.checkTrick x).isSome then s
    else
    let mode : CommitMode := match pay x.payload 8 1 with
      | 0 => .next
      | 1 => .atFrame (BitVec.ofNat 32 (pay x.payload 12 4))
      | _ => .discard
    s.modTrick key (fun t => { t with phase := .closing, mode := mode, commitSlot := some x.id })

/-- A descriptor that starts after its fetch joins the trick it names where that has opened since. It spoils
that trick by no failure of its own (R92). -/
def State.joinTrick (s : State) (x : Slot) : State × Slot :=
  if x.wantsTrick && x.trick.isNone then
    let y := { x with trick := s.trickAt x.hdr }
    let s := s.modSlot x.id (fun z => { z with trick := y.trick, joined := true })
    match x.st with
    | .failing _ => (s, y)
    | _ => (s.closeTrick y, y)
  else (s, x)

/-- Start a slot that may: it ends with the verdict of its fetch, or of checks 7 to 10, or runs. -/
def State.startSlot (s : State) (id : Nat) : State :=
  match s.slot id with
  | none => s
  | some x =>
    if !s.mayStart x then s
    else
      let r := s.joinTrick x
      let s := r.1
      let x := r.2
      match x.st with
      | .failing v => (s.endVerdict id v).settleTricks
      | _ =>
        match s.checkTrick x with
        | some v => (s.endVerdict id v).settleTricks
        | none =>
          match s.checkLate x with
          | some v => ((s.failCommit x).endVerdict id v).settleTricks
          | none => (s.runSlot x).settleTricks

/-! ### What waits on the device -/

/-- A descriptor waiting for a unit takes it when it is free. -/
def State.tryUnit (s : State) (id : Nat) : State :=
  match s.slot id with
  | none => s
  | some x =>
    if x.st ≠ .waitUnit then s
    else match x.type with
      | 0x09 => s.bltStart id
      | 0x0B => s.playStart id
      | _ => s

/-- A FENCE completes when its scope has and its frame has come (R95). -/
def State.tryFence (s : State) (id : Nat) : State :=
  match s.slot id with
  | none => s
  | some x =>
    match x.st with
    | .fence scope =>
      let busy := s.hif.slots.any (fun y => scope.contains y.id && y.st ≠ .held)
      let late := match x.hdr.headFin with
        | some n => pay x.payload 9 1 = 1 &&
            2 ^ 31 ≤ ((s.head n).frame - BitVec.ofNat 32 (pay x.payload 12 4)).toNat
        | none => false
      if busy || late then s else s.complete id stDone 0
    | _ => s

/-- Ring and function of a key of the sparse ring list. -/
def ringOfKey (k : Nat) : Fin 16 × Fin 64 :=
  (⟨k / 64 % 16, Nat.mod_lt _ (by decide)⟩, ⟨k % 64, Nat.mod_lt _ (by decide)⟩)

/-- Held completions are written where there is room, and drained rings are off (R83, R93). -/
def State.settleRings (s : State) : State :=
  s.hif.rings.foldl (fun s e =>
    let k := ringOfKey e.1
    let g := s.ring k.1 k.2
    let s := if g.held.isEmpty && !g.cqFullLogged then s else s.writeHeld k.1 k.2 (g.held.length + 1)
    s.ringDrained k.1 k.2) s

/-- One round over everything that waits. -/
def State.settleRound (s : State) : State :=
  let ids := s.hif.slots.map (fun x => x.id)
  let s := ids.foldl (fun s id => s.startSlot id) s.settleTricks
  let s := ids.foldl (fun s id => s.tryUnit id) s
  let s := ids.foldl (fun s id => s.tryStage id) s
  let s := ids.foldl (fun s id => s.tryFence id) s
  (s.settleTricks.settleShown).settleRings

def State.settleRounds (s : State) : Nat → State
  | 0 => s
  | n + 1 => (s.settleRound).settleRounds n

/-- Nothing is in flight: no slot, no trick, no held completion, no ring being drained. -/
def State.quiet (s : State) : Bool :=
  s.hif.slots.isEmpty && s.trk.tricks.isEmpty && s.trk.shown.isEmpty &&
  s.hif.rings.all (fun e => e.2.held.isEmpty && !e.2.cqFullLogged && e.2.phase ≠ .draining)

/-- Everything that waits on the device and can move on does. -/
def State.settle (s : State) : State :=
  if s.quiet || !s.alive then s
  else s.settleRounds (s.hif.slots.length + s.trk.tricks.length + 1)

/-! ### Fetching -/

/-- A ring has a descriptor the device may fetch (R86, R88, R100, R104). -/
def State.ringReady (s : State) (f : Fin 16) (r : Fin 64) : Bool :=
  let g := s.ring f r
  s.alive && s.serving && g.phase = .on && !g.quar && !g.pause && !g.unreadable && g.held.isEmpty &&
  g.cons ≠ g.prod && s.fnEnabled f && !s.fenced f &&
  s.slotsOf f < s.fld (F.HIF_FN_SLOTS_QUOTA f) && s.hif.slots.length < 4096

/-- PRIO of a ring (R88). -/
def State.ringPrio (s : State) (f : Fin 16) (r : Fin 64) : Nat := s.fld (F.HIF_RING_CTL_PRIO f r)

/-- Places from the one served last to `k` in a circle of `n`: 0 is next. -/
def turnsTo (n last k : Nat) : Nat := (k + 2 * n - last - 1) % n

/-- Turns until a ring is served among those of its function with its PRIO. -/
def State.ringTurns (s : State) (f : Fin 16) (r : Fin 64) : Nat :=
  let last := ((s.hif.ringTurn.find? (fun e => e.1 = f.val * 4 + s.ringPrio f r)).map (·.2)).getD 63
  turnsTo 64 last r.val

/-- Ring `r` of function `f` is served before another: functions in turn, and within one by PRIO, 3 first,
rings of equal PRIO in turn (R88). A turn is one descriptor (DESIGN CHOICE, log entry 86). -/
def State.servedBefore (s : State) (f f' : Fin 16) (r r' : Fin 64) : Bool :=
  if f = f' then
    s.ringPrio f r' < s.ringPrio f r || (s.ringPrio f r' = s.ringPrio f r && s.ringTurns f r ≤ s.ringTurns f r')
  else turnsTo 16 s.hif.fnTurn f.val < turnsTo 16 s.hif.fnTurn f'.val

/-- The device fetches from a ring: it may, and no other that it may fetch from comes first (R88). -/
def State.canFetch (s : State) (f : Fin 16) (r : Fin 64) : Bool :=
  s.ringReady f r && s.hif.rings.all (fun e =>
    let k := ringOfKey e.1
    !s.ringReady k.1 k.2 || s.servedBefore f k.1 r k.2)

/-- The turns of R88 after a fetch. -/
def State.tookTurn (s : State) (f : Fin 16) (r : Fin 64) : State :=
  let k := f.val * 4 + s.ringPrio f r
  { s with hif := { s.hif with
    fnTurn := f.val, ringTurn := (k, r.val) :: s.hif.ringTurn.filter (fun e => e.1 ≠ k) } }

/-- The read of the next descriptor, and CONS in the ring's record (R85). -/
def State.takeFetch (s : State) (f : Fin 16) (r : Fin 64) : State :=
  let g := s.ring f r
  let cons := (g.cons + 1) % 2 ^ g.log2n
  let s := s.tookTurn f r
  let s := ((s.emit (.hostRead (g.sq + 64 * g.cons) 64)).count 0x01 0 1 { fn := some f.val }).modRing f r
    (fun g => { g with cons := cons })
  s.hostWrite f (g.db + 8) (leBytes 2 cons)

/-- A slot for a descriptor fetched from a ring, with what its function's registers say now (R79). -/
def State.newSlot (s : State) (type : Nat) (h : Hdr) (p : BitVec 448) : State × Slot :=
  let x : Slot := {
    id := s.hif.nextSlot, hdr := h, type := type, payload := p, st := .waitStart
    trick := if type = 0x01 then none else s.trickAt h
    ctl := s.reg .HIF_FN_CTL h.fn 0, tarn := s.reg .HIF_FN_TARN h.fn 0, dram := s.reg .HIF_FN_DRAM h.fn 0
    masks := s.masksOf type h.fn p
    chans := if type = 0x0A then s.chanMask h.fn else if type = 0x09 then s.ctxMask h.fn else 0 }
  ({ s with hif := { s.hif with slots := s.hif.slots ++ [x], nextSlot := s.hif.nextSlot + 1 } }, x)

/-- A descriptor is fetched: its slot, checks 1 to 6, and the closing of its trick (R91, R93, R116). -/
def State.fetch (s : State) (type : Nat) (h : Hdr) (p : BitVec 448) : State :=
  if !s.canFetch h.fn h.ring then s
  else
    let s := (s.takeFetch h.fn h.ring).count 0x07 0 64 { fn := some h.fn.val }
    let r := s.newSlot type h p
    let x := r.2
    match r.1.checkEarly x with
    | some v => (r.1.modSlot x.id (fun y => { y with st := .failing v })).settle
    | none => (r.1.closeTrick x).settle

/-- The read of a descriptor fails: an entry without a header of its own, whose TAG the manual leaves
open (R71, R104). -/
def State.fetchFail (s : State) (f : Fin 16) (r : Fin 64) (status : Nat) (a : BitVec 64) : State :=
  if !s.canFetch f r then s
  else
    let tag : BitVec 16 := (Config.freeWord s.free).setWidth 16
    let s := { (s.takeFetch f r) with free := s.free + 1 }
    let x := s.newSlot 0x00 { fn := f, ring := r, flags := 0x70, tag := tag, trick := 0 } 0
    (x.1.completeReadFail x.2.id status a).settle

/-- HOST_READ_COMPLETION: source data of a slot arrives, or a read fails (R71). -/
def State.hostReadDone (s : State) (target : ReadFor) (r : HostRead) : State :=
  match target with
  | .fetch f q =>
    match r with
    | .ok _ => s
    | .busError a => s.fetchFail f q stBusError a
    | .timeout a => s.fetchFail f q stTimeout a
  | .slot id =>
    match s.slot id with
    | none => s
    | some x =>
      if !s.alive || x.st ≠ .waitHost then s
      else match r with
        | .ok bs =>
          if bs.length ≠ srcBytes x.type x.payload then s
          else
            let st : SlotSt := if stageKind x.type = 1 then .waitPages bs else .waitBank bs
            ((s.modSlot id (fun y => { y with st := st })).count 0x07 0 bs.length { fn := some x.hdr.fn.val }).settle
        | .busError a => (s.completeReadFail id stBusError a).settle
        | .timeout a => (s.completeReadFail id stTimeout a).settle

end Sys2Proof.Machine
end

