-- ==== Sys2Proof/Machine/Wall.lean ====
section
/-!
DEFINITION. The wall: what a hand does with forwarded descriptors (R390 to R392), READY, COMMIT and
their kin (R393 to R397), benching and rejoining (R398 to R401), SET_ID (R380), events (R403), and the
decision point on the dealer (R395).
-/

set_option Elab.async false  -- the joined text is large: no thread per declaration

namespace Sys2Proof.Machine

/-! ### Staging a forwarded descriptor at a hand -/

/-- A payload without its SRC_KIND: a hand stages only from the forwarded bytes (R390). -/
def noSource (type : Nat) (p : BitVec 448) : BitVec 448 :=
  if stageKind type = 0 then p else p &&& ~~~(0xFF#448 <<< (8 * (kindByte type - 8)))

/-- A forwarded descriptor as the checks of R91 see it for local head `n`: it comes from no function of
this device, so only the trump regions bound its addresses. -/
def RxDesc.slot (d : RxDesc) (t : RxTrick) (n : Nat) : Slot :=
  { id := 0, hdr := { fn := 0, ring := 0, flags := BitVec.ofNat 8 (n * 16), tag := 0, trick := t.id }
    type := d.type, payload := noSource d.type d.payload, st := .running, trick := some t.key, ctl := 0x3F00 }

/-- What a check means at a hand: an absent unit contributes nothing, all else fails the trick (R394). -/
def rxVerdict (v : Option Verdict) : Option Staged :=
  match v with
  | none => none
  | some (.plain st d) => if st = stAbsent then some .done else some (.fail (.plain st d))
  | some v => some (.fail v)

/-- Stage a MAP_UPDATE, DECK_UPDATE or PALETTE_LOAD for each local head of a list. -/
def State.rxHeads (s : State) (t : RxTrick) (d : RxDesc) : List (Fin 6) → State × Staged
  | [] => (s, .done)
  | n :: ns =>
    let x := d.slot t n
    match rxVerdict (s.checkLate x) with
    | some r => (s, r)
    | none => match s.stageSource x t.key d.data with
      | (s, .done) => s.rxHeads t d ns
      | r => r

/-- VX and VY into data words 4,094 and 4,095 of a loaded bank (R391). -/
def State.rxView (s : State) (n : Fin 6) (key : Nat) (q : Fin 8) : State :=
  s.stageSeq key q true false 4094 [BitVec.ofNat 24 (wrapInt 24 (s.viewX n)), BitVec.ofNat 24 (wrapInt 24 (s.viewY n))]

/-- Sequencers that a forwarded SEQ_LOAD loads, with the head each is bound to (R390). -/
def State.rxSeqs (s : State) (k : Nat) : List (Fin 8 × Option (Fin 6)) :=
  if k < 6 then (s.mapped k).flatMap (fun n =>
    ((allSeqs.filter (fun q => q.val < 6 && s.beamHead q = some n)).map (fun q => (q, some n))))
  else (allSeqs.filter (fun q => q.val = k)).map (fun q => (q, none))

/-- Stage a SEQ_LOAD into each sequencer of a list. -/
def State.rxLoads (s : State) (t : RxTrick) (d : RxDesc) : List (Fin 8 × Option (Fin 6)) → State × Staged
  | [] => (s, .done)
  | (q, n) :: qs =>
    match s.stageLoad t.key q d.payload d.data with
    | (s, .done) =>
      let s := match n with | some n => s.rxView n t.key q | none => s
      s.rxLoads t d qs
    | r => r

/-- Offsets of a head's window that act on the dealer only (R390). -/
def dealerOnly (off : Nat) : Bool :=
  off < 0x38 || (0xC00 ≤ off && off < 0xC20) || (0x1000 ≤ off && off < 0x2000)

/-- Blocks whose pairs go to the same address at a hand: SEQ, AUD, TMR and GPIO (R390). -/
def sameAtHands (a : Nat) : Bool :=
  (0x200000 ≤ a && a < 0x220000) || (0x260000 ≤ a && a < 0x270000) || (0x2A0000 ≤ a && a < 0x2C0000)

/-- Local addresses of a forwarded pair. -/
def State.rxAddrs (s : State) (a : Nat) : List Nat :=
  match windowHead a with
  | some w =>
    let off := a - headWin w
    if dealerOnly off then [] else (s.mapped w).map (fun (n : Fin 6) => headWin n + off)
  | none => if sameAtHands a then [a] else []

/-- Forwarded pairs as local writes. A hand knows no permission map: every writable bit counts. -/
def State.rxPairs (s : State) (p : BitVec 448) : List RegW :=
  (regPairs p).flatMap (fun e => (s.rxAddrs e.1).filterMap (fun a =>
    match decodeReg a with
    | some (r, i, j) =>
      if s.regPresent r i j && !isTrumpField r then some ⟨r, i, j, e.2, 0xFFFFFFFF⟩ else none
    | none => none))

/-- Stage a REG_WRITE: trick-class and line-class pairs into the copy, the others at once. -/
def State.rxRegs (s : State) (t : RxTrick) (d : RxDesc) : State × Staged :=
  let ws := s.rxPairs d.payload
  let later (w : RegW) : Bool := w.id.row.cls = .trick || w.id.row.cls = .line
  match s.stageRegs t.key (ws.filter later) with
  | none => (s, .fail (.viol stViolation 0x13 none))
  | some s => ((ws.filter (fun w => !later w)).foldl (fun s w => s.writeReg w.id w.i w.j w.value w.mask) s, .done)

/-- Stage one forwarded descriptor (R390). -/
def State.rxStage (s : State) (t : RxTrick) (d : RxDesc) : State × Staged :=
  match d.type with
  | 0x03 => s.rxRegs t d
  | 0x04 | 0x05 | 0x07 => s.rxHeads t d (s.mapped d.hdr.head)
  | 0x06 =>
    match rxVerdict (s.checkLate (d.slot t 7)) with
    | some r => (s, r)
    | none => s.stageSource (d.slot t 7) t.key d.data
  | 0x08 => s.rxLoads t d (s.rxSeqs (seqNo d.payload))
  | 0x0C =>
    match s.stageImage t.key d.data with
    | (s, .fail v) => (s, (rxVerdict (some v)).getD .done)
    | r => r
  | _ => (s, .done)

/-! ### Receiving a wall trick -/

/-- A trick the device takes: joined it takes every one, rejoining only the one named (R399, R401). -/
def State.takesTrick (s : State) (id : Word) : Bool :=
  (s.cwy.state = 2 && !s.cwy.through.contains id) || s.cwy.rejoining = some id

/-- A scene packet goes on: to joined children, and to all where rejoining hands may be below (R401). -/
def State.passScene (s : State) (id : Word) (k : Pkt) : State :=
  if s.cwy.through.contains id || s.cwy.rejoining = some id then s.castAll k else s.castDown k

def State.rxTrick (s : State) (id : Word) : Option RxTrick := s.cwy.rx.find? (fun t => t.id = id)

def State.modRx (s : State) (id : Word) (f : RxTrick → RxTrick) : State :=
  s.modCwy (fun c => { c with rx := c.rx.map (fun t => if t.id = id then f t else t) })

def RxTrick.mark (t : RxTrick) (index : Nat) : RxTrick :=
  { t with descs := t.descs.map (fun (d : RxDesc) => if d.index = index then { d with staged := true } else d) }

/-- Bytes a forwarded descriptor needs before it can be staged. -/
def RxDesc.need (d : RxDesc) : Nat := if stageKind d.type = 0 then 0 else srcBytes d.type d.payload

/-- READY and its count go up from a device that is not the dealer. -/
def State.sendReady (s : State) (id : Word) (count : Nat) (fail : Option Nat) : State :=
  s.pushPkt 0 (.ready id count fail)

/-- Every child that takes part in a trick has sent READY for it (R394). -/
def State.childrenReady (s : State) (id : Word) (resync : Bool) : Bool :=
  downPorts.all (fun p =>
    let c := s.cport p
    let takes := c.run = .active && (if resync then c.rejoin = some id else c.joined && !c.benched)
    !takes || c.ready.any (fun e => e.1 = id))

/-- Sum of the ready counts of the children for a trick. -/
def State.readySum (s : State) (id : Word) : Nat :=
  (downPorts.map (fun p => (((s.cport p).ready.filter (fun e => e.1 = id)).map (fun e => e.2)).sum)).sum

/-- A hand's copy is staged in full: it takes a place, and READY goes up when the subtree is ready; a
copy that failed says so at once (R392, R394). -/
def State.rxReady (s : State) (id : Word) : State :=
  match s.rxTrick id with
  | none => s
  | some t =>
    if t.readySent then s
    else if t.failed then (s.modRx id (fun t => { t with readySent := true })).sendReady id 0 (some s.cwyId)
    else if t.count ≠ some t.descs.length || !t.descs.all (fun d => d.staged) then s
    else
      let s := match s.trick t.key with
        | some u => if u.phase = .opened then s.takePlace t.key else s
        | none => s
      let staged := match s.trick t.key with | some u => u.phase = .staged | none => false
      if staged && s.childrenReady id (s.cwy.rejoining = some id) then
        (s.modRx id (fun t => { t with readySent := true })).sendReady id (1 + s.readySum id) none
      else s

/-- Stage what of a copy can be staged, in the order of the descriptors. -/
def State.rxAdvance (s : State) (id : Word) : Nat → State
  | 0 => s
  | fuel + 1 =>
    match s.rxTrick id with
    | none => s
    | some t =>
      match t.descs.find? (fun d => !d.staged) with
      | none => s
      | some d =>
        if t.failed || d.data.length < d.need then s
        else match s.rxStage t d with
          | (s, .done) => (s.modRx id (fun t => t.mark d.index)).rxAdvance id fuel
          | (s, .wait) => s
          | (s, .fail _) => s.modRx id (fun t => { t with failed := true })

/-- Every copy moves on as far as it can. -/
def State.rxSettle (s : State) : State :=
  s.cwy.rx.foldl (fun s t => (s.rxAdvance t.id (t.descs.length + 1)).rxReady t.id) s

/-- Everything that waits on the device moves on, copies of wall tricks included. -/
def State.settleAll (s : State) : State :=
  let s := s.settle
  if s.cwy.rx.isEmpty || !s.alive then s else (s.rxSettle).settle

/-- Local heads that map a wall head of a mask. -/
def State.localHeads (s : State) (m : Nat) : BitVec 6 :=
  maskOf (allHeads.filter (fun n => s.headPresent n && s.flag (F.CWY_VIEW_CTL_EN n) &&
    s.fld (F.CWY_VIEW_CTL_WHEAD n) < 6 && m.testBit (s.fld (F.CWY_VIEW_CTL_WHEAD n))))

/-- The copy of a wall trick opens at a hand, or, where 64 tricks are open already (R112), takes a key with no
trick behind it: it cannot be staged, and READY goes up with FAIL (R394). No rule names the case (DESIGN
CHOICE, log entry 82). -/
def State.rxOpen (s : State) (id : Word) (heads : BitVec 6) : State × Nat × Bool :=
  if 64 ≤ s.openTricks then
    ({ s with trk := { s.trk with nextKey := s.trk.nextKey + 1 } }, s.trk.nextKey, true)
  else
    let r := s.openTrick .wall id heads true
    (r.1, r.2, false)

/-- A forwarded descriptor arrives: TRICK_BEGIN opens the copy, the others join it. -/
def State.rxDesc (s : State) (id : Word) (index type : Nat) (h : Hdr) (p : BitVec 448) : State :=
  match s.rxTrick id with
  | none =>
    if type ≠ 0x01 then s
    else
      let r := s.rxOpen id (s.localHeads (pay p 8 1 % 64))
      r.1.modCwy (fun c => { c with rx := c.rx ++
        [{ id := id, key := r.2.1, failed := r.2.2
           descs := [{ index := index, type := type, hdr := h, payload := p, staged := true }] }] })
  | some _ => s.modRx id (fun t => { t with descs := t.descs ++ [{ index := index, type := type, hdr := h, payload := p }] })

/-- DESC and DATA (R390). -/
def State.cwyItem (s : State) (id : Word) (x : WallItem) : State :=
  let s := s.passScene id (.item id x)
  if !s.takesTrick id then s
  else
    let s := match x with
      | .desc index type h p => s.rxDesc id index type.toNat h p
      | .data index off bs => s.modRx id (fun t => { t with
          descs := t.descs.map (fun (d : RxDesc) => if d.index = index then { d with data := d.data.take off ++ bs } else d) })
    s.settleAll

/-- END: the copy is whole, or it failed (R394). -/
def State.cwyEnd (s : State) (id : Word) (count : Nat) (crcOk : Bool) : State :=
  let s := s.passScene id (.endT id count)
  if !s.takesTrick id then s
  else (s.modRx id (fun t => { t with
    count := some count, failed := t.failed || !crcOk || t.descs.length ≠ count })).settleAll

/-- PREPARE: the target announced (R393). -/
def State.cwyPrepare (s : State) (id w : Word) : State :=
  let s := s.passScene id (.prepare id w)
  match s.rxTrick id with
  | some t => s.modTrick t.key (fun t => { t with target := w })
  | none => s

/-- DEFER: the target moves (R395). -/
def State.cwyDefer (s : State) (id w : Word) (n : Nat) : State :=
  let s := s.passScene id (.defer id w n)
  match s.rxTrick id with
  | some t => s.modTrick t.key (fun t => { t with target := w, defers := n })
  | none => s

/-- Children that rejoined through a trick are joined from its COMMIT onward (R401). -/
def State.joinChildren (s : State) (id : Word) : State :=
  downPorts.foldl (fun s p => s.modPort p (fun c =>
    if c.rejoin = some id then { c with joined := true, benched := false, rejoin := none, age := 0
                                        ready := c.ready.filter (fun e => e.1 ≠ id) }
    else { c with ready := c.ready.filter (fun e => e.1 ≠ id) })) s

/-- A rejoining trick is over for this device. -/
def State.endThrough (s : State) (id : Word) : State :=
  s.modCwy (fun c => { c with
    through := c.through.filter (· ≠ id), rejoining := if c.rejoining = some id then none else c.rejoining })

/-- WALL_SEQ as a hand knows it, one more after each COMMIT. -/
def State.bumpSeq (s : State) : State :=
  s.modCwy (fun c => { c with info := c.info.map (fun w => { w with seq := w.seq + 1 }) })

/-- COMMIT at a hand: the trick is applied at its anchor's cutoff of W, or at once where no head maps
the wall's (R397). -/
def State.cwyCommit (s : State) (id w : Word) : State :=
  let s := s.passScene id (.commit id w)
  let took := s.takesTrick id
  let s := if s.cwy.rejoining = some id
    then s.modCwy (fun c => { c with state := 2, reason := 0 }) else s
  let s := ((s.joinChildren id).endThrough id).bumpSeq
  match s.rxTrick id with
  | none => s
  | some t =>
    if !took then s
    else
      let s := s.modCwy (fun c => { c with rx := c.rx.filter (fun t => t.id ≠ id) })
      let s := s.modTrick t.key (fun t => { t with target := w, wallGo := true })
      let noHead := match s.trick t.key with | some u => u.phase = .staged && u.anchor.isNone | none => false
      if noHead && s.trk.queue.isEmpty then ((s.commitTrick t.key).reviewMode).settleAll else s.settleAll

/-- DISCARD: the copy goes (R395). -/
def State.cwyDiscard (s : State) (id : Word) : State :=
  let s := s.passScene id (.discard id)
  let s := downPorts.foldl (fun s p => s.modPort p (fun c =>
    { c with rejoin := if c.rejoin = some id then none else c.rejoin, ready := c.ready.filter (fun e => e.1 ≠ id) })) s
  let s := match s.rxTrick id with
    | some t => (s.dropTrick t.key).modCwy (fun c => { c with rx := c.rx.filter (fun t => t.id ≠ id) })
    | none => s
  (s.endThrough id).settleAll

/-- Children that a SWEEP benches: those that have not sent READY (R398, R401). -/
def State.sweepChildren (s : State) (id : Word) : State :=
  downPorts.foldl (fun s p =>
    let c := s.cport p
    if c.run ≠ .active || c.ready.any (fun e => e.1 = id) then s
    else if c.rejoin = some id then s.benchChild p 8
    else if c.joined && !s.cwy.through.contains id && s.cwy.rejoining ≠ some id then s.benchChild p 3
    else s) s

/-- SWEEP at a hand. -/
def State.cwySweep (s : State) (id : Word) : State :=
  ((s.passScene id (.sweep id)).sweepChildren id).settleAll

/-- BENCH: the hand keeps its picture, discards what has not received COMMIT, and benches its subtree
(R398, R399). -/
def State.cwyBench (s : State) (reason : Nat) (frame : Word) : State :=
  let s := (s.handDiscard).setReg .CWY_BENCH_FRAME 0 0 frame
  let s := s.modCwy (fun c => { c with state := 3, reason := reason, rejoining := none, through := [] })
  s.benchBelow.settleAll

/-- REJOIN: the hand named rejoins with its benched subtree; others pass it on (R401). -/
def State.cwyRejoin (s : State) (id : Nat) (trick : Word) : State :=
  if s.cwyId = id && s.cwy.state = 3 then
    let s := s.modCwy (fun c => { c with rejoining := some trick })
    downPorts.foldl (fun s p =>
      let c := s.cport p
      if c.run = .active && c.benched
      then (s.modPort p (fun c => { c with rejoin := some trick })).sendDown p (.rejoin c.peer trick) else s) s
  else
    let s := s.modCwy (fun c => { c with
      through := if c.rejoining = some trick || c.through.contains trick then c.through else c.through ++ [trick] })
    let s := downPorts.foldl (fun s p =>
      let c := s.cport p
      if c.run = .active && c.benched && c.peer = id
      then s.modPort p (fun c => { c with rejoin := some trick }) else s) s
    s.castAll (.rejoin id trick)

/-- WALL_INFO: it goes on to every child; a joining hand learns whether its scene may be stale (R386,
R400). -/
def State.cwyWallInfo (s : State) (w : WallInfo) : State :=
  let s := s.modCwy (fun c => { c with info := some w, frame := w.frame })
  let s := if s.cwy.state ≠ 1 then s
    else if w.seq = 0 then s.modCwy (fun c => { c with state := 2 })
    else (s.modCwy (fun c => { c with state := 3, reason := 7 })).setReg .CWY_BENCH_FRAME 0 0 w.frame
  s.castAll (.wallInfo w)

/-- SET_ID: the hand at its path takes the ID and stores its journal; on the way it goes on (R380). -/
def State.cwySetId (s : State) (path id : Nat) : State :=
  if path = s.cwyPath then
    let s := s.setF F.CWY_ID_ID id
    let s := s.modCwy (fun c => { c with
      state := if id = 0 then 4 else if c.state = 4 || c.state = 5 then 1 else c.state })
    s.storeAsk none
  else s.sendSetId path id

/-! ### From below -/

/-- READY of a child; with FAIL its parent benches it (R394, R398). -/
def State.cwyReady (s : State) (p : Fin 5) (id : Word) (count : Nat) (fail : Option Nat) : State :=
  let c := s.cport p
  let through := s.cwy.through.contains id
  if !(c.joined || c.rejoin.isSome) then s
  else match fail with
    | some _ => (s.benchChild p 4).settleAll
    | none =>
      let s := s.modPort p (fun c => { c with ready := c.ready ++ [(id, count)] })
      if !s.dealer && through then s.sendReady id count none else s.settleAll

/-- ALIVE of a child: its lease starts again (R389, R398). A child that had no ID when its port became
ACTIVE, and reports one since, joins as R400 says. -/
def State.cwyAlive (s : State) (p : Fin 5) (id state joined benched : Nat) : State :=
  let s := s.modPort p (fun c => { c with age := 0, subJoined := joined, subBenched := benched })
  let c := s.cport p
  if id ≠ 0 && state ≠ 4 && state ≠ 5 && c.peer = 0 && !c.joined && !c.benched
  then (s.modPort p (fun c => { c with peer := id })).admitChild p else s

/-- BENCHED from below (R398). -/
def State.cwyBenched (s : State) (id reason hands : Nat) : State := s.reportBenched id reason hands

/-- EVENT from below: the dealer logs it with its origin as TAG (R403). -/
def State.cwyEventIn (s : State) (id code port : Nat) (frame : Word) : State :=
  if s.dealer then s.logEntry 0 0xFF id 0x1B (code + port * 256 + frame.toNat * 65536)
  else s.pushPkt 0 (.event id code port frame)

/-- CHILD_SILENT: no ALIVE for LEASE_FRAMES wall frames (R398). -/
def State.childSilent (s : State) (p : Fin 5) : State :=
  let c := s.cport p
  if s.alive && p ≠ 0 && c.run = .active && c.joined && s.leaseFrames ≤ c.age
  then (s.benchChild p 2).settleAll else s

/-! ### The decision point -/

/-- The aggregate READY of a wall trick has come to the dealer; a resynchronisation trick waits for each
hand served (R394, R401). -/
def State.wallReady (s : State) (t : Trick) : Bool :=
  t.phase = .staged &&
  (if t.resync then
    s.cwy.served.length ≤ (downPorts.map (fun p => ((s.cport p).ready.filter (fun e => e.1 = t.id)).length)).sum
  else s.childrenReady t.id false)

/-- COMMIT goes out (R395). -/
def State.wallCommit (s : State) (t : Trick) (w : Word) : State :=
  let s := s.castWall t (.commit t.id w)
  let s := s.joinChildren t.id
  let s := if t.resync then s.modCwy (fun c => { c with
      hands := c.hands.map (fun h => if c.served.contains h.1 then (h.1, h.2.1, true) else h), served := [] }) else s
  let s := if w ≠ t.firstW && !t.missed then s.noteMissed t else s
  s.modTrick t.key (fun t => { t with wallGo := true, target := w })

/-- The dealer's own children that a SWEEP benches. -/
def State.wallSweep (s : State) (t : Trick) : State :=
  downPorts.foldl (fun s p =>
    let c := s.cport p
    if c.run ≠ .active || c.ready.any (fun e => e.1 = t.id) then s
    else if t.resync then (if c.rejoin = some t.id then s.benchChild p 8 else s)
    else if c.joined then s.benchChild p 3 else s) s

/-- DEFER goes out, and SWEEP with the deferral that reaches LEASE_FRAMES (R395). -/
def State.wallDefer (s : State) (t : Trick) (w : Word) : State :=
  let n := t.defers + 1
  let s := (s.incF F.CWY_DEFERS_COUNT).count 0xE2 0 1
  let s := if t.missed then s else s.noteMissed t
  let s := s.modTrick t.key (fun t => { t with defers := n, target := w + 1 })
  let s := s.castWall t (.defer t.id (w + 1) n)
  if s.leaseFrames ≤ n then (s.castWall t (.sweep t.id)).wallSweep t else s

/-- The wall tricks due at a decision point, in the order in which they became staged: one that is not
ready holds up those behind it (R393, R395). -/
def State.decide (s : State) (w : Word) : List Trick → Bool → State
  | [], _ => s
  | t :: ts, held =>
    if 0 < frameDiff t.target w then s.decide w ts held
    else if held then (s.modTrick t.key (fun t => { t with target := w + 1 })).decide w ts true
    else if s.wallReady t then (s.wallCommit t w).decide w ts false
    else (s.wallDefer t w).decide w ts true

/-- DECISION_POINT: REF_HD's scan beam is DECIDE_LINES before the end of the frame (R393). -/
def State.decisionPoint (s : State) : State :=
  match s.refHead with
  | none => s
  | some r =>
    let w := (s.head r).sc.scanFrame + 1
    if !s.alive || !s.dealer || !(s.head r).beams || s.cwy.decided = some w then s
    else
      let due := byOrder (s.trk.tricks.filter (fun t => t.wall && t.announced && !t.wallGo))
      ((s.modCwy (fun c => { c with decided := some w })).decide w due false).settleAll

end Sys2Proof.Machine
end

