-- ==== Sys2Proof/Machine/HostCmd.lean ====
section
/-!
DEFINITION. The commands of clocks, resets, the PCIe interface, rings, descriptors, tricks and the Tarn
aperture: one meaning for each, over the operations of the files before.
-/

set_option Elab.async false  -- the joined text is large: no thread per declaration

namespace Sys2Proof.Machine

/-- What follows a change: everything that waits moves on, and the audio domains start or stop. -/
def State.follow (s : State) : State := s.settleAll.audReview

/-- Fetch a descriptor whose row says which one it is. -/
def State.fetchIf (s : State) (fits : Bool) (type : Nat) (h : Hdr) (p : BitVec 448) : State :=
  if fits then (s.fetch type h p).follow else s

/-! ### Clocks and resets -/
def execPllLock (p : Pll) (s : State) : Host.Outcome State Fault Refusal := .next (s.pllLock p).follow
def execPllLockLoss (u : UnitFault) (s : State) : Host.Outcome State Fault Refusal := .next (s.pllLoss u).follow
def execHostLossExpiry (s : State) : Host.Outcome State Fault Refusal := .next s.hostLossExpiry.follow
def execPerstNAssert (s : State) : Host.Outcome State Fault Refusal := .next s.perstAssert.follow
def execPcieLinkDown (s : State) : Host.Outcome State Fault Refusal := .next s.linkDown.follow
def execPcieLinkUp (s : State) : Host.Outcome State Fault Refusal := .next s.linkUp
def execPfFlr (s : State) : Host.Outcome State Fault Refusal := .next s.hifCause.follow
def execVfFlr (f : Fin 16) (s : State) : Host.Outcome State Fault Refusal := .next (s.vfFlr f).follow

/-! ### A function's page (R73, R85) -/

/-- A word of a function's BAR2 page as read, the user counter page apart. MSI-X entries at or above VEC_COUNT
read as masked. -/
def State.pageRead (s : State) (f : Fin 16) (o : Nat) : Word :=
  if o = 0x004 then s.fnStatus f
  else if 0x400 ≤ o ∧ o < 0x800 then
    if (o - 0x400) / 16 < s.fld (F.HIF_FN_CTL_VEC_COUNT f) then s.msixWord f (o - 0x400)
    else if o % 16 = 12 then 1 else 0
  else if o = 0x800 ∨ o = 0x804 then (s.pba >>> (f.val * 64 + (o - 0x800) * 8)).setWidth 32
  else 0

/-- The bits of a word that its byte enables and an MSI-X table entry let change: of the control word the
mask bit alone, and no misaligned address (PRESUMED of PCI Express, log entry 77). -/
def msixMask (o : Nat) (be : BitVec 4) : Word :=
  let lanes : Word := (List.range 4).foldl (fun m k =>
    if be.getLsbD k then m ||| BitVec.ofNat 32 (255 * 256 ^ k) else m) 0
  lanes &&& (if o % 16 = 12 then 1 else if o % 16 = 0 then 0xFFFFFFFC else 0xFFFFFFFF)

/-- A write of the MSI-X table, at an offset in it: an entry that is unmasked sends what is pending (R73). -/
def State.msixWrite (s : State) (f : Fin 16) (o : Nat) (v : Word) (be : BitVec 4) : State :=
  let vec := o / 16
  let key := f.val * 1024 + o
  let m := msixMask o be
  if s.fld (F.HIF_FN_CTL_VEC_COUNT f) ≤ vec then s
  else
    let new := (s.msixWord f o &&& ~~~m) ||| (v &&& m)
    let cold : Word := if o % 16 = 12 then 1 else 0
    let s := { s with msix := if new = cold then s.msix.erase key else s.msix.insert key new }
    let bit' : BitVec 1024 := BitVec.ofNat 1024 (2 ^ (f.val * 64 + vec))
    if s.pba &&& bit' ≠ 0 && !bit (s.msixWord f (vec * 16 + 12)) 0
    then { s with pba := s.pba &&& ~~~bit' }.msixSend f vec else s

/-- A write to a function's BAR2 page. KNOCK and FN_REREG act as whole words alone (DESIGN CHOICE, log entry
103); a page wakes nothing but by a knock (R407), and in FREEZE its writes are dropped and counted, knocks
apart (R457). -/
def State.pageWrite (s : State) (f : Fin 16) (o : Nat) (v : Word) (be : BitVec 4) : State :=
  if !s.linked || !s.fnExists f then s
  else if o = 0x000 then (if be = 0xF then s.knock f v else s)
  else if s.frozen then s.barWrite o (fun s => s)
  else if o = 0x008 then (if be = 0xF then s.fnRereg f v else s)
  else if 0x400 ≤ o ∧ o < 0x800 then s.msixWrite f (o - 0x400) v be
  else s

/-- A configuration write of a function's power state: 3 is D3hot, 0 is D0, others are not supported. It
changes nothing else of the device (R69; DEDUCED, log entry 104), and is served in FREEZE too (R457). -/
def State.powerWrite (s : State) (f : Fin 16) (v : Word) : State :=
  let b : BitVec 16 := BitVec.ofNat 16 (2 ^ f.val)
  if !s.linked || !s.fnExists f then s
  else match bits v 1 0 with
    | 0 => { s with hif := { s.hif with d3hot := s.hif.d3hot &&& ~~~b } }
    | 3 => { s with hif := { s.hif with d3hot := s.hif.d3hot ||| b } }
    | _ => s

/-! ### Register writes -/

/-- REGISTER_WRITE: a word of BAR0, of a function's page, or of its power state. -/
def execRegisterWrite (dest : WriteTo) (v : Word) (be : BitVec 4) (s : State) :
    Host.Outcome State Fault Refusal :=
  .next (match dest with
    | .bar0 a => (s.registerWrite a.toNat v be).follow
    | .page f o => (s.pageWrite f (o.toNat / 4 * 4) v be).follow
    | .power f => s.powerWrite f v)

/-- QUOTA_WRITE: QUOTA is all a write of HIF_FN_SLOTS changes. -/
def execQuotaWrite (f : Fin 16) (q : BitVec 13) (s : State) : Host.Outcome State Fault Refusal :=
  .next (s.barWrite (RegId.addr .HIF_FN_SLOTS f 0) (fun s => s.writeReg .HIF_FN_SLOTS f 0 (q.setWidth 32) 0xFFFFFFFF)).follow

def execVecCountWrite (f : Fin 16) (v : Word) (s : State) : Host.Outcome State Fault Refusal :=
  .next (s.barWrite (RegId.addr .HIF_FN_CTL f 0) (fun s => s.writeReg .HIF_FN_CTL f 0 v 0xFFFFFFFF)).follow

def execLimitWrite (f : Fin 16) (n : BitVec 7) (s : State) : Host.Outcome State Fault Refusal :=
  .next (s.barWrite (RegId.addr .TRK_FN_OPEN f 0) (fun s => s.writeReg .TRK_FN_OPEN f 0 (n.setWidth 32) 0xFFFFFFFF)).follow

def execMemPoolWrite (units : BitVec 10) (s : State) : Host.Outcome State Fault Refusal :=
  .next (s.barWrite (RegId.addr .MEM_POOL 0 0) (fun s => s.writeReg .MEM_POOL 0 0 (units.setWidth 32) 0xFFFFFFFF)).follow

/-! ### Rings -/
def execRingEnable (f : Fin 16) (r : Fin 64) (v : Word) (s : State) : Host.Outcome State Fault Refusal :=
  .next (s.barWrite (RegId.addr .HIF_RING_CTL f r) (fun s => s.ringEnable f r v)).follow

def execRingDisable (f : Fin 16) (r : Fin 64) (v : Word) (s : State) : Host.Outcome State Fault Refusal :=
  .next (s.barWrite (RegId.addr .HIF_RING_CTL f r) (fun s => s.ringDisable f r v)).follow

def execDoorbellRecordRead (f : Fin 16) (r : Fin 64) (d : DbRead) (s : State) : Host.Outcome State Fault Refusal :=
  .next (s.recordRead f r d).follow

def execLeaseExpired (f : Fin 16) (s : State) : Host.Outcome State Fault Refusal := .next (s.leaseExpired f).follow

/-- FN_REREG is in the function's own page, whose writes wake nothing (R73, R407). -/
def execFnRereg (f : Fin 16) (v : Word) (s : State) : Host.Outcome State Fault Refusal :=
  .next (s.pageWrite f 0x008 v 0xF).follow

def execHostReadCompletion (t : ReadFor) (r : HostRead) (s : State) : Host.Outcome State Fault Refusal :=
  .next (s.hostReadDone t r).follow

/-! ### Descriptors -/
def execUnknownType (t : Byte) (h : Hdr) (p : BitVec 448) (s : State) : Host.Outcome State Fault Refusal :=
  .next (s.fetchIf (0x10 < t.toNat) t.toNat h p)

def execNop (h : Hdr) (s : State) : Host.Outcome State Fault Refusal := .next (s.fetchIf true 0x00 h 0)

def execTrickBegin (h : Hdr) (p : BitVec 448) (s : State) : Host.Outcome State Fault Refusal :=
  .next (s.fetchIf true 0x01 h p)

/-- TRICK_COMMIT with MODE NEXT, and with the modes that check 10 refuses. -/
def execTrickCommitNext (h : Hdr) (p : BitVec 448) (s : State) : Host.Outcome State Fault Refusal :=
  .next (s.fetchIf (pay p 8 1 ≠ 1 && pay p 8 1 ≠ 2) 0x02 h p)

def execTrickCommitAt (h : Hdr) (p : BitVec 448) (s : State) : Host.Outcome State Fault Refusal :=
  .next (s.fetchIf (pay p 8 1 = 1) 0x02 h p)

def execTrickCommitDiscard (h : Hdr) (p : BitVec 448) (s : State) : Host.Outcome State Fault Refusal :=
  .next (s.fetchIf (pay p 8 1 = 2) 0x02 h p)

def execRegWrite (h : Hdr) (p : BitVec 448) (s : State) : Host.Outcome State Fault Refusal :=
  .next (s.fetchIf true 0x03 h p)

def execMapUpdate (h : Hdr) (p : BitVec 448) (s : State) : Host.Outcome State Fault Refusal :=
  .next (s.fetchIf true 0x04 h p)

def execDeckUpdate (h : Hdr) (p : BitVec 448) (s : State) : Host.Outcome State Fault Refusal :=
  .next (s.fetchIf true 0x05 h p)

def execPatternLoad (h : Hdr) (p : BitVec 448) (s : State) : Host.Outcome State Fault Refusal :=
  .next (s.fetchIf true 0x06 h p)

def execPaletteLoad (h : Hdr) (p : BitVec 448) (s : State) : Host.Outcome State Fault Refusal :=
  .next (s.fetchIf true 0x07 h p)

def execSeqLoad (h : Hdr) (p : BitVec 448) (s : State) : Host.Outcome State Fault Refusal :=
  .next (s.fetchIf true 0x08 h p)

def execBlitList (h : Hdr) (p : BitVec 448) (s : State) : Host.Outcome State Fault Refusal :=
  .next (s.fetchIf true 0x09 h p)

def execSluice (h : Hdr) (p : BitVec 448) (s : State) : Host.Outcome State Fault Refusal :=
  .next (s.fetchIf true 0x0A h p)

def execAudioStream (h : Hdr) (p : BitVec 448) (s : State) : Host.Outcome State Fault Refusal :=
  .next (s.fetchIf true 0x0B h p)

def execGraphLoad (h : Hdr) (p : BitVec 448) (s : State) : Host.Outcome State Fault Refusal :=
  .next (s.fetchIf true 0x0C h p)

def execFence (h : Hdr) (p : BitVec 448) (s : State) : Host.Outcome State Fault Refusal :=
  .next (s.fetchIf true 0x0D h p)

/-- QUERY of a register, and with the ITEMs that check 2 refuses. -/
def execQueryRegister (h : Hdr) (p : BitVec 448) (s : State) : Host.Outcome State Fault Refusal :=
  .next (s.fetchIf (pay p 8 1 = 0 || 4 < pay p 8 1) 0x0E h p)

def execQueryMode (h : Hdr) (p : BitVec 448) (s : State) : Host.Outcome State Fault Refusal :=
  .next (s.fetchIf (pay p 8 1 = 1) 0x0E h p)

def execQuerySlots (h : Hdr) (p : BitVec 448) (s : State) : Host.Outcome State Fault Refusal :=
  .next (s.fetchIf (pay p 8 1 = 2) 0x0E h p)

def execQueryFnStatus (h : Hdr) (p : BitVec 448) (s : State) : Host.Outcome State Fault Refusal :=
  .next (s.fetchIf (pay p 8 1 = 3) 0x0E h p)

def execQueryLastTrick (h : Hdr) (p : BitVec 448) (s : State) : Host.Outcome State Fault Refusal :=
  .next (s.fetchIf (pay p 8 1 = 4) 0x0E h p)

def execLatTol (h : Hdr) (p : BitVec 448) (s : State) : Host.Outcome State Fault Refusal :=
  .next (s.fetchIf true 0x0F h p)

def execJournalStore (h : Hdr) (p : BitVec 448) (s : State) : Host.Outcome State Fault Refusal :=
  .next (s.fetchIf true 0x10 h p)

/-! ### Tricks -/
def execCommitCutoff (n : Fin 6) (s : State) : Host.Outcome State Fault Refusal := .next (s.commitCutoff n).follow
def execApplicationEnd (s : State) : Host.Outcome State Fault Refusal := .next s.applicationEnd.follow
def execNoHeadApply (s : State) : Host.Outcome State Fault Refusal := .next s.noHeadApply.follow
def execFrameWrap (n : Fin 6) (s : State) : Host.Outcome State Fault Refusal := .next (s.frameWrap n).follow

/-! ### Tarn: the scrubber and the aperture -/

/-- A word of Tarn with a double-bit error: counted, recorded, its content left open (R143). -/
def State.tarnBad (s : State) (a : Nat) : State :=
  let a := a / 8 * 8
  ((s.scramble a (a + 8)).incF F.MEM_ECC_UNCORR).faultDev 0x02 unitMem (a / 64 % 16) a

/-- TARN_SCRUB: what the scrubber met since its last report (R143). -/
def State.scrub (s : State) (corrected uncorrectable : List Nat) : State :=
  match s.glob.mode with
  | .run | .coast =>
    let s := corrected.foldl (fun s a =>
      if a < 0x4000000 then (s.incF F.MEM_ECC_CORR).count 0x45 0 1 { addr := some a } else s) s
    uncorrectable.foldl (fun s a => if a < 0x4000000 then s.tarnBad a else s) s
  | _ => s

/-- Device address behind a BAR4 offset, and whether its window shows DRAM (R154). -/
def State.apAddr (s : State) (o : Nat) : Nat × Bool :=
  let w := o / 0x1000000
  let base := s.fld (F.MEM_AP_CTL_BASE w) * 0x10000 + o % 0x1000000
  if s.flag (F.MEM_AP_CTL_TARGET w) then (dramBase + base, true) else (base, false)

/-- One byte of BAR4 as read (R154, R156). -/
def State.apRead (s : State) (o : Nat) : Byte :=
  let a := s.apAddr o
  if s.present a.1 1 && !(s.frozen && a.2) then s.mem.read a.1 else 0

/-- BAR4_READ (R155, R156). -/
def State.bar4Read (s : State) (o n : Nat) : State :=
  if s.glob.mode = .off || s.glob.heldInReset then s
  else
    let s := s.noteWake 0x02
    s.emit (.bar4Data ((List.range n).map (fun k => s.apRead (o + k))))

/-- The bytes of a BAR4 write, as offsets and values; a byte not enabled is none. -/
def apBytes (o : Nat) (bs : List (Option Byte)) : List (Nat × Byte) :=
  bs.zipIdx.filterMap (fun e => e.1.map (fun b => (o + e.2, b)))

/-- BAR4_WRITE: it lands in committed memory at once; where it touches a trump region it is dropped and
logged (R149, R155). -/
def State.bar4Put (s : State) (ws : List (Nat × Byte)) : State :=
  match ws.find? (fun w => s.touchesTrump (s.apAddr w.1).1 1) with
  | some w => s.logEntry 0 0xFF 0 0x0D (s.apAddr w.1).1
  | none => ws.foldl (fun s w => if s.present (s.apAddr w.1).1 1 then s.poke (s.apAddr w.1).1 [w.2] else s) s

def execTarnScrub (corrected uncorrectable : List Nat) (s : State) : Host.Outcome State Fault Refusal :=
  .next (s.scrub corrected uncorrectable)
def execBar4Read (o : BitVec 26) (n : Nat) (s : State) : Host.Outcome State Fault Refusal := .next (s.bar4Read o.toNat n)
def execBar4Write (o : BitVec 26) (bs : List (Option Byte)) (s : State) : Host.Outcome State Fault Refusal :=
  .next (s.barWrite o.toNat (fun s => s.bar4Put (apBytes o.toNat bs)))

end Sys2Proof.Machine
end

