-- ==== Sys2Proof/Machine/HeadCmd.lean ====
section
/-!
DEFINITION. The commands of the heads: beams, sinks, damage, the trump plane with its SMBus path, the
sequencers' command register, and the DisplayPort links: one meaning for each.
-/

set_option Elab.async false  -- the joined text is large: no thread per declaration

namespace Sys2Proof.Machine

/-- A write of the masked bits of a register through BAR0. -/
def State.hostSet (s : State) (r : RegId) (i : Nat) (v mask : Word) : State :=
  s.barWrite (RegId.addr r i 0) (fun s => s.writeReg r i 0 v mask)

/-! ### Beams and sinks -/
def execComposeLineStart (n : Fin 6) (scanLine : Nat) (s : State) : Host.Outcome State Fault Refusal :=
  .next (s.composeLineStart n scanLine)
def execComposeChunk (n : Fin 6) (s : State) : Host.Outcome State Fault Refusal := .next (s.composeChunk n)
def execEvaluationEnd (n : Fin 6) (s : State) : Host.Outcome State Fault Refusal :=
  .next (if s.alive then s.evaluationEnd n else s)
def execScanChunk (n : Fin 6) (s : State) : Host.Outcome State Fault Refusal := .next (s.scanChunk n)

/-- After a frame tick, the dealer's wall tick, and WALL_INFO once REF_HD's blanking change is over
(R386). -/
def State.wallTicks (s : State) (n : Fin 6) : State :=
  let t := s.frameTick n
  match t.refHead with
  | none => t
  | some r =>
    let t := if (t.head r).sc.scanFrame = (s.head r).sc.scanFrame then t else t.dealerTick r
    if (s.head r).blank ≠ .none && (t.head r).blank = .none then t.sendWallInfo else t

def execFrameTick (n : Fin 6) (s : State) : Host.Outcome State Fault Refusal :=
  .next (if s.alive then (s.wallTicks n).follow else s)

def execTrumpSignatureCheck (n : Fin 6) (s : State) : Host.Outcome State Fault Refusal := .next (s.trumpCheck n)
def execWbBufferComplete (n : Fin 6) (k : Fin 4) (s : State) : Host.Outcome State Fault Refusal :=
  .next (s.wbComplete n k)
def execHoldLast (n : Fin 6) (s : State) : Host.Outcome State Fault Refusal :=
  .next (s.hostSet .SINK_WB_HOLD n 0x100 0xFFFFFFFF)
def execHoldWrite (n : Fin 6) (v : BitVec 4) (s : State) : Host.Outcome State Fault Refusal :=
  .next (s.hostSet .SINK_WB_HOLD n (v.setWidth 32) 0xFFFFFFFF)
def execDmgAddRect (n : Fin 6) (s : State) : Host.Outcome State Fault Refusal :=
  .next (s.hostSet .DMG_ADD n 1 0xFFFFFFFF)
def execDmgAddAll (n : Fin 6) (s : State) : Host.Outcome State Fault Refusal :=
  .next (s.hostSet .DMG_ADD n 2 0xFFFFFFFF)

/-! ### The trump plane -/

/-- The payload of a REG_WRITE with one pair. -/
def onePair (a : Nat) (v : Word) : BitVec 448 := BitVec.ofNat 448 (1 + a * 2 ^ 32 + v.toNat * 2 ^ 64)

/-- A write of TRUMP_CMD: by a REG_WRITE of the physical function, or through TP_REG index 4 (R233, R238). -/
def State.trumpVia (s : State) (via : TrumpVia) (n : Fin 6) (v : Word) : State :=
  match via with
  | .host h => (s.fetch 0x03 h (onePair (RegId.addr .TRUMP_CMD n 0) v)).follow
  | .smbus =>
    (s.tpRun true (fun s => s.tpHeld (fun s k => if k = n then s.tpReg n 4 v else s))).follow

def execTrumpAck (via : TrumpVia) (n : Fin 6) (s : State) : Host.Outcome State Fault Refusal :=
  .next (s.trumpVia via n 1)
def execTrumpRelease (via : TrumpVia) (n : Fin 6) (s : State) : Host.Outcome State Fault Refusal :=
  .next (s.trumpVia via n 2)

def execTpOpen (pec : Bool) (key : BitVec 64) (head : Byte) (s : State) : Host.Outcome State Fault Refusal :=
  .next (s.tpRun pec (fun s => s.tpOpen key head.toNat)).follow
def execTpData (pec : Bool) (off : BitVec 24) (data : List Byte) (s : State) : Host.Outcome State Fault Refusal :=
  .next (s.tpRun pec (fun s => s.tpHeld (fun s n => s.tpData n off.toNat data))).follow
def execTpReg (pec : Bool) (index : Byte) (v : Word) (s : State) : Host.Outcome State Fault Refusal :=
  .next (s.tpRun pec (fun s => s.tpHeld (fun s n => s.tpReg n index.toNat v))).follow
def execTpCommit (pec : Bool) (s : State) : Host.Outcome State Fault Refusal :=
  .next (s.tpRun pec (fun s => s.tpHeld (fun s _ => s.tpCommit))).follow
def execTpAbort (pec : Bool) (s : State) : Host.Outcome State Fault Refusal :=
  .next (s.tpRun pec (fun s => s.tpHeld (fun s _ => s.tpDiscard.tpResult 0))).follow

/-- TP_CLOSE: the batch goes and the head is released (R234). -/
def State.tpCloseRun (s : State) : State :=
  let s := s.tpDiscard
  ({ s with trump := { s.trump with held := none } }).tpResult 0

def execTpClose (pec : Bool) (s : State) : Host.Outcome State Fault Refusal :=
  .next (s.tpRun pec (fun s => s.tpHeld (fun s _ => s.tpCloseRun))).follow
def execTpLeaseExpiry (s : State) : Host.Outcome State Fault Refusal := .next s.tpLease.follow

/-! ### Sequencer commands -/
def execCmdHalt (q : Fin 8) (s : State) : Host.Outcome State Fault Refusal :=
  .next (s.hostSet .SEQ_CMD q 1 0xFFFFFFFF)
def execCmdRestart (q : Fin 8) (s : State) : Host.Outcome State Fault Refusal :=
  .next (s.hostSet .SEQ_CMD q 2 0xFFFFFFFF)

/-! ### Links -/
def execBlankingChangeStart (n : Fin 6) (s : State) : Host.Outcome State Fault Refusal :=
  .next (s.blankingStart n).follow
def execPgclkRelock (n : Fin 6) (s : State) : Host.Outcome State Fault Refusal := .next (s.pgclkRelock n).follow
def execLinkTrainingDone (n : Fin 6) (ok : Bool) (s : State) : Host.Outcome State Fault Refusal :=
  .next (s.trainingDone n ok).follow
def execTrainingRetry (n : Fin 6) (s : State) : Host.Outcome State Fault Refusal := .next (s.trainingRetry n)
/-- Composition starts afresh: the first composed frame after the blank frame shows every trick committed
for the head (R132, R253, R471). -/
def State.restartWrap (s : State) (n : Fin 6) : State :=
  let g := s.blankGroup n
  let t := s.compositionRestart n (g.any s.anchorBusy)
  if (s.head n).blank = .s4 && (t.head n).blank = .s5 then (g.foldl (fun t k => t.shownAt k) t).reviewMode else t

def execCompositionRestart (n : Fin 6) (s : State) : Host.Outcome State Fault Refusal :=
  .next (s.restartWrap n).follow
def execHpdPlug (n : Fin 6) (c : SinkCaps) (s : State) : Host.Outcome State Fault Refusal := .next (s.hpdPlug n c).follow
def execHpdUnplug (n : Fin 6) (s : State) : Host.Outcome State Fault Refusal := .next (s.hpdUnplug n).follow
def execIrqHpd (n : Fin 6) (lostLock : Bool) (s : State) : Host.Outcome State Fault Refusal :=
  .next (s.irqHpd n lostLock)
def execHpdBounceEnd (n : Fin 6) (s : State) : Host.Outcome State Fault Refusal := .next (s.bounceEnd n)
def execRetrain (n : Fin 6) (s : State) : Host.Outcome State Fault Refusal :=
  .next (s.hostSet .DP_CTL n 0x80000000 0x80000000)
def execLinkLoss (n : Fin 6) (s : State) : Host.Outcome State Fault Refusal := .next (s.linkLost n)

/-- A write of DP_AUX_CMD with GO: request, length less 1, address (R311). -/
def State.auxWrite (s : State) (n : Fin 6) (req : Nat) (len : Fin 16) (addr : BitVec 20) : State :=
  s.hostSet .DP_AUX_CMD n (BitVec.ofNat 32 (2 ^ 31 + req * 2 ^ 28 + len.val * 2 ^ 24 + addr.toNat)) 0xFFFFFFFF

def execAuxNativeWrite (n : Fin 6) (len : Fin 16) (addr : BitVec 20) (s : State) : Host.Outcome State Fault Refusal :=
  .next (s.auxWrite n 0 len addr)
def execAuxNativeRead (n : Fin 6) (len : Fin 16) (addr : BitVec 20) (s : State) : Host.Outcome State Fault Refusal :=
  .next (s.auxWrite n 1 len addr)
def execAuxI2cWrite (n : Fin 6) (middle : Bool) (len : Fin 16) (addr : BitVec 20) (s : State) :
    Host.Outcome State Fault Refusal := .next (s.auxWrite n (if middle then 4 else 2) len addr)
def execAuxI2cRead (n : Fin 6) (middle : Bool) (len : Fin 16) (addr : BitVec 20) (s : State) :
    Host.Outcome State Fault Refusal := .next (s.auxWrite n (if middle then 5 else 3) len addr)
def execAuxReply (n : Fin 6) (r : AuxReply) (s : State) : Host.Outcome State Fault Refusal := .next (s.auxReply n r)
def execAuxRetry (n : Fin 6) (s : State) : Host.Outcome State Fault Refusal := .next (s.auxRetry n)
def execAuxStormEnd (n : Fin 6) (s : State) : Host.Outcome State Fault Refusal := .next (s.stormEnd n)

end Sys2Proof.Machine
end

