-- ==== Sys2Proof/Machine/EngineCmd.lean ====
section
/-!
DEFINITION. The commands of the blitter, Sluice and the audio engine: one meaning for each.
-/

set_option Elab.async false  -- the joined text is large: no thread per declaration

namespace Sys2Proof.Machine

/-! ### Sequencers -/

/-- PROGRAM_START: a stop or a start that is owed takes place (R291, R293 to R295), and a SEQ_LOAD that waited
for the pending bank takes its shadow (R290). -/
def execProgramStart (q : Fin 8) (s : State) : Host.Outcome State Fault Refusal := .next (s.seqTurn q).follow

/-! ### Blitter -/
def execListReadDone (c : Fin 8) (r : HostRead) (s : State) : Host.Outcome State Fault Refusal :=
  .next (s.listReadDone c r).follow
def execBltFill (c : Fin 8) (s : State) : Host.Outcome State Fault Refusal := .next (s.cmdRun c 0)
def execBltCopy (c : Fin 8) (s : State) : Host.Outcome State Fault Refusal := .next (s.cmdRun c 1)
def execBltCopyKey (c : Fin 8) (s : State) : Host.Outcome State Fault Refusal := .next (s.cmdRun c 2)
def execBltBlend (c : Fin 8) (s : State) : Host.Outcome State Fault Refusal := .next (s.cmdRun c 3)
def execBltExpand (c : Fin 8) (s : State) : Host.Outcome State Fault Refusal := .next (s.cmdRun c 4)
def execRaceRowRelease (c : Fin 8) (s : State) : Host.Outcome State Fault Refusal := .next (s.raceRelease c)
def execBltWatermark (c : Fin 8) (s : State) : Host.Outcome State Fault Refusal := .next (s.watermark c)
def execBlitListComplete (c : Fin 8) (s : State) : Host.Outcome State Fault Refusal := .next (s.listComplete c).follow

/-! ### Sluice -/
def execChannelGrant (c : Fin 32) (s : State) : Host.Outcome State Fault Refusal := .next (s.channelGrant c)
def execStagingBufferGrant (c : Fin 32) (s : State) : Host.Outcome State Fault Refusal := .next (s.stagingGrant c)
def execSluiceBurst (c : Fin 32) (data : List Byte) (s : State) : Host.Outcome State Fault Refusal :=
  .next (s.sluBurst c data)
def execSluiceDrainDone (c : Fin 32) (s : State) : Host.Outcome State Fault Refusal := .next (s.sluDone c).follow
def execSluiceAccessFail (c : Fin 32) (f : AccessFail) (s : State) : Host.Outcome State Fault Refusal :=
  .next (s.sluFail c f).follow
def execChannelLeaseExpiry (c : Fin 32) (s : State) : Host.Outcome State Fault Refusal := .next (s.chanLease c).follow

/-! ### Audio -/
def execAudioSampleTick (d : Fin 3) (behind : Bool) (ins : List (Nat × W24)) (s : State) :
    Host.Outcome State Fault Refusal := .next (if s.alive then (s.audTick d behind ins).follow else s)
def execPlayerReadDone (p : Fin 16) (r : HostRead) (s : State) : Host.Outcome State Fault Refusal :=
  .next (if s.alive then (s.playerRead p r).follow else s)
def execRampSet (v : Word) (s : State) : Host.Outcome State Fault Refusal :=
  .next (s.hostSet .AUD_RAMP_SET 0 v 0xFFFFFFFF)
def execCoefSet (v : Word) (s : State) : Host.Outcome State Fault Refusal :=
  .next (s.hostSet .AUD_COEF_SET 0 v 0xFFFFFFFF)
def execSinkSilent (k : Fin 17) (s : State) : Host.Outcome State Fault Refusal :=
  .next (if s.alive then s.sinkSilent k else s)
def execCapturePeriod (r : Fin 8) (s : State) : Host.Outcome State Fault Refusal :=
  .next (if s.alive then s.capturePeriod r else s)
def execHeadsetPlug (s : State) : Host.Outcome State Fault Refusal := .next s.hsPlug
def execTypeDone (ctia omtp : Nat) (s : State) : Host.Outcome State Fault Refusal := .next (s.hsTyped ctia omtp)
def execHeadsetUnplug (s : State) : Host.Outcome State Fault Refusal := .next s.hsUnplug
def execButton (ohm ms : Nat) (s : State) : Host.Outcome State Fault Refusal := .next (s.hsReading ohm ms)

end Sys2Proof.Machine
end

