-- ==== Sys2Proof/Machine/WallCmd.lean ====
section
/-!
DEFINITION. The commands of the Causeway: what arrives on a port, and the times that run out there: one
meaning for each.
-/

set_option Elab.async false  -- the joined text is large: no thread per declaration

namespace Sys2Proof.Machine

def execBlockLockLoss (p : Fin 5) (s : State) : Host.Outcome State Fault Refusal := .next (s.blockLockLoss p).follow
def execPacketCrcFailure (p : Fin 5) (s : State) : Host.Outcome State Fault Refusal := .next (s.packetCrc p).follow
def execBadToken (p : Fin 5) (l : BitVec 16) (s : State) : Host.Outcome State Fault Refusal :=
  .next (s.receive p l.toNat (fun s => s.badToken p)).follow
def execCwyHello (p : Fin 5) (l : BitVec 16) (dealer : Bool) (id : BitVec 14) (path : BitVec 17) (state : BitVec 4)
    (s : State) : Host.Outcome State Fault Refusal :=
  .next (s.receive p l.toNat (fun s => s.hello p dealer id.toNat path.toNat state.toNat)).follow

/-! ### From above -/
def execCwyWallInfo (l : BitVec 16) (w : WallInfo) (s : State) : Host.Outcome State Fault Refusal :=
  .next (s.receiveUp l.toNat (fun s => s.cwyWallInfo w)).follow
def execCwyDesc (l : BitVec 16) (trick : Word) (index : Nat) (type : Byte) (h : Hdr) (p : BitVec 448) (s : State) :
    Host.Outcome State Fault Refusal :=
  .next (s.receiveUp l.toNat (fun s => s.cwyItem trick (.desc index type h p))).follow
def execCwyData (l : BitVec 16) (trick : Word) (index off : Nat) (bytes : List Byte) (s : State) :
    Host.Outcome State Fault Refusal :=
  .next (s.receiveUp l.toNat (fun s => s.cwyItem trick (.data index off bytes))).follow
def execCwyEnd (l : BitVec 16) (trick : Word) (count : Nat) (crcOk : Bool) (s : State) :
    Host.Outcome State Fault Refusal :=
  .next (s.receiveUp l.toNat (fun s => s.cwyEnd trick count crcOk)).follow
def execCwyPrepare (l : BitVec 16) (trick w : Word) (s : State) : Host.Outcome State Fault Refusal :=
  .next (s.receiveUp l.toNat (fun s => s.cwyPrepare trick w)).follow
def execCwyCommit (l : BitVec 16) (trick w : Word) (s : State) : Host.Outcome State Fault Refusal :=
  .next (s.receiveUp l.toNat (fun s => s.cwyCommit trick w)).follow
def execCwyDefer (l : BitVec 16) (trick w : Word) (n : Nat) (s : State) : Host.Outcome State Fault Refusal :=
  .next (s.receiveUp l.toNat (fun s => s.cwyDefer trick w n)).follow
def execCwyDiscard (l : BitVec 16) (trick : Word) (s : State) : Host.Outcome State Fault Refusal :=
  .next (s.receiveUp l.toNat (fun s => s.cwyDiscard trick)).follow
def execCwySweep (l : BitVec 16) (trick : Word) (s : State) : Host.Outcome State Fault Refusal :=
  .next (s.receiveUp l.toNat (fun s => s.cwySweep trick)).follow
def execCwyBench (l : BitVec 16) (reason : BitVec 4) (frame : Word) (s : State) : Host.Outcome State Fault Refusal :=
  .next (s.receiveUp l.toNat (fun s => s.cwyBench reason.toNat frame)).follow
def execCwyRejoin (l : BitVec 16) (id : BitVec 14) (trick : Word) (s : State) : Host.Outcome State Fault Refusal :=
  .next (s.receiveUp l.toNat (fun s => s.cwyRejoin id.toNat trick)).follow
def execCwySetId (l : BitVec 16) (path : BitVec 17) (id : BitVec 14) (s : State) : Host.Outcome State Fault Refusal :=
  .next (s.receiveUp l.toNat (fun s => s.cwySetId path.toNat id.toNat)).follow

/-! ### From below -/
def execCwyAlive (p : Fin 5) (l : BitVec 16) (id : BitVec 14) (state : BitVec 4) (joined benched : Nat) (s : State) :
    Host.Outcome State Fault Refusal :=
  .next (s.receiveDown p l.toNat (fun s => s.cwyAlive p id.toNat state.toNat joined benched)).follow
def execCwyReady (p : Fin 5) (l : BitVec 16) (trick : Word) (count : Nat) (fail : Option (BitVec 14)) (s : State) :
    Host.Outcome State Fault Refusal :=
  .next (s.receiveDown p l.toNat (fun s => s.cwyReady p trick count (fail.map BitVec.toNat))).follow
def execCwyBenched (p : Fin 5) (l : BitVec 16) (id : BitVec 14) (reason : BitVec 4) (hands : Nat) (s : State) :
    Host.Outcome State Fault Refusal :=
  .next (s.receiveDown p l.toNat (fun s => s.cwyBenched id.toNat reason.toNat hands)).follow
def execCwyEvent (p : Fin 5) (l : BitVec 16) (id : BitVec 14) (code port : Byte) (frame : Word) (s : State) :
    Host.Outcome State Fault Refusal :=
  .next (s.receiveDown p l.toNat (fun s => s.cwyEventIn id.toNat code.toNat port.toNat frame)).follow

/-! ### On the dealer and on every parent -/
def execDecisionPoint (s : State) : Host.Outcome State Fault Refusal := .next s.decisionPoint.follow
def execChildSilent (p : Fin 5) (s : State) : Host.Outcome State Fault Refusal := .next (s.childSilent p).follow
def execCwySetidWrite (v : Word) (s : State) : Host.Outcome State Fault Refusal :=
  .next (s.hostSet .CWY_SETID 0 v 0xFFFFFFFF).follow
def execCwyRejoinWrite (v : Word) (s : State) : Host.Outcome State Fault Refusal :=
  .next (s.hostSet .CWY_REJOIN 0 v 0xFFFFFFFF).follow

end Sys2Proof.Machine
end

