-- ==== Sys2Proof/Machine/PowerCmd.lean ====
section
/-!
DEFINITION. The commands of power modes, boot and the journal, timers and pins, performance counters
and the freeze: one meaning for each.
-/

set_option Elab.async false  -- the joined text is large: no thread per declaration

namespace Sys2Proof.Machine

/-! ### Power modes -/
def execEntryStepEnd (s : State) : Host.Outcome State Fault Refusal := .next s.entryStepEnd.follow
def execExitStep (crcOk : Bool) (s : State) : Host.Outcome State Fault Refusal := .next (s.exitStep crcOk).follow

/-! ### Journal and boot -/
def execSnapshotCopyEnd (s : State) : Host.Outcome State Fault Refusal := .next s.snapshotCopyEnd.follow
def execFlashOpDone (ok : Bool) (off : Nat) (s : State) : Host.Outcome State Fault Refusal :=
  .next (s.flashOpDone ok off).follow
def execFlashTimeout (off : Nat) (s : State) : Host.Outcome State Fault Refusal := .next (s.flashTimeout off).follow
def execSlotChoice (f : FlashRead) (s : State) : Host.Outcome State Fault Refusal := .next (s.slotChoice f).follow
def execEarlyLoaded (earlyOk trumpOk : Bool) (s : State) : Host.Outcome State Fault Refusal :=
  .next (s.earlyLoaded earlyOk trumpOk).follow
def execSceneRestore (configOk sceneOk : Bool) (s : State) : Host.Outcome State Fault Refusal :=
  .next (s.sceneRestore configOk sceneOk).follow
def execBootEnd (s : State) : Host.Outcome State Fault Refusal := .next s.bootEnd.follow

/-! ### Timers and pins -/
def execTimerTick (ticks caps : BitVec 16) (pins : Word) (s : State) : Host.Outcome State Fault Refusal :=
  .next (s.tmrCycle ticks caps pins)
def execTimerCapture (caps : BitVec 16) (pins : Word) (s : State) : Host.Outcome State Fault Refusal :=
  .next (s.tmrCycle 0 caps pins)
def execCountWrite (n : Fin 16) (v : Word) (s : State) : Host.Outcome State Fault Refusal :=
  .next (s.hostSet .TMR_COUNT n v 0xFFFFFFFF)
def execTmrStart (mask : Word) (s : State) : Host.Outcome State Fault Refusal :=
  .next (s.hostSet .TMR_START 0 mask 0xFFFFFFFF)
def execTmrStop (mask : Word) (s : State) : Host.Outcome State Fault Refusal :=
  .next (s.hostSet .TMR_STOP 0 mask 0xFFFFFFFF)
def execTmrReset (mask : Word) (s : State) : Host.Outcome State Fault Refusal :=
  .next (s.hostSet .TMR_RESET 0 mask 0xFFFFFFFF)
def execGpioOutSet (v : Word) (s : State) : Host.Outcome State Fault Refusal :=
  .next (s.hostSet .GPIO_OUT_SET 0 v 0xFFFFFFFF)
def execGpioOutClr (v : Word) (s : State) : Host.Outcome State Fault Refusal :=
  .next (s.hostSet .GPIO_OUT_CLR 0 v 0xFFFFFFFF)
def execPatternMatchEvent (u : Fin 8) (levels : Word) (s : State) : Host.Outcome State Fault Refusal :=
  .next (s.patternMatch u levels)

/-! ### Performance counters -/
def execPmcStart (mask : Word) (s : State) : Host.Outcome State Fault Refusal :=
  .next (s.hostSet .PMC_START 0 mask 0xFFFFFFFF)
def execPmcStop (mask : Word) (s : State) : Host.Outcome State Fault Refusal :=
  .next (s.hostSet .PMC_STOP 0 mask 0xFFFFFFFF)

/-- COUNTER_OVERFLOW: counter `k` counts `n` more occurrences of events that have no command of their
own, and wraps past 2^48 - 1 (R448, R451). -/
def State.counterAdd (s : State) (k : Fin 32) (n : Nat) : State :=
  if s.alive && !s.pmcHeld && s.flag (F.PMC_CFG_EN k) && !(s.flag (F.PMC_CFG_CHAIN k) && 0 < k.val) then s.pmcBump 32 k n else s

def execCounterOverflow (k : Fin 32) (n : BitVec 48) (s : State) : Host.Outcome State Fault Refusal :=
  .next (s.counterAdd k n.toNat)

/-! ### Freeze -/
def execFreezeEntry (s : State) : Host.Outcome State Fault Refusal := .next s.freezeEntry
def execFreezeRestartDone (s : State) : Host.Outcome State Fault Refusal := .next s.freezeDone.follow

end Sys2Proof.Machine
end

