-- ==== Sys2Proof/Machine/Dispatch.lean ====
section
/-!
DEFINITION. `exec`: the effect of one command on everything but the queue, one arm per row.
-/

namespace Sys2Proof.Machine

def exec (i : Instr) (s : State) : Host.Outcome State Fault Refusal :=
  match i with
  | .pwrOkRise straps resetLow => Sys2Proof.Machine.execPwrOkRise straps resetLow s
  | .pwrOkFall => Sys2Proof.Machine.execPwrOkFall s
  | .resetNPulse ns straps => Sys2Proof.Machine.execResetNPulse ns straps s
  | .glbResetWarm value straps => Sys2Proof.Machine.execGlbResetWarm value straps s
  | .watchdogExpiry straps => Sys2Proof.Machine.execWatchdogExpiry straps s
  | .pllLock pll => Sys2Proof.Machine.execPllLock pll s
  | .refLost => Sys2Proof.Machine.execRefLost s
  | .holdoverExpiry => Sys2Proof.Machine.execHoldoverExpiry s
  | .slewEnd => Sys2Proof.Machine.execSlewEnd s
  | .refReturn => Sys2Proof.Machine.execRefReturn s
  | .tempMeasurement readings => Sys2Proof.Machine.execTempMeasurement readings s
  | .freezeNAssert ns => Sys2Proof.Machine.execFreezeNAssert ns s
  | .freezeNRelease => Sys2Proof.Machine.execFreezeNRelease s
  | .hostLossExpiry => Sys2Proof.Machine.execHostLossExpiry s
  | .perstNAssert => Sys2Proof.Machine.execPerstNAssert s
  | .pcieLinkDown => Sys2Proof.Machine.execPcieLinkDown s
  | .pfFlr => Sys2Proof.Machine.execPfFlr s
  | .vfFlr fn => Sys2Proof.Machine.execVfFlr fn s
  | .poisonedWrite w addr => Sys2Proof.Machine.execPoisonedWrite w addr s
  | .registerWrite dest value be => Sys2Proof.Machine.execRegisterWrite dest value be s
  | .frameRead n => Sys2Proof.Machine.execFrameRead n s
  | .quotaWrite fn value => Sys2Proof.Machine.execQuotaWrite fn value s
  | .vecCountWrite fn value => Sys2Proof.Machine.execVecCountWrite fn value s
  | .limitWrite fn value => Sys2Proof.Machine.execLimitWrite fn value s
  | .memPoolWrite units => Sys2Proof.Machine.execMemPoolWrite units s
  | .ringEnable fn ring value => Sys2Proof.Machine.execRingEnable fn ring value s
  | .ringDisable fn ring value => Sys2Proof.Machine.execRingDisable fn ring value s
  | .knock fn value => Sys2Proof.Machine.execKnock fn value s
  | .knockStormEnd fn ring => Sys2Proof.Machine.execKnockStormEnd fn ring s
  | .doorbellPoll => Sys2Proof.Machine.execDoorbellPoll s
  | .doorbellRecordRead fn ring r => Sys2Proof.Machine.execDoorbellRecordRead fn ring r s
  | .staleRecordReread fn ring => Sys2Proof.Machine.execStaleRecordReread fn ring s
  | .cqFull fn ring => Sys2Proof.Machine.execCqFull fn ring s
  | .holdoffExpiry fn ring => Sys2Proof.Machine.execHoldoffExpiry fn ring s
  | .leaseExpired fn => Sys2Proof.Machine.execLeaseExpired fn s
  | .fnRereg fn value => Sys2Proof.Machine.execFnRereg fn value s
  | .unknownType type h payload => Sys2Proof.Machine.execUnknownType type h payload s
  | .nop h => Sys2Proof.Machine.execNop h s
  | .trickBegin h payload => Sys2Proof.Machine.execTrickBegin h payload s
  | .trickCommitNext h payload => Sys2Proof.Machine.execTrickCommitNext h payload s
  | .trickCommitAt h payload => Sys2Proof.Machine.execTrickCommitAt h payload s
  | .trickCommitDiscard h payload => Sys2Proof.Machine.execTrickCommitDiscard h payload s
  | .regWrite h payload => Sys2Proof.Machine.execRegWrite h payload s
  | .mapUpdate h payload => Sys2Proof.Machine.execMapUpdate h payload s
  | .deckUpdate h payload => Sys2Proof.Machine.execDeckUpdate h payload s
  | .patternLoad h payload => Sys2Proof.Machine.execPatternLoad h payload s
  | .paletteLoad h payload => Sys2Proof.Machine.execPaletteLoad h payload s
  | .seqLoad h payload => Sys2Proof.Machine.execSeqLoad h payload s
  | .blitList h payload => Sys2Proof.Machine.execBlitList h payload s
  | .sluice h payload => Sys2Proof.Machine.execSluice h payload s
  | .audioStream h payload => Sys2Proof.Machine.execAudioStream h payload s
  | .graphLoad h payload => Sys2Proof.Machine.execGraphLoad h payload s
  | .fence h payload => Sys2Proof.Machine.execFence h payload s
  | .queryRegister h payload => Sys2Proof.Machine.execQueryRegister h payload s
  | .queryMode h payload => Sys2Proof.Machine.execQueryMode h payload s
  | .querySlots h payload => Sys2Proof.Machine.execQuerySlots h payload s
  | .queryFnStatus h payload => Sys2Proof.Machine.execQueryFnStatus h payload s
  | .queryLastTrick h payload => Sys2Proof.Machine.execQueryLastTrick h payload s
  | .latTol h payload => Sys2Proof.Machine.execLatTol h payload s
  | .journalStore h payload => Sys2Proof.Machine.execJournalStore h payload s
  | .commitCutoff n => Sys2Proof.Machine.execCommitCutoff n s
  | .applicationEnd => Sys2Proof.Machine.execApplicationEnd s
  | .noHeadApply => Sys2Proof.Machine.execNoHeadApply s
  | .frameWrap n => Sys2Proof.Machine.execFrameWrap n s
  | .tarnScrub corrected uncorrectable => Sys2Proof.Machine.execTarnScrub corrected uncorrectable s
  | .bar4Read off len => Sys2Proof.Machine.execBar4Read off len s
  | .bar4Write off bytes => Sys2Proof.Machine.execBar4Write off bytes s
  | .composeLineStart n scanLine => Sys2Proof.Machine.execComposeLineStart n scanLine s
  | .composeChunk n => Sys2Proof.Machine.execComposeChunk n s
  | .evaluationEnd n => Sys2Proof.Machine.execEvaluationEnd n s
  | .scanChunk n => Sys2Proof.Machine.execScanChunk n s
  | .frameTick n => Sys2Proof.Machine.execFrameTick n s
  | .trumpSignatureCheck n => Sys2Proof.Machine.execTrumpSignatureCheck n s
  | .wbBufferComplete n k => Sys2Proof.Machine.execWbBufferComplete n k s
  | .holdLast n => Sys2Proof.Machine.execHoldLast n s
  | .holdWrite n bits => Sys2Proof.Machine.execHoldWrite n bits s
  | .dmgAddRect n => Sys2Proof.Machine.execDmgAddRect n s
  | .dmgAddAll n => Sys2Proof.Machine.execDmgAddAll n s
  | .trumpKeyLoWrite value => Sys2Proof.Machine.execTrumpKeyLoWrite value s
  | .keyPresentation hi => Sys2Proof.Machine.execKeyPresentation hi s
  | .sessionClose => Sys2Proof.Machine.execSessionClose s
  | .rekey => Sys2Proof.Machine.execRekey s
  | .sessionTimeout => Sys2Proof.Machine.execSessionTimeout s
  | .lockoutEnd => Sys2Proof.Machine.execLockoutEnd s
  | .trumpAck via n => Sys2Proof.Machine.execTrumpAck via n s
  | .trumpRelease via n => Sys2Proof.Machine.execTrumpRelease via n s
  | .tpOpen pec key head => Sys2Proof.Machine.execTpOpen pec key head s
  | .tpData pec off data => Sys2Proof.Machine.execTpData pec off data s
  | .tpReg pec index value => Sys2Proof.Machine.execTpReg pec index value s
  | .tpCommit pec => Sys2Proof.Machine.execTpCommit pec s
  | .tpAbort pec => Sys2Proof.Machine.execTpAbort pec s
  | .tpClose pec => Sys2Proof.Machine.execTpClose pec s
  | .tpStatus pec => Sys2Proof.Machine.execTpStatus pec s
  | .tpLeaseExpiry => Sys2Proof.Machine.execTpLeaseExpiry s
  | .seqHalt q => Sys2Proof.Machine.execSeqHalt q s
  | .seqAdd q gd ga gb => Sys2Proof.Machine.execSeqAdd q gd ga gb s
  | .seqSub q gd ga gb => Sys2Proof.Machine.execSeqSub q gd ga gb s
  | .seqAnd q gd ga gb => Sys2Proof.Machine.execSeqAnd q gd ga gb s
  | .seqOr q gd ga gb => Sys2Proof.Machine.execSeqOr q gd ga gb s
  | .seqXor q gd ga gb => Sys2Proof.Machine.execSeqXor q gd ga gb s
  | .seqShl q gd ga gb => Sys2Proof.Machine.execSeqShl q gd ga gb s
  | .seqShr q gd ga gb => Sys2Proof.Machine.execSeqShr q gd ga gb s
  | .seqSar q gd ga gb => Sys2Proof.Machine.execSeqSar q gd ga gb s
  | .seqMul q gd ga gb => Sys2Proof.Machine.execSeqMul q gd ga gb s
  | .seqMulf q gd ga gb => Sys2Proof.Machine.execSeqMulf q gd ga gb s
  | .seqCmp q ga gb => Sys2Proof.Machine.execSeqCmp q ga gb s
  | .seqMov q gd ga => Sys2Proof.Machine.execSeqMov q gd ga s
  | .seqLdi q gd imm => Sys2Proof.Machine.execSeqLdi q gd imm s
  | .seqLui q gd imm => Sys2Proof.Machine.execSeqLui q gd imm s
  | .seqAddi q gd imm => Sys2Proof.Machine.execSeqAddi q gd imm s
  | .seqAndi q gd imm => Sys2Proof.Machine.execSeqAndi q gd imm s
  | .seqOri q gd imm => Sys2Proof.Machine.execSeqOri q gd imm s
  | .seqCmpi q gd imm => Sys2Proof.Machine.execSeqCmpi q gd imm s
  | .seqShli q gd ga sh => Sys2Proof.Machine.execSeqShli q gd ga sh s
  | .seqShri q gd ga sh => Sys2Proof.Machine.execSeqShri q gd ga sh s
  | .seqSari q gd ga sh => Sys2Proof.Machine.execSeqSari q gd ga sh s
  | .seqLd q gd ga off => Sys2Proof.Machine.execSeqLd q gd ga off s
  | .seqSt q gs ga off => Sys2Proof.Machine.execSeqSt q gs ga off s
  | .seqLda q gd addr => Sys2Proof.Machine.execSeqLda q gd addr s
  | .seqSta q gs addr => Sys2Proof.Machine.execSeqSta q gs addr s
  | .seqBr q cond target => Sys2Proof.Machine.execSeqBr q cond target s
  | .seqDbnz q gd target => Sys2Proof.Machine.execSeqDbnz q gd target s
  | .seqCall q target => Sys2Proof.Machine.execSeqCall q target s
  | .seqRet q => Sys2Proof.Machine.execSeqRet q s
  | .seqWaitl q line => Sys2Proof.Machine.execSeqWaitl q line s
  | .seqWaitlc q ga => Sys2Proof.Machine.execSeqWaitlc q ga s
  | .seqWaitc q col => Sys2Proof.Machine.execSeqWaitc q col s
  | .seqWaitn q n => Sys2Proof.Machine.execSeqWaitn q n s
  | .beamWaitRelease q => Sys2Proof.Machine.execBeamWaitRelease q s
  | .seqWaitt q ch ev => Sys2Proof.Machine.execSeqWaitt q ch ev s
  | .seqBeam q gd sel => Sys2Proof.Machine.execSeqBeam q gd sel s
  | .seqSync q j => Sys2Proof.Machine.execSeqSync q j s
  | .seqSig q k => Sys2Proof.Machine.execSeqSig q k s
  | .seqMove q gs w idx => Sys2Proof.Machine.execSeqMove q gs w idx s
  | .seqMovex q gs w idx => Sys2Proof.Machine.execSeqMovex q gs w idx s
  | .seqMoveb q n w idx => Sys2Proof.Machine.execSeqMoveb q n w idx s
  | .seqMovebx q n w idx => Sys2Proof.Machine.execSeqMovebx q n w idx s
  | .landingQueueEntry q => Sys2Proof.Machine.execLandingQueueEntry q s
  | .voiceOn q index gs => Sys2Proof.Machine.execVoiceOn q index gs s
  | .voiceOff q index gs => Sys2Proof.Machine.execVoiceOff q index gs s
  | .rampStart q index gs => Sys2Proof.Machine.execRampStart q index gs s
  | .rampStop q index gs => Sys2Proof.Machine.execRampStop q index gs s
  | .seqRaise q code => Sys2Proof.Machine.execSeqRaise q code s
  | .reservedOpcode q => Sys2Proof.Machine.execReservedOpcode q s
  | .programStart q => Sys2Proof.Machine.execProgramStart q s
  | .cmdHalt q => Sys2Proof.Machine.execCmdHalt q s
  | .cmdRestart q => Sys2Proof.Machine.execCmdRestart q s
  | .blankingChangeStart n => Sys2Proof.Machine.execBlankingChangeStart n s
  | .pgclkRelock n => Sys2Proof.Machine.execPgclkRelock n s
  | .linkTrainingDone n ok => Sys2Proof.Machine.execLinkTrainingDone n ok s
  | .trainingRetry n => Sys2Proof.Machine.execTrainingRetry n s
  | .compositionRestart n => Sys2Proof.Machine.execCompositionRestart n s
  | .hpdPlug n caps => Sys2Proof.Machine.execHpdPlug n caps s
  | .hpdUnplug n => Sys2Proof.Machine.execHpdUnplug n s
  | .irqHpd n lostLock => Sys2Proof.Machine.execIrqHpd n lostLock s
  | .hpdBounceEnd n => Sys2Proof.Machine.execHpdBounceEnd n s
  | .retrain n => Sys2Proof.Machine.execRetrain n s
  | .auxNativeWrite n len addr => Sys2Proof.Machine.execAuxNativeWrite n len addr s
  | .auxNativeRead n len addr => Sys2Proof.Machine.execAuxNativeRead n len addr s
  | .auxI2cWrite n middle len addr => Sys2Proof.Machine.execAuxI2cWrite n middle len addr s
  | .auxI2cRead n middle len addr => Sys2Proof.Machine.execAuxI2cRead n middle len addr s
  | .auxReply n r => Sys2Proof.Machine.execAuxReply n r s
  | .auxRetry n => Sys2Proof.Machine.execAuxRetry n s
  | .auxStormEnd n => Sys2Proof.Machine.execAuxStormEnd n s
  | .listReadDone c r => Sys2Proof.Machine.execListReadDone c r s
  | .bltFill c => Sys2Proof.Machine.execBltFill c s
  | .bltCopy c => Sys2Proof.Machine.execBltCopy c s
  | .bltCopyKey c => Sys2Proof.Machine.execBltCopyKey c s
  | .bltBlend c => Sys2Proof.Machine.execBltBlend c s
  | .bltExpand c => Sys2Proof.Machine.execBltExpand c s
  | .raceRowRelease c => Sys2Proof.Machine.execRaceRowRelease c s
  | .bltWatermark c => Sys2Proof.Machine.execBltWatermark c s
  | .blitListComplete c => Sys2Proof.Machine.execBlitListComplete c s
  | .channelGrant c => Sys2Proof.Machine.execChannelGrant c s
  | .stagingBufferGrant c => Sys2Proof.Machine.execStagingBufferGrant c s
  | .sluiceBurst c data => Sys2Proof.Machine.execSluiceBurst c data s
  | .sluiceDrainDone c => Sys2Proof.Machine.execSluiceDrainDone c s
  | .sluiceAccessFail c f => Sys2Proof.Machine.execSluiceAccessFail c f s
  | .channelLeaseExpiry c => Sys2Proof.Machine.execChannelLeaseExpiry c s
  | .audioSampleTick d behind ins => Sys2Proof.Machine.execAudioSampleTick d behind ins s
  | .playerReadDone p r => Sys2Proof.Machine.execPlayerReadDone p r s
  | .mixEnd d => Sys2Proof.Machine.execMixEnd d s
  | .mixClr d => Sys2Proof.Machine.execMixClr d s
  | .mixLd d x => Sys2Proof.Machine.execMixLd d x s
  | .mixSt d x => Sys2Proof.Machine.execMixSt d x s
  | .mixAdd d x => Sys2Proof.Machine.execMixAdd d x s
  | .mixSub d x => Sys2Proof.Machine.execMixSub d x s
  | .mixMul d x y => Sys2Proof.Machine.execMixMul d x y s
  | .mixMac d x y => Sys2Proof.Machine.execMixMac d x y s
  | .mixMulr d x y => Sys2Proof.Machine.execMixMulr d x y s
  | .mixMacr d x y => Sys2Proof.Machine.execMixMacr d x y s
  | .mixIn d x => Sys2Proof.Machine.execMixIn d x s
  | .mixOut d x => Sys2Proof.Machine.execMixOut d x s
  | .mixBiq d x y => Sys2Proof.Machine.execMixBiq d x y s
  | .mixDwr d x => Sys2Proof.Machine.execMixDwr d x s
  | .mixDrd d x y => Sys2Proof.Machine.execMixDrd d x y s
  | .mixLim d x => Sys2Proof.Machine.execMixLim d x s
  | .mixShr d n => Sys2Proof.Machine.execMixShr d n s
  | .mixSat d => Sys2Proof.Machine.execMixSat d s
  | .rampSet value => Sys2Proof.Machine.execRampSet value s
  | .coefSet value => Sys2Proof.Machine.execCoefSet value s
  | .sinkSilent k => Sys2Proof.Machine.execSinkSilent k s
  | .capturePeriod r => Sys2Proof.Machine.execCapturePeriod r s
  | .headsetPlug => Sys2Proof.Machine.execHeadsetPlug s
  | .typeDone ctiaOhm omtpOhm => Sys2Proof.Machine.execTypeDone ctiaOhm omtpOhm s
  | .headsetUnplug => Sys2Proof.Machine.execHeadsetUnplug s
  | .button ohm ms => Sys2Proof.Machine.execButton ohm ms s
  | .portBlockLock port => Sys2Proof.Machine.execPortBlockLock port s
  | .measureDone port freqOk => Sys2Proof.Machine.execMeasureDone port freqOk s
  | .trainingFailure port => Sys2Proof.Machine.execTrainingFailure port s
  | .portRetrain port => Sys2Proof.Machine.execPortRetrain port s
  | .blockLockLoss port => Sys2Proof.Machine.execBlockLockLoss port s
  | .replayTimeout port => Sys2Proof.Machine.execReplayTimeout port s
  | .ackInterval port => Sys2Proof.Machine.execAckInterval port s
  | .freezeRepeat => Sys2Proof.Machine.execFreezeRepeat s
  | .cwyTick w remain delay => Sys2Proof.Machine.execCwyTick w remain delay s
  | .wallTick dev => Sys2Proof.Machine.execWallTick dev s
  | .cwyAck port lseq => Sys2Proof.Machine.execCwyAck port lseq s
  | .cwyNak port lseq => Sys2Proof.Machine.execCwyNak port lseq s
  | .cwyProbe port ts turn => Sys2Proof.Machine.execCwyProbe port ts turn s
  | .cwyEcho port turn rtt => Sys2Proof.Machine.execCwyEcho port turn rtt s
  | .cwyFreeze port id => Sys2Proof.Machine.execCwyFreeze port id s
  | .cwyThaw port id => Sys2Proof.Machine.execCwyThaw port id s
  | .cwyHello port lseq dealer id path state => Sys2Proof.Machine.execCwyHello port lseq dealer id path state s
  | .cwyWallInfo lseq w => Sys2Proof.Machine.execCwyWallInfo lseq w s
  | .cwyAlive port lseq id state joined benched => Sys2Proof.Machine.execCwyAlive port lseq id state joined benched s
  | .cwyDesc lseq trick index type h payload => Sys2Proof.Machine.execCwyDesc lseq trick index type h payload s
  | .cwyData lseq trick index off bytes => Sys2Proof.Machine.execCwyData lseq trick index off bytes s
  | .cwyEnd lseq trick count crcOk => Sys2Proof.Machine.execCwyEnd lseq trick count crcOk s
  | .cwyPrepare lseq trick w => Sys2Proof.Machine.execCwyPrepare lseq trick w s
  | .cwyReady port lseq trick count fail => Sys2Proof.Machine.execCwyReady port lseq trick count fail s
  | .cwyCommit lseq trick w => Sys2Proof.Machine.execCwyCommit lseq trick w s
  | .cwyDefer lseq trick w n => Sys2Proof.Machine.execCwyDefer lseq trick w n s
  | .cwyDiscard lseq trick => Sys2Proof.Machine.execCwyDiscard lseq trick s
  | .cwySweep lseq trick => Sys2Proof.Machine.execCwySweep lseq trick s
  | .cwyBench lseq reason frame => Sys2Proof.Machine.execCwyBench lseq reason frame s
  | .cwyBenched port lseq id reason hands => Sys2Proof.Machine.execCwyBenched port lseq id reason hands s
  | .cwyRejoin lseq id trick => Sys2Proof.Machine.execCwyRejoin lseq id trick s
  | .cwySetId lseq path id => Sys2Proof.Machine.execCwySetId lseq path id s
  | .cwyEvent port lseq id code evPort frame => Sys2Proof.Machine.execCwyEvent port lseq id code evPort frame s
  | .badToken port lseq => Sys2Proof.Machine.execBadToken port lseq s
  | .decisionPoint => Sys2Proof.Machine.execDecisionPoint s
  | .childSilent port => Sys2Proof.Machine.execChildSilent port s
  | .flapHoldEnd port => Sys2Proof.Machine.execFlapHoldEnd port s
  | .cwySetidWrite value => Sys2Proof.Machine.execCwySetidWrite value s
  | .cwyRejoinWrite value => Sys2Proof.Machine.execCwyRejoinWrite value s
  | .dozeIdleExpiry => Sys2Proof.Machine.execDozeIdleExpiry s
  | .slumberIdleExpiry => Sys2Proof.Machine.execSlumberIdleExpiry s
  | .entryStepEnd => Sys2Proof.Machine.execEntryStepEnd s
  | .wakeEvent src => Sys2Proof.Machine.execWakeEvent src s
  | .exitStep crcOk => Sys2Proof.Machine.execExitStep crcOk s
  | .journalSnapshot => Sys2Proof.Machine.execJournalSnapshot s
  | .snapshotCopyEnd => Sys2Proof.Machine.execSnapshotCopyEnd s
  | .flashOpDone ok off => Sys2Proof.Machine.execFlashOpDone ok off s
  | .flashTimeout off => Sys2Proof.Machine.execFlashTimeout off s
  | .slotChoice f => Sys2Proof.Machine.execSlotChoice f s
  | .earlyLoaded earlyOk trumpOk => Sys2Proof.Machine.execEarlyLoaded earlyOk trumpOk s
  | .sceneRestore configOk sceneOk => Sys2Proof.Machine.execSceneRestore configOk sceneOk s
  | .bootEnd => Sys2Proof.Machine.execBootEnd s
  | .timerTick ticks caps pins => Sys2Proof.Machine.execTimerTick ticks caps pins s
  | .timerCapture caps pins => Sys2Proof.Machine.execTimerCapture caps pins s
  | .capRead n => Sys2Proof.Machine.execCapRead n s
  | .countWrite n value => Sys2Proof.Machine.execCountWrite n value s
  | .tmrStart mask => Sys2Proof.Machine.execTmrStart mask s
  | .tmrStop mask => Sys2Proof.Machine.execTmrStop mask s
  | .tmrReset mask => Sys2Proof.Machine.execTmrReset mask s
  | .gpioOutSet value => Sys2Proof.Machine.execGpioOutSet value s
  | .gpioOutClr value => Sys2Proof.Machine.execGpioOutClr value s
  | .patternMatchEvent u levels => Sys2Proof.Machine.execPatternMatchEvent u levels s
  | .pmcStart mask => Sys2Proof.Machine.execPmcStart mask s
  | .pmcStop mask => Sys2Proof.Machine.execPmcStop mask s
  | .counterOverflow k n => Sys2Proof.Machine.execCounterOverflow k n s
  | .ctrLoRead k => Sys2Proof.Machine.execCtrLoRead k s
  | .userCtrRead fn k high => Sys2Proof.Machine.execUserCtrRead fn k high s
  | .frzSet value => Sys2Proof.Machine.execFrzSet value s
  | .frzRelease value => Sys2Proof.Machine.execFrzRelease value s
  | .freezeEntry => Sys2Proof.Machine.execFreezeEntry s
  | .freezeReleased => Sys2Proof.Machine.execFreezeReleased s
  | .freezeRestartDone => Sys2Proof.Machine.execFreezeRestartDone s
  | .rdDataRead => Sys2Proof.Machine.execRdDataRead s
  | .jtagFrzSel value => Sys2Proof.Machine.execJtagFrzSel value s
  | .frzData => Sys2Proof.Machine.execFrzData s
  | .frzSel pec value => Sys2Proof.Machine.execFrzSel pec value s
  | .frzRead pec words => Sys2Proof.Machine.execFrzRead pec words s
  | .frzStat pec => Sys2Proof.Machine.execFrzStat pec s
  | .pcieLinkUp => Sys2Proof.Machine.execPcieLinkUp s
  | .packetCrcFailure port => Sys2Proof.Machine.execPacketCrcFailure port s
  | .linkLoss n => Sys2Proof.Machine.execLinkLoss n s
  | .pllLockLoss u => Sys2Proof.Machine.execPllLockLoss u s
  | .hostReadCompletion target r => Sys2Proof.Machine.execHostReadCompletion target r s
  | .numvfsWrite num enable => Sys2Proof.Machine.execNumvfsWrite num enable s

end Sys2Proof.Machine
end

