-- ==== Sys2Proof/Machine/Pins.lean ====
section
/-!
DEFINITION. What a board and a PCI Express host see of the block without a command: the states of its
balls (R51, R57, R58), the request for L1 (R69) and the PCI identity (R68). All of it follows from State.
-/

set_option Elab.async false  -- the joined text is large: no thread per declaration

namespace Sys2Proof.Machine

/-- The balls and transmitters of the table of R58. -/
inductive Ball where
  | gpio (p : Fin 32)
  | dpTx (head : Fin 6)
  | pcieTx
  | cwyTx (port : Fin 5)
  | qspiCs | qspiClk | qspiIo
  | tdmOut (port : Fin 2)
  | audMclk
  | hs
  | trumpAlarm | wake | clkreq | smbAlert
  | jtagTdo
  deriving DecidableEq, Repr

/-- The state of a ball. `byUnit`: the unit behind it drives it, and R58 says no more; for an open-drain
ball of which no rule says when it is asserted, asserted or released (DESIGN CHOICE, log entry 99). -/
inductive Level where
  | highZ | pullDown | high | low | muted | electricalIdle | released | asserted | byUnit
  deriving DecidableEq, Repr

/-- The state of a ball with PWR_OK low: the first column of R58's table, and R51. -/
def Ball.off : Ball → Level
  | .dpTx _ | .pcieTx | .cwyTx _ => .electricalIdle
  | .trumpAlarm | .wake | .clkreq | .smbAlert => .released
  | _ => .highZ

/-- The state of a ball while a reset is in progress: the second column of R58's table. -/
def Ball.inReset : Ball → Level
  | .gpio _ => .pullDown
  | .dpTx _ | .pcieTx | .cwyTx _ => .electricalIdle
  | .qspiCs => .high
  | .qspiClk | .qspiIo | .jtagTdo => .highZ
  | .tdmOut _ | .audMclk => .low
  | .hs => .muted
  | .trumpAlarm | .wake | .clkreq | .smbAlert => .released

/-- The device may request L1: no function has a descriptor in flight, and no host-fed audio stream or
capture ring is active (R69). -/
def State.mayRequestL1 (s : State) : Bool := s.hif.slots.isEmpty && !s.hostFed

/-- A wake that the device itself raised, not the host: codes 0x03 on of R407. -/
def State.ownWake (s : State) : Bool := s.pwr.wake.any (fun (w : Nat) => Nat.ble 3 w)

/-- CLKREQ_N: held asserted while L1 may not be requested (R69) and from a wake the device itself raises
until its exit ends (R407); otherwise the device may or may not request L1 (log entry 99). -/
def State.clkreqLevel (s : State) : Level :=
  if s.ownWake || s.hif.linkUp && !s.mayRequestL1 then .asserted else .byUnit

/-- The state of a ball from the end of reset on: the third column of R58's table, and what the units'
own rules drive once they are configured. -/
def State.ballRunning (s : State) : Ball → Level
  | .gpio p => match s.pinDrive p with
    | none => .pullDown
    | some true => .high
    | some false => .low
  | .dpTx n => if (s.head n).dp.trained || (s.head n).dp.training then .byUnit else .electricalIdle
  | .pcieTx => if s.hif.linkUp then .byUnit else .electricalIdle
  | .cwyTx p => if (s.cport p).run = .down then .electricalIdle else .byUnit
  | .tdmOut t => if s.flag (F.TDM_CTL_EN t) then .byUnit else .low
  | .audMclk => if s.flag (F.TDM_CTL_EN 0) then .byUnit else .low
  | .hs => if s.aud.hs.dacMute || !s.flag F.HS_CTL_EN then .muted else .byUnit
  | .trumpAlarm => if s.trumpAlarm then .asserted else .released
  | .clkreq => s.clkreqLevel
  | _ => .byUnit

/-- The state of a ball (R58). -/
def State.ball (s : State) (b : Ball) : Level :=
  if s.glob.mode = .off then b.off else if s.glob.heldInReset then b.inReset else s.ballRunning b

/-! ### PCI identity (R68) -/

/-- Vendor ID of every function of every part. -/
def pciVendor : Nat := 0x1D7C
/-- Device ID of a function: the physical function's, and the virtual functions'. -/
def pciDevice (f : Fin 16) : Nat := if f.val = 0 then 0x24A0 else 0x24A1
/-- Class code. -/
def pciClass : Nat := 0x038000
/-- Revision ID: the stepping value that GLB_PART reports. -/
def State.pciRevision (s : State) : Nat := s.fld F.GLB_PART_MAJOR * 16 + s.fld F.GLB_PART_MINOR

end Sys2Proof.Machine
end

