-- ==== Sys2Proof/Machine/Step.lean ====
section
/-!
DEFINITION. The step of the block: the command at the front of the queue is carried out, or, with
nothing waiting, one FCLK period passes.
-/

set_option Elab.async false  -- the joined text is large: no thread per declaration

namespace Sys2Proof.Machine

/-- The events that R449 counts by the cycle: FCLK_CYCLES, SLOTS_HELD of each function, APPLY_CYCLES of the
trick being applied, SEQ_STALL of each stalled sequencer, whose SCLK is half of FCLK, and BLT_RACE_WAIT of
each context with a row waiting. -/
def State.cycleCounts (s : State) : State :=
  let applying := (s.trk.queue.head?.bind s.trick).map (·.owner.attr)
  let s := s.count 0x00 0 1
  let s := allFns.foldl (fun s f => s.count 0x06 0 (s.slotsOf f) { fn := some f.val }) s
  let s := match applying with | some a => s.count 0x24 0 1 a | none => s
  let s := allSeqs.foldl (fun s q =>
    if (s.seq q).run = .stalled && s.clock % 2 = 0 then s.count 0x83 q.val 1 else s) s
  (List.finRange 8).foldl (fun s c =>
    if (s.bctx c).waiting then s.count 0xA2 0 1 (((s.bctx c).slot.bind s.slot).map (fun x => { fn := some x.hdr.fn.val })
      |>.getD {}) else s) s

/-- An idle step: one more FCLK period since the last reset, counted while the unit logic runs. -/
def State.idle (s : State) : State :=
  let t := { s with clock := s.clock + 1 }
  if s.alive then { t with pmc := { t.pmc with anyDone := 0 } }.cycleCounts else t

/-- Carry out the command at the front of the queue with the queue's rest, or idle. -/
def step (s : State) : Host.Outcome State Fault Refusal :=
  match s.pending with
  | [] => .next s.idle
  | c :: rest => exec c { s with pending := rest }

/-- The command that a word spells, in front of the queue; no row of the table gives bits. -/
def State.withFetchWord (s : State) (nbits w : Nat) : State :=
  match decodeTableWord nbits w with
  | some c => { s with pending := c :: s.pending }
  | none => s

end Sys2Proof.Machine
end

