-- ==== Sys2Proof/Safety.lean ====
section
/-!
DEFINITION. What the statements say of states and steps: a command completes; what counting and
recording may change beside a command's own effect; states in which nothing waits.
-/

set_option Elab.async false  -- the joined text is large: no thread per declaration

namespace Sys2Proof.Machine

/-- A command completes in a state: it answers a next state. -/
def Completes (c : Instr) (s : State) : Prop := ∃ t, exec c s = .next t

/-- The registers outside a set of BAR0 addresses hold what they held. -/
def RegsKept (ex : List Nat) (s t : State) : Prop :=
  ∀ a, a ∉ ex → SMap.find t.regs a = SMap.find s.regs a

/-- What signalling vectors may do to what the outside sees (R73, R287): messages are added, and pending
bits of masked vectors are set, none cleared. -/
def Signalled (s t : State) : Prop := s.out <+: t.out ∧ s.pba &&& t.pba = s.pba

/-- `t` is `s` but for what counting an event may do (R448, R451): the counters, PMC_OVF, and signals. -/
def Counted (s t : State) : Prop :=
  t = { s with regs := t.regs, pba := t.pba, pmc := t.pmc, out := t.out } ∧
  RegsKept [RegId.addr .PMC_OVF 0 0] s t ∧ Signalled s t

/-- Between `s` and `t` the block sent the message `o`, after those already sent. -/
def Sends (s t : State) (o : Out) : Prop := ∃ l, t.out = s.out ++ l ∧ o ∈ l

/-- BAR0 addresses of the registers that making a fault record and counting its message change (R449,
R461 to R463). -/
def faultRegs : List Nat :=
  [RegId.addr .DBG_FLT_NEXT 0 0, RegId.addr .DBG_FLT_LOST 0 0, RegId.addr .DBG_FLT_PEND 0 0,
   RegId.addr .PMC_OVF 0 0]

/-- `t` is `s` but for a fault record with its counts and signals (R461 to R463). -/
def Recorded (s t : State) : Prop :=
  t = { s with regs := t.regs, pba := t.pba, dbg := t.dbg, pmc := t.pmc, out := t.out } ∧
  RegsKept faultRegs s t ∧ Signalled s t

/-- Memory and every page a trick holds are in canonical form: addresses strictly rising, and no entry for
what reads so unlisted. -/
def State.MemoryForm (s : State) : Prop :=
  s.mem.wf = true ∧ ∀ k ∈ s.trk.tricks, ∀ p ∈ k.pages, p.img.wf = true

/-- Nothing sounds: no rate domain runs or is enabled, no head carries DP audio, and no player is set to the
reserved format (R352, R369). -/
def State.mute (s : State) : Bool :=
  allDoms.all (fun d => !(s.dm d).run && !s.flag (F.AUD_DOM_CTL_EN d)) &&
  allPlayers.all (fun p => s.fld (F.PLAY_CTL_FMT p) ≠ 3) && allHeads.all (fun n => !bit (s.head n).dp.dpAud 31)

/-- Nothing waits and nothing sounds: no descriptor, trick, held completion or forwarded trick is in
flight, and the audio engine stands. What follows a command is then nothing. -/
def State.calm (s : State) : Bool := s.quiet && s.cwy.rx.isEmpty && s.mute

/-- The unit logic runs, awake: a BAR write reaches its register and wakes nothing (R28, R407, R457). -/
def State.attends (s : State) : Bool := s.alive && !s.sleeping

/-- The block is off or held in reset (R28, R55). -/
def State.dead (s : State) : Bool := s.glob.mode = .off || s.glob.heldInReset

/-- Sequencer `q` runs and holds the word `w` at its program counter, and may execute (R267, R280). -/
def State.seqAt (s : State) (q : Fin 8) (w : W24) : Prop :=
  s.alive = true ∧ s.seqMayRun q = true ∧ (s.seq q).run = .running ∧
  wordAt (s.seq q).bank.prog (s.seq q).pc = w

/-- As `seqAt`, with a next address to go on at. -/
def State.seqReady (s : State) (q : Fin 8) (w : W24) : Prop := s.seqAt q w ∧ (s.seq q).pc < 16383

/-- From `s` to `t` sequencer `q` did `f`, and nothing else changed but the counts of the event. -/
def SeqDone (s t : State) (q : Fin 8) (f : SeqSt → SeqSt) : Prop := Counted (s.modSeq q f) t

/-- From `s` to `t` sequencer `q` did `f` and went on at the next address. -/
def SeqNext (s t : State) (q : Fin 8) (f : SeqSt → SeqSt) : Prop := SeqDone s t q (fun x => { f x with pc := x.pc + 1 })

/-- Frames are 32-bit counts: the absolute line of a position on head `n` relative to the frame being
composed (R244, R268). -/
def State.lineOf (s : State) (n : Fin 6) (p : Nat × Nat × Word) : Int :=
  (p.2.2 - (s.head n).frame).toInt * (s.head n).vTotal + p.1

/-- The absolute compose line last started on head `n` (R268, R271). -/
def State.composeAt (s : State) (n : Fin 6) : Int :=
  if (s.head n).lineOn then (s.head n).line else (s.head n).line - 1

/-- Reference position of sequencer `q` on its beam head `n` (R268): its tag, or the compose beam. -/
def State.waitRef (s : State) (q : Fin 8) (n : Fin 6) : Nat × Nat × Word :=
  (s.seq q).tag.getD ((s.head n).line, if (s.head n).composing then (s.head n).chunk else 0, (s.head n).frame)

/-- Sequencer `q` stands at the beam wait whose word is `w`, with the beam head `n`. -/
def State.waitsAt (s : State) (q : Fin 8) (n : Fin 6) (w : W24) : Prop :=
  s.seqReady q w ∧ s.beamHead q = some n ∧ 0 < (s.head n).vTotal

/-- From `s` to `t` the target `p` of a beam wait of sequencer `q` moved on by as many whole frames as the
compose beam is ahead by (R270), counted in SEQn_SKIP, and the wait ended at once or was entered (R271). `go`
and `stay` are what the sequencer then does. -/
def SeqWaited (s t : State) (q : Fin 8) (n : Fin 6) (p : Nat × Nat × Word) (go stay : Word → SeqSt → SeqSt) : Prop :=
  ∃ k : Nat, (∀ j < k, s.lineOf n p + (j + 1) * (s.head n).vTotal ≤ s.composeAt n) ∧
    s.composeAt n < s.lineOf n p + (k + 1) * (s.head n).vTotal ∧
    Counted ((s.incF (F.SEQ_SKIP_COUNT q) k).modSeq q (fun x =>
      let f := p.2.2 + BitVec.ofNat 32 k
      if s.lineOf n (p.1, p.2.1, f) - max 1 (s.fld (F.SEQ_CTL_AHEAD q)) ≤ s.composeAt n
      then go f x else stay f x)) t

/-- From `s` to `t` sequencer `q` faulted with code `code` (R288): it stands FAULTED at `pc`, SEQn_RAISE.FAULT is
set, and beside them only the fault records, counts and messages change. -/
def SeqFaulted (s t : State) (q : Fin 8) (code pc : Nat) (f : SeqSt → SeqSt) : Prop :=
  t.flag (F.SEQ_RAISE_FAULT q) = true ∧
  t = { s.modSeq q (fun x => { f x with run := .faulted, fault := code, pc := pc }) with
        regs := t.regs, pba := t.pba, dbg := t.dbg, pmc := t.pmc, out := t.out } ∧
  RegsKept (RegId.addr .SEQ_RAISE q 0 :: faultRegs) s t ∧ Signalled s t

/-- Domain `d` executes its program and stands at the word `w`, which is not the last (R347, R358). -/
def State.mixAt (s : State) (d : Fin 3) (w : Word) (pc : Nat) : Prop :=
  s.alive = true ∧ (s.dm d).run = true ∧ (s.dm d).pc = some pc ∧ (s.dm d).word pc = some w ∧
  ((s.dm d).word (pc + 1)).isSome = true

/-- From `s` to `t` domain `d` did `f` and went on at the next word; the sum `r` that goes into A saturates to 32
bits and sets SAT where it does not fit (R357). Nothing else changes but counts. -/
def MixSet (s t : State) (d : Fin 3) (pc : Nat) (r : Int) (f : AudDom → AudDom) : Prop :=
  Counted ((if -2 ^ 31 ≤ r ∧ r < 2 ^ 31 then s else s.raiseF (F.AUD_DOM_STAT_SAT d)).modDom d (fun m =>
    { f m with acc := BitVec.ofInt 32 (max (-2 ^ 31) (min (2 ^ 31 - 1) r)), pc := some (pc + 1) })) t

/-- `t` is `s` started afresh: every register outside `ex` at its Cold value, every unit empty and every
beam stopped, with only what no reset reaches kept (R50, R54). The levels of GPIO0 to GPIO4 are those the straps
were sampled from (R60). -/
def Restarted (s t : State) (ex : List Nat) : Prop :=
  (∀ r i j, r.addr i j ∉ ex → t.reg r i j = coldOf s.part r i j) ∧
  t = { part := s.part, free := t.free, regs := t.regs, mem := t.mem, glob := t.glob, dbg := t.dbg,
        hif := { perst := s.hif.perst }, gpio := { pins := t.gpio.pins }
        jrnl := { slots := t.jrnl.slots, skip := t.jrnl.skip }, out := s.out, pending := s.pending } ∧
  (∀ k, 5 ≤ k → bit t.gpio.pins k = bit s.gpio.pins k) ∧
  (s.jrnl.store = none → t.jrnl.slots = s.jrnl.slots)

/-- A register of the HIF or VLG block (R107). -/
def inHif (a : Nat) : Prop := (0x10000 ≤ a ∧ a < 0x20000) ∨ (0x2E0000 ≤ a ∧ a < 0x2F0000)

/-- A sequencer with register `gd` set to `r` and the four flags given. -/
def SeqSt.result (x : SeqSt) (gd : Fin 16) (r : W24) (c v : Bool) : SeqSt :=
  { x with g := x.g.set gd r, z := decide (r = 0), n := r.msb, c := c, v := v }

/-- The slots in flight are `l` and nothing else moves on by itself: every trick is open, nothing is held
back or being drained, and nothing sounds. -/
def State.still (s : State) (l : List Slot) : Prop :=
  s.alive = true ∧ s.hif.slots = l ∧ (∀ k ∈ s.trk.tricks, k.phase = .opened) ∧ s.trk.shown = [] ∧
  (∀ e ∈ s.hif.rings, e.2.held = [] ∧ e.2.cqFullLogged = false ∧ e.2.phase ≠ .draining) ∧
  s.cwy.rx = [] ∧ s.mute = true

/-- The slot of a descriptor fetched now (R79). -/
def State.slotOf (s : State) (type : Nat) (h : Hdr) (p : BitVec 448) : Slot := (s.newSlot type h p).2

/-- A descriptor that arrives alone and passes the checks of R91: its ring may be fetched from (R86, R88)
and has room for its entry (R81). -/
def State.takes (s : State) (type : Nat) (h : Hdr) (p : BitVec 448) : Prop :=
  s.still [] ∧ s.canFetch h.fn h.ring = true ∧ (s.ring h.fn h.ring).hasRoom = true ∧
  s.checkEarly (s.slotOf type h p) = none ∧ s.checkTrick (s.slotOf type h p) = none ∧
  s.checkLate (s.slotOf type h p) = none

/-- The 16 bytes of a completion entry (R97). -/
def cplBytes (phase : Bool) (c : Cpl) : List Byte :=
  leBytes 2 c.tag.toNat ++ leBytes 1 c.status ++ leBytes 1 (b2n phase) ++ leBytes 4 c.frame.toNat ++
  leBytes 2 c.line ++ leBytes 2 c.pixel ++ leBytes 4 c.detail.toNat

/-- From `s` to `t` the ring of `h` wrote a completion entry for `h` (R81, R97); `g` is the ring before it. -/
def EntryWritten (s t : State) (h : Hdr) (g : RingSt) (status : Nat) (detail : Word) : Prop :=
  let n := 2 ^ g.log2n
  Sends s t (.hostWrite (g.cq + g.cqProd * 16) (cplBytes g.cqPhase (s.cplOf h status detail))) ∧
  t.ring h.fn h.ring = { g with
    cqProd := (g.cqProd + 1) % n, cqPhase := if g.cqProd + 1 = n then !g.cqPhase else g.cqPhase
    holdoff := (t.ring h.fn h.ring).holdoff, holdoffDue := (t.ring h.fn h.ring).holdoffDue }

/-- What a fetch does to the ring (R85). -/
def RingSt.fetched (g : RingSt) : RingSt := { g with cons := (g.cons + 1) % 2 ^ g.log2n }

/-- From `s` to `t` a descriptor of the ring of `h` was read and CONS written (R85). Rings but that one
stay. -/
def DescFetched (s t : State) (h : Hdr) : Prop :=
  let g := s.ring h.fn h.ring
  Sends s t (.hostRead (g.sq + 64 * g.cons) 64) ∧
  Sends s t (.hostWrite (g.db + 8) (leBytes 2 g.fetched.cons)) ∧
  t.hif.nextSlot = s.hif.nextSlot + 1 ∧
  ∀ f r, ¬ (f = h.fn ∧ r = h.ring) → t.ring f r = s.ring f r

/-- `t` is `s` but for a fetched and completed descriptor: the counts, messages, rings and slots. -/
def HostOnly (s t : State) : Prop :=
  t = { s with regs := t.regs, pba := t.pba, pmc := t.pmc, out := t.out
               hif := { s.hif with rings := t.hif.rings, nextSlot := t.hif.nextSlot, slots := t.hif.slots
                                   fnTurn := t.hif.fnTurn, ringTurn := t.hif.ringTurn } }

/-- The descriptor is fetched and completes at once with a status and a detail; registers outside `ex` keep
their values. -/
def Answers (s t : State) (h : Hdr) (ex : List Nat) (status : Nat) (detail : Word) : Prop :=
  DescFetched s t h ∧ EntryWritten s t h (s.ring h.fn h.ring).fetched status detail ∧ t.hif.slots = [] ∧
  RegsKept (RegId.addr .PMC_OVF 0 0 :: ex) s t

/-- From `s` to `t` the only slot in flight, `x`, completed with a status and a detail. -/
def SlotEnds (s t : State) (x : Slot) (status : Nat) (detail : Word) : Prop :=
  EntryWritten s t x.hdr (s.ring x.hdr.fn x.hdr.ring) status detail ∧ t.hif.slots = [] ∧
  ∀ f r, ¬ (f = x.hdr.fn ∧ r = x.hdr.ring) → t.ring f r = s.ring f r

/-- `t` is `s` but for the movers, memory, host interface, registers, counts, messages and free values. -/
def MoverOnly (s t : State) : Prop :=
  t = { s with regs := t.regs, pba := t.pba, mem := t.mem, mv := t.mv, hif := t.hif, pmc := t.pmc
               out := t.out, free := t.free }

/-- Bytes of pixel `x` of a row, and of the rest of memory, after a blitter command: every pixel of the
rectangle holds what `px` gives for its column and row, or what it held; every byte outside the rows of
the rectangle keeps its value (R322 to R324). -/
def Painted (m m' : DevMem) (c : BitVec 512) (px : Nat → Nat → Option Nat) : Prop :=
  let row (j : Nat) : Nat := cmdDst c + cmdDpitch c * (cmdDy c + j)
  let f := cmdDfmt c
  (∀ i < cmdW c, ∀ j < cmdH c, rawPixel m'.read f (row j) (cmdDx c + i) =
    match px i j with | some v => v % 2 ^ bpp f | none => rawPixel m.read f (row j) (cmdDx c + i)) ∧
  ∀ a, (∀ j < cmdH c, a < row j + cmdDx c * bpp f / 8 ∨ row j + cdiv ((cmdDx c + cmdW c) * bpp f) 8 ≤ a) →
    m'.read a = m.read a

end Sys2Proof.Machine
end

