-- ==== Sys2Proof/Certificates/Slice0/Obligations.lean ====
section
/-!
DEFINITION. The statements for the provers, family by family. Most have the shape: under conditions on the
state and the operands alone, the command answers a next state, and that state is this one. `Counted` and
`Recorded` say what counting an event and making a fault record may change beside it.
-/

set_option Elab.async false  -- the joined text is large: no thread per declaration

open Sys2Proof Sys2Proof.Machine

/-! ### Sequencers -/

/-- R281, R282: ADD, SUB, ADDI, CMP and CMPI compute modulo 2^24, with Z and N of the result, C the carry of an addition
or the borrow of a subtraction, and V where the exact signed result does not fit. CMP and CMPI write flags only.
Nothing else changes but counts. R281, R282: AND, OR, XOR, ANDI and ORI (the immediate extended with zeros), MUL (the
low 24 bits of the product) and MULF (bits 39 to 16 of the signed product) set Z and N and clear C and V. Nothing else
changes but counts. R281, R282: the shifts move by the low five bits of a register or by the amount in the word; an
amount of 24 or more leaves 0, or for SAR and SARI the sign in every bit. Z and N are set, C and V cleared. What the
model chooses here is in log entry 42. -/
def Obligations.SeqAlu : Prop :=
  (∀ (s : State) (q : Fin 8) (gd ga gb : Fin 16) (imm : BitVec 14),
    let a := (s.seq q).reg ga
    let b := (s.seq q).reg gb
    let d := (s.seq q).reg gd
    let i : W24 := imm.signExtend 24
    (s.seqReady q (encR 0x04 gd ga gb) →
      ∃ t, exec (.seqAdd q gd ga gb) s = .next t ∧ SeqNext s t q (fun x => x.result gd (a + b)
      (decide (2 ^ 24 ≤ a.toNat + b.toNat)) (decide ((a + b).toInt ≠ a.toInt + b.toInt)))) ∧
    (s.seqReady q (encR 0x05 gd ga gb) →
      ∃ t, exec (.seqSub q gd ga gb) s = .next t ∧ SeqNext s t q (fun x => x.result gd (a - b)
      (decide (a.toNat < b.toNat)) (decide ((a - b).toInt ≠ a.toInt - b.toInt)))) ∧
    (s.seqReady q (encI 0x12 gd imm.toNat) →
      ∃ t, exec (.seqAddi q gd imm) s = .next t ∧ SeqNext s t q (fun x => x.result gd (d + i)
      (decide (2 ^ 24 ≤ d.toNat + i.toNat)) (decide ((d + i).toInt ≠ d.toInt + i.toInt)))) ∧
    (s.seqReady q (encR 0x0E 0 ga gb) → ∃ t, exec (.seqCmp q ga gb) s = .next t ∧ SeqNext s t q (fun x => { x with
      z := decide (a = b), n := (a - b).msb, c := decide (a.toNat < b.toNat)
      v := decide ((a - b).toInt ≠ a.toInt - b.toInt) })) ∧
    (s.seqReady q (encI 0x15 gd imm.toNat) →
      ∃ t, exec (.seqCmpi q gd imm) s = .next t ∧ SeqNext s t q (fun x => { x with
      z := decide (d = i), n := (d - i).msb, c := decide (d.toNat < i.toNat)
      v := decide ((d - i).toInt ≠ d.toInt - i.toInt) }))) ∧
  (∀ (s : State) (q : Fin 8) (gd ga gb : Fin 16) (imm : BitVec 14),
    let a := (s.seq q).reg ga
    let b := (s.seq q).reg gb
    let d := (s.seq q).reg gd
    (s.seqReady q (encR 0x06 gd ga gb) →
      ∃ t, exec (.seqAnd q gd ga gb) s = .next t ∧ SeqNext s t q (fun x => x.result gd (a &&& b) false false)) ∧
    (s.seqReady q (encR 0x07 gd ga gb) →
      ∃ t, exec (.seqOr q gd ga gb) s = .next t ∧ SeqNext s t q (fun x => x.result gd (a ||| b) false false)) ∧
    (s.seqReady q (encR 0x08 gd ga gb) →
      ∃ t, exec (.seqXor q gd ga gb) s = .next t ∧ SeqNext s t q (fun x => x.result gd (a ^^^ b) false false)) ∧
    (s.seqReady q (encI 0x13 gd imm.toNat) →
      ∃ t, exec (.seqAndi q gd imm) s = .next t ∧
        SeqNext s t q (fun x => x.result gd (d &&& imm.setWidth 24) false false)) ∧
    (s.seqReady q (encI 0x14 gd imm.toNat) →
      ∃ t, exec (.seqOri q gd imm) s = .next t ∧
        SeqNext s t q (fun x => x.result gd (d ||| imm.setWidth 24) false false)) ∧
    (s.seqReady q (encR 0x0C gd ga gb) →
      ∃ t, exec (.seqMul q gd ga gb) s = .next t ∧
        SeqNext s t q (fun x => x.result gd (BitVec.ofNat 24 (a.toNat * b.toNat)) false false)) ∧
    (s.seqReady q (encR 0x0D gd ga gb) →
      ∃ t, exec (.seqMulf q gd ga gb) s = .next t ∧
        SeqNext s t q (fun x => x.result gd (BitVec.ofInt 24 (a.toInt * b.toInt / 65536)) false false))) ∧
  (∀ (s : State) (q : Fin 8) (gd ga gb : Fin 16) (sh : BitVec 5),
    let a := (s.seq q).reg ga
    let k := ((s.seq q).reg gb).toNat % 32
    (s.seqReady q (encR 0x09 gd ga gb) →
      ∃ t, exec (.seqShl q gd ga gb) s = .next t ∧
        SeqNext s t q (fun x => x.result gd (BitVec.ofNat 24 (a.toNat * 2 ^ k)) false false)) ∧
    (s.seqReady q (encR 0x0A gd ga gb) →
      ∃ t, exec (.seqShr q gd ga gb) s = .next t ∧
        SeqNext s t q (fun x => x.result gd (BitVec.ofNat 24 (a.toNat / 2 ^ k)) false false)) ∧
    (s.seqReady q (encR 0x0B gd ga gb) →
      ∃ t, exec (.seqSar q gd ga gb) s = .next t ∧
        SeqNext s t q (fun x => x.result gd (BitVec.ofInt 24 (a.toInt / 2 ^ k)) false false)) ∧
    (s.seqReady q (encS 0x16 gd ga sh.toNat) →
      ∃ t, exec (.seqShli q gd ga sh) s = .next t ∧
        SeqNext s t q (fun x => x.result gd (BitVec.ofNat 24 (a.toNat * 2 ^ sh.toNat)) false false)) ∧
    (s.seqReady q (encS 0x17 gd ga sh.toNat) →
      ∃ t, exec (.seqShri q gd ga sh) s = .next t ∧
        SeqNext s t q (fun x => x.result gd (BitVec.ofNat 24 (a.toNat / 2 ^ sh.toNat)) false false)) ∧
    (s.seqReady q (encS 0x18 gd ga sh.toNat) →
      ∃ t, exec (.seqSari q gd ga sh) s = .next t ∧
        SeqNext s t q (fun x => x.result gd (BitVec.ofInt 24 (a.toInt / 2 ^ sh.toNat)) false false)))

/-- R281, R286: MOV, LDI (sign-extended), LUI (the upper ten bits), LD, LDA and BEAM write one register and no flag. LD
reads data memory at ga plus the signed offset, modulo 4,096; BEAM reads the tag's line, column or frame, or the
compose line, and 0xFFFFFF without a beam head or, for the tag's parts, without a tag. R281: ST and STA store a
register into data memory, at ga plus the signed offset modulo 4,096 or at the address in the word. Every other word
of data memory reads as before, and nothing else changes but the program counter and counts. -/
def Obligations.SeqLoadsAndStores : Prop :=
  (∀ (s : State) (q : Fin 8) (gd ga : Fin 16) (imm : BitVec 14) (up : BitVec 10) (off : BitVec 10)
    (addr : BitVec 12) (sel : BitVec 2),
    let a := (s.seq q).reg ga
    let put (v : W24) : SeqSt → SeqSt := fun x => { x with g := x.g.set gd v }
    let none24 : W24 := 0xFFFFFF
    let beam : W24 := match s.beamHead q, (s.seq q).tag with
      | none, _ => none24
      | some n, some (l, c, f) =>
        if sel = 0 then BitVec.ofNat 24 l else if sel = 1 then BitVec.ofNat 24 c
        else if sel = 2 then f.setWidth 24 else BitVec.ofNat 24 (s.head n).line
      | some n, none => if sel = 3 then BitVec.ofNat 24 (s.head n).line else none24
    (s.seqReady q (encR 0x0F gd ga 0) → ∃ t, exec (.seqMov q gd ga) s = .next t ∧ SeqNext s t q (put a)) ∧
    (s.seqReady q (encI 0x10 gd imm.toNat) →
      ∃ t, exec (.seqLdi q gd imm) s = .next t ∧ SeqNext s t q (put (imm.signExtend 24))) ∧
    (s.seqReady q (encI 0x11 gd up.toNat) →
      ∃ t, exec (.seqLui q gd up) s = .next t ∧
        SeqNext s t q (put (BitVec.ofNat 24 (up.toNat * 2 ^ 14 + ((s.seq q).reg gd).toNat % 2 ^ 14)))) ∧
    (s.seqReady q (encM 0x1C gd ga off.toNat) →
      ∃ t, exec (.seqLd q gd ga off) s = .next t ∧
        SeqNext s t q (put (wordAt (s.seq q).bank.data (((a.toNat : Int) + off.toInt) % 4096).toNat))) ∧
    (s.seqReady q (encI 0x1E gd addr.toNat) →
      ∃ t, exec (.seqLda q gd addr) s = .next t ∧ SeqNext s t q (put (wordAt (s.seq q).bank.data addr.toNat))) ∧
    (s.seqReady q (encI 0x2D gd (sel.toNat * 4096)) →
      ∃ t, exec (.seqBeam q gd sel) s = .next t ∧ SeqNext s t q (put beam))) ∧
  (∀ (s : State) (q : Fin 8) (gs ga : Fin 16) (off : BitVec 10) (addr : BitVec 12),
    let stored (t : State) (at' : Nat) : Prop :=
        Counted (s.modSeq q (fun x => { x with bank := { x.bank with data := (t.seq q).bank.data }, pc := x.pc + 1 })) t ∧
        ∀ a, wordAt (t.seq q).bank.data a = if a = at' then (s.seq q).reg gs else wordAt (s.seq q).bank.data a
    (s.seqReady q (encM 0x1D gs ga off.toNat) → ∃ t : State, exec (.seqSt q gs ga off) s = .next t ∧
      stored t (((((s.seq q).reg ga).toNat : Int) + off.toInt) % 4096).toNat) ∧
    (s.seqReady q (encI 0x1F gs addr.toNat) → ∃ t : State, exec (.seqSta q gs addr) s = .next t ∧
      stored t addr.toNat))

/-- R281, R283, R292: BR goes to its target where its condition holds, else on; DBNZ counts its register down and branches
while it is not 0; CALL pushes the next address; RET takes the top of the return stack; HALT with SEQn_CTL.FRAME 0, or
without a beam head, stops the sequencer. No flag changes, and nothing else does but counts. -/
def Obligations.SeqControlFlow : Prop :=
  ∀ (s : State) (q : Fin 8) (gd : Fin 16) (cond : BitVec 4) (target : BitVec 14) (a : Nat) (rest : List Nat),
    let holds (x : SeqSt) : Bool :=
      [true, x.z, !x.z, x.n != x.v, x.n == x.v, x.c, !x.c, x.n, !x.n, x.v, !x.v,
       x.z || x.n != x.v, !x.z && x.n == x.v, x.c || x.z, !x.c && !x.z][cond.toNat]?.getD false
    ((s.seq q).pc < 16383 → cond ≠ 15 → (s.seqAt q (encI 0x20 cond.toNat target.toNat) →
      ∃ t, exec (.seqBr q cond target) s = .next t ∧
        SeqDone s t q (fun x => { x with pc := if holds x then target.toNat else x.pc + 1 }))) ∧
    ((s.seq q).pc < 16383 → (s.seqAt q (encI 0x21 gd target.toNat) →
      ∃ t, exec (.seqDbnz q gd target) s = .next t ∧ SeqDone s t q (fun x => { x with
        g := x.g.set gd (x.reg gd - 1), pc := if x.reg gd = 1 then x.pc + 1 else target.toNat }))) ∧
    ((s.seq q).pc < 16383 → (s.seq q).stack.length < 8 →
      (s.seqAt q (encI 0x22 0 target.toNat) →
        ∃ t, exec (.seqCall q target) s = .next t ∧
          SeqDone s t q (fun x => { x with stack := (x.pc + 1) :: x.stack, pc := target.toNat }))) ∧
    ((s.seq q).stack = a :: rest →
      (s.seqAt q (encI 0x23 0 0) →
        ∃ t, exec (.seqRet q) s = .next t ∧ SeqDone s t q (fun x => { x with stack := rest, pc := a }))) ∧
    (s.flag (F.SEQ_CTL_FRAME q) = false ∨ s.beamHead q = none →
      (s.seqAt q 0 → ∃ t, exec (.seqHalt q) s = .next t ∧ SeqDone s t q (fun x => { x with run := .halted })))

/-- R269 to R271, R292: the beam waits. The target is the first position after the reference that the instruction names;
it skips the frames the compose beam is ahead by; where the release line has started the tag becomes the target and
the program goes on, else the sequencer waits. HALT with SEQn_CTL.FRAME 1 waits for line 0 and then starts over at
ENTRY with an empty return stack. R271, R292: the compose beam reaching the release line ends a beam wait, for the
AHEAD that was in force when the wait began: the tag becomes the target and the sequencer runs on; after HALT it runs
from ENTRY with an empty return stack. R272, R285: WAITT and SYNC consume the latch they name if it is set, else wait;
WAITT sets the tag to none. SIG sets the latch for its sequencer in the one it names, or lets that one go on where it
waits for it. Nothing else changes but counts. What the model chooses here is in log entry 42. -/
def Obligations.SeqWaiting : Prop :=
  (∀ (s : State) (q : Fin 8) (n : Fin 6) (line k : BitVec 14) (col : BitVec 10) (ga : Fin 16),
    let r := s.waitRef q n
    let v := (s.head n).vTotal
    let after (l c : Nat) : Nat × Nat × Word :=
      (l, c, if r.1 < l ∨ (r.1 = l ∧ r.2.1 < c) then r.2.2 else r.2.2 + 1)
    let g := ((s.seq q).reg ga).toNat
    let go (l c : Nat) (f : Word) (x : SeqSt) : SeqSt := { x with tag := some (l, c, f), pc := x.pc + 1 }
    let stay (l c : Nat) (f : Word) (x : SeqSt) : SeqSt := { x with
      run := .waitBeam f l c false, ahead := max 1 (s.fld (F.SEQ_CTL_AHEAD q)) }
    let again (f : Word) (x : SeqSt) : SeqSt := { x with
      tag := some (0, 0, f), stack := [], pc := s.fld (F.SEQ_CTL_ENTRY q) }
    let still (f : Word) (x : SeqSt) : SeqSt := { x with
      run := .waitBeam f 0 0 true, ahead := max 1 (s.fld (F.SEQ_CTL_AHEAD q)) }
    let colP : Nat × Nat × Word :=
      if r.2.1 < col.toNat then (r.1, col.toNat, r.2.2)
      else if r.1 + 1 < v then (r.1 + 1, col.toNat, r.2.2) else (0, col.toNat, r.2.2 + 1)
    let nP : Nat × Nat × Word := ((r.1 + k.toNat) % v, 0, r.2.2 + BitVec.ofNat 32 ((r.1 + k.toNat) / v))
    (line.toNat < v → (s.waitsAt q n (encI 0x28 0 line.toNat) →
      ∃ t, exec (.seqWaitl q line) s = .next t ∧
        SeqWaited s t q n (after line.toNat 0) (go line.toNat 0) (stay line.toNat 0))) ∧
    (g % 2 ^ 14 < v → (s.waitsAt q n (encI 0x29 0 (ga.val * 1024)) →
      ∃ t, exec (.seqWaitlc q ga) s = .next t ∧
        SeqWaited s t q n (after (g % 2 ^ 14) (g / 2 ^ 14))
          (go (g % 2 ^ 14) (g / 2 ^ 14)) (stay (g % 2 ^ 14) (g / 2 ^ 14)))) ∧
    (s.waitsAt q n (encI 0x2A 0 col.toNat) →
      ∃ t, exec (.seqWaitc q col) s = .next t ∧ SeqWaited s t q n colP (go colP.1 colP.2.1) (stay colP.1 colP.2.1)) ∧
    (0 < k.toNat → (s.waitsAt q n (encI 0x2B 0 k.toNat) →
      ∃ t, exec (.seqWaitn q k) s = .next t ∧ SeqWaited s t q n nP (go nP.1 0) (stay nP.1 0))) ∧
    (s.flag (F.SEQ_CTL_FRAME q) = true → (s.waitsAt q n 0 →
      ∃ t, exec (.seqHalt q) s = .next t ∧
        SeqWaited s t q n (after 0 0) again still))) ∧
  (∀ (s : State) (q : Fin 8) (n : Fin 6) (f : Word) (line col : Nat) (halt : Bool),
    s.alive = true → s.beamHead q = some n → (s.seq q).run = .waitBeam f line col halt →
    s.lineOf n (line, col, f) - (s.seq q).ahead ≤ s.composeAt n → (s.seq q).pc < 16383 →
    exec (.beamWaitRelease q) s = .next (s.modSeq q (fun x => { x with
      tag := some (line, col, f), run := .running
      stack := if halt then [] else x.stack
      pc := if halt then s.fld (F.SEQ_CTL_ENTRY q) else x.pc + 1 }))) ∧
  (∀ (s : State) (q j : Fin 8) (ch : Fin 16) (ev : BitVec 2), ev ≠ 3 → j ≠ q → (s.seq q).pc < 16383 →
    let k := ch.val * 3 + ev.toNat
    (s.seqAt q (encI 0x2C ch (ev.toNat * 4096)) → ∃ t, exec (.seqWaitt q ch ev) s = .next t ∧ SeqDone s t q (fun x =>
      if x.timerLatch.getLsbD k then
        { x with tag := none, timerLatch := x.timerLatch &&& ~~~BitVec.twoPow 48 k, pc := x.pc + 1 }
      else { x with tag := none, run := .waitTimer ch ev.toNat })) ∧
    (s.seqAt q (BitVec.ofNat 24 (0x2E * 2 ^ 18 + j.val * 2 ^ 15)) →
      ∃ t, exec (.seqSync q j) s = .next t ∧ SeqDone s t q (fun x =>
      if x.sigLatch.getLsbD j then
        { x with sigLatch := x.sigLatch &&& ~~~BitVec.twoPow 8 j, pc := x.pc + 1 }
      else { x with run := .waitSync j })) ∧
    (s.seqAt q (BitVec.ofNat 24 (0x2F * 2 ^ 18 + j.val * 2 ^ 15)) → (s.seq j).pc < 16383 →
      ∃ t : State, exec (.seqSig q j) s = .next t ∧
        Counted ((s.modSeq j (fun x =>
          if x.run = .waitSync q then { x with run := .running, pc := x.pc + 1 }
          else { x with sigLatch := x.sigLatch ||| BitVec.twoPow 8 q })).modSeq q
            (fun x => { x with pc := x.pc + 1 })) t))

/-- R273, R278 to R280: a register write of MOVE, MOVEX, MOVEB or MOVEBX into line-class registers of one present head's
window is issued, tagged where that head is the beam head, when the head's queue has room; MOVEB and MOVEBX advance
g14 by the data words taken, modulo 4,096. Nothing else changes but the program counter and counts. R277, R278: a MOVE
that finds no free entry in its head's queue stalls the sequencer for one and does nothing else but count; one whose
register has now-class or trick-class fields is dropped and counted in SEQn_DROP. R273, R274: the oldest issued write
of a sequencer enters its head's landing queue last; where it is untagged or its apply point has not passed nothing
else changes, and where it is late SEQn_LATE counts it, SEQn_STAT.LATE is set and the write is queued all the same.
One for a register outside the head windows takes effect as it arrives, one for the audio engine at its next sample
(R278, R348). What the model chooses here is in log entry 41. -/
def Obligations.SeqWrites : Prop :=
  (∀ (s : State) (q : Fin 8) (n : Fin 6) (g : Fin 16) (w : Fin 4) (idx : BitVec 12), (s.seq q).pc < 16383 →
    let x := s.seq q
    let low (v : W24) : Word := v.setWidth 32
    let wide (lo hi : W24) : Word := BitVec.ofNat 32 (lo.toNat + hi.toNat % 256 * 2 ^ 24)
    let base := s.fld (F.SEQ_WIN_BASE q w) * 16384
    let data (k : Nat) : W24 := wordAt x.bank.data (((x.reg 14).toNat + k) % 4096)
    let tag := if s.beamHead q = some n then x.tag else none
    let lineReg (a : Nat) : Prop := ∃ r i j, decodeReg a = some (r, i, j) ∧ r.row.cls = .line
    let fits (vs : List Word) : Prop := s.headPresent n ∧ vs.length ≤ s.queueRoom n ∧
      ∀ k < vs.length, inHeadWin n (base + (idx.toNat + k) * 4) ∧ lineReg (base + (idx.toNat + k) * 4)
    let sent (t : State) (vs : List Word) (taken : Nat) : Prop := SeqDone s t q (fun x => { x with
      issued := x.issued ++ vs.zipIdx.map (fun e => ⟨base + (idx.toNat + e.2) * 4, e.1, tag⟩)
      g := if taken = 0 then x.g else x.g.set 14 (BitVec.ofNat 24 (((x.reg 14).toNat + taken) % 4096))
      pc := x.pc + 1 })
    let pair : Word := wide (x.reg g) (x.reg (g + 1))
    let block : List Word := (List.range (g.val + 1)).map (fun k => low (data k))
    let pairs : List Word := (List.range (g.val + 1)).map (fun k => wide (data (2 * k)) (data (2 * k + 1)))
    (s.seqAt q (encW 0x30 g w idx.toNat) → fits [low (x.reg g)] →
      ∃ t : State, exec (.seqMove q g w idx) s = .next t ∧ sent t [low (x.reg g)] 0) ∧
    (s.seqAt q (encW 0x31 g w idx.toNat) → g.val % 2 = 0 → fits [pair] →
      ∃ t : State, exec (.seqMovex q g w idx) s = .next t ∧ sent t [pair] 0) ∧
    (s.seqAt q (encW 0x32 g w idx.toNat) → fits block →
      ∃ t : State, exec (.seqMoveb q g w idx) s = .next t ∧ sent t block (g.val + 1)) ∧
    (s.seqAt q (encW 0x33 g w idx.toNat) → fits pairs →
      ∃ t : State, exec (.seqMovebx q g w idx) s = .next t ∧ sent t pairs (2 * (g.val + 1)))) ∧
  (∀ (s : State) (q : Fin 8) (n : Fin 6) (g : Fin 16) (w : Fin 4) (idx : BitVec 12) (r : RegId) (i j : Nat),
    let a := s.fld (F.SEQ_WIN_BASE q w) * 16384 + idx.toNat * 4
    decodeReg a = some (r, i, j) →
    (inHeadWin n a → s.headPresent n → r.row.cls = .line → s.queueRoom n = 0 →
      (s.seqAt q (encW 0x30 g w idx.toNat) →
        ∃ t, exec (.seqMove q g w idx) s = .next t ∧
          SeqDone s t q (fun x => { x with run := .stalled, need := [(n, 1)] }))) ∧
    ((s.seq q).pc < 16383 → s.regPresent r i j = true → r.row.cls = .now ∨ r.row.cls = .trick →
      s.seqAt q (encW 0x30 g w idx.toNat) →
      ∃ t : State, exec (.seqMove q g w idx) s = .next t ∧
        Counted ((s.incF (F.SEQ_DROP_COUNT q)).modSeq q (fun x => { x with pc := x.pc + 1 })) t)) ∧
  ((∀ (s : State) (q : Fin 8) (n : Fin 6) (e : Issued) (rest : List Issued),
    s.alive = true → (s.seq q).issued = e :: rest → inHeadWin n e.addr →
    let h := s.head n
    let put (s : State) : State := (s.modSeq q (fun x => { x with issued := rest })).modHead n
      (fun h => { h with queue := h.queue ++ [⟨q, e.addr, e.value, e.tag⟩] })
    let p : Nat × Nat × Word :=
      if h.lineOn = true then (h.line, if h.composing then h.chunk else h.chunk - 1, h.frame)
      else (h.vTotal - 1, 0, h.frame - 1)
    let passed (t : Nat × Nat × Word) : Prop :=
      (t.2.2 - p.2.2).toInt < 0 ∨ (t.2.2 = p.2.2 ∧ (t.1 < p.1 ∨ (t.1 = p.1 ∧ t.2.1 ≤ p.2.1)))
    ((∀ t, e.tag = some t → ¬ passed t) →
      exec (.landingQueueEntry q) s = .next (put s)) ∧
    (∀ t, e.tag = some t → passed t → ∃ u : State, exec (.landingQueueEntry q) s = .next u ∧
      (u.head n).queue = (put s).heads[n].queue ∧ (u.seq q).issued = rest ∧
      u.fld (F.SEQ_LATE_COUNT q) = min (s.fld (F.SEQ_LATE_COUNT q) + 1) (2 ^ 32 - 1) ∧
      u.flag (F.SEQ_STAT_LATE q) = true)) ∧
  (∀ (s : State) (q : Fin 8) (e : Issued) (rest : List Issued) (r : RegId) (i j : Nat),
    s.alive = true → (s.seq q).issued = e :: rest → windowHead e.addr = none → decodeReg e.addr = some (r, i, j) →
    let s' := s.modSeq q (fun x => { x with issued := rest })
    let v := e.value &&& r.row.rw
    let audio : Prop := 0x260000 ≤ e.addr ∧ e.addr < 0x270000
    (¬ audio → exec (.landingQueueEntry q) s = .next (s'.setLive r i j v)) ∧
    (audio → exec (.landingQueueEntry q) s = .next { s' with
      keys := s.keys ++ [{ seq := q, act := .write e.addr v, index := 0, param := 0, tag := none }] })))

/-- R284: KEY sends an audio key: act 0 VOICE_ON, 1 VOICE_OFF, 2 RAMP_START, 3 RAMP_STOP, with its index and parameter.
Where the sequencer has no beam head or no tag, or its beam head does not clock the line domain, the key is untagged,
and nothing else changes but the program counter and counts; else it carries the frame and line of the tag, and one
whose scan line has begun is late and counts in SEQn_LATE. R287: RAISE sets the code, counts, and sets PEND; when PEND
was 0 and SEQn_IRQ.EN is 1 a message goes out, if the function is enabled and the vector below its VEC_COUNT. -/
def Obligations.SeqKeysAndRaise : Prop :=
  ((∀ (s : State) (q : Fin 8) (index : BitVec 6) (gs : Fin 16), (s.seq q).pc < 16383 →
    (∀ n, s.beamHead q = some n → (s.seq q).tag = none ∨ n.val ≠ s.fld (F.AUD_DOM_CTL_HEAD 0)) →
    let sent (t : State) (act : KeyAct) : Prop := Counted { s.modSeq q (fun x => { x with pc := x.pc + 1 }) with
      keys := s.keys ++ [{ seq := q, act := act, index := index.toNat, param := (s.seq q).reg gs, tag := none }] } t
    let at' (code : Nat) : Prop := s.seqAt q (encKey code index.toNat gs)
    (at' 0 → ∃ t : State, exec (.voiceOn q index gs) s = .next t ∧ sent t .voiceOn) ∧
    (at' 1 → ∃ t : State, exec (.voiceOff q index gs) s = .next t ∧ sent t .voiceOff) ∧
    (at' 2 → ∃ t : State, exec (.rampStart q index gs) s = .next t ∧ sent t .rampStart) ∧
    (at' 3 → ∃ t : State, exec (.rampStop q index gs) s = .next t ∧ sent t .rampStop)) ∧
  (∀ (s : State) (q : Fin 8) (index : BitVec 6) (gs : Fin 16) (n : Fin 6) (k : Nat × Nat × Word),
    (s.seq q).pc < 16383 → s.beamHead q = some n → (s.seq q).tag = some k → n.val = s.fld (F.AUD_DOM_CTL_HEAD 0) →
    let h := s.head n
    let late := decide (h.absLine k.2.2 k.1 ≤ h.absLine h.sc.scanFrame h.sc.scanLine)
    let put (act : KeyAct) : State := { s.modSeq q (fun x => { x with pc := x.pc + 1 }) with
      keys := s.keys ++ [{ seq := q, act := act, index := index.toNat, param := (s.seq q).reg gs
                           tag := some (k.2.2, k.1), late := late }] }
    let sent (t : State) (act : KeyAct) : Prop := (late = false → Counted (put act) t) ∧
      (late = true → t.keys = (put act).keys ∧ (t.seq q).pc = (s.seq q).pc + 1 ∧
        t.fld (F.SEQ_LATE_COUNT q) = min (s.fld (F.SEQ_LATE_COUNT q) + 1) (2 ^ 32 - 1) ∧
        t.flag (F.SEQ_STAT_LATE q) = true)
    let at' (code : Nat) : Prop := s.seqAt q (encKey code index.toNat gs)
    (at' 0 → ∃ t : State, exec (.voiceOn q index gs) s = .next t ∧ sent t .voiceOn) ∧
    (at' 1 → ∃ t : State, exec (.voiceOff q index gs) s = .next t ∧ sent t .voiceOff) ∧
    (at' 2 → ∃ t : State, exec (.rampStart q index gs) s = .next t ∧ sent t .rampStart) ∧
    (at' 3 → ∃ t : State, exec (.rampStop q index gs) s = .next t ∧ sent t .rampStop))) ∧
  (∀ (s : State) (q : Fin 8) (code : Byte), (s.seq q).pc < 16383 →
    s.seqAt q (encI 0x35 (code.toNat / 16) (code.toNat % 16 * 1024)) →
    let irq := s.reg .SEQ_IRQ q 0
    let fn : Fin 16 := ⟨bits irq 27 24, Nat.mod_lt _ (by decide)⟩
    let sends : Prop := s.flag (F.SEQ_RAISE_PEND q) = false ∧ bit irq 31 = true ∧ s.fnEnabled fn = true ∧
      bits irq 5 0 < s.fld (F.HIF_FN_CTL_VEC_COUNT fn)
    ∃ (t : State) (w : List Out), exec (.seqRaise q code) s = .next t ∧
      Counted ({ s.modSeq q (fun x => { x with pc := x.pc + 1 }) with out := w }.setReg .SEQ_RAISE q 0
        (t.reg .SEQ_RAISE q 0)) t ∧
      (sends → w = s.out ++ [.msix fn (bits irq 5 0)]) ∧ (¬ sends → w = s.out) ∧
      t.fld (F.SEQ_RAISE_CODE q) = code.toNat ∧
      t.fld (F.SEQ_RAISE_COUNT q) = min (s.fld (F.SEQ_RAISE_COUNT q) + 1) 255 ∧
      t.flag (F.SEQ_RAISE_PEND q) = true ∧ t.flag (F.SEQ_RAISE_FAULT q) = s.flag (F.SEQ_RAISE_FAULT q))

/-- R288: an illegal word stops the sequencer with ILLEGAL; going on past address 16,383 with PC_RANGE; a CALL with 8
entries and a RET with none with STACK; a beam wait without a beam head with BEAM_NONE, one for a line at or above
V_TOTAL with BEAM_RANGE. What the model chooses here is in log entry 42. -/
def Obligations.SeqFaultCodes : Prop :=
  ∀ (s : State) (q : Fin 8) (gd ga : Fin 16) (target line : BitVec 14) (w : W24) (col : BitVec 10),
    (s.seqAt q w → illegalWord q w = true →
      ∃ t, exec (.reservedOpcode q) s = .next t ∧ SeqFaulted s t q 1 (s.seq q).pc id) ∧
    (s.seqAt q (encR 0x0F gd ga 0) → (s.seq q).pc = 16383 →
      ∃ t, exec (.seqMov q gd ga) s = .next t ∧ SeqFaulted s t q 2 16383 (fun x => { x with g := x.g.set gd (x.reg ga) })) ∧
    (s.seqAt q (encI 0x22 0 target.toNat) → 8 ≤ (s.seq q).stack.length →
      ∃ t, exec (.seqCall q target) s = .next t ∧ SeqFaulted s t q 3 (s.seq q).pc id) ∧
    (s.seqAt q (encI 0x23 0 0) → (s.seq q).stack = [] →
      ∃ t, exec (.seqRet q) s = .next t ∧ SeqFaulted s t q 3 (s.seq q).pc id) ∧
    (s.seqAt q (encI 0x28 0 line.toNat) → s.beamHead q = none →
      ∃ t, exec (.seqWaitl q line) s = .next t ∧ SeqFaulted s t q 4 (s.seq q).pc id) ∧
    (∀ n, s.seqAt q (encI 0x28 0 line.toNat) → s.beamHead q = some n → (s.head n).vTotal ≤ line.toNat →
      ∃ t, exec (.seqWaitl q line) s = .next t ∧ SeqFaulted s t q 5 (s.seq q).pc id) ∧
    (∀ n, s.seqAt q (encI 0x29 0 (ga.val * 1024)) → s.beamHead q = some n →
      (s.head n).vTotal ≤ ((s.seq q).reg ga).toNat % 2 ^ 14 →
      ∃ t, exec (.seqWaitlc q ga) s = .next t ∧ SeqFaulted s t q 5 (s.seq q).pc id) ∧
    (s.beamHead q = none →
      (s.seqAt q (encI 0x29 0 (ga.val * 1024)) →
        ∃ t, exec (.seqWaitlc q ga) s = .next t ∧ SeqFaulted s t q 4 (s.seq q).pc id) ∧
      (s.seqAt q (encI 0x2A 0 col.toNat) →
        ∃ t, exec (.seqWaitc q col) s = .next t ∧ SeqFaulted s t q 4 (s.seq q).pc id) ∧
      (0 < target.toNat → s.seqAt q (encI 0x2B 0 target.toNat) →
        ∃ t, exec (.seqWaitn q target) s = .next t ∧ SeqFaulted s t q 4 (s.seq q).pc id))

/-- R291, R293, R295: a program start that is owed at no frame, or whose release line has started, sets the state R295
gives: the pending bank in force where the start takes it, and the queued entries tagged from its frame on are gone; a
sequencer stalled for want of entries may go on. R293: SEQn_CMD.HALT stops the sequencer at once and leaves its queued
entries; RESTART owes it a program start at the first frame whose line 0 the compose beam has yet to release, or at
once without a beam head. What the model chooses here is in log entry 40. -/
def Obligations.SeqStarts : Prop :=
  (∀ (s : State) (q : Fin 8) (o : Owed), s.alive = true → (s.seq q).stopAt = none → (s.seq q).owed = some o →
    s.flag (F.SEQ_CTL_EN q) = true →
    (∀ n, s.beamHead q = some n → s.headComposing n = true ∧
      ∀ f, o.frame = some f → s.lineOf n (0, 0, f) - max 1 (s.fld (F.SEQ_CTL_AHEAD q)) ≤ s.composeAt n) →
    let f := o.frame.getD 0
    let stays (k : Option (Nat × Nat × Word)) : Prop :=
      ∀ p, k = some p → ∀ f', o.frame = some f' → (p.2.2 - f').toInt < 0
    ∃ t : State, exec (.programStart q) s = .next t.follow ∧
      t.seq q = { s.seq q with
        g := Vector.replicate 16 0, z := false, n := false, c := false, v := false
        pc := s.fld (F.SEQ_CTL_ENTRY q), stack := []
        bank := if o.bank then (s.seq q).pendBank.getD (s.seq q).bank else (s.seq q).bank
        pendBank := if o.bank then none else (s.seq q).pendBank
        owed := none, timerLatch := 0, sigLatch := 0, run := .running, fault := 0, need := []
        tag := if s.beamHead q = none then none else some (0, 0, f)
        issued := (t.seq q).issued } ∧
      t = { s with seqs := t.seqs, heads := t.heads } ∧ (∀ e, e ∈ (t.seq q).issued ↔ e ∈ (s.seq q).issued ∧ stays e.tag) ∧
      (∀ p, p ≠ q → t.seq p = s.seq p ∨
        ((s.seq p).run = .stalled ∧ t.seq p = { s.seq p with run := .running, need := [] })) ∧
      (∀ n, t.head n = { s.head n with queue := (t.head n).queue }) ∧
      ∀ n e, e ∈ (t.head n).queue ↔ e ∈ (s.head n).queue ∧
(e.seq = q → stays e.tag)) ∧
  (∀ (s : State) (q : Fin 8), s.attends = true →
    ((s.seq q).run ≠ .faulted →
      exec (.cmdHalt q) s = .next (s.modSeq q (fun x => { x with run := .halted, need := [] }))) ∧
    (s.beamHead q = none → exec (.cmdRestart q) s = .next (s.modSeq q (fun x => { x with
      owed := some ⟨none, (x.owed.map (·.bank)).getD false⟩ }))) ∧
    (∀ n, s.beamHead q = some n → s.headComposing n = true → ∃ f, (exec (.cmdRestart q) s = .next
      (s.modSeq q (fun x => { x with owed := some ⟨some f, (x.owed.map (·.bank)).getD false⟩ }))) ∧
      (f = (s.head n).frame + 1 ∨ f = (s.head n).frame + 2) ∧
      (f = (s.head n).frame + 1 ↔
        s.composeAt n < (s.head n).vTotal - max 1 (s.fld (F.SEQ_CTL_AHEAD q)))))

/-! ### The mix program -/

/-- R357, R358, R362: CLR, LD, ADD, SUB, MUL, MAC, MULR, MACR, IN, SHR and SAT write A. A product is rounded to 20 bits
below the point: rnd(x × k) is the floor of (x × k + 2^19) ÷ 2^20. A sum that does not fit 32 bits saturates and sets
SAT; nothing else changes but the place in the program and counts. What the model chooses here is in log entry 45. -/
def Obligations.MixAccumulator : Prop :=
  ∀ (s : State) (d : Fin 3) (x y : BitVec 10) (n : BitVec 6),
    let m := s.dm d
    let a := m.acc.toInt
    let sx := sAt m.samp x.toNat
    let rnd (u k : Int) : Int := (u * k + 2 ^ 19) / 2 ^ 20
    let g := ((m.ramps.find? (fun r => r.decl.slot = y.toNat)).map (fun r => r.ramp.cur)).getD 0
    let cy := cAt m.coef y.toNat
    (∀ pc, s.mixAt d (encMix 1 0 0 0) pc → ∃ t, exec (.mixClr d) s = .next t ∧ MixSet s t d pc 0 id) ∧
    (∀ pc, s.mixAt d (encMix 2 x.toNat 0 0) pc → ∃ t, exec (.mixLd d x) s = .next t ∧ MixSet s t d pc sx id) ∧
    (∀ pc, s.mixAt d (encMix 4 x.toNat 0 0) pc → ∃ t, exec (.mixAdd d x) s = .next t ∧ MixSet s t d pc (a + sx) id) ∧
    (∀ pc, s.mixAt d (encMix 5 x.toNat 0 0) pc → ∃ t, exec (.mixSub d x) s = .next t ∧ MixSet s t d pc (a - sx) id) ∧
    (∀ pc, s.mixAt d (encMix 6 x.toNat y.toNat 0) pc →
      ∃ t, exec (.mixMul d x y) s = .next t ∧ MixSet s t d pc (rnd sx cy) id) ∧
    (∀ pc, s.mixAt d (encMix 7 x.toNat y.toNat 0) pc →
      ∃ t, exec (.mixMac d x y) s = .next t ∧ MixSet s t d pc (a + rnd sx cy) id) ∧
    (∀ pc, s.mixAt d (encMix 8 x.toNat y.toNat 0) pc →
      ∃ t, exec (.mixMulr d x y) s = .next t ∧ MixSet s t d pc (rnd sx g) id) ∧
    (∀ pc, s.mixAt d (encMix 9 x.toNat y.toNat 0) pc →
      ∃ t, exec (.mixMacr d x y) s = .next t ∧ MixSet s t d pc (a + rnd sx g) id) ∧
    (∀ pc, s.mixAt d (encMix 10 x.toNat 0 0) pc →
      ∃ t, exec (.mixIn d x) s = .next t ∧
        MixSet s t d pc (((m.ins.find? (fun e => e.1 = x.toNat)).map (fun e => e.2)).getD 0) id) ∧
    (1 ≤ n.toNat → n.toNat ≤ 31 →
      (∀ pc, s.mixAt d (encMix 16 0 0 n.toNat) pc →
        ∃ t, exec (.mixShr d n) s = .next t ∧ MixSet s t d pc ((a + 2 ^ (n.toNat - 1)) / 2 ^ n.toNat) id)) ∧
    (∀ pc, s.mixAt d (encMix 17 0 0 0) pc →
      ∃ t, exec (.mixSat d) s = .next t ∧ MixSet s t d pc (max (-2 ^ 23) (min (2 ^ 23 - 1) a)) id)

/-- R358, R359, R362: ST writes A into the sample memory and OUT into an output port, where the later value of a sample
stays; BIQ runs a biquad in transposed direct form II over C[Y] to C[Y + 4] and S[X], S[X + 1], each sum saturated to
32 bits. Every other word reads as before. R358, R360: DWR writes A, clamped to 24 bits, at the write position of its
delay line in Tarn and nowhere else; DRD reads the word C[Y][21:0] samples before the one the latest DWR wrote,
counted modulo the length. R358: END ends the program for the sample: its outputs are kept for their tick and the
write position of every delay line advances by one, modulo its length. With no further sample owed the unit stops
until one is. What the model chooses here is in log entry 45. -/
def Obligations.MixMemories : Prop :=
  (∀ (s : State) (d : Fin 3) (x y : BitVec 10) (pc : Nat),
    let m := s.dm d
    let a := m.acc.toInt
    let rnd (u k : Int) : Int := (u * k + 2 ^ 19) / 2 ^ 20
    let clip (r : Int) : Int := max (-2 ^ 31) (min (2 ^ 31 - 1) r)
    let S (k : Nat) : Int := sAt m.samp (x.toNat + k)
    let C (k : Nat) : Int := cAt m.coef (y.toNat + k)
    let sum := S 0 + rnd (C 0) a
    let out := clip sum
    (s.mixAt d (encMix 3 x.toNat 0 0) pc → ∃ t : State, exec (.mixSt d x) s = .next t ∧
      Counted (s.modDom d (fun m => { m with samp := (t.dm d).samp, pc := some (pc + 1) })) t ∧
      ∀ k, sAt (t.dm d).samp k = if k = x.toNat then a else sAt m.samp k) ∧
    (s.mixAt d (encMix 11 x.toNat 0 0) pc → ∃ t : State, exec (.mixOut d x) s = .next t ∧
      Counted (s.modDom d (fun m => { m with outs := (t.dm d).outs, pc := some (pc + 1) })) t ∧
      ∀ k, (t.dm d).outs.find? (fun e => e.1 = k) =
        if k = x.toNat then some (k, a) else m.outs.find? (fun e => e.1 = k)) ∧
    (s.mixAt d (encMix 12 x.toNat y.toNat 0) pc → ∃ t : State, exec (.mixBiq d x y) s = .next t ∧
      Counted ((if out = sum then s else s.raiseF (F.AUD_DOM_STAT_SAT d)).modDom d (fun m =>
        { m with samp := (t.dm d).samp, acc := BitVec.ofInt 32 out, pc := some (pc + 1) })) t ∧
      ∀ k, sAt (t.dm d).samp k =
        if k = x.toNat then clip (S 1 + rnd (C 1) a - rnd (C 3) out)
        else if k = x.toNat + 1 then clip (rnd (C 2) a - rnd (C 4) out) else sAt m.samp k)) ∧
  (∀ (s : State) (d : Fin 3) (x y : BitVec 10) (pc : Nat) (i : AudImage) (e : DlyDecl) (p : DlyPos),
    s.mem.wf = true → (s.dm d).image = some i → i.delays.find? (fun e => e.line = x.toNat) = some e →
    (s.dm d).delays.find? (fun p => p.line = x.toNat) = some p →
    let m := s.dm d
    let at' (k : Nat) : Nat := s.fld (F.AUD_DOM_DLY_BASE d) * 65536 + (e.base + k) * 3
    let v : W24 := BitVec.ofInt 24 (max (-2 ^ 23) (min (2 ^ 23 - 1) m.acc.toInt))
    let back := (cAt m.coef y.toNat % 2 ^ 22).toNat % e.len
    (s.mixAt d (encMix 13 x.toNat 0 0) pc → ∃ t : State, exec (.mixDwr d x) s = .next t ∧
      Counted { s.modDom d (fun m => { m with
        delays := m.delays.map (fun q => if q.line = x.toNat then { q with last := q.pos } else q)
        pc := some (pc + 1) }) with mem := t.mem } t ∧
      (∀ k < 3, t.mem.read (at' p.pos + k) = BitVec.ofNat 8 (v.toNat / 256 ^ k)) ∧
      ∀ a, a < at' p.pos ∨ at' p.pos + 3 ≤ a → t.mem.read a = s.mem.read a) ∧
    (∀ pc, s.mixAt d (encMix 14 x.toNat y.toNat 0) pc → ∃ t, exec (.mixDrd d x y) s = .next t ∧
      MixSet s t d pc (s.mem.word24 (at' ((p.last + e.len - back) % e.len)) 0).toInt id)) ∧
  (∀ (s : State) (d : Fin 3) (pc : Nat) (i : AudImage), s.alive = true → (s.dm d).run = true →
    (s.dm d).pc = some pc → (s.dm d).image = some i → i.prog[pc]? = some (encMix 0 0 0 0) → (s.dm d).owed = [] →
    ∃ t : State, exec (.mixEnd d) s = .next t ∧
      Counted (s.modDom d (fun m => { m with
        pc := none, done := m.done ++ [(m.sample, m.outs)]
        delays := m.delays.map (fun p => match i.delays.find? (fun e => e.line = p.line) with
          | some e => { p with pos := (p.pos + 1) % max 1 e.len }
          | none => p) })) t)

/-- R361: a limiter node never lets a sample exceed its threshold T, and touches nothing but A, its own window and the
free counter; LIM at a node the program does not declare leaves A. What the model chooses here is in log entries 44
and 91. -/
def Obligations.MixLimiter : Prop :=
  ∀ (s : State) (d : Fin 3) (x : BitVec 10) (pc : Nat) (i : AudImage), (s.dm d).image = some i →
    s.mixAt d (encMix 15 x.toNat 0 0) pc → ∃ t : State, exec (.mixLim d x) s = .next t ∧
      Counted { s.modDom d (fun m => { m with
        acc := (t.dm d).acc, lims := (t.dm d).lims, pc := some (pc + 1) }) with free := t.free } t ∧
      (∀ l, i.lims.find? (fun l => l.node = x.toNat) = some l →
        (t.dm d).acc.toInt.natAbs ≤ limThresh l.thresh ∧
        ∀ q ∈ (s.dm d).lims, q.node ≠ x.toNat → q ∈ (t.dm d).lims) ∧
      (i.lims.find? (fun l => l.node = x.toNat) = none → (t.dm d).acc = (s.dm d).acc)

/-! ### Power, resets, clocks and the host's link -/

/-- R50, R51, R55, R60: PWR_OK rising in OFF is a cold start into BRING-UP with the straps sampled; with RESET_N low the
device is held in reset until RESET_N rises, and the straps are sampled then. PWR_OK falling enters OFF. The flash
stays as it is when no store runs; memory is of unknown content. R54, R55, R408, R462: a RESET_N pulse of 100 ns or
longer, a keyed write of GLB_RESET and the watchdog are warm resets: BRING-UP, every register Cold but those that
survive, the cause flagged, and the Peat mirror in the new fault ring as PRIOR entries. A pulse below 20 ns and a
write without the key do nothing. What the model chooses here is in log entries 10, 13, 61 and 74. -/
def Obligations.PowerAndWarmResets : Prop :=
  (∀ (s : State) (x : Straps) (ns : Nat),
    let ex := [RegId.addr .GLB_STRAPS 0 0, RegId.addr .GLB_CLK_STATUS 0 0]
    let sampled (t : State) : Prop := t.flag F.GLB_STRAPS_REFSEL = x.refsel ∧
      t.flag F.GLB_STRAPS_DEALER = x.dealer ∧ t.fld F.GLB_STRAPS_SMB_ADDR = x.smbAddr.toNat ∧
      t.flag F.GLB_STRAPS_JRNL_SKIP = x.jrnlSkip ∧ t.jrnl.skip = x.jrnlSkip ∧ bits t.gpio.pins 4 0 = strapPins x
    (s.glob.mode = .off → ∃ t : State, exec (.pwrOkRise x false) s = .next t ∧ Restarted s t ex ∧
      t.glob = { mode := .bringUp } ∧ t.dbg = {} ∧ t.mem = DevMem.unknown (s.free + 2) ∧ sampled t) ∧
    (s.glob.mode = .off → ∃ t u : State, exec (.pwrOkRise x true) s = .next t ∧ Restarted s t [] ∧
      t.glob = { mode := .bringUp, heldInReset := true } ∧ exec (.resetNPulse ns x) t = .next u ∧
      u.glob = { mode := .bringUp } ∧ Restarted s u ex ∧ sampled u) ∧
    (s.glob.mode ≠ .off → ∃ t : State, exec .pwrOkFall s = .next t ∧ Restarted s t [] ∧ t.glob = { mode := .off })) ∧
  (∀ (s : State) (x : Straps) (v : Word) (ns : Nat), s.attends = true →
    let warm (t : State) : Prop :=
      Restarted s t [RegId.addr .GLB_STRAPS 0 0, RegId.addr .GLB_CLK_STATUS 0 0, RegId.addr .GLB_RESET_CAUSE 0 0,
        RegId.addr .GLB_TEMP 0 0, RegId.addr .PWR_STAT 0 0, RegId.addr .DBG_FLT_NEXT 0 0,
        RegId.addr .DBG_FLT_PRIOR 0 0] ∧
      t.glob.mode = .bringUp ∧ t.glob.prev = s.glob.mode ∧ t.glob.cause = 1 ∧
      t.dbg.ring.map (fun e => (e.prior, e.orig, e.code, e.detail)) =
        s.dbg.mirror.map (fun e => (true, e.seq, e.code, e.detail))
    (100 ≤ ns → ∃ t : State, exec (.resetNPulse ns x) s = .next t ∧ warm t ∧
      t.flag F.GLB_RESET_CAUSE_PIN = true) ∧
    (∃ t : State, exec (.watchdogExpiry x) s = .next t ∧ warm t ∧ t.flag F.GLB_RESET_CAUSE_WDOG = true) ∧
    (v.toNat / 65536 = 0xA5C3 → v.getLsbD 0 = true → ∃ t : State, exec (.glbResetWarm v x) s = .next t ∧ warm t ∧
      t.flag F.GLB_RESET_CAUSE_SOFT = true) ∧
    (ns < 20 → exec (.resetNPulse ns x) s = .next s) ∧
    (v.toNat / 65536 ≠ 0xA5C3 ∨ v.getLsbD 0 = false → exec (.glbResetWarm v x) s = .next s))

/-- R7, R21, R24, R25, R64: in every state in which the unit logic runs, PLL locks and their loss, the failures of DRAM
training and SRAM repair, the loss and return of the PCIe reference with holdover and slews, and a temperature
measurement complete: the status bits each sets and clears, and beside them only fault records change. What the model
chooses here is in log entries 59 and 60. -/
def Obligations.ClocksAndTemperature : Prop :=
  ∀ (s : State) (unit : Byte) (rd : Vector (BitVec 11) 8), s.alive = true →
    let pcie := s.flag F.GLB_CLK_STATUS_REF_STRAP && !s.glob.pcieRefLost
    exec (.pllLock .aclk48) s = .next (s.raiseF F.GLB_CLK_STATUS_ACLK48_LOCK).follow ∧
    exec (.pllLock .aclk44) s = .next (s.raiseF F.GLB_CLK_STATUS_ACLK44_LOCK).follow ∧
    (s.flag F.CWY_CTL_EN = false → ∃ t : State, exec (.pllLock .root) s = .next t.follow ∧
      t = { s with regs := t.regs, jrnl := { s.jrnl with
        boot := if s.jrnl.boot = .start then .locked else s.jrnl.boot } } ∧
      RegsKept [RegId.addr .GLB_CLK_STATUS 0 0] s t ∧ t.flag F.GLB_CLK_STATUS_ROOT_LOCK = true) ∧
    (s.flag F.GLB_CLK_STATUS_ROOT_LOCK = true → ∃ t : State, exec (.pllLockLoss (.pll .root)) s = .next t.follow ∧
      Recorded (s.setF F.GLB_CLK_STATUS_ROOT_LOCK 0) t) ∧
    (s.flag F.GLB_CLK_STATUS_ACLK48_LOCK = true → ∃ t : State,
      exec (.pllLockLoss (.pll .aclk48)) s = .next t.follow ∧ Recorded (s.setF F.GLB_CLK_STATUS_ACLK48_LOCK 0) t) ∧
    (s.flag F.GLB_CLK_STATUS_ACLK44_LOCK = true → ∃ t : State,
      exec (.pllLockLoss (.pll .aclk44)) s = .next t.follow ∧ Recorded (s.setF F.GLB_CLK_STATUS_ACLK44_LOCK 0) t) ∧
    (∃ t : State, exec (.pllLockLoss .dramTraining) s = .next t.follow ∧ Recorded s t) ∧
    (∃ t : State, exec (.pllLockLoss (.sramRepair unit)) s = .next t.follow ∧ Recorded s t) ∧
    (pcie = true → s.glob.tracking = false → s.glob.ref = .locked → ∃ t : State, exec .refLost s = .next t ∧ Recorded
      (({ s with glob := { s.glob with pcieRefLost := true, ref := .holdover, refCwy := false } }.raiseF
        F.GLB_CLK_STATUS_REF_LOST).raiseF F.GLB_CLK_STATUS_HOLDOVER) t) ∧
    (s.glob.ref = .holdover →
      exec .holdoverExpiry s = .next { s with glob := { s.glob with ref := .slewAway } }) ∧
    (s.glob.ref = .slewAway → s.glob.refCwy = false → exec .slewEnd s =
      .next ({ s with glob := { s.glob with ref := .locked } }.setF F.GLB_CLK_STATUS_ROOT_SRC (b2n pcie))) ∧
    (s.glob.ref = .slewTo → exec .slewEnd s =
      .next (({ s with glob := { s.glob with ref := .locked } }.setF F.GLB_CLK_STATUS_ROOT_SRC
        (if s.glob.tracking then 2 else b2n pcie)).setF F.GLB_CLK_STATUS_HOLDOVER 0)) ∧
    (s.glob.pcieRefLost = true → s.glob.tracking = false → s.glob.refCwy = false →
      ∃ t : State, exec .refReturn s = .next t ∧
        Recorded { s with glob := { s.glob with pcieRefLost := false, ref := .slewTo } } t) ∧
    (∃ t : State, exec (.tempMeasurement rd) s = .next t ∧
      (∀ k : Fin 8, rd[k].toInt ≤ signed 11 (t.fld F.GLB_TEMP_TEMP_NOW)) ∧
      (∃ k : Fin 8, rd[k].toInt = signed 11 (t.fld F.GLB_TEMP_TEMP_NOW)) ∧
      t.glob = { s.glob with tempOver := t.glob.tempOver, tempUnder := t.glob.tempUnder } ∧
      (t.glob.tempOver = true ↔ ∃ k : Fin 8, 500 < rd[k].toInt) ∧
      (t.glob.tempUnder = true ↔ ∃ k : Fin 8, rd[k].toInt < -220) ∧
      (t.flag F.GLB_TEMP_OVER = true ↔ s.flag F.GLB_TEMP_OVER = true ∨ t.glob.tempOver = true) ∧
      (t.flag F.GLB_TEMP_UNDER = true ↔ s.flag F.GLB_TEMP_UNDER = true ∨ t.glob.tempUnder = true) ∧
      t = { s with regs := t.regs, glob := t.glob, pba := t.pba, dbg := t.dbg, pmc := t.pmc, out := t.out } ∧
      RegsKept (RegId.addr .GLB_TEMP 0 0 :: faultRegs) s t)

/-- R69, R73, R107, R108, R457: PERST_N, loss of the data link and a reset of the physical function return the HIF and VLG
blocks and every BAR2 page to their Cold values, clear VF Enable and drop every ring and descriptor; the mode, and
with nothing in flight and no domain running everything else but the trump session, the capture enables, the samples
in flight and the cause flag, stays. In FREEZE the effects wait. A reset of a virtual function with nothing in flight
drops its rings, its fence, its page and its players' queues, and no other function's. What the model chooses here is
in log entries 22, 23, 77, 81, 100 and 102. -/
def Obligations.HostInterfaceResets : Prop :=
  ∀ (s : State) (f : Fin 16),
    let gone (s1 t : State) : Prop :=
      (∀ r i j, inHif (r.addr i j) → t.reg r i j = coldOf s.part r i j) ∧
      t.hif.rings = [] ∧ t.hif.slots = [] ∧ t.hif.vfEnable = false ∧ t.hif.fenced = 0 ∧ t.hif.d3hot = 0 ∧
      t.msix = [] ∧ t.pba = 0 ∧ t.flag F.GLB_RESET_CAUSE_HIF = true ∧
      (s.hif.slots = [] → s.trk.tricks = [] → (∀ d, (s.dm d).run = false) →
        t = { s1 with regs := t.regs, msix := [], pba := 0, out := t.out
                      hif := { s1.hif with vfEnable := false, d3hot := 0, fenced := 0, rings := [],
                                           fnTurn := 15, ringTurn := [] }
                      trump := { s.trump with armed := false }
                      aud := { s.aud with dom := t.aud.dom, play := t.aud.play, sink := t.aud.sink }
                      mv := { s.mv with sluFenced := 0 }, pmc := { s.pmc with userLatch := [] } } ∧
        (∀ p, (t.play p).bufs = []) ∧
        ∀ a, ¬ inHif a → a ≠ RegId.addr .GLB_TRUMP_SESSION 0 0 → a ≠ RegId.addr .GLB_RESET_CAUSE 0 0 →
          (∀ k : Fin 8, a ≠ RegId.addr .CAP_CTL k 0) → SMap.find t.regs a = SMap.find s.regs a)
    let perst := { s with hif := { s.hif with perst := true, linkUp := false } }
    let down := { s with hif := { s.hif with linkUp := false } }
    let wait (s1 : State) : State := { s1 with glob := { s.glob with hifResetPending := true } }
    (s.alive = true →
      (∃ t : State, exec .pfFlr s = .next t.follow ∧ gone s t) ∧
      (∃ t : State, exec .perstNAssert s = .next t.follow ∧ gone perst t) ∧
      (∃ t : State, exec .pcieLinkDown s = .next t.follow ∧ gone down t)) ∧
    (s.glob.mode = .freeze → s.glob.heldInReset = false →
      exec .pfFlr s = .next (wait s) ∧ exec .perstNAssert s = .next (wait perst) ∧
      exec .pcieLinkDown s = .next (wait down)) ∧
    (s.glob.mode = .freeze → s.glob.heldInReset = false → f ≠ 0 → s.fnExists f = true →
      exec (.vfFlr f) s = .next { s with glob := { s.glob with
        flrPending := s.glob.flrPending ||| BitVec.ofNat 16 (2 ^ f.val) } }) ∧
    (s.alive = true → f ≠ 0 → s.hif.vfEnable = true → f.val ≤ s.hif.numVfs →
      (∀ x ∈ s.hif.slots, x.hdr.fn ≠ f) → (∀ x ∈ s.trk.tricks, x.owner ≠ .fn f) →
      ∃ t : State, exec (.vfFlr f) s = .next t.follow ∧ (∀ r, t.ring f r = {}) ∧ t.fenced f = false ∧
        (∀ g r, g ≠ f → t.ring g r = s.ring g r ∧ t.fenced g = s.fenced g) ∧
        (∀ r : Fin 64, t.flag (F.HIF_RING_CTL_EN f r) = false) ∧ t.reg .HIF_FN_LAT f 0 = 0xFFFFFFFF ∧
        (∀ (g : Fin 16) (o : Nat), o < 1024 →
          t.msixWord g o = if g = f then (if o % 16 = 12 then 1 else 0) else s.msixWord g o) ∧
        (∀ (g : Fin 16) (v : Nat), v < 64 → t.pba.getLsbD (g.val * 64 + v) =
          (decide (g ≠ f) && s.pba.getLsbD (g.val * 64 + v))) ∧
        t.hif.d3hot.getLsbD f.val = false ∧ (∀ g : Fin 16, g ≠ f → t.hif.d3hot.getLsbD g.val = s.hif.d3hot.getLsbD g.val) ∧
        (∀ p : Fin 16, if s.fld (F.PLAY_CTL_OWNER p) = f.val then (t.play p).bufs = [] else t.play p = s.play p) ∧
        t = { s with regs := t.regs, msix := t.msix, pba := t.pba
                     hif := { s.hif with rings := t.hif.rings, fenced := t.hif.fenced, d3hot := t.hif.d3hot }
                     aud := { s.aud with play := t.aud.play }, mv := { s.mv with sluFenced := t.mv.sluFenced } })

/-- R8, R32, R71, R104, R106: a poisoned write is reported, logged for its function and dropped; a write of the device
that fails is logged for its function, against its ring where it is one's, and a failed write of a log counts in
VLG_DROP alone; NumVFs stands while VF Enable is 1 and a number above VF_MAX is refused; the link coming up ends the
loss of the host. When host and Causeway are both lost the expiry sends every enabled head to FALLBACK, a composing
one at its next frame, and the device with them when none is enabled; in BRING-UP it is held. What the model chooses
here is in log entries 14, 24 and 79. -/
def Obligations.HostLinkEvents : Prop :=
  ∀ (s : State) (f : Fin 16) (r : Fin 64) (tag : BitVec 16) (a : BitVec 64) (num : Nat) (en : Bool), s.attends = true →
    let logged (t : State) : Prop := t = { s with regs := t.regs, pba := t.pba, pmc := t.pmc, out := t.out } ∧
      t.fld (F.VLG_TOTAL_COUNT f) = min (s.fld (F.VLG_TOTAL_COUNT f) + 1) (2 ^ 32 - 1)
    (∃ t : State, exec (.poisonedWrite (.poisoned f) a) s = .next t ∧ logged t ∧ s.out ++ [.aer] <+: t.out) ∧
    (∃ t : State, exec (.poisonedWrite (.data f) a) s = .next t ∧ logged t) ∧
    (∃ t : State, exec (.poisonedWrite (.ring f r tag) a) s = .next t ∧
      t = { s with regs := t.regs, pba := t.pba, pmc := t.pmc, out := t.out
                   hif := { s.hif with rings := t.hif.rings } } ∧
      (s.fld (F.VLG_TOTAL_COUNT f) < 2 ^ 32 - 1 → s.fld (F.VLG_TOTAL_COUNT f) < t.fld (F.VLG_TOTAL_COUNT f)) ∧
      (t.ring f r).vcount = min 255 ((s.ring f r).vcount + 1) ∧
      ∀ g q, ¬ (g = f ∧ q = r) → t.ring g q = s.ring g q) ∧
    exec (.poisonedWrite (.log f) a) s = .next (s.incF (F.VLG_DROP_COUNT f)) ∧
    (num ≤ s.part.vfMax → exec (.numvfsWrite num en) s = .next { s with hif := { s.hif with
      numVfs := if s.hif.vfEnable then s.hif.numVfs else num, vfEnable := en } }) ∧
    (s.part.vfMax < num → exec (.numvfsWrite num en) s = .next s) ∧
    exec .pcieLinkUp s = .next { s with hif := { s.hif with linkUp := true, perst := false } } ∧
    (s.bothLost = true → s.glob.mode = .bringUp →
      exec .hostLossExpiry s = .next { s with glob := { s.glob with hostLossHeld := true } }.follow) ∧
    (s.bothLost = true → s.glob.mode = .run ∨ s.glob.mode = .coast → s.enabledHeads = [] →
      ∃ t : State, exec .hostLossExpiry s = .next t.follow ∧
        Counted { s with glob := { s.glob with mode := .fallback, prev := s.glob.mode, cause := 0xA } } t) ∧
    (s.bothLost = true → s.glob.mode = .run ∨ s.glob.mode = .coast → s.enabledHeads ≠ [] →
      ∃ t : State, exec .hostLossExpiry s = .next t.follow ∧ ∀ n, (s.head n).enabled = true → (s.head n).fb = false →
        (t.head n).fbCause = .hostLoss ∧
        (if (s.head n).beams = true ∧ (s.head n).blank = .none
          then t.head n = { s.head n with fbCause := .hostLoss, fbEnter := true }
          else (t.head n).fb = true))

/-! ### Register writes and rings -/

/-- R78, R138: a write of QUOTA, VEC_COUNT or LIMIT that keeps the sum over all functions within 4,096, 512 or 64 sets the
field; any other leaves the field and sets the error flag. The other fields of HIF_FN_CTL are written either way. No
other register changes. R150, R468: MEM_POOL is clamped to 16 to 512 units and accepted when no trick is open or
staged, no replaced page waits and no trump region meets the new pool; offsets that leave the pool read as 0, those
that enter it have no known content, and all others read as before. Any other write sets CFG_ERR and changes nothing
else. What the model chooses here is in log entries 34 and 73. -/
def Obligations.ShareAndPoolWrites : Prop :=
  (∀ (s : State) (f : Fin 16) (q : BitVec 13) (v : Word) (n : BitVec 7), s.attends = true →
    let sum (fld : Fin 16 → Nat) (new : Nat) : Nat :=
      ((List.finRange 16).map (fun g => if g = f then new else fld g)).sum
    let written (t : State) (fld : Fin 16 → Fld) (max new : Nat) (err : Fld) : Prop :=
      t = { s with regs := t.regs } ∧ RegsKept [(fld f).id.addr f 0, err.id.addr 0 0] s t ∧
      (sum (fun g => s.fld (fld g)) new ≤ max → t.fld (fld f) = new ∧ t.flag err = s.flag err) ∧
      (max < sum (fun g => s.fld (fld g)) new → t.fld (fld f) = s.fld (fld f) ∧ t.flag err = true)
    (∃ t : State, exec (.quotaWrite f q) s = .next t.follow ∧
      written t (fun g => F.HIF_FN_SLOTS_QUOTA g) 4096 q.toNat F.HIF_STATUS_QUOTA_ERR) ∧
    (∃ t : State, exec (.limitWrite f n) s = .next t.follow ∧
      written t (fun g => F.TRK_FN_OPEN_LIMIT g) 64 n.toNat F.TRK_STATUS_LIMIT_ERR) ∧
    (∃ t : State, exec (.vecCountWrite f v) s = .next t.follow ∧
      written t (fun g => F.HIF_FN_CTL_VEC_COUNT g) 512 (v.toNat % 128) F.HIF_STATUS_QUOTA_ERR ∧
      t.flag (F.HIF_FN_CTL_EN f) = v.getLsbD 31 ∧ t.fld ⟨.HIF_FN_CTL, f, 0, 13, 8⟩ = v.toNat / 256 % 64)) ∧
  (∀ (s : State) (units : BitVec 10), s.attends = true → s.mem.wf = true →
    let u := min 512 (max 16 units.toNat)
    let top := 0x4000000 - u * 65536
    let clear : Prop := s.openTricks = 0 ∧ s.stagedCount = 0 ∧ (∀ o ∈ s.oldPages, o.heads = 0) ∧
      ∀ n : Fin 6, overlaps (top, 0x4000000) (s.trumpRegion n) = false
    ∃ t : State, exec (.memPoolWrite units) s = .next t.follow ∧
      (clear → t = { s with regs := t.regs, mem := t.mem, free := t.free } ∧ t.poolUnits = u ∧
        RegsKept [RegId.addr .MEM_POOL 0 0] s t ∧
        (∀ a, s.tarnTop ≤ a → a < top → t.mem.read a = 0) ∧
        ∀ a, a < min top s.tarnTop ∨ max top s.tarnTop ≤ a → t.mem.read a = s.mem.read a) ∧
      (¬ clear → t = s.raiseF F.MEM_POOL_STATUS_CFG_ERR))

/-- R9, R14, R15, R69, R73, R123, R465: a BAR0 write of a whole word to a trick-class or line-class register leaves the
committed values and stages an implicit trick with that one write; a plain register of class now takes its writable
bits and clears those a written 1 clears; an address without a register ignores the write; a write of part of a word
changes no register but is logged, unless it is in the window of an absent unit. A write of an entry of a function's
MSI-X table changes that word, and sends a pending vector that it leaves unmasked; a write of a function's power state
takes D0 and D3hot, and changes nothing else. What the model chooses here is in log entries 27, 32, 77, 103 and 104. -/
def Obligations.RegisterWrite : Prop :=
  ∀ (s : State) (a : BitVec 24) (v : Word) (be : BitVec 4) (r : RegId) (i j : Nat) (f : Fin 16)
    (o : Nat), s.attends = true →
    let a4 := a.toNat / 4 * 4
    let plain : Prop := r ∈ ([.SEQ_IRQ, .TMR_IRQ, .GPIO_IRQ, .PMC_IRQ, .DBG_FLT_IRQ, .DBG_FLT_MASK] : List RegId)
    (decodeReg a4 = none → exec (.registerWrite (.bar0 a) v 15) s = .next s.follow) ∧
    (decodeReg a4 = some (r, i, j) → s.regPresent r i j = true → isTrumpField r = false →
      r.row.cls = .trick ∨ r.row.cls = .line → ∃ t : State, exec (.registerWrite (.bar0 a) v 15) s = .next t.follow ∧
        t = { s with trk := t.trk } ∧ ∃ k, t.trk.tricks = s.trk.tricks.map (fun x => if x.key = s.trk.nextKey then
            { x with writes := k.writes, phase := .staged, anchor := k.anchor, target := k.target, order := k.order }
          else x) ++ [k] ∧
          k.key = s.trk.nextKey ∧ k.owner = .implicit ∧ k.id = 0 ∧ k.phase = .staged ∧ k.spoil = none ∧
          k.writes = [⟨r, i, j, v, r.row.rw⟩]) ∧
    (decodeReg a4 = some (r, i, j) → s.regPresent r i j = true → plain →
      exec (.registerWrite (.bar0 a) v 15) s = .next (s.setReg r i j
        (((s.reg r i j &&& ~~~r.row.rw) ||| (v &&& r.row.rw)) &&& ~~~(v &&& r.row.w1c))).follow) ∧
    (be ≠ 15 → s.absentAt a4 = false → ∃ t : State, exec (.registerWrite (.bar0 a) v be) s = .next t.follow ∧
      t = { s with regs := t.regs, pba := t.pba, pmc := t.pmc, out := t.out, free := t.free } ∧
      t.fld (F.VLG_TOTAL_COUNT 0) = min (s.fld (F.VLG_TOTAL_COUNT 0) + 1) (2 ^ 32 - 1) ∧
      ∀ r i j, 0x10000 ≤ RegId.addr r i j → RegId.addr r i j < 0x2C0000 → t.reg r i j = s.reg r i j) ∧
    (be ≠ 15 → s.absentAt a4 = true → exec (.registerWrite (.bar0 a) v be) s = .next s.follow) ∧
    (s.fnExists f = true → o < 1024 → o % 4 = 0 → o / 16 < s.fld (F.HIF_FN_CTL_VEC_COUNT f) →
      ∃ t : State, exec (.registerWrite (.page f (BitVec.ofNat 12 (0x400 + o))) v 15) s = .next t.follow ∧
        t = { s with msix := t.msix, pba := t.pba, out := t.out } ∧
        t.msixWord f o = (if o % 16 = 12 then (s.msixWord f o &&& ~~~1) ||| (v &&& 1)
          else if o % 16 = 0 then (s.msixWord f o &&& 3) ||| (v &&& 0xFFFFFFFC) else v) ∧
        (∀ g p, p < 1024 → ¬ (g = f ∧ p = o) → t.msixWord g p = s.msixWord g p) ∧
        (s.pba.getLsbD (f.val * 64 + o / 16) = true → bit (t.msixWord f (o / 16 * 16 + 12)) 0 = false →
          t.pba.getLsbD (f.val * 64 + o / 16) = false ∧ t.out.length = s.out.length + 1)) ∧
    (s.fnExists f = true → v.toNat % 4 = 0 ∨ v.toNat % 4 = 3 → exec (.registerWrite (.power f) v be) s =
      .next { s with hif := { s.hif with d3hot :=
        if v.toNat % 4 = 3 then s.hif.d3hot ||| BitVec.ofNat 16 (2 ^ f.val)
        else s.hif.d3hot &&& ~~~BitVec.ofNat 16 (2 ^ f.val) } })

/-- R82, R83, R103: enabling a ring whose LOG2N is 4 to 16 and VECTOR below VEC_COUNT starts it afresh from its registers
and reads its record; one the device refuses reads EN 0 and CFG_ERR 1; disabling a ring that holds no slot turns it
off; FN_REREG with its key ends a fenced function's fence and starts its rings afresh. Other rings stay. R101, R102: a
function blocked on its own ring for the lease is fenced, its descriptors end but for the TRICK_COMMITs of committed
tricks, and the log takes one entry. Other functions' fences and descriptors stay. What the model chooses here is in
log entries 20, 21 and 25. -/
def Obligations.RingsAndLeases : Prop :=
  (∀ (s : State) (f : Fin 16) (r : Fin 64) (v : Word), s.attends = true →
    let fresh (ctl : Word) (g : RingSt) : RingSt :=
      { phase := .on, log2n := bits ctl 28 24, lastLog := g.lastLog, reading := true
        sq := (s.reg .HIF_RING_SQ_LO f r).toNat + (s.reg .HIF_RING_SQ_HI f r).toNat * 2 ^ 32
        cq := (s.reg .HIF_RING_CQ_LO f r).toNat + (s.reg .HIF_RING_CQ_HI f r).toNat * 2 ^ 32
        db := (s.reg .HIF_RING_DB_LO f r).toNat + (s.reg .HIF_RING_DB_HI f r).toNat * 2 ^ 32 }
    let ok : Prop := 4 ≤ bits v 28 24 ∧ bits v 28 24 ≤ 16 ∧ bits v 21 16 < s.fld (F.HIF_FN_CTL_VEC_COUNT f)
    let others (t : State) : Prop := t = { s with regs := t.regs, hif := { s.hif with rings := t.hif.rings }
                                                  pba := t.pba, pmc := t.pmc, out := t.out } ∧
      RegsKept [RegId.addr .HIF_RING_CTL f r, RegId.addr .PMC_OVF 0 0] s t ∧
      ∀ g q, ¬ (g = f ∧ q = r) → t.ring g q = s.ring g q
    (v.getLsbD 31 = true → (s.ring f r).phase = .off → ∃ t : State, exec (.ringEnable f r v) s = .next t.follow ∧
      others t ∧
      (ok → t.ring f r = fresh v (s.ring f r) ∧ t.flag (F.HIF_RING_CTL_EN f r) = true ∧
        Sends s t (.hostRead (fresh v (s.ring f r)).db 16)) ∧
      (¬ ok → (t.ring f r).phase = .off ∧ (t.ring f r).cfgErr = true ∧ t.flag (F.HIF_RING_CTL_EN f r) = false)) ∧
    (v.getLsbD 31 = false → (s.ring f r).phase = .on → s.ringSlots f r = [] →
      ∃ t : State, exec (.ringDisable f r v) s = .next t.follow ∧ others t ∧
        t.ring f r = { s.ring f r with phase := .off, knockWaiting := false, knocked := none } ∧
        t.flag (F.HIF_RING_CTL_EN f r) = false) ∧
    (v.toNat / 65536 = 0xB0C5 → v.getLsbD 0 = true → s.fnExists f = true → s.fenced f = true →
      (s.ring f r).phase = .on → s.ringBad f r = false →
      ∃ t : State, exec (.fnRereg f v) s = .next t.follow ∧ t.fenced f = false ∧
        t.ring f r = fresh (s.reg .HIF_RING_CTL f r) (s.ring f r) ∧
        ∀ g q, g ≠ f → t.ring g q = s.ring g q ∧ t.fenced g = s.fenced g)) ∧
  (∀ (s : State) (f : Fin 16), s.alive = true → s.fenced f = false → s.blockedOnFn f = true →
    (∀ x ∈ s.hif.slots, x.hdr.fn = f → s.exempt x = false) → (s.hif.slots.map (·.id)).Nodup →
    ∃ t : State, exec (.leaseExpired f) s = .next t.follow ∧ t.fenced f = true ∧
      (∀ x ∈ t.hif.slots, x.hdr.fn ≠ f) ∧
      (∀ x ∈ s.hif.slots, x.hdr.fn ≠ f → x.st ≠ .journal → ∃ y ∈ t.hif.slots, y.id = x.id ∧ y.hdr = x.hdr) ∧
      (∀ g, g ≠ f → t.fenced g = s.fenced g) ∧ t.glob = s.glob)

/-- R84, R86, R87, R99, R104, R105: a knock on an enabled ring reads its record, unless the ring is quarantined or
storming, and one on a ring that is not enabled is logged; a record read with its indices in range takes them; a stale
record is read again; the poll reads the record of every enabled ring; the storm, the full queue and the holdoff
change what the rules say of their ring. What the model chooses here is in log entries 18, 21 and 101. -/
def Obligations.Doorbells : Prop :=
  ∀ (s : State) (f : Fin 16) (r : Fin 64) (k : BitVec 16) (d : DbRec), s.attends = true → s.serving = true →
    let g := s.ring f r
    let knock : Word := BitVec.ofNat 32 (k.toNat * 65536 + r.val)
    let behind (k : BitVec 16) : Prop := 1 ≤ (k - d.kseq.setWidth 16).toNat ∧ (k - d.kseq.setWidth 16).toNat ≤ 32767
    let others (t : State) : Prop := ∀ h q, ¬ (h = f ∧ q = r) → t.ring h q = s.ring h q
    (s.fnExists f = true → g.phase = .on → g.quar = false → g.stormIgnore = false → s.fenced f = false →
      g.stormTimes.length < 256 → g.reading = false → ∃ t : State, exec (.knock f knock) s = .next t ∧ others t ∧
        t.ring f r = { g with knocked := some k, rereads := 4, reading := true, stormSeq := k
                              stormTimes := (t.ring f r).stormTimes } ∧
        Sends s t (.hostRead g.db 16)) ∧
    (s.fnExists f = true → s.fenced f = false → g.phase ≠ .on → ∃ t : State, exec (.knock f knock) s = .next t ∧ others t ∧
      t.ring f r = g ∧ t.fld (F.VLG_TOTAL_COUNT f) = min (s.fld (F.VLG_TOTAL_COUNT f) + 1) (2 ^ 32 - 1)) ∧
    (g.stormIgnore = true → exec (.knockStormEnd f r) s =
      .next (s.modRing f r (fun g => { g with stormIgnore := false, stormTimes := [] }))) ∧
    (∃ t : State, exec .doorbellPoll s = .next t ∧ ∀ h q,
      if (s.ring h q).phase = .on ∧ s.fnExists h = true
        then t.ring h q = { s.ring h q with knockWaiting := false, reading := true } else t.ring h q = s.ring h q) ∧
    (g.phase = .on → g.reading = true → d.prod.toNat < 2 ^ g.log2n → d.cqCons.toNat < 2 ^ g.log2n →
      (∀ k, g.knocked = some k → ¬ behind k ∨ g.rereads = 0) →
      ∃ t : State, exec (.doorbellRecordRead f r (.ok d)) s = .next t.follow ∧
        Counted (s.modRing f r (fun g => { g with
          reading := false, unreadable := false, indexBad := false, knocked := none
          prod := d.prod.toNat, cqCons := d.cqCons.toNat, kseq := d.kseq
          noIrq := d.hostFlags.getLsbD 0, pause := d.hostFlags.getLsbD 1 })) t) ∧
    (g.phase = .on → g.reading = true → ∃ t : State, exec (.doorbellRecordRead f r .failed) s = .next t.follow ∧
      (t.ring f r).unreadable = true ∧ (t.ring f r).reading = false ∧ Sends s t .aer ∧ others t) ∧
    (g.phase = .on → g.knocked.isSome = true → g.reading = false → 0 < g.rereads →
      ∃ t : State, exec (.staleRecordReread f r) s = .next t ∧ Counted ((s.emit (.hostRead g.db 16)).modRing f r
        (fun g => { g with rereads := g.rereads - 1, reading := true })) t) ∧
    (g.held ≠ [] → g.cqFullLogged = false → ∃ t : State, exec (.cqFull f r) s = .next t ∧ others t ∧
      (t.ring f r).cqFullLogged = true ∧ (t.ring f r).held = g.held) ∧
    (g.holdoff = true → ∃ t : State, exec (.holdoffExpiry f r) s = .next t ∧ others t ∧
      (t.ring f r).holdoffDue = false ∧ (g.holdoffDue = false → (t.ring f r).holdoff = false ∧ t.out = s.out) ∧
      (g.holdoffDue = true → g.noIrq = false →
        bits (s.reg .HIF_RING_CTL f r) 21 16 < s.fld (F.HIF_FN_CTL_VEC_COUNT f) →
        Sends s t (.msix f (bits (s.reg .HIF_RING_CTL f r) 21 16))))

/-! ### Descriptors -/

/-- R90, R95, R98, R469: NOP, LAT_TOL, a FENCE with nothing before it and every QUERY complete with DONE as soon as they
are fetched. LAT_TOL sets the function's tolerance; a QUERY's DETAIL is the value asked for. Nothing else changes but
the ring, the counts and the messages. R91, R98, R104: a descriptor of a type above 0x10 completes with VIOLATION, its
DETAIL naming DESC_TYPE and the log's SEQ; the log takes an entry, the ring's count of violations rises, and at the
limit of VLG_QUARANTINE the ring is quarantined, with an entry of its own. What the model chooses here is in log entry
68. -/
def Obligations.DescriptorsWithoutData : Prop :=
  (∀ (s : State) (h : Hdr) (p : BitVec 448),
    let answered (t : State) (ex : List Nat) (d : Word) : Prop := HostOnly s t ∧ Answers s t h ex 0 d
    let quota := s.fld (F.HIF_FN_SLOTS_QUOTA h.fn)
    (s.takes 0x00 h 0 → ∃ t : State, exec (.nop h) s = .next t ∧ answered t [] 0) ∧
    (s.takes 0x0F h p → ∃ t : State, exec (.latTol h p) s = .next t ∧ answered t [RegId.addr .HIF_FN_LAT h.fn 0] 0 ∧
      t.reg .HIF_FN_LAT h.fn 0 = BitVec.ofNat 32 (pay p 8 4)) ∧
    (s.takes 0x0D h p → (∀ n, h.headFin = some n → pay p 9 1 = 1 →
        ((s.head n).frame - BitVec.ofNat 32 (pay p 12 4)).toNat < 2 ^ 31) →
      ∃ t : State, exec (.fence h p) s = .next t ∧ answered t [] 0) ∧
    (s.takes 0x0E h p → pay p 8 1 = 1 →
      ∃ t : State, exec (.queryMode h p) s = .next t ∧ answered t [] (s.readReg .GLB_MODE 0 0)) ∧
    (s.takes 0x0E h p → pay p 8 1 = 2 → ∃ (t : State) (d : Word), exec (.querySlots h p) s = .next t ∧
      answered t [] d ∧ bits d 28 16 = 1 ∧ bits d 12 0 = quota) ∧
    (s.takes 0x0E h p → pay p 8 1 = 3 → ∃ t : State, exec (.queryFnStatus h p) s = .next t ∧
      answered t [] (BitVec.ofNat 32 (2 ^ 30 + 2 ^ 16 + quota))) ∧
    (s.takes 0x0E h p → pay p 8 1 = 4 → ∃ t : State, exec (.queryLastTrick h p) s = .next t ∧
      answered t [] (s.reg .TRK_HD_LAST_ID h.head 0)) ∧
    (s.takes 0x0E h p → pay p 8 1 = 0 → ∀ r i j, decodeReg (pay p 12 4) = some (r, i, j) →
      s.regPresent r i j = true → r.row.cls = .trick ∨ r.row.cls = .line →
      ∃ t : State, exec (.queryRegister h p) s = .next t ∧ answered t [] (s.reg r i j))) ∧
  (∀ (s : State) (ty : Byte) (h : Hdr) (p : BitVec 448), 0x10 < ty.toNat → s.still [] →
    s.canFetch h.fn h.ring = true → (s.ring h.fn h.ring).hasRoom = true →
    let g := (s.ring h.fn h.ring).fetched
    let v := min 255 (g.vcount + 1)
    let seq := s.fld (F.VLG_SEQ_COUNT h.fn)
    let quar := decide (max 1 (s.fld F.VLG_QUARANTINE_COUNT_COUNT) ≤ v)
    ∃ t : State, exec (.unknownType ty h p) s = .next t ∧ DescFetched s t h ∧ t.hif.slots = [] ∧
      EntryWritten s t h { g with vcount := v, quar := quar } 0x08 (BitVec.ofNat 32 (1 + 256 * (seq % 2 ^ 24))) ∧
      t.fld (F.VLG_TOTAL_COUNT h.fn) = min (s.fld (F.VLG_TOTAL_COUNT h.fn) + if quar then 2 else 1) (2 ^ 32 - 1))

/-- R92, R94, R110, R116, R126, R131: TRICK_BEGIN opens a trick with its ID and heads; REG_WRITE joins its trick-class and
line-class pairs to the trick and writes the others at once; TRICK_COMMIT NEXT and AT make the trick staged, with its
anchor and its target; DISCARD ends it and completes. What the model chooses here is in log entries 16 and 32. -/
def Obligations.TrickDescriptors : Prop :=
  ∀ (s : State) (h : Hdr) (p : BitVec 448) (k : Trick),
    let mine (t : State) (x : Trick) : Prop := t.trick k.key = some x ∧
      ∀ key, key ≠ k.key → t.trick key = s.trick key
    let named : Prop := s.trickAt h = some k.key ∧ s.trick k.key = some k ∧ k.wall = false ∧ k.spoil = none
    let staged (t : State) (mode : CommitMode) (target : Word) : Prop :=
      DescFetched s t h ∧ t.ring h.fn h.ring = (s.ring h.fn h.ring).fetched ∧
      t.hif.slots = [{ s.slotOf 0x02 h p with st := .commit }] ∧
      mine t { k with phase := .staged, mode := mode, commitSlot := some s.hif.nextSlot, anchor := s.anchorOf k
                      target := target, order := s.trk.nextOrder }
    let next : Word := match s.anchorOf k with | some n => (s.head n).frame + 1 | none => 0
    (s.takes 0x01 h p → pay p 9 1 = 0 → (∀ x ∈ s.trk.tricks, x.key < s.trk.nextKey) →
      ∃ t : State, exec (.trickBegin h p) s = .next t ∧ Answers s t h [] 0 0 ∧
      t.trk.tricks = s.trk.tricks ++ [{ key := s.trk.nextKey, owner := .fn h.fn, id := h.trick
                                        heads := BitVec.ofNat 6 (pay p 8 1) }]) ∧
    (s.takes 0x02 h p → named → k.owner = .fn h.fn → pay p 8 1 = 0 →
      ∃ t : State, exec (.trickCommitNext h p) s = .next t ∧ staged t .next next) ∧
    (s.takes 0x02 h p → named → k.owner = .fn h.fn → pay p 8 1 = 1 →
      ∃ t : State, exec (.trickCommitAt h p) s = .next t ∧ staged t (.atFrame (BitVec.ofNat 32 (pay p 12 4)))
        (if (s.anchorOf k).isSome then BitVec.ofNat 32 (pay p 12 4) else 0)) ∧
    (s.takes 0x02 h p → named → pay p 8 1 = 2 → ∃ t : State, exec (.trickCommitDiscard h p) s = .next t ∧
      Answers s t h [] 0 0 ∧ t.trk.tricks = s.trk.tricks.filter (fun x => x.key ≠ k.key)) ∧
    (s.takes 0x03 h p → named → (s.slotOf 0x03 h p).stagedPairs.length = pay p 8 1 →
      ∃ t : State, exec (.regWrite h p) s = .next t ∧ Answers s t h [] 0 0 ∧
        mine t { k with writes := k.writes ++
          (s.slotOf 0x03 h p).stagedPairs.filter (fun w => s.regPresent w.id w.i w.j) }) ∧
    (s.takes 0x03 h p → pay p 8 1 = 1 → h.fn = 0 → h.trick = 0 → pay p 12 4 = RegId.addr .TMR_IRQ 0 0 →
      ∃ t : State, exec (.regWrite h p) s = .next t ∧ Answers s t h [RegId.addr .TMR_IRQ 0 0] 0 0 ∧
        t.reg .TMR_IRQ 0 0 =
          (s.reg .TMR_IRQ 0 0 &&& ~~~0x8F00003F) ||| (BitVec.ofNat 32 (pay p 16 4) &&& 0x8F00003F))

/-- R71, R90, R172: a descriptor with source data in host memory asks for exactly its bytes and waits for them, its trick
as it was. R71, R145, R172, R188, R189, R211, R290: source data that arrives for a descriptor is staged into its trick
and the descriptor completes with DONE: in the trick's view the bytes written read as the source has them and all
others as before, while committed memory stays; a SEQ_LOAD changes the trick's shadow bank and leaves the active one.
A read that failed is reported and ends the descriptor, spoiling its trick. What the model chooses here is in log
entries 15 and 31. -/
def Obligations.SourceData : Prop :=
  (∀ (s : State) (h : Hdr) (p : BitVec 448),
    let ready (type : Nat) : Prop := s.takes type h p ∧ pay p (kindByte type) 1 = 0
    let asked (t : State) (type n : Nat) : Prop := HostOnly s t ∧ DescFetched s t h ∧
      t.ring h.fn h.ring = (s.ring h.fn h.ring).fetched ∧ Sends s t (.hostRead (pay p 8 8) n) ∧
      t.hif.slots = [{ s.slotOf type h p with st := .waitHost }] ∧ RegsKept [RegId.addr .PMC_OVF 0 0] s t
    (ready 0x04 → ∃ t : State, exec (.mapUpdate h p) s = .next t ∧
      asked t 0x04 ((pay p 24 2 - 1) * pay p 28 4 + 3 * pay p 22 2)) ∧
    (ready 0x05 → ∃ t : State, exec (.deckUpdate h p) s = .next t ∧ asked t 0x05 (12 * pay p 20 4)) ∧
    (ready 0x06 → ∃ t : State, exec (.patternLoad h p) s = .next t ∧ asked t 0x06 (pay p 24 4)) ∧
    (ready 0x07 → ∃ t : State, exec (.paletteLoad h p) s = .next t ∧ asked t 0x07 (3 * pay p 18 2)) ∧
    (ready 0x08 → ∃ t : State, exec (.seqLoad h p) s = .next t ∧ asked t 0x08 (3 * pay p 22 2)) ∧
    (ready 0x0C → ∃ t : State, exec (.graphLoad h p) s = .next t ∧ asked t 0x0C (pay p 16 4))) ∧
  (∀ (s : State) (x : Slot) (k : Trick) (bs : List Byte), s.still [x] → x.st = .waitHost →
    x.trick = some k.key → s.trick k.key = some k → k.spoil = none → k.wall = false →
    (s.ring x.hdr.fn x.hdr.ring).hasRoom = true →
    let p := x.payload
    let n : Fin 6 := x.hdr.headFin.getD 0
    let stages (type : Nat) (wr : Nat → Option Byte) : Prop :=
      x.type = type → bs.length = srcBytes type p → s.checkLate x = none →
      s.poolGrant k (k.lacks (s.tarnPlan k type n p bs).1).length = .ok →
      s.mem.wf = true → (∀ q ∈ k.pages, q.img.wf = true) →
      ∃ (t : State) (k' : Trick), exec (.hostReadCompletion (.slot x.id) (.ok bs)) s = .next t ∧
        t.hif.slots = [] ∧ t.mem = s.mem ∧
        EntryWritten s t x.hdr (s.ring x.hdr.fn x.hdr.ring) 0 0 ∧ t.trick k.key = some k' ∧
        ∀ a, t.trickRead k' a = (wr a).getD (s.trickRead k a)
    let run (lo len : Nat) (a : Nat) : Option Byte := if lo ≤ a ∧ a < lo + len then bs[a - lo]? else none
    stages 0x06 (run (patDst p) (patLen p)) ∧
    stages 0x07 (run (s.fld (F.PAL_BASE_BASE n) * 64 + 3 * palFirst p) (3 * palCount p)) ∧
    stages 0x05 (fun a => if (deckWords p).testBit ((a - (s.deckBase n + 12 * deckFirst p)) % 12 / 3)
      then run (s.deckBase n + 12 * deckFirst p) (12 * deckCount p) a else none) ∧
    (x.type = 0x04 → mapWidth p = 1 → mapHeight p = 1 →
      stages 0x04 (run (s.mapEntryAt n (mapPlane p) (mapCol p) (mapRow p)) 3)) ∧
    (∀ q : Fin 8, x.type = 0x08 → q.val = seqNo p → bs.length = srcBytes 0x08 p → s.checkLate x = none →
      s.seqGrant k.key q = .ok → ∃ t : State, exec (.hostReadCompletion (.slot x.id) (.ok bs)) s = .next t ∧ t.hif.slots = [] ∧
        EntryWritten s t x.hdr (s.ring x.hdr.fn x.hdr.ring) 0 0 ∧ (∀ r, r ≠ q → t.seq r = s.seq r) ∧
        ∃ b, t.seq q = { s.seq q with shadow := some (k.key, b) } ∧
          (seqMem p = 0 → ∀ i, wordAt b.prog i = if seqFirst p ≤ i ∧ i < seqFirst p + pay p 22 2
            then (words24 bs).getD (i - seqFirst p) 0
            else match (s.seq q).shadow with
              | some (_, o) => wordAt o.prog i
              | none => if seqClear p then 0 else wordAt (s.seq q).bank.prog i)) ∧
    (∀ a,
      ∃ t : State, exec (.hostReadCompletion (.slot x.id) (.busError a)) s = .next t ∧ Sends s t .aer ∧
        t.hif.slots = [] ∧ t.trick k.key = some { k with spoil := some (0x04, a.setWidth 32) } ∧ t.mem = s.mem))

/-! ### Units that run descriptors -/

/-- R317, R319, R336, R353, R421: a descriptor that names a free unit takes it and runs: a BLIT_LIST its context, and its
list is read; a SLUICE its channel, with FN and REMAIN in the channel's registers; an AUDIO_STREAM joins its player's
queue; a JOURNAL_STORE starts a store. A BLIT_LIST whose context is taken, and a SLUICE without a free channel, wait.
What the model chooses here is in log entry 4. -/
def Obligations.UnitDescriptors : Prop :=
  ∀ (s : State) (h : Hdr) (p : BitVec 448), let id := s.hif.nextSlot
    let runs (t : State) (ty : Nat) (st : SlotSt) : Prop := DescFetched s t h ∧
      t.ring h.fn h.ring = (s.ring h.fn h.ring).fetched ∧ t.hif.slots = [{ s.slotOf ty h p with st := st }]
    (s.takes 0x09 h p → (s.bctx (blitCtx p)).slot = none → ∃ t : State, exec (.blitList h p) s = .next t ∧
      MoverOnly s t ∧ runs t 0x09 .running ∧ t.bctx (blitCtx p) = { slot := some id, reading := true } ∧
      (pay p 19 1 = 0 → Sends s t (.hostRead (pay p 8 8) (64 * pay p 16 2)))) ∧
    (s.takes 0x09 h p → (s.bctx (blitCtx p)).slot ≠ none → ∃ t : State, exec (.blitList h p) s = .next t ∧
      HostOnly s t ∧ runs t 0x09 .waitUnit) ∧
    (∀ c : Fin 32, s.takes 0x0A h p → s.freeChan (s.slotOf 0x0A h p) = some c →
      ∃ t : State, exec (.sluice h p) s = .next t ∧ MoverOnly s t ∧ runs t 0x0A .running ∧
        t.chan c = { slot := some id, wantStage := sluStages p, readAt := (t.chan c).readAt } ∧
        (∀ d, d ≠ c → t.chan d = s.chan d) ∧ t.fld (F.SLU_STAT_FN c) = h.fn ∧
        t.reg .SLU_REMAIN c 0 = BitVec.ofNat 32 (pay p 24 4 * pay p 40 4)) ∧
    (s.takes 0x0A h p → s.freeChan (s.slotOf 0x0A h p) = none → ∃ t : State, exec (.sluice h p) s = .next t ∧
      HostOnly s t ∧ runs t 0x0A .waitUnit) ∧
    (∀ n : Fin 16, s.takes 0x0B h p → n.val = pay p 20 1 → (s.play n).bufs = [] →
      ∃ t : State, exec (.audioStream h p) s = .next t ∧ runs t 0x0B .running ∧
        ∃ b : PlayBuf, t.play n = { s.play n with bufs := [b] } ∧ b.slot = id ∧ b.data = [] ∧
          b.addr + b.ask = pay p 8 8 + pay p 16 4 ∧ b.ask + b.asked = pay p 16 4 ∧
          b.last = (pay p 21 1).testBit 0 ∧ (0 < b.asked → Sends s t (.hostRead (pay p 8 8) b.asked))) ∧
    (s.takes 0x10 h p → s.jrnl.store = none → s.jrnl.queue = [] →
      ∃ t : State, exec (.journalStore h p) s = .next t ∧ runs t 0x10 .journal ∧
        t.jrnl = { s.jrnl with store := some { slot := some id, origin := 1 } } ∧
        t.flag F.JOURNAL_STATUS_BUSY = true ∧ t.fld F.JOURNAL_STATUS_ORIGIN = 1 ∧
        t.fld F.JOURNAL_STATUS_PROGRESS = 0)

/-- R317, R320, R326, R330: a list that was read and passes its checks is run from its first command; one that fails, or
could not be read, ends its descriptor; the oldest watermark row is put into WM0 to WM2 and signalled; a list whose
writes are all acknowledged completes with DONE and frees its context. R331, R332: a row of a FILL that races a head
is written once the head's beam has started its line, and the last row ends the command; while the beam has not,
nothing happens. Of a scan beam in the blanking before its next line the release says that the line has started. What
the model chooses here is in log entry 48. -/
def Obligations.BlitListsAndRaces : Prop :=
  (∀ (s : State) (c : Fin 8) (x : Slot) (n : Nat) (bs : List Byte),
    let b := s.bctx c
    let idle : Prop := s.still [x] ∧ x.st = .running ∧ b.slot = some x.id ∧
      (s.ring x.hdr.fn x.hdr.ring).hasRoom = true
    let cmds := splitCmds n bs
    (idle → b.reading = true → pay x.payload 19 1 = 0 → pay x.payload 16 2 = n → bs.length = 64 * n →
      (s.listFail x cmds 0 = none → ∃ t : State, exec (.listReadDone c (.ok bs)) s = .next t ∧ MoverOnly s t ∧
        t.bctx c = { b with reading := false, cmds := cmds } ∧ t.fld (F.BLT_STAT_CMD c) = 0 ∧
        t.hif = s.hif ∧ t.mem = s.mem) ∧
      (∀ st d, s.listFail x cmds 0 = some (.plain st d) →
        ∃ t : State, exec (.listReadDone c (.ok bs)) s = .next t ∧ SlotEnds s t x st (BitVec.ofNat 32 d) ∧ t.bctx c = {} ∧
          t.mem = s.mem ∧ ∀ k y, x.trick = some k → x.joined = false → t.trick k = some y → y.spoil ≠ none)) ∧
    (∀ a, idle → b.reading = true → pay x.payload 19 1 = 0 → ∃ t : State, exec (.listReadDone c (.busError a)) s = .next t ∧
      t.bctx c = {} ∧ t.hif.slots = [] ∧ Sends s t .aer ∧ t.mem = s.mem) ∧
    (∀ cmd row rest hd, s.alive = true → b.marks = (cmd, row) :: rest → b.slot.bind s.slot = some x →
      x.hdr.headFin = some hd → s.headPresent hd = true → (s.head hd).enabled = true →
      ∃ t : State, exec (.bltWatermark c) s = .next t ∧ MoverOnly s t ∧ t.bctx c = { b with marks := rest } ∧
        t.reg .BLT_WM0 c 0 = (s.head hd).frame ∧ t.fld (F.BLT_WM1_LINE c) = (s.head hd).line % 65536 ∧
        t.fld (F.BLT_WM2_CMD c) = cmd % 1024 ∧ t.fld (F.BLT_WM2_ROW c) = row % 16384 ∧
        t.flag (F.BLT_STAT_WM c) = true ∧ t.mem = s.mem) ∧
    (idle → b.reading = false → b.cmds ≠ [] → b.cmds.length ≤ b.idx → b.marks = [] →
      ∃ t : State, exec (.blitListComplete c) s = .next t ∧ SlotEnds s t x 0 0 ∧ t.bctx c = {} ∧ t.mem = s.mem)) ∧
  (∀ (s : State) (ctx : Fin 8) (x : Slot) (c : BitVec 512) (n : Fin 6) (heads : Nat), s.alive = true → s.mem.wf = true →
    s.cmdNow ctx = some (x, c) → cmdOp c = 0 → s.cmdCheck1 heads c = true → cmdMisaligned c = none → cmdRace c = true →
    cmdRaceHd c = n.val → (s.bctx ctx).waiting = true → (s.bctx ctx).rows + 1 = cmdH c →
    (s.head n).enabled = true → (s.head n).beams = true →
    let b := s.bctx ctx
    let line : Int := cmdLine0 c + cmdDy c + b.rows
    let beam : Int := if cmdFlag c 2
      then frameDiff (s.head n).sc.scanFrame b.base * (s.head n).vTotal + (s.head n).sc.scanLine
      else frameDiff (s.head n).frame b.base * (s.head n).vTotal + (s.head n).line - (if (s.head n).lineOn then 0 else 1)
    let row := cmdDst c + cmdDpitch c * (cmdDy c + b.rows)
    0 ≤ line → line < (s.head n).vActive →
    (beam < line + 1 → exec (.raceRowRelease ctx) s = .next s) ∧
    (line + 1 ≤ beam → beam < (s.head n).vTotal + line → ∃ t : State, exec (.raceRowRelease ctx) s = .next t ∧
      MoverOnly s t ∧ t.hif = s.hif ∧ (t.bctx ctx).idx = b.idx + 1 ∧ (t.bctx ctx).waiting = false ∧
      (∀ i < cmdW c, rawPixel t.mem.read (cmdDfmt c) row (cmdDx c + i) = cmdFg c % 2 ^ bpp (cmdDfmt c)) ∧
      ∀ a, a < row ∨ row + cmdDpitch c ≤ a → t.mem.read a = s.mem.read a))

/-- R322 to R325: FILL stores FG in every pixel of its rectangle; COPY the source pixel; COPYKEY the source pixel unless
it meets the key under the mask; BLEND the blend of R167 with the alpha scaled by ALPHA; EXPAND FG for a set bit, and
for a clear one BG or, with its flag, nothing. The command starts when the watermark row of the one before is
acknowledged. Sources are read as they were before the command, the rest of memory keeps its content, and the context
goes on to its next command. What the model chooses here is in log entry 48. -/
def Obligations.BlitCommands : Prop :=
  ∀ (s : State) (ctx : Fin 8) (x : Slot) (c : BitVec 512) (heads : Nat), s.alive = true → s.mem.wf = true →
    s.cmdNow ctx = some (x, c) → (s.bctx ctx).started = false → (s.bctx ctx).rows = 0 → (s.bctx ctx).marks = [] →
    s.cmdCheck1 heads c = true → cmdMisaligned c = none → cmdBadOverlap c = none → cmdFen c = false →
    cmdRace c = false →
    let old (i j : Nat) : Nat := rawPixel s.mem.read (cmdDfmt c) (cmdDst c + cmdDpitch c * (cmdDy c + j)) (cmdDx c + i)
    let src (i j : Nat) : Nat := rawPixel s.mem.read (cmdSfmt c) (cmdSrc c + cmdSpitch c * (cmdSy c + j)) (cmdSx c + i)
    let b := s.bctx ctx
    let m := 2 ^ bpp (cmdSfmt c)
    let painted (t : State) (px : Nat → Nat → Option Nat) : Prop :=
      MoverOnly s t ∧ t.hif = s.hif ∧ t.free = s.free ∧
      RegsKept [RegId.addr .PMC_OVF 0 0, RegId.addr .BLT_STAT ctx 0] s t ∧
      t.fld (F.BLT_STAT_CMD ctx) = b.idx % 1024 ∧ Painted s.mem t.mem c px ∧
      t.bctx ctx = { b with
        idx := b.idx + 1, started := false, rows := 0, waiting := false, raceSeen := false, fen := none
        base := (t.bctx ctx).base, marks := if cmdFlag c 0 then [(b.idx, cmdWmRow c)] else [] }
    (cmdOp c = 0 → ∃ t : State, exec (.bltFill ctx) s = .next t ∧ painted t (fun _ _ => some (cmdFg c))) ∧
    (cmdOp c = 1 → ∃ t : State, exec (.bltCopy ctx) s = .next t ∧ painted t (fun i j => some (src i j))) ∧
    (cmdOp c = 2 → ∃ t : State, exec (.bltCopyKey ctx) s = .next t ∧ painted t (fun i j =>
      if (src i j ^^^ cmdKey c % m) &&& (cmdKmask c % m) = 0 then none else some (src i j))) ∧
    (cmdOp c = 3 → ∃ t : State, exec (.bltBlend ctx) s = .next t ∧ painted t (fun i j =>
      let p := pxOf (cmdSfmt c) (src i j)
      some (pxTo (cmdDfmt c) (blend (cmdBop c) ((p.a * cmdAlpha c + 31) / 63) p (pxOf (cmdDfmt c) (old i j)))))) ∧
    (cmdOp c = 4 → ∃ t : State, exec (.bltExpand ctx) s = .next t ∧ painted t (fun i j =>
      if src i j = 1 then some (cmdFg c) else if cmdFlag c 3 then none else some (cmdBg c)))

/-- R336, R339, R340, R342: a freed channel goes to the first SLUICE that waits for it; the staging buffer to the first
channel in line, with the intersection as it stands, or, of a host source, empty and with reads on their way to fill
it; an acknowledged transfer completes with DONE; an expired lease ends its descriptor with REVOKED, logs it, and
fences its function from Sluice. R71, R341: the first failed access ends the transfer: its address is kept in FAIL_LO
and FAIL_HI, STAT.ERR is set, the channel is free, the descriptor completes with BUS_ERROR or TIMEOUT, and bytes
outside a device destination keep their values. What the model chooses here is in log entry 19. -/
def Obligations.SluiceTransfers : Prop :=
  (∀ (s : State) (c : Fin 32) (x : Slot), let h := s.chan c
    let p := x.payload
    let others (t : State) : Prop := ∀ d, d ≠ c → t.chan d = s.chan d
    (s.alive = true → h.slot = none → s.hif.slots = [x] → x.type = 0x0A → x.st = .waitUnit → chanFits x c = true →
      ∃ t : State, exec (.channelGrant c) s = .next t ∧ MoverOnly s t ∧ others t ∧
        t.chan c = { slot := some x.id, wantStage := sluStages p, readAt := (t.chan c).readAt } ∧
        t.hif.slots = [{ x with st := .running }] ∧ t.fld (F.SLU_STAT_FN c) = x.hdr.fn ∧
        t.reg .SLU_REMAIN c 0 = BitVec.ofNat 32 (sluTotal p)) ∧
    (∀ rest, s.alive = true → s.mv.stageQ = c.val :: rest → (∀ d, (s.chan d).stage = none) →
      h.slot.bind s.slot = some x → sluSrcDev p = true → s.mem.wf = true →
      ∃ (t : State) (img : DevMem), exec (.stagingBufferGrant c) s = .next t ∧ MoverOnly s t ∧ others t ∧
        t.mem = s.mem ∧ t.mv.stageQ = rest ∧ t.chan c = { h with stage := some img, wantStage := false } ∧
        ∀ a, max (sluSrcExt p).1 (sluDstExt p).1 ≤ a → a < min (sluSrcExt p).2 (sluDstExt p).2 →
          img.read a = s.mem.read a) ∧
    (∀ rest, s.alive = true → s.mv.stageQ = c.val :: rest → (∀ d, (s.chan d).stage = none) →
      h.slot.bind s.slot = some x → sluSrcDev p = false →
      ∃ t : State, exec (.stagingBufferGrant c) s = .next t ∧ MoverOnly s t ∧ others t ∧ t.mem = s.mem ∧
        t.mv.stageQ = rest ∧ (t.chan c).stage = some {} ∧ (t.chan c).wantStage = false ∧
        (t.chan c).slot = h.slot ∧ (t.chan c).pos = h.pos) ∧
    (s.still [x] → x.st = .running → h.slot = some x.id → h.draining = true →
      (s.ring x.hdr.fn x.hdr.ring).hasRoom = true →
      ∃ t : State, exec (.sluiceDrainDone c) s = .next t ∧ SlotEnds s t x 0 0 ∧ t.chan c = {} ∧ others t ∧
        t.mem = s.mem) ∧
    (s.still [x] → x.st = .running → h.slot = some x.id → h.readAt ≠ none → (∀ d, d ≠ c → (s.chan d).slot ≠ some x.id) →
      (s.ring x.hdr.fn x.hdr.ring).hasRoom = true → let f := x.hdr.fn
      let seq := s.fld (F.VLG_SEQ_COUNT f)
      ∃ t : State, exec (.channelLeaseExpiry c) s = .next t ∧ SlotEnds s t x 0x0A (BitVec.ofNat 32 seq) ∧
        t.chan c = {} ∧ others t ∧ t.mv.sluFenced = s.mv.sluFenced ||| BitVec.ofNat 16 (2 ^ f.val) ∧
        t.fld (F.VLG_SEQ_COUNT f) = (seq + 1) % 2 ^ 32 ∧
        t.fld (F.VLG_TOTAL_COUNT f) = min (s.fld (F.VLG_TOTAL_COUNT f) + 1) (2 ^ 32 - 1))) ∧
  (∀ (s : State) (c : Fin 32) (x : Slot) (a : BitVec 64) (d : BitVec 40) (tmo : Bool), s.still [x] → x.st = .running →
    (s.chan c).slot = some x.id → (s.chan c).wantStage = false → (s.ring x.hdr.fn x.hdr.ring).hasRoom = true →
    s.mem.wf = true →
    let p := x.payload
    let ends (f : AccessFail) (st : Nat) (a : BitVec 64) : Prop :=
      ∃ t : State, exec (.sluiceAccessFail c f) s = .next t ∧ t.hif.slots = [] ∧ t.chan c = {} ∧
        t.reg .SLU_FAIL_LO c 0 = a.setWidth 32 ∧ t.reg .SLU_FAIL_HI c 0 = (a >>> 32).setWidth 32 ∧
        t.flag (F.SLU_STAT_ERR c) = true ∧
        Sends s t (.hostWrite ((s.ring x.hdr.fn x.hdr.ring).cq + (s.ring x.hdr.fn x.hdr.ring).cqProd * 16)
          (cplBytes (s.ring x.hdr.fn x.hdr.ring).cqPhase (s.cplOf x.hdr st (a.setWidth 32)))) ∧
        ∀ b, sluDstDev p = false ∨ b < (sluDstExt p).1 ∨ (sluDstExt p).2 ≤ b → t.mem.read b = s.mem.read b
    let st : Nat := if tmo then 0x0D else 0x04
    (sluSrcDev p = false → (s.chan c).readAt ≠ none → (s.chan c).draining = false →
      ends (.hostSource a tmo) st a) ∧
    (sluDstDev p = false → (s.chan c).draining = true → ends (.hostZero a tmo) st a) ∧
    (sluSrcDev p = true ∨ sluDstDev p = true → ends (.dram d) 0x04 (d.setWidth 64)))

/-- R334, R337, R338, R339, R340, R344: a burst moves the next bytes of the stream, at most 512 and with PIX whole pixels:
every byte goes from its place in the source to its place in the destination, descending where the extents meet with
equal strides, and no other byte changes. Of a host source the burst is what its reads returned, within a source line.
REMAIN counts down, and the last burst drains the channel. The channel whose turn it is goes (PRIO, then round-robin).
While a staging buffer of host bytes fills, what the reads returned goes into it and nowhere else. What the model
chooses here is in log entries 49 and 97. -/
def Obligations.SluiceBursts : Prop :=
  ∀ (s : State) (c : Fin 32) (x : Slot) (data : List Byte), s.alive = true → s.mem.wf = true → let h := s.chan c
    let p := x.payload
    let total := sluTotal p
    h.slot.bind s.slot = some x → sluFieldsOk p = true → h.wantStage = false → h.draining = false → h.pos < total →
    let goes : Prop := h.stage = none ∧ h.fill = none ∧ s.chanGoes c = true
    let most := min (if sluPix p then 510 else 512) (total - h.pos)
    let first (n : Nat) : Nat := if sluDown p then total - h.pos - n else h.pos
    let moved (t : State) (n : Nat) : Prop := MoverOnly s t ∧ t.hif = s.hif ∧ t.free = s.free ∧
      (∀ d, d ≠ c → t.chan d = s.chan d) ∧ (t.chan c).pos = h.pos + n ∧ (t.chan c).slot = h.slot ∧
      (t.chan c).draining = decide (h.pos + n = total) ∧
      t.reg .SLU_REMAIN c 0 = BitVec.ofNat 32 (total - (h.pos + n)) ∧
      RegsKept [RegId.addr .PMC_OVF 0 0, RegId.addr .SLU_REMAIN c 0] s t
    let kept (t : State) (n : Nat) : Prop := ∀ a, (∀ k < n, a ≠ sluDstAt p (first n + k)) → t.mem.read a = s.mem.read a
    (goes → sluSrcDev p = true → sluDstDev p = true → ∃ t : State, exec (.sluiceBurst c data) s = .next t ∧ moved t most ∧
      (∀ k < most, t.mem.read (sluDstAt p (first most + k)) = s.mem.read (sluSrcAt p (first most + k))) ∧
      kept t most) ∧
    (goes → sluSrcDev p = false → sluDstDev p = true → ∀ n, n = min most (sluSlen p - h.pos % sluSlen p) →
      n ≤ data.length → ∃ t : State, exec (.sluiceBurst c data) s = .next t ∧ moved t n ∧
        (∀ k < n, data[k]? = some (t.mem.read (sluDstAt p (first n + k)))) ∧ kept t n) ∧
    (goes → sluSrcDev p = true → sluDstDev p = false → first most % sluDlen p + most ≤ sluDlen p →
      sluDstAt p (first most) % 4096 + most ≤ 4096 →
      ∃ t : State, exec (.sluiceBurst c data) s = .next t ∧ moved t most ∧ t.mem = s.mem ∧
        Sends s t (.hostWrite (sluDstAt p (first most))
          ((List.range most).map (fun k => s.mem.read (sluSrcAt p (first most + k)))))) ∧
    (∀ i j n img, h.fill = some i → h.stage = some img → img.wf = true → sluFillAt p (sluScnt p + 1) i = some (j, n) →
      n ≤ data.length → ∃ (t : State) (img' : DevMem), exec (.sluiceBurst c data) s = .next t ∧ MoverOnly s t ∧
        t.mem = s.mem ∧ t.hif = s.hif ∧ (∀ d, d ≠ c → t.chan d = s.chan d) ∧ (t.chan c).pos = h.pos ∧
        (t.chan c).slot = h.slot ∧ (t.chan c).stage = some img' ∧
        (∀ k < n, data[k]? = some (img'.read (sluSrcAt p j + k))) ∧
        ∀ a, a < sluSrcAt p j ∨ sluSrcAt p j + n ≤ a → img'.read a = img.read a)

/-! ### Application of tricks -/

/-- R124, R125, R127: once the compose beam of a head has reached the cutoff of its next frame, every staged trick
anchored there whose target has come joins the queue in the order in which the tricks became staged, one whose target
has passed counts as missed; before the cutoff nothing happens. The other heads stay. R120, R130, R132, R146, R471: at
the wrap of a head alone in its lock group its frame count advances and its compose beam stands at line 0, its
registers in use are the committed ones, the pages it read until then are free where no other head reads them, and
TRK_HD_LAST_ID names the trick it now shows outside FALLBACK; while an application due for the head is under way the
wrap waits, and TRK_HD_LATE counts. What the model chooses here is in log entries 26 and 28. -/
def Obligations.CutoffsAndWraps : Prop :=
  (∀ (s : State) (n : Fin 6), s.beamsRun n = true → (s.head n).inWindow = false →
    (s.trk.tricks.map (·.key)).Nodup →
    let h := s.head n
    let f := h.frame + 1
    let lines := min (max 1 (s.fld (F.TRK_HD_CTL_CUTOFF_LINES n))) (h.vTotal - h.vActive)
    let due (x : Trick) : Prop := x.phase = .staged ∧ x.anchor = some n ∧ (x.wall = true → x.wallGo = true) ∧
      (x.target - f).toInt ≤ 0
    (h.lineOn = false ∨ h.line < h.vTotal - lines → exec (.commitCutoff n) s = .next s.follow) ∧
    (h.lineOn = true → h.vTotal - lines ≤ h.line → ∃ (t : State) (q : List Trick),
      exec (.commitCutoff n) s = .next t.follow ∧ t.trk.queue = s.trk.queue ++ q.map (·.key) ∧
      (∀ x, x ∈ q ↔ x ∈ s.trk.tricks ∧ due x) ∧ q.Pairwise (fun a b => a.order ≤ b.order) ∧
      (∀ x ∈ q, t.trick x.key = some { x with
        phase := .applying, missed := x.missed || decide (x.target ≠ f ∧ x.owner ≠ .implicit ∧ x.owner ≠ .boot) }) ∧
      (∀ x ∈ s.trk.tricks, x ∉ q → t.trick x.key = some x) ∧
      t.head n = { h with inWindow := true, ev := (t.head n).ev } ∧ ∀ m, m ≠ n → t.head m = s.head m)) ∧
  (∀ (s : State) (n : Fin 6), s.lockGroup n = [n] → s.wrapReady n = true → (s.head n).inWindow = true →
    (s.anchorBusy n = true → (s.head n).wrapWait = false → ∃ t : State, exec (.frameWrap n) s = .next t.follow ∧
      t = { s.modHead n (fun h => { h with wrapWait := true }) with regs := t.regs } ∧
      t.fld (F.TRK_HD_LATE_COUNT n) =
        min (s.fld (F.TRK_HD_LATE_COUNT n) + 1) (2 ^ 32 - 1)) ∧
    (s.anchorBusy n = false → ∃ t : State, exec (.frameWrap n) s = .next t.follow ∧
      (t.head n).frame = (s.head n).frame + 1 ∧ (t.head n).line = 0 ∧ (t.head n).lineOn = false ∧
      (t.head n).inWindow = false ∧ (t.head n).composing = false ∧ (∀ m, m ≠ n → t.head m = s.head m) ∧
      t.mem = s.mem ∧ t.trk.tricks = s.trk.tricks ∧
      (∀ r i j, headWin n ≤ r.addr i j → r.addr i j < headWin n + 0x20000 → t.useReg r i j = t.reg r i j) ∧
      (∀ o ∈ t.oldPages, o.heads.getLsbD n.val = false) ∧
      (∀ x, s.trk.shown = [x] → x.pending.getLsbD n.val = true → (∃ f, x.owner = .fn f) → (t.head n).fb = false →
        t.reg .TRK_HD_LAST_ID n 0 = x.id)))

/-- R110, R121, R129, R146: the end of an application commits the trick whole: every trick-class and line-class register
holds the values of the trick's writes to it in their order, every Tarn page of the trick has the trick's content, all
other memory is unchanged, and the trick leaves the queue. NO_HEAD_APPLY does the same for a staged trick where no
head is enabled. What the model chooses here is in log entry 26. -/
def Obligations.TrickCommits : Prop :=
  ∀ (s : State) (k : Trick) (rest : List Nat), s.alive = true → s.trick k.key = some k → k.owner ≠ .wall →
    k.owner ≠ .boot → k.key ∉ rest → s.mem.wf = true → (k.pages.map (·.page)).Nodup →
    (∀ p ∈ k.pages, p.img.wf = true ∧ p.img.bg = s.mem.bg) →
    (∀ w ∈ k.writes, decodeReg (w.id.addr w.i w.j) = some (w.id, w.i, w.j)) →
    let committed (t : State) : Prop :=
      (∀ r i j, decodeReg (r.addr i j) = some (r, i, j) → r.row.cls = .trick ∨ r.row.cls = .line →
        s.regPresent r i j = true → r ≠ .MEM_TRUMP_HD → r ≠ .SINK_RING → r ≠ .SEQ_CTL →
        t.reg r i j = (k.writes.filter (fun w => w.id = r && w.i = i && w.j = j)).foldl
          (fun v w => (v &&& ~~~w.mask) ||| (w.value &&& w.mask)) (s.reg r i j)) ∧
      (∀ a, t.mem.read a = match k.pages.find? (fun p => p.page = a / 4096) with
        | some p => p.img.read a | none => s.mem.read a) ∧
      t.trk.queue = rest ∧ t.trick k.key = none
    (s.trk.queue = k.key :: rest → (∀ n, k.anchor = some n → (s.head n).wrapWait = false) →
      ∃ t : State, exec .applicationEnd s = .next t.follow ∧ committed t) ∧
    (s.trk.queue = [] → rest = [] → k.phase = .staged → k.anchor = none → k.wall = false →
      (∀ x ∈ s.trk.tricks, x.phase = .staged → x.anchor = none → x.order ≤ k.order → x = k) →
      ∃ t : State, exec .noHeadApply s = .next t.follow ∧ committed t)

/-! ### Tarn from outside -/

/-- R143, R154, R155: a BAR4 read answers the bytes behind its windows, 0 where no memory is; a BAR4 write stores the
bytes it enables in committed memory at once, and one that touches a trump region is dropped and logged (R155); the
scrubber counts what it corrected, and a word with a double-bit error is counted, its content left open and all other
memory as it was. What the model chooses here is in log entry 33. -/
def Obligations.TarnAperture : Prop :=
  ∀ (s : State) (o : BitVec 26) (n : Nat) (bs : List (Option Byte)) (a : Nat), s.attends = true → s.mem.wf = true →
    let at_ (o : Nat) : Nat :=
      let w := o / 0x1000000
      (if s.flag (F.MEM_AP_CTL_TARGET w) then dramBase else 0) + s.fld (F.MEM_AP_CTL_BASE w) * 0x10000 + o % 0x1000000
    exec (.bar4Read o n) s = .next (s.emit (.bar4Data ((List.range n).map (fun k =>
      if s.present (at_ (o.toNat + k)) 1 then s.mem.read (at_ (o.toNat + k)) else 0)))) ∧
    (o.toNat % 0x1000000 + bs.length ≤ 0x1000000 →
      ((∀ k b, bs[k]? = some (some b) → s.touchesTrump (at_ (o.toNat + k)) 1 = false) →
        ∃ t : State, exec (.bar4Write o bs) s = .next t ∧ t = { s with mem := t.mem } ∧ t.mem.wf = true ∧
          ∀ x, t.mem.read x = (if at_ o.toNat ≤ x ∧ x < at_ o.toNat + bs.length ∧ s.present x 1 = true
            then (bs[x - at_ o.toNat]?).join else none).getD (s.mem.read x)) ∧
      (∀ k b, bs[k]? = some (some b) → s.touchesTrump (at_ (o.toNat + k)) 1 = true →
        ∃ t : State, exec (.bar4Write o bs) s = .next t ∧
          t = { s with regs := t.regs, pba := t.pba, pmc := t.pmc, out := t.out } ∧
          t.fld (F.VLG_TOTAL_COUNT 0) = min (s.fld (F.VLG_TOTAL_COUNT 0) + 1) (2 ^ 32 - 1))) ∧
    (s.working = true → s.glob.mode ≠ .fallback → a < 0x4000000 →
      (∃ t : State, exec (.tarnScrub [a] []) s = .next t ∧
        t = { s with regs := t.regs, pba := t.pba, pmc := t.pmc, out := t.out } ∧
        t.fld F.MEM_ECC_CORR = min (s.fld F.MEM_ECC_CORR + 1) 0xFFFF) ∧
      (∃ t : State, exec (.tarnScrub [] [a]) s = .next t ∧
        t = { s with regs := t.regs, pba := t.pba, pmc := t.pmc, mem := t.mem, dbg := t.dbg, out := t.out,
                     free := t.free } ∧
        (∀ x, x < a / 8 * 8 ∨ a / 8 * 8 + 8 ≤ x → t.mem.read x = s.mem.read x) ∧
        t.fld F.MEM_ECC_UNCORR =
          min (s.fld F.MEM_ECC_UNCORR + 1) 0xFFFF))

/-! ### Beams, sinks and damage -/

/-- R204, R206, R244, R245: the compose beam starts its next line when the scan beam has come within T′ of it and its
object list is whole: it stands at the line's first chunk, composes it with that list, and the evaluation of the line
after starts; otherwise it stays where it is. Other heads and memory stay. R198, R203, R205 to R207, R213: the
evaluation of a line, which starts with the line before, takes the deck as it is at that instant: the list holds the
deck's entries that meet the line, the higher PRIO in front and among equals the lower deck index, and of these the
first 1,024. When it ends the list is whole, and where there were more OVF is set. What the model chooses here is in
log entries 36 and 95. -/
def Obligations.LinesAndObjects : Prop :=
  (∀ (s : State) (n : Fin 6) (scan : Nat), s.beamsRun n = true → (s.head n).queue = [] →
    let h := (s.head n).scanTo scan
    let next := if h.lineOn then h.line + 1 else h.line
    let lead := h.lead next (h.scanNow scan)
    let may : Prop := h.composing = false ∧ next < h.vTotal ∧ lead ≤ h.paceT ∧
      ¬ (h.composes next = true ∧ h.ev.evalLine = some next)
    ∃ t : State, exec (.composeLineStart n scan) s = .next t ∧ t.mem = s.mem ∧ t.trk = s.trk ∧
      (∀ m, m ≠ n → t.head m = s.head m) ∧ (t.head n).frame = h.frame ∧
      (may → (t.head n).line = next ∧ (t.head n).lineOn = true ∧ (t.head n).chunk = 0 ∧
        (t.head n).composing = h.composes next ∧
        (h.composes next = true → (t.head n).ev.objs = h.ev.evalObjs) ∧
        (h.composes (next + 1) = true → s.evaluates n = true → (t.head n).ev.evalLine = some (next + 1))) ∧
      (¬ may → t = s.modHead n (fun _ => h))) ∧
  (∀ (s : State) (n : Fin 6) (scan y : Nat),
    let h := (s.head n).scanTo scan
    let next := if h.lineOn then h.line + 1 else h.line
    let base := bits (s.useReg .OBJ_DECK n 0) 19 0
    let count := min (bits (s.useReg .OBJ_COUNT n 0) 16 0) 65536
    let entry (i : Nat) : ObjSel :=
      let w (k : Nat) : W24 := s.mem.word24 (base * 64) (4 * i + k)
      ⟨i, w 0, w 1, w 2, w 3⟩
    (s.beamsRun n = true → h.queue = [] → s.oldPages = [] → s.mem.wf = true → h.composing = false → next < h.vTotal →
      h.lead next (h.scanNow scan) ≤ h.paceT → ¬ (h.composes next = true ∧ h.ev.evalLine = some next) →
      h.composes (next + 1) = true → s.evaluates n = true → base % 3 = 0 → base * 64 + 12 * count ≤ s.tarnTop →
      ∃ (t : State) (l : List ObjSel), exec (.composeLineStart n scan) s = .next t ∧
        (∀ o, o ∈ l ↔ ∃ i < count, o = entry i ∧
          o.meets (s.useReg .OBJ_OFS n 0) h.info.w h.info.h (next + 1) = true) ∧
        l.Pairwise (fun a b => b.prio < a.prio ∨ (a.prio = b.prio ∧ a.idx < b.idx)) ∧
        (t.head n).ev.evalObjs = l.take 1024 ∧ (t.head n).ev.found.hits = l.length ∧
        (t.head n).ev.evalLine = some (next + 1)) ∧
    (s.alive = true → (s.head n).ev.evalLine = some y → (y ≠ 0 ∨ ((s.head n).line = 0 ∧ (s.head n).lineOn = false)) →
      ∃ t : State, exec (.evaluationEnd n) s = .next t ∧ t.mem = s.mem ∧ (∀ m, m ≠ n → t.head m = s.head m) ∧
        (t.head n).ev = { (s.head n).ev with evalLine := none } ∧
        (1024 < (s.head n).ev.found.hits → t.flag (F.OBJ_STAT_OVF n) = true)))

/-- R199, R241, R247: a chunk of up to 16 pixels is composed and stored in the line's slot of the strip ring, once
scan-out has read the slot, three bytes a pixel with the mask bits behind them; the beam goes on to the next chunk,
and after the last the line is done. Memory outside the slot's chunk keeps its content. What the model chooses here is
in log entries 36 and 96. -/
def Obligations.ComposeChunks : Prop :=
  ∀ (s : State) (n : Fin 6), s.beamsRun n = true → (s.head n).composing = true → (s.head n).queue = [] →
    let h := s.head n
    let c := h.sk.sinkC
    let w := h.info.w
    let x := h.chunk * 16
    let cnt := min 16 (w - x)
    let slot := bits c.ring 19 0 * 64 + h.line % c.lines * ringStride w
    let mask := slot + cdiv (3 * w) 64 * 64 + 2 * h.chunk
    s.slotUnread n = false → h.sk.sinkBad = false → h.path c = 0 → h.sk.wbCur = none → x < w → s.mem.wf = true →
    ∃ t : State, exec (.composeChunk n) s = .next t ∧
      (∀ m, m ≠ n → t.head m = s.head m) ∧ (t.head n).chunk = h.chunk + 1 ∧
      (t.head n).composing = decide (x + 16 < w) ∧ (t.head n).line = h.line ∧ (t.head n).frame = h.frame ∧
      (∀ k < cnt, t.mem.word24 slot (x + k) = (s.composePx n (x + k) h.line).out ∧
        (t.mem.read (mask + k / 8)).getLsbD (k % 8) = (s.composePx n (x + k) h.line).mask) ∧
      ∀ a, ¬ (slot + 3 * x ≤ a ∧ a < slot + 3 * (x + cnt)) → ¬ (mask ≤ a ∧ a < mask + cdiv cnt 8) →
        t.mem.read a = s.mem.read a

/-- R236, R251: the scan beam sends the next chunk as its sink holds it and takes its trump-opaque pixels into the running
check; where the chunk is not written the line underruns: the last pixel sent is repeated to its end, and PACE counts
it once. The beam goes on, from the last chunk to the next line. What the model chooses here is in log entries 35 and
37. -/
def Obligations.ScanChunks : Prop :=
  ∀ (s : State) (n : Fin 6), s.beamsRun n = true →
    let h := s.head n
    let i := h.scanInfo
    let line := h.sc.scanLine
    let x := h.sc.scanPixel
    let cnt := min 16 (i.w - x)
    h.sc.scanReal = true → line < i.h → x < i.w → h.command = false → h.sc.video = true → h.sc.underrun = false →
    let sent (t : State) (ps : List (W24 × Bool)) : Prop :=
      Sends s t (.scan n line x (ps.map (·.1))) ∧ t.mem = s.mem ∧ (∀ m, m ≠ n → t.head m = s.head m) ∧
      (t.head n).sc.scanLine = (if i.w ≤ x + 16 then line + 1 else line) ∧
      (t.head n).sc.scanPixel = (if i.w ≤ x + 16 then 0 else x + 16) ∧
      ((t.head n).sc.crc, (t.head n).sc.crcAny) =
        let r := ps.foldl (sigStep line) (h.sc.crc, h.sc.crcAny, x); (r.1, r.2.1)
    (∀ ps, s.scanRead n line x cnt = some ps → ∃ t : State, exec (.scanChunk n) s = .next t ∧ sent t ps ∧
      (t.head n).sc.underrun = false ∧ t.regs = s.regs) ∧
    (s.scanRead n line x cnt = none → ∃ t : State, exec (.scanChunk n) s = .next t ∧
      sent t (List.replicate cnt (h.sc.lastPix, h.sc.lastMask)) ∧
      (t.head n).sc.underrun = decide (x + 16 < i.w) ∧ t.flag (F.PACE_STAT_UNDER n) = true ∧
      t.fld (F.PACE_UNDER_TOTAL_COUNT n) = min (s.fld (F.PACE_UNDER_TOTAL_COUNT n) + 1) (2 ^ 32 - 1))

/-- R236, R252, R253: a frame tick takes the scan beam of a head alone in its lock group to line 0 of the next frame with
a fresh check, and a composed frame that is not finished is a slip: it is counted and its rest is skipped. R236, R237:
the check compares the CRC-32 of a frame's trump-opaque pixels with TRUMP_SIG: a match lengthens MATCH_RUN and ends
MISS_RUN, a mismatch the reverse; the second in a row sets FAIL with its frame, and FB_EN sends the head to FALLBACK.
What the model chooses here is in log entries 35 and 37. -/
def Obligations.FrameTicksAndChecks : Prop :=
  (∀ (s : State) (n : Fin 6), s.beamsRun n = true → s.tickGroup n = [n] → s.refHead ≠ some n →
    let h := s.head n
    h.blank ≠ .s4 → (h.sc.scanReal = true → h.scanInfo.h ≤ h.sc.scanLine) → h.disableWrapped = false →
    ∃ t : State, exec (.frameTick n) s = .next t.follow ∧ (∀ m, m ≠ n → t.head m = s.head m) ∧ t.mem = s.mem ∧
      (t.head n).sc.scanFrame = h.sc.scanFrame + 1 ∧ (t.head n).sc.scanLine = 0 ∧ (t.head n).sc.scanPixel = 0 ∧
      (t.head n).sc.crc = 0xFFFFFFFF ∧ (t.head n).sc.crcAny = false ∧ (t.head n).sc.checked = false ∧
      (t.head n).sc.sentPrev = h.sc.sentCur ∧ (t.head n).frame = h.frame ∧
      (h.slips = true → (t.head n).skipRest = true ∧ t.flag (F.PACE_STAT_SLIP n) = true ∧
        t.fld (F.PACE_SLIP_TOTAL_COUNT n) = min (s.fld (F.PACE_SLIP_TOTAL_COUNT n) + 1) (2 ^ 32 - 1)) ∧
      (h.slips = false → (t.head n).skipRest = h.skipRest ∧
        t.fld (F.PACE_SLIP_TOTAL_COUNT n) = s.fld (F.PACE_SLIP_TOTAL_COUNT n))) ∧
  (∀ (s : State) (n : Fin 6), s.beamsRun n = true →
    let h := s.head n
    let v : Word := if h.sc.crcAny then ~~~h.sc.crc else 0
    let miss := s.fld (F.TRUMP_STAT_MISS_RUN n)
    let hit := s.fld (F.TRUMP_STAT_MATCH_RUN n)
    h.sc.checked = false → h.sc.scanReal = true → h.scanInfo.h ≤ h.sc.scanLine → h.sc.sentWhole = true →
    s.use (F.TRUMP_CTL_EN n) = 1 →
    ∃ t : State, exec (.trumpSignatureCheck n) s = .next t ∧ (t.head n).sc.checked = true ∧
      t.reg .TRUMP_SIG_LAST n 0 = v ∧ (∀ m, m ≠ n → t.head m = s.head m) ∧ t.mem = s.mem ∧
      (v = h.scanInfo.sig → t.fld (F.TRUMP_STAT_MATCH_RUN n) = min 3 (hit + 1) ∧
        t.fld (F.TRUMP_STAT_MISS_RUN n) = 0 ∧ t.flag (F.TRUMP_STAT_FAIL n) = s.flag (F.TRUMP_STAT_FAIL n)) ∧
      (v ≠ h.scanInfo.sig → t.fld (F.TRUMP_STAT_MATCH_RUN n) = 0 ∧
        t.fld (F.TRUMP_STAT_MISS_RUN n) = min 3 (miss + 1) ∧
        t.fld (F.TRUMP_MISMATCH_COUNT n) = min (s.fld (F.TRUMP_MISMATCH_COUNT n) + 1) (2 ^ 32 - 1) ∧
        t.flag (F.TRUMP_STAT_FAIL n) = (s.flag (F.TRUMP_STAT_FAIL n) || decide (miss = 1)) ∧
        (miss = 1 → t.fld (F.TRUMP_STAT_FAIL_FRAME n) = h.scanInfo.frame.toNat % 2 ^ 24 ∧
          (s.use (F.TRUMP_CTL_FB_EN n) = 1 → h.fb = false →
            (t.head n).fbEnter = true ∧ (t.head n).fbCause = .trump))))

/-- R242, R254, R259, R472: a write-back buffer whose last line is acknowledged becomes LAST; HOLD_LAST adds LAST to the
held buffers and a write of HOLD replaces them; a hold on the buffer being written drops it and counts a skip; DMG_ADD
marks the cells its rectangle touches, or the whole area. -/
def Obligations.BuffersAndDamage : Prop :=
  ∀ (s : State) (n : Fin 6) (k : Fin 4) (v : BitVec 4) (w : Word),
    let h := s.head n
    let others (t : State) : Prop := (∀ m, m ≠ n → t.head m = s.head m) ∧ t.mem = s.mem
    let held (t : State) (mask : Nat) : Prop := others t ∧ t.fld (F.SINK_WB_HOLD_HOLD n) = mask ∧
      RegsKept [RegId.addr .SINK_WB_HOLD n 0, RegId.addr .SINK_STAT n 0] s t ∧
      (let stops : Prop := ∃ c, h.sk.wbCur = some c ∧ h.sk.wb[c].full = false ∧ h.command = false ∧
        mask.testBit c.val = true
       (stops → (t.head n).sk.wbCur = none ∧
        t.fld (F.SINK_STAT_WB_SKIP n) = min (s.fld (F.SINK_STAT_WB_SKIP n) + 1) 0xFFFF) ∧
       (¬ stops → t = { s with regs := t.regs } ∧ t.reg .SINK_STAT n 0 = s.reg .SINK_STAT n 0))
    (s.alive = true → h.sk.wbPrev = some k → h.sk.wb[k].full = false → ∃ t : State,
      exec (.wbBufferComplete n k) s = .next t ∧ others t ∧ (t.head n).sk.wbLast = some k ∧
      (t.head n).sk.wb[k].full = true ∧ (t.head n).sk.wbPrev = none ∧ t.flag (F.SINK_WB_STATUS_VALID n) = true ∧
      t.fld (F.SINK_WB_STATUS_LAST n) = k ∧
      t.fld (F.SINK_WB_STATUS_FRAME n) = h.sk.wb[k].info.frame.toNat % 2 ^ 24) ∧
    (s.attends = true → s.headPresent n = true →
      let at' : BitVec 24 := BitVec.ofNat 24 (RegId.addr .SINK_WB_HOLD n 0)
      let last := s.fld (F.SINK_WB_HOLD_HOLD n) ||| 2 ^ k.val
      (h.sk.wbLast = some k → (∃ t : State, exec (.holdLast n) s = .next t ∧ held t last) ∧
        (w.getLsbD 8 = true → ∃ t : State, exec (.registerWrite (.bar0 at') w 15) s = .next t.follow ∧ held t last)) ∧
      (h.sk.wbLast = none → exec (.holdLast n) s = .next s ∧
        (w.getLsbD 8 = true → exec (.registerWrite (.bar0 at') w 15) s = .next s.follow)) ∧
      (∃ t : State, exec (.holdWrite n v) s = .next t ∧ held t v.toNat) ∧
      (w.getLsbD 8 = false → ∃ t : State, exec (.registerWrite (.bar0 at') w 15) s = .next t.follow ∧
        held t (w.toNat % 16))) ∧
    (s.attends = true → s.headPresent n = true →
      let l := s.fld (F.DMG_X_LEFT n)
      let r := s.fld (F.DMG_X_RIGHT n)
      let top := s.fld (F.DMG_Y_TOP n)
      let b := s.fld (F.DMG_Y_BOTTOM n)
      ∃ t : State, exec (.dmgAddRect n) s = .next t ∧ t = { s with heads := t.heads } ∧ others t ∧
        (t.head n).dmg.whole = h.dmg.whole ∧ ∀ cx cy, (cx, cy) ∈ (t.head n).dmg.cells ↔ (cx, cy) ∈ h.dmg.cells ∨
          ∃ x y, l ≤ x ∧ x ≤ r ∧ x < h.hActive ∧ top ≤ y ∧ y ≤ b ∧ y < h.vActive ∧ cx = x / 256 ∧ cy = y / 16) ∧
    (s.attends = true → s.headPresent n = true → ∃ t : State, exec (.dmgAddAll n) s = .next t ∧
      t = { s with heads := t.heads } ∧ others t ∧ (t.head n).dmg = { h.dmg with whole := true })

/-! ### The trump plane -/

/-- R231, R232: KEY_LO is kept; a right pair opens the session and clears BAD, a wrong one closes it, counts in BAD and
makes a record, the third locks it out; with a rekey armed in an open session the pair becomes the key; CLOSE and the
timeout close the session, REKEY arms it, and the end of the lockout leaves BAD at 2. Nothing else changes. R233,
R238: an accepted ACK clears the head's FAIL, and RELEASE also lets the head leave FALLBACK at its next frame, by a
descriptor of the physical function that completes with DONE or by the SMBus path with RESULT 0; neither writes
another trump field. What the model chooses here is in log entry 71. -/
def Obligations.TrumpSessionAndCommands : Prop :=
  (∀ (s : State) (v hi : Word),
    let isOpen (s : State) : Bool := s.flag F.GLB_TRUMP_SESSION_OPEN
    let lock (s : State) : Bool := s.flag F.GLB_TRUMP_SESSION_LOCKOUT
    let bad (s : State) : Nat := s.fld F.GLB_TRUMP_SESSION_BAD
    let pair : BitVec 64 := hi ++ s.trump.keyLo
    let only (t : State) : Prop := t = { s with regs := t.regs, trump := t.trump } ∧
      RegsKept [RegId.addr .GLB_TRUMP_SESSION 0 0] s t
    (s.attends = true → exec (.trumpKeyLoWrite v) s = .next { s with trump := { s.trump with keyLo := v } }) ∧
    (s.attends = true → lock s = false → ¬ (isOpen s = true ∧ s.trump.armed = true) → pair = s.trump.key →
      ∃ t : State, exec (.keyPresentation hi) s = .next t ∧ only t ∧ isOpen t = true ∧ bad t = 0 ∧
        t.trump = s.trump) ∧
    (s.attends = true → lock s = false → ¬ (isOpen s = true ∧ s.trump.armed = true) → pair ≠ s.trump.key →
      ∃ t : State, exec (.keyPresentation hi) s = .next t ∧ isOpen t = false ∧ bad t = min 3 (bad s + 1) ∧
        (bad t = 3 → lock t = true) ∧ (bad t ≠ 3 → lock t = false) ∧
        t.trump.armed = false ∧ t.trump.key = s.trump.key ∧
        t = { s with regs := t.regs, pba := t.pba, trump := t.trump, dbg := t.dbg, pmc := t.pmc, out := t.out } ∧
        RegsKept (RegId.addr .GLB_TRUMP_SESSION 0 0 :: faultRegs) s t) ∧
    (s.attends = true → lock s = true → ∃ t : State, exec (.keyPresentation hi) s = .next t ∧
      isOpen t = isOpen s ∧ lock t = true ∧ bad t = bad s ∧ t.trump.key = s.trump.key) ∧
    (s.attends = true → lock s = false → isOpen s = true → s.trump.armed = true →
      ∃ t : State, exec (.keyPresentation hi) s = .next t ∧ only t ∧ isOpen t = true ∧
        t.trump = { s.trump with key := pair, armed := false } ∧
        t.flag F.GLB_TRUMP_SESSION_UNPROV = decide (pair = 0)) ∧
    (s.attends = true → ∃ t : State, exec .sessionClose s = .next t ∧ only t ∧ isOpen t = false ∧
      t.trump = { s.trump with armed := false }) ∧
    (s.attends = true → isOpen s = true →
      exec .rekey s = .next { s with trump := { s.trump with armed := true } }) ∧
    (s.alive = true → isOpen s = true → ∃ t : State, exec .sessionTimeout s = .next t ∧ only t ∧ isOpen t = false ∧
      t.trump = { s.trump with armed := false }) ∧
    (s.alive = true → lock s = true → ∃ t : State, exec .lockoutEnd s = .next t ∧ only t ∧ lock t = false ∧
      bad t = 2 ∧ isOpen t = isOpen s ∧ t.trump = s.trump)) ∧
  (∀ (s : State) (n : Fin 6) (h : Hdr),
    let a := RegId.addr .TRUMP_CMD n 0
    let cleared (t : State) : Prop := t.flag (F.TRUMP_STAT_FAIL n) = false ∧
      RegsKept [RegId.addr .TRUMP_STAT n 0, RegId.addr .PMC_OVF 0 0] s t ∧ t.mem = s.mem ∧
      ∀ m, m ≠ n → t.head m = s.head m
    let left : HeadSt := { s.head n with fbLeave := (s.head n).fb, fbEnter := false }
    let smb : Prop := s.attends = true ∧ s.still [] ∧ s.trump.held = some n
    (s.takes 0x03 h (onePair a 1) → h.trick = 0 → ∃ t : State, exec (.trumpAck (.host h) n) s = .next t ∧ cleared t ∧
      t.head n = s.head n ∧ DescFetched s t h ∧ EntryWritten s t h (s.ring h.fn h.ring).fetched 0 0) ∧
    (s.takes 0x03 h (onePair a 2) → h.trick = 0 → ∃ t : State, exec (.trumpRelease (.host h) n) s = .next t ∧
      cleared t ∧ t.head n = left ∧ DescFetched s t h ∧ EntryWritten s t h (s.ring h.fn h.ring).fetched 0 0) ∧
    (smb → s.trumpCmdRefused n 1 = false → ∃ t : State, exec (.trumpAck .smbus n) s = .next t ∧ cleared t ∧
      t.head n = s.head n ∧ t.trump = { s.trump with result := 0 }) ∧
    (smb → s.trumpCmdRefused n 2 = false → ∃ t : State, exec (.trumpRelease .smbus n) s = .next t ∧ cleared t ∧
      t.head n = left ∧ t.trump = { s.trump with result := 0 }) ∧
    (smb → s.trumpCmdRefused n 1 = true →
      exec (.trumpAck .smbus n) s = .next { s with trump := { s.trump with result := 5 } }) ∧
    (smb → s.trumpCmdRefused n 2 = true →
      exec (.trumpRelease .smbus n) s = .next { s with trump := { s.trump with result := 5 } }))

/-- R234, R235: on the SMBus trump path OPEN with the key holds a head, DATA and REG gather a batch, COMMIT stages it,
ABORT and CLOSE discard it, CLOSE and the lease let the head go, STATUS answers 16 bytes; a command with a bad PEC
changes only the count of such failures. What the model chooses here is in log entry 71. -/
def Obligations.TrumpPath : Prop :=
  ∀ (s : State) (key : BitVec 64) (b : Byte) (n : Fin 6) (off : BitVec 24) (data : List Byte) (v : Word) (k : Trick),
    let awake : Prop := s.attends = true
    let mine : Prop := s.attends = true ∧ s.trump.held = some n
    let batch : Prop := s.trump.batch = some k.key ∧ s.trick k.key = some k ∧ k.phase = .opened
    let gone (t : State) : Prop := t.trick k.key = none ∧ t.trump.batch = none ∧ t.trump.region = none
    (awake → s.flag F.GLB_TRUMP_SESSION_LOCKOUT = false → key = s.trump.key → b.toNat = n.val →
      s.headPresent n = true → ∃ t : State, exec (.tpOpen true key b) s = .next t.follow ∧ t.mem = s.mem ∧
        t.heads = s.heads ∧ t.trump = { s.trump with
          held := some n, revoked := false, result := 0, batch := none, region := none }) ∧
    (awake → s.flag F.GLB_TRUMP_SESSION_LOCKOUT = false → key ≠ s.trump.key →
      ∃ t : State, exec (.tpOpen true key b) s = .next t.follow ∧ t.trump.held = s.trump.held ∧ t.trump.result = 1 ∧
        t.fld F.GLB_TRUMP_SESSION_BAD = min 3 (s.fld F.GLB_TRUMP_SESSION_BAD + 1)) ∧
    (let g := s.trumpRegion n
     let a := cdiv g.1 192 * 192 + off.toNat
     mine → batch → s.trump.region = none → a + data.length ≤ g.2 → s.mem.wf = true →
      (∀ q ∈ k.pages, q.img.wf = true) → s.poolGrant k (k.lacks [(a, data)]).length = .ok →
      ∃ (t : State) (k' : Trick), exec (.tpData true off data) s = .next t.follow ∧ t.mem = s.mem ∧
        t.trump = { s.trump with result := 0 } ∧ t.trick k.key = some k' ∧
        ∀ x, t.trickRead k' x = (if a ≤ x ∧ x < a + data.length then data[x - a]? else none).getD (s.trickRead k x)) ∧
    (mine → batch → k.writes.length < 4096 → ∃ t : State, exec (.tpReg true 2 v) s = .next t.follow ∧
      t.regs = s.regs ∧ t.trick k.key = some { k with
        writes := k.writes ++ [⟨.TRUMP_POS, n, 0, v, (RegId.TRUMP_POS).row.rw⟩] } ∧
      t.trump = { s.trump with result := 0 }) ∧
    (mine → batch → k.wall = false → s.stagedCount < 16 → ∃ (t : State) (k' : Trick),
      exec (.tpCommit true) s = .next t.follow ∧ t.trick k.key = some k' ∧ k'.phase = .staged ∧
      k'.writes = k.writes ∧ k'.pages = k.pages ∧ k'.anchor = s.anchorOf k ∧
      t.trump = { s.trump with batch := none, region := none, result := 0 }) ∧
    (mine → batch → ∃ t : State, exec (.tpAbort true) s = .next t.follow ∧ gone t ∧
      t.trump.held = some n ∧ t.trump.result = 0 ∧ t.regs = s.regs ∧ t.mem = s.mem) ∧
    (mine → batch → ∃ t : State, exec (.tpClose true) s = .next t.follow ∧ gone t ∧ t.trump.held = none ∧
      t.trump.result = 0 ∧ t.regs = s.regs ∧ t.mem = s.mem) ∧
    (mine → s.tpCommitting = false → s.trump.revoked = false → ∃ t : State, exec (.tpStatus true) s = .next t ∧
      t = { s with out := t.out, free := t.free } ∧
      t.out = s.out ++ [.smb (leBytes 1 1 ++ leBytes 1 s.trump.result ++ leBytes 1 s.trump.pecFails ++
        leBytes 1 n.val ++ (leBytes 4 (putBits (s.reg .TRUMP_STAT n 0) 28 28 1).toNat ++
        (leBytes 4 (s.reg .TRUMP_SIG_LAST n 0).toNat ++ leBytes 4 (s.head n).frame.toNat)))]) ∧
    (mine → batch → ∃ t : State, exec .tpLeaseExpiry s = .next t.follow ∧ gone t ∧ t.trump.held = none ∧
      t.trump.revoked = true ∧ t.mem = s.mem ∧ RegsKept faultRegs s t) ∧
    (awake → exec (.tpCommit false) s =
      .next ({ s with trump := { s.trump with pecFails := min 255 (s.trump.pecFails + 1) } }).follow)

/-! ### Links -/

/-- R304, R305, R310: a blanking change ends the video and stops the beams; after the relock the new timing set is in
force and the link trains where it must, or the blank frame begins; a trained link goes on to the blank frame, a
failed attempt is counted and repeated three times at once and then after 1 s. Other heads and memory stay. What the
model chooses here is in log entry 38. -/
def Obligations.BlankingSteps : Prop :=
  ∀ (s : State) (n : Fin 6), s.alive = true →
    let h := s.head n
    let others (t : State) : Prop := (∀ m, m ≠ n → t.head m = s.head m) ∧ t.mem = s.mem
    let trains (t : State) : Prop := (t.head n).dp.training = true ∧ (t.head n).dp.trained = false ∧ Sends s t (.train n)
    let blank (t : State) : Prop := (t.head n).blank = .s4 ∧ (t.head n).frame = h.frame + 1 ∧
      (t.head n).beams = true ∧ (t.head n).sc.scanReal = false ∧ (t.head n).sc.scanFrame = h.frame + 1
    let ready : Prop := h.dp.hpd = true ∧ h.enabled = true ∧ h.ts.isSome = true ∧ h.sinkReason = 0 ∧
      s.glob.mode ≠ .slumber
    let alone : Prop := ∀ m, m ≠ n → (s.head m).blank = .none
    (h.beams = true → h.noWrap = true → (h.sc.scanReal = true → h.scanInfo.h ≤ h.sc.scanLine) →
      ∃ t : State, exec (.blankingChangeStart n) s = .next t.follow ∧ t.mem = s.mem ∧
        ∀ k, if k = n ∨ k ∈ s.lockGroup n ∧ (s.head k).noWrap = true
          then (t.head k).blank = .s1 ∧ (t.head k).beams = false ∧ (t.head k).composing = false ∧
            (t.head k).sc.video = false
          else t.head k = s.head k) ∧
    (h.blank = .s1 ∨ h.blank = .s2 → alone → h.dp.needTrain = false → h.dp.trained = true → h.dp.training = false →
      ∃ t : State, exec (.pgclkRelock n) s = .next t.follow ∧ others t ∧ blank t) ∧
    (h.blank = .s1 ∨ h.blank = .s2 → alone → h.dp.trained = false → ready → h.tsNext = none →
      ∃ t : State, exec (.pgclkRelock n) s = .next t.follow ∧ others t ∧ (t.head n).blank = .s3 ∧ trains t) ∧
    (h.blank = .s1 ∨ h.blank = .s2 → alone → h.tsNext ≠ none →
      ∃ t : State, exec (.pgclkRelock n) s = .next t.follow ∧ others t ∧ (t.head n).ts = h.tsNext) ∧
    (h.dp.training = true → h.blank = .s3 → alone → ∃ t : State,
      exec (.linkTrainingDone n true) s = .next t.follow ∧ others t ∧ blank t ∧ (t.head n).dp.trained = true ∧
      (t.head n).dp.training = false) ∧
    (h.dp.training = true → h.blank ≠ .s3 → ∃ t : State,
      exec (.linkTrainingDone n true) s = .next t.follow ∧ others t ∧ (t.head n).dp.trained = true ∧
      (t.head n).dp.training = false ∧ (t.head n).dmg.whole = true) ∧
    (h.dp.training = true → h.blank = .none → ready → ∃ t : State,
      exec (.linkTrainingDone n false) s = .next t.follow ∧ others t ∧ (t.head n).dp.trained = false ∧
      (t.head n).dp.retries = h.dp.retries + 1 ∧
      t.fld (F.DP_ERR_TRAIN_FAIL n) = min (s.fld (F.DP_ERR_TRAIN_FAIL n) + 1) 255 ∧
      (h.dp.retries < 3 → trains t) ∧
      (3 ≤ h.dp.retries → (t.head n).dp.training = false ∧ (t.head n).dp.retryWait = true)) ∧
    (h.dp.retryWait = true → ready → ∃ t : State, exec (.trainingRetry n) s = .next t ∧ others t ∧ trains t ∧
      (t.head n).dp.retryWait = false) ∧
    (h.beams = true → h.blank = .s4 → alone → h.noWrap = false → s.anchorBusy n = false → h.vTotal ≤ h.line + 1 →
      h.lineOn = true → h.composing = false →
      ∃ t : State, exec (.compositionRestart n) s = .next t.follow ∧ others t ∧ (t.head n).blank = .s5 ∧
        (t.head n).line = 0 ∧ (t.head n).lineOn = false ∧
        ((h.lockFree = true ∨ ∃ ts, h.ts = some ts ∧ s.lockLeader ts = none) → (t.head n).frame = h.frame + 1))

/-- R309, R310, R312: a sink that is plugged in is noted with its capabilities and its link trains; the ninth plug in a
second is ignored and counted; an unplugged sink is absent and the video ends; a lost link, however it is seen, is
counted and trained again, RETRAIN likewise without a count. Other heads and memory stay. What the model chooses here
is in log entry 72. -/
def Obligations.SinkEvents : Prop :=
  ∀ (s : State) (n : Fin 6) (c : SinkCaps), s.attends = true →
    let h := s.head n
    let others (t : State) : Prop := (∀ m, m ≠ n → t.head m = s.head m) ∧ t.mem = s.mem
    let trains (t : State) : Prop := (t.head n).dp.training = true ∧ (t.head n).dp.trained = false ∧ Sends s t (.train n)
    let ready : Prop := h.dp.hpd = true ∧ h.enabled = true ∧ h.ts.isSome = true ∧ h.sinkReason = 0
    let lost (t : State) : Prop := others t ∧ trains t ∧ (t.head n).sc.video = false ∧ (t.head n).dp.retries = 0 ∧
      t.fld (F.DP_ERR_LINK_LOSS n) = min (s.fld (F.DP_ERR_LINK_LOSS n) + 1) 255
    (s.headPresent n = true → h.dp.hpd = false → h.dp.hpdIgnored = false → c.bad = false →
      h.dp.plugTimes.length < 8 → ∃ t : State, exec (.hpdPlug n c) s = .next t.follow ∧ others t ∧
        (t.head n).dp.hpd = true ∧ (t.head n).dp.sinkRate = c.rate.toNat ∧ (t.head n).dp.sinkLanes = c.lanes.toNat ∧
        (t.head n).dp.prSu = c.prSu ∧
        (∀ ts, h.ts = some ts → h.enabled = true → ts.rate ≤ c.rate.toNat → ts.lanes ≤ c.lanes.toNat → trains t)) ∧
    (s.headPresent n = true → h.dp.hpd = false → h.dp.hpdIgnored = false → 8 ≤ h.dp.plugTimes.length →
      (∀ x ∈ h.dp.plugTimes, s.clock < x + 1000 * perMs) → ∃ t : State, exec (.hpdPlug n c) s = .next t.follow ∧
        others t ∧ (t.head n).dp.hpd = false ∧ (t.head n).dp.hpdIgnored = true ∧
        t.fld (F.DP_ERR_HPD_BOUNCE n) = min (s.fld (F.DP_ERR_HPD_BOUNCE n) + 1) 255) ∧
    (h.dp.hpd = true → (∀ m, m ≠ n → (s.head m).blank = .s3 → (s.head m).dp.training = true) →
      ∃ t : State, exec (.hpdUnplug n) s = .next t.follow ∧ t.mem = s.mem ∧ (∀ m, m ≠ n → t.head m = s.head m) ∧
      (t.head n).dp.hpd = false ∧ (t.head n).dp.trained = false ∧ (t.head n).sc.video = false ∧
      (t.head n).dp.training = false) ∧
    (ready → h.dp.trained = true → ∃ t : State, exec (.irqHpd n true) s = .next t ∧ lost t) ∧
    (ready → h.dp.trained = true → ∃ t : State, exec (.linkLoss n) s = .next t ∧ lost t) ∧
    (exec (.irqHpd n false) s = .next s) ∧
    (s.headPresent n = true → ready → ∃ t : State, exec (.retrain n) s = .next t ∧ others t ∧ trains t ∧
      (t.head n).sc.video = false ∧ t.reg .DP_ERR n 0 = s.reg .DP_ERR n 0) ∧
    exec (.hpdBounceEnd n) s = .next (s.modDp n (fun d => { d with hpdIgnored := false, plugTimes := [] }))

/-- R311, R312: an AUX command starts its transaction and sets BUSY, unless one is in progress, the device refuses it, the
sink is absent or a storm suspends the channel; a reply ends it with its result, a DEFER or a timeout is repeated up
to seven and two times; the end of a storm lets transactions run again. What the model chooses here is in log entry
72. -/
def Obligations.AuxChannel : Prop :=
  ∀ (s : State) (n : Fin 6) (len : Fin 16) (addr : BitVec 20) (middle : Bool) (a : Aux) (bs : List Byte),
    s.attends = true → s.headPresent n = true →
    let h := s.head n
    let d := (List.range 4).flatMap (fun k => leBytes 4 (s.reg .DP_AUX_DATA n k).toNat)
    let others (t : State) : Prop := (∀ m, m ≠ n → t.head m = s.head m) ∧ t.mem = s.mem
    let busy (t : State) : Bool := t.flag (F.DP_AUX_STAT_BUSY n)
    let aux (t : State) : Option Aux := (t.head n).dp.aux
    let ended (t : State) (result bytes : Nat) : Prop := others t ∧ busy t = false ∧ aux t = none ∧
      t.fld (F.DP_AUX_STAT_RESULT n) = result ∧ t.fld (F.DP_AUX_STAT_BYTES n) = bytes
    let free (req : Nat) : Prop := busy s = false ∧ auxRefused req addr.toNat (len.val + 1) = false
    let taken (t : State) (req : Nat) (out : List Byte) : Prop := if h.dp.hpd = false then ended t 5 0 ∧ t.out = s.out
      else if h.dp.auxSuspended = true then ended t 4 0 ∧ t.out = s.out
      else others t ∧ busy t = true ∧ aux t = some { req := req, len := len.val + 1, addr := addr.toNat } ∧
        t.out = s.out ++ (if h.dp.training then [] else [.aux n req addr.toNat out])
    let runs : Prop := aux s = some a ∧ a.waiting = false ∧ h.dp.training = false
    (free 0 → ∃ t : State, exec (.auxNativeWrite n len addr) s = .next t ∧ taken t 0 (d.take (len.val + 1))) ∧
    (free 1 → ∃ t : State, exec (.auxNativeRead n len addr) s = .next t ∧ taken t 1 []) ∧
    (free (if middle then 4 else 2) → ∃ t : State, exec (.auxI2cWrite n middle len addr) s = .next t ∧
      taken t (if middle then 4 else 2) (d.take (len.val + 1))) ∧
    (free (if middle then 5 else 3) → ∃ t : State, exec (.auxI2cRead n middle len addr) s = .next t ∧
      taken t (if middle then 5 else 3) []) ∧
    (busy s = false → addr.toNat ≤ 0x600 → 0x600 < addr.toNat + (len.val + 1) →
      ∃ t : State, exec (.auxNativeWrite n len addr) s = .next t ∧ ended t 6 0 ∧ t.out = s.out) ∧
    (busy s = true → exec (.auxNativeRead n len addr) s = .next s) ∧
    (runs → a.req = 0 → ∃ t : State, exec (.auxReply n (.ack bs)) s = .next t ∧ ended t 0 (a.len % 32)) ∧
    (runs → a.req = 1 → bs.length = 16 → a.len = 16 → ∃ t : State, exec (.auxReply n (.ack bs)) s = .next t ∧
      ended t 0 16 ∧ ∀ k < 4, t.reg .DP_AUX_DATA n k = BitVec.ofNat 32 (ofLe ((bs.drop (4 * k)).take 4))) ∧
    (runs → ∃ t : State, exec (.auxReply n .nak) s = .next t ∧ ended t 1 0) ∧
    (runs → a.defers < 7 → exec (.auxReply n .defer) s =
      .next (s.modDp n (fun d => { d with aux := some { a with defers := a.defers + 1, waiting := true } }))) ∧
    (runs → 7 ≤ a.defers → ∃ t : State, exec (.auxReply n .defer) s = .next t ∧ ended t 2 0) ∧
    (runs → a.timeouts < 2 → exec (.auxReply n .timeout) s =
      .next (s.modDp n (fun d => { d with aux := some { a with timeouts := a.timeouts + 1, waiting := true } }))) ∧
    (runs → 2 ≤ a.timeouts → ∃ t : State, exec (.auxReply n .timeout) s = .next t ∧ ended t 3 0) ∧
    (aux s = some a → a.waiting = true → h.dp.training = false → a.req = 1 → exec (.auxRetry n) s = .next
      ((s.modDp n (fun d => { d with aux := some { a with waiting := false } })).emit (.aux n 1 a.addr []))) ∧
    exec (.auxStormEnd n) s = .next (s.modDp n (fun d => { d with auxSuspended := false, auxFails := [] }))

/-! ### Sound -/

/-- R347, R349, R353: a tick of a running domain is counted and hands on its sample; a sample not ready four ticks after
its own counts in AUD_DOMd_UNDER and sets UNDER; a voice's phase moves on by its pitch; a standing domain takes no
tick. The bytes of a player's read join its buffer; a failed read is reported and completes the buffer. R351, R367,
R368, R371, R373: AUD_RAMP_SET is kept for its slot's next sample, at which an event for a slot the program does not
declare, or declares ROUTE, is ignored and counted, as is one for domain 3 at once; AUD_COEF_SET changes one
coefficient of the active bank at the next sample; a sink quiet for its HOLD falls silent; a capture ring writes its
total and sends its vector. Without GO, or without EN, nothing happens. What the model chooses here is in log entries
43, 45 and 46. -/
def Obligations.AudioTicksAndControls : Prop :=
  (∀ (s : State) (d : Fin 3) (ins : List (Nat × W24)) (p : Fin 16) (b : PlayBuf) (bs : List Byte) (a : BitVec 64),
    s.alive = true →
    let m := s.dm d
    let c : Instr := .audioSampleTick d true ins
    let ready : Prop := ∃ e ∈ m.done, e.1 = m.tick - 4
    let reads (t : State) (f : PlayBuf → List Byte × Bool) : Prop :=
      (t.play p).bufs.map (fun x => (x.slot, x.data, x.bad)) =
        (s.play p).bufs.map (fun x => (x.slot, if x.slot = b.slot then f x else (x.data, x.bad))) ∧
      (∀ q, q ≠ p → t.play q = s.play q) ∧ t.mem = s.mem
    (m.run = false → exec c s = .next s.follow) ∧
    (m.run = true → ∃ t : State, exec c s = .next t.follow ∧ (t.dm d).tick = m.tick + 1 ∧ (t.dm d).run = true ∧
      t.mem = s.mem ∧
      (4 ≤ m.tick → ¬ ready → t.flag (F.AUD_DOM_STAT_UNDER d) = true ∧
        t.fld (F.AUD_DOM_UNDER_COUNT d) = min (s.fld (F.AUD_DOM_UNDER_COUNT d) + 1) (2 ^ 32 - 1)) ∧
      (4 ≤ m.tick → ready → t.reg .AUD_DOM_UNDER d 0 = s.reg .AUD_DOM_UNDER d 0) ∧
      (d = 0 → s.keys = [] → ∀ v < 64, (t.voice v).phase =
        (s.voice v).phase + BitVec.ofNat 32 (s.use (F.VOICE_PITCH_PITCH v) * 256))) ∧
    ((s.play p).bufs.find? (fun x => decide (0 < x.asked)) = some b → ((s.play p).bufs.map (·.slot)).Nodup →
      (bs.length = b.asked → ∃ t : State, exec (.playerReadDone p (.ok bs)) s = .next t.follow ∧
        reads t (fun x => (x.data ++ bs, x.bad))) ∧
      (∀ x, s.slot b.slot = some x → (s.ring x.hdr.fn x.hdr.ring).held = [] →
        (s.ring x.hdr.fn x.hdr.ring).hasRoom = true →
        ∃ t : State, exec (.playerReadDone p (.busError a)) s = .next t.follow ∧ Sends s t .aer ∧
          reads t (fun x => (x.data, true)) ∧ t.slot b.slot = none))) ∧
  (∀ (s : State) (d : Fin 3) (slot : Fin 256) (k : BitVec 10) (w : Word) (x : Fin 17) (r : Fin 8) (v : Option Int),
    s.attends = true →
    let ramp (d : Nat) : Word := BitVec.ofNat 32 (2 ^ 31 + d * 2 ^ 24 + slot.val * 2 ^ 16)
    let coef : Word := BitVec.ofNat 32 (2 ^ 31 + d.val * 2 ^ 24 + k.toNat)
    let m := s.dm d
    let known : Bool := m.ramps.any (fun e => e.decl.slot = slot.val && !e.decl.route)
    let counted (t : State) : Prop := t.fld F.AUD_STAT_KEY_IGN = min (s.fld F.AUD_STAT_KEY_IGN + 1) 0xFFFF
    exec (.rampSet (ramp d.val)) s = .next (s.modDom d (fun m => { m with
      rampW := m.rampW ++ [⟨slot.val, some (signed 24 (s.fld F.AUD_RAMP_VAL_VAL))⟩] })) ∧
    (∃ t : State, exec (.rampSet (ramp 3)) s = .next t ∧ t = { s with regs := t.regs } ∧
      RegsKept [RegId.addr .AUD_STAT 0 0] s t ∧ counted t) ∧
    (m.run = true → m.pc = none → m.owed = [] → m.pend = none → m.rampW = [⟨slot.val, v⟩] → s.keys = [] →
      ∃ t : State, exec (.audioSampleTick d true []) s = .next t.follow ∧ (t.dm d).rampW = [] ∧
        (if known then t.reg .AUD_STAT 0 0 = s.reg .AUD_STAT 0 0 else counted t)) ∧
    exec (.coefSet coef) s = .next (s.modDom d (fun m => { m with
      coefW := m.coefW ++ [(k.toNat, BitVec.ofNat 24 (s.fld F.AUD_COEF_VAL_VAL))] })) ∧
    (w.getLsbD 31 = false → exec (.rampSet w) s = .next s ∧ exec (.coefSet w) s = .next s) ∧
    (s.flag (F.SINK_SIL_EN x) = true → (s.asink x).quiet = true → s.sinkDomain x ≠ 3 →
      ∃ t : State, exec (.sinkSilent x) s = .next t ∧ t = { s.modSink x (fun y => { y with silent := true }) with
        regs := t.regs } ∧ RegsKept [RegId.addr .ASINK_STAT x 0] s t ∧ t.flag (F.ASINK_STAT_SILENT x) = true) ∧
    (s.flag (F.SINK_SIL_EN x) = false ∨ (s.asink x).quiet = false → exec (.sinkSilent x) s = .next s) ∧
    (s.flag (F.CAP_CTL_EN r) = true → ∃ t : State, exec (.capturePeriod r) s = .next t ∧ Counted s t ∧
      Sends s t (.hostWrite (s.fld (F.CAP_REC_LO_ADDR r) * 8 + s.fld (F.CAP_REC_HI_ADDR r) * 2 ^ 32)
        (leBytes 8 s.aud.capTotal[r]))) ∧
    (s.flag (F.CAP_CTL_EN r) = false → exec (.capturePeriod r) s = .next s))

/-- R374, R375: a plug sets PLUGGED and mutes the DAC; its classification gives TYPE and MIC_CLASS by the two measured
resistances and unmutes the DAC; pulling the plug clears all of HS_STAT but its events; a resistance of the microphone
line that is stable for 20 ms in a button's range presses it, and another one releases what was pressed. Each sets its
bit of EVENT and sends HS_IRQ's vector, and no other register changes but PMC_OVF. What the model chooses here is in
log entries 47 and 93. -/
def Obligations.Headset : Prop :=
  ∀ (s : State) (c o b ms : Nat), s.attends = true → s.hsOn = true →
    let stat (t : State) : Bool × Nat × Nat × Nat :=
      (t.flag F.HS_STAT_PLUGGED, t.fld F.HS_STAT_TYPE, t.fld F.HS_STAT_MIC_CLASS, t.fld F.HS_STAT_BUTTONS)
    let irq := s.reg .HS_IRQ 0 0
    let did (t : State) (hs : HsSt) (k : Nat) (st : Bool × Nat × Nat × Nat) (u : State) : Prop := t.aud.hs = hs ∧
      t = { s with regs := t.regs, pba := t.pba, pmc := t.pmc, out := t.out
                   aud := { s.aud with hs := hs, sink := t.aud.sink } } ∧
      RegsKept [RegId.addr .HS_STAT 0 0, RegId.addr .PMC_OVF 0 0] s t ∧ stat t = st ∧
      t.fld F.HS_STAT_EVENT = s.fld F.HS_STAT_EVENT ||| 2 ^ k ∧
      t.out = u.out ∧ t.pba = u.pba ∧ ∀ x : Fin 17, x.val ≠ 8 → t.asink x = s.asink x
    let now := stat s
    let held := now.2.2.2
    let hs := s.aud.hs
    let one := s.signal irq
    let mic (r : Nat) : Nat := if r < 1200 then 1 else if r < 2400 then 2 else 3
    let inRange (r : Nat) : Prop := 600 ≤ r ∧ r ≤ 10000
    let key (r : Nat) : Nat := if r < 70 then 1 else if 110 ≤ r ∧ r ≤ 180 then 2 else if 210 ≤ r ∧ r ≤ 290 then 4
      else if 360 ≤ r ∧ r ≤ 680 then 8 else 0
    let armed : Prop := now.2.1 = 2 ∨ now.2.1 = 3
    let typed (t : State) (ty cl : Nat) : Prop :=
      did t { hs with typing := false, dacMute := false } 2 (now.1, ty, cl, held) one
    let loose : HsSt := { hs with micHold := msSamples 20 (s.dm 1).num (max 1 (s.dm 1).den) }
    (now.1 = false → ∃ t : State, exec .headsetPlug s = .next t ∧
      did t { hs with typing := true, dacMute := true } 0 (true, now.2) one) ∧
    (now.1 = true → exec .headsetPlug s = .next s) ∧
    (hs.typing = true → ∃ t : State, exec (.typeDone c o) s = .next t ∧ (c < 200 → o < 200 → typed t 1 0) ∧
      (inRange c → typed t 2 (mic c)) ∧ (¬ inRange c → inRange o → typed t 3 (mic o)) ∧
      (¬ inRange c → ¬ inRange o → ¬ (c < 200 ∧ o < 200) → typed t 5 0)) ∧
    (now.1 = true → ∃ t : State, exec .headsetUnplug s = .next t ∧
      did t { hs with typing := false, dacMute := true } 1 (false, 0, 0, 0) one) ∧
    (now.1 = false → exec .headsetUnplug s = .next s) ∧
    (20 ≤ ms → armed → held ≠ key b → held = 0 ∨ key b = 0 → ∃ t : State, exec (.button b ms) s = .next t ∧
      did t (if held = 0 then hs else loose) 3 (now.1, now.2.1, now.2.2.1, key b) one) ∧
    (20 ≤ ms → armed → held ≠ key b → held ≠ 0 → key b ≠ 0 → ∃ t : State, exec (.button b ms) s = .next t ∧
      did t loose 3 (now.1, now.2.1, now.2.2.1, key b) (one.signal irq)) ∧
    (ms < 20 ∨ ¬ armed ∨ held = key b → exec (.button b ms) s = .next s)

/-! ### Causeway -/

/-- R24, R379, R380, R382, R385: a port trains from DOWN over LOCK, HELLO and MEASURE to ACTIVE: at each step it takes up
the state after and sends what the step sends, 256 probes in all, and its latency is the mean rounded to one of the
two values around it; the child of a port takes its path from its parent; a child too deep, and one whose ID another
hand holds, is told so; a failed attempt ends in DOWN. What the model chooses here is in log entries 51 and 52. -/
def Obligations.PortTraining : Prop :=
  ∀ (s : State) (p : Fin 5) (ok dealer : Bool) (id : BitVec 14) (path : BitVec 17) (st : BitVec 4) (l : BitVec 16)
    (turn : BitVec 24) (rtt : Nat), s.alive = true →
    let c := s.cport p
    let may := s.portMayTrain p
    let mean : Int := c.sum + 512 * signed 16 (s.fld (F.CWY_PORT_CTL_HOP_TRIM p))
    let measures (t : State) (peer : Nat) : Prop := (t.cport p).run = .measure ∧ (t.cport p).peer = peer ∧
      (t.cport p).probes = 0 ∧ (t.cport p).sum = 0 ∧ Sends s t (.cwy p .probe)
    let depth := path.toNat / 16384
    let taken : Prop := id ≠ 0 ∧ ∃ h ∈ s.cwy.hands, h.1 = id.toNat ∧ h.2.2 = true ∧ h.2.1 ≠ s.childPath p
    (may = true → c.run = .down → exec (.portRetrain p) s = .next (s.modPort p (fun c => { c with run := .lock }))) ∧
    (may = false ∨ c.run ≠ .down → exec (.portRetrain p) s = .next s) ∧
    (may = true → c.run = .lock → s.sleeping = false → ∃ t : State, exec (.portBlockLock p) s = .next t ∧
      (t.cport p).run = .hello ∧ Sends s t (.cwy p (.pkt 0 (.hello s.dealer s.cwyId
        (if p = 0 then s.cwyPath else s.childPath p) s.part.unitPresent s.cwyState)))) ∧
    (c.run = .hello → l.toNat = c.rx → p = 0 → 1 ≤ depth → depth ≤ 7 → (dealer = true → id = 0) → ∃ t : State,
      exec (.cwyHello p l dealer id path st) s = .next t.follow ∧ measures t id.toNat ∧ t.fld F.CWY_ID_PATH = path.toNat ∧
      t.cwy.state = if st = 5 then 5 else if s.cwyId = 0 then 4 else 1) ∧
    (c.run = .hello → l.toNat = c.rx → p ≠ 0 → dealer = false → s.childPath p / 16384 < 8 →
      ∃ t : State, exec (.cwyHello p l dealer id path st) s = .next t.follow ∧
        if s.dealer = true ∧ taken then measures t 0 ∧ ∃ k, Sends s t (.cwy p (.pkt k (.hello s.dealer s.cwyId
          (s.childPath p) s.part.unitPresent 5))) else measures t id.toNat) ∧
    (c.run = .hello → l.toNat = c.rx → p ≠ 0 → dealer = false → 8 ≤ s.childPath p / 16384 →
      ∃ t : State, exec (.cwyHello p l dealer id path st) s = .next t.follow ∧ (t.cport p).run = .tooDeep) ∧
    (c.run = .hello → l.toNat = c.rx → p ≠ 0 → dealer = true →
      ∃ t : State, exec (.cwyHello p l dealer id path st) s = .next t.follow ∧ (t.cport p).run = .down) ∧
    (c.run = .measure → c.probes < 255 → exec (.cwyEcho p turn rtt) s = .next ((s.modPort p (fun c =>
      { c with probes := c.probes + 1, sum := c.sum + ((rtt : Int) - turn.toNat) })).emit (.cwy p .probe))) ∧
    (c.run = .measure → c.probes = 255 → exec (.cwyEcho p turn rtt) s = .next (s.modPort p (fun c =>
      { c with probes := 256, sum := c.sum + ((rtt : Int) - turn.toNat) }))) ∧
    (c.run = .measure → 256 ≤ c.probes → ∃ t : State, exec (.measureDone p ok) s = .next t ∧
      (t.cport p).run = .active ∧
      (0 ≤ mean → mean / 512 + 1 < 2 ^ 24 → t.fld (F.CWY_PORT_LAT_L p) = (mean / 512).toNat ∨
        (mean % 512 ≠ 0 ∧ t.fld (F.CWY_PORT_LAT_L p) = (mean / 512).toNat + 1)) ∧
      (p = 0 → ok = true → t.glob.tracking = true ∧ t.fld F.GLB_CLK_STATUS_ROOT_SRC = 2) ∧
      (p = 0 → ok = false → t.glob.tracking = s.glob.tracking ∧ t.flag F.CWY_STAT_FREQ_ERR = true)) ∧
    (c.run = .lock ∨ c.run = .hello ∨ c.run = .measure → exec (.trainingFailure p) s = .next
      ((s.modPort p (fun c => { run := .down, bads := c.bads, leaves := c.leaves })).modCwy
        (fun y => { y with state := if p = 0 then 0 else y.state }))) ∧
    (c.run = .held → exec (.flapHoldEnd p) s =
      .next (s.modPort p (fun c => { c with run := if may then .lock else .down })))

/-- R382 to R384, R389, R397, R398: an ACK frees what it covers; a NAK, or the replay timeout, sends all that is left
again in its order; a packet that fails its CRC is answered with a NAK, and too many of them, or of bad tokens, end
the link; PROBE is answered with ECHO; the loss of block lock leaves ACTIVE for DOWN, or for a held port where that
happens too often, and a child lost so is benched. What the model chooses here is in log entries 51 and 57. -/
def Obligations.PortTraffic : Prop :=
  ∀ (s : State) (p : Fin 5) (l : BitVec 16) (ts : BitVec 48) (turn : BitVec 24), s.alive = true →
    let c := s.cport p
    let recent (times : List Nat) (ms : Nat) : List Nat := times.filter (fun t => s.clock < t + ms * perMs)
    let kept (n : Nat) : List (Nat × Pkt) := c.replay.filter (fun e => !((n + 65536 - e.1) % 65536 < 32768))
    let again (t : State) (r : List (Nat × Pkt)) : Prop := Counted (s.modPort p (fun c => { c with replay := r })) t ∧
      (s.out ++ r.map (fun e => Out.cwy p (.pkt e.1 e.2))).Sublist t.out
    let left (t : State) : Prop := (t.cport p).run = .down ∨ (t.cport p).run = .held
    (c.passes = true → c.fwd = [] → exec (.cwyAck p l) s =
      .next (s.modPort p (fun c => { c with replay := kept l.toNat }))) ∧
    (c.passes = true → c.fwd = [] → ∃ t : State, exec (.cwyNak p l) s = .next t ∧
      again t (kept ((l.toNat + 65535) % 65536))) ∧
    (c.passes = true → ∃ t : State, exec (.replayTimeout p) s = .next t ∧ again t c.replay) ∧
    (c.passes = true → exec (.ackInterval p) s = .next (s.emit (.cwy p (.ack ((c.rx + 65535) % 65536))))) ∧
    (c.run = .measure ∨ c.run = .active ∨ c.run = .hello → exec (.cwyProbe p ts turn) s =
      .next (s.emit (.cwy p (.echo turn.toNat (ts.toNat % 2 ^ 24))))) ∧
    (c.passes = true → (recent c.naks 1).length < 16 → exec (.packetCrcFailure p) s =
      .next ((s.emit (.cwy p (.nak c.rx))).modPort p (fun c =>
        { c with nakked := true, naks := s.clock :: recent c.naks 1 })).follow) ∧
    (c.passes = true → 16 ≤ (recent c.naks 1).length → ∃ t : State, exec (.packetCrcFailure p) s = .next t.follow ∧
      left t ∧ t.fld (F.CWY_PORT_ERR_CRC_BURST p) = min (s.fld (F.CWY_PORT_ERR_CRC_BURST p) + 1) 255) ∧
    (c.passes = true → l.toNat = c.rx → ∃ t : State, exec (.badToken p l) s = .next t.follow ∧
      t.fld (F.CWY_PORT_ERR_BAD_TOKEN p) = min (s.fld (F.CWY_PORT_ERR_BAD_TOKEN p) + 1) 255 ∧
      ((recent c.bads 1000).length < 64 → (t.cport p).run = c.run ∧ (t.cport p).rx = (c.rx + 1) % 65536) ∧
      (64 ≤ (recent c.bads 1000).length → left t)) ∧
    (c.passes = true → 32768 ≤ (l.toNat + 65536 - c.rx) % 65536 → exec (.badToken p l) s = .next s.follow) ∧
    (c.run = .active → ∃ t : State, exec (.blockLockLoss p) s = .next t.follow ∧
      (t.cport p).replay = [] ∧ (t.cport p).fwd = [] ∧
      (p ≠ 0 → c.joined = true → (t.cport p).benched = true ∧ (t.cport p).joined = false) ∧
      ((recent c.leaves 10000).length < 3 → (t.cport p).run = .down) ∧
      (3 ≤ (recent c.leaves 10000).length → (t.cport p).run = .held ∧
        t.fld (F.CWY_PORT_ERR_FLAP p) = min (s.fld (F.CWY_PORT_ERR_FLAP p) + 1) 255))

/-- R386, R387, R402: TICK places the coming wall tick and goes on to every child with REMAIN less the latency and the
time it took; the wall tick sets the wall frame and sends ALIVE; FREEZE and THAW set and end the wall's freeze where
the device takes them, and go on down from a hand's parent and up to the dealer; the device repeats its own while the
source lasts. What the model chooses here is in log entries 52 and 53. -/
def Obligations.WallTicks : Prop :=
  ∀ (s : State) (w : BitVec 16) (remain : BitVec 32) (delay : Nat) (dev : Int) (p : Fin 5) (id : BitVec 14),
    s.linked = true →
    let c := s.cport 0
    let n := id.toNat
    let down (t : CwyTok) : List Out :=
      (([1, 2, 3, 4] : List (Fin 5)).filter (fun q => (s.cport q).run = .active)).map (fun q => Out.cwy q t)
    let takes : Bool := s.flag F.CWY_CTL_FRZ_DOWN
    let idle (s : State) : Prop := (s.cport 0).run = .active ∧ (s.cport 0).fwd = [] ∧ (s.cport 0).replay = []
    (s.alive = true → s.dealer = false → c.run = .active → exec (.cwyTick w remain delay) s =
      .next { s with
        cwy := { s.cwy with next := some w }
        out := s.out ++ down (.tick w (remain - BitVec.ofNat 32 (s.fld (F.CWY_PORT_LAT_L 0) + delay))) }) ∧
    (s.alive = true → s.dealer = false → s.cwy.next = some w → dev.natAbs ≤ 1600 → idle s →
      ∃ t : State, exec (.wallTick dev) s = .next t ∧ t.cwy.next = none ∧ t.cwy.frame.setWidth 16 = w ∧
        (t.cwy.frame - s.cwy.frame).toNat < 65536 ∧
        Sends s t (.cwy 0 (.pkt c.tx (.alive s.cwyId s.cwyState s.subJoined s.subBenched))) ∧
        ∀ q : Fin 5, q ≠ 0 → (t.cport q).age = (s.cport q).age + if (s.cport q).run = .active then 1 else 0) ∧
    (s.cwy.next = none → exec (.wallTick dev) s = .next s) ∧
    (s.cwy.sending = true → s.dealer = true → exec .freezeRepeat s =
      .next { s with out := s.out ++ down (.freeze 0) }) ∧
    (s.cwy.sending = true → s.dealer = false → s.flag F.CWY_CTL_FRZ_UP = true → c.run = .active →
      exec .freezeRepeat s = .next (s.emit (.cwy 0 (.freeze s.cwyId)))) ∧
    (s.cwy.sending = false → s.cwy.thawing = true → s.dealer = true → exec .freezeRepeat s =
      .next { s with out := s.out ++ down (.thaw 0) }) ∧
    (s.cwy.sending = false → s.cwy.thawing = false → exec .freezeRepeat s = .next s) ∧
    (c.run = .active → takes = true → ∃ t : State, exec (.cwyFreeze 0 id) s = .next t ∧ t.glob.frzCwy = true ∧
      ∀ o ∈ down (.freeze n), Sends s t o) ∧
    (c.run = .active → takes = true → exec (.cwyThaw 0 id) s = .next { s with
      glob := { s.glob with frzCwy := false }, out := s.out ++ down (.thaw n) }) ∧
    (takes = false → exec (.cwyFreeze 0 id) s = .next s ∧ exec (.cwyThaw 0 id) s = .next s) ∧
    (p ≠ 0 → (s.cport p).run = .active → s.dealer = false → c.run = .active →
      exec (.cwyFreeze p id) s = .next (s.emit (.cwy 0 (.freeze n))) ∧
      exec (.cwyThaw p id) s = .next (s.emit (.cwy 0 (.thaw n)))) ∧
    (p ≠ 0 → (s.cport p).run = .active → s.dealer = true →
      (∃ t : State, exec (.cwyFreeze p id) s = .next t ∧ t.glob.frzCwy = true ∧ n ∈ t.cwy.origins ∧
        t.cwy.sending = true) ∧
      (∃ t : State, exec (.cwyThaw p id) s = .next t ∧ n ∉ t.cwy.origins ∧
        ((∀ m ∈ s.cwy.origins, m = n) → s.ownFreeze = false → s.cwy.sending = true →
          t.glob.frzCwy = false ∧ t.cwy.sending = false ∧ t.cwy.thawing = true)))

/-- R380, R386, R390 to R401: what a hand does with each packet from above: it passes it on to its joined children, opens,
fills and ends its copy of a wall trick, moves its target, applies or drops it, is benched, rejoins and takes its ID.
What the model chooses here is in log entries 54, 55 and 82. -/
def Obligations.WallFromAbove : Prop :=
  ∀ (s : State) (l : BitVec 16) (id w : Word) (r : RxTrick) (k : Trick) (info : WallInfo) (ty : Byte) (h : Hdr)
    (p : BitVec 448) (bs : List Byte) (crc : Bool) (m n : Nat) (a : Fin 6) (hand : BitVec 14) (reason : BitVec 4),
    s.alive = true → (s.cport 0).run = .active → l.toNat = (s.cport 0).rx → s.dealer = false →
    let came (t : State) : Prop := (t.cport 0).rx = ((s.cport 0).rx + 1) % 65536
    let passed (t : State) (x : Pkt) : Prop := came t ∧
      ∀ q : Fin 5, q ≠ 0 → (s.cport q).run = .active → (s.cport q).joined = true →
        (s.cport q).fwd = [] → (s.cport q).replay = [] → Sends s t (.cwy q (.pkt (s.cport q).tx x))
    let copied (t : State) (f : RxTrick → RxTrick) : Prop :=
      t.cwy.rx = s.cwy.rx.map (fun y => if y.id = id then f y else y) ∧ t.trk = s.trk
    let benched (t : State) (q : Fin 5) : Prop := (t.cport q).joined = false ∧ (t.cport q).benched = true
    let held : Prop := s.rxTrick id = some r ∧ s.trick r.key = some k
    let takes := s.takesTrick id
    let opens (t : State) (bad : Bool) : Prop := t.cwy.rx = s.cwy.rx ++ [{
      id := id, key := s.trk.nextKey, failed := bad
      descs := [{ index := m, type := 1, hdr := h, payload := p, staged := true }] }]
    (∃ t : State, exec (.cwyWallInfo l info) s = .next t.follow ∧ passed t (.wallInfo info) ∧
      t.cwy.info = some info ∧ t.cwy.frame = info.frame ∧
      t.cwy.state = if s.cwy.state ≠ 1 then s.cwy.state else if info.seq = 0 then 2 else 3) ∧
    (takes = true → s.rxTrick id = none → ∃ t : State, exec (.cwyDesc l id m 1 h p) s = .next t.settleAll.follow ∧
      passed t (.item id (.desc m 1 h p)) ∧
      (s.openTricks < 64 → opens t false ∧ t.trk.tricks = s.trk.tricks ++ [{
        key := s.trk.nextKey, owner := .wall, id := id, wall := true, heads := s.localHeads (pay p 8 1 % 64) }]) ∧
      (64 ≤ s.openTricks → opens t true ∧ t.trk.tricks = s.trk.tricks)) ∧
    (takes = true → held → ∃ t : State, exec (.cwyDesc l id m ty h p) s = .next t.settleAll.follow ∧
      passed t (.item id (.desc m ty h p)) ∧
      copied t (fun y => { y with descs := y.descs ++ [{ index := m, type := ty.toNat, hdr := h, payload := p }] })) ∧
    (takes = true → ∃ t : State, exec (.cwyData l id m n bs) s = .next t.settleAll.follow ∧
      passed t (.item id (.data m n bs)) ∧ copied t (fun y => { y with
        descs := y.descs.map (fun d => if d.index = m then { d with data := d.data.take n ++ bs } else d) })) ∧
    (takes = true → ∃ t : State, exec (.cwyEnd l id m crc) s = .next t.settleAll.follow ∧ passed t (.endT id m) ∧
      copied t (fun y => { y with
        count := some m, failed := y.failed || !crc || Decidable.decide (y.descs.length ≠ m) })) ∧
    (takes = false → ∃ t : State, exec (.cwyData l id m n bs) s = .next t.follow ∧ passed t (.item id (.data m n bs)) ∧
      t.cwy.rx = s.cwy.rx ∧ t.trk = s.trk) ∧
    (held → ∃ t : State, exec (.cwyPrepare l id w) s = .next t.follow ∧ passed t (.prepare id w) ∧
      t.trick r.key = some { k with target := w }) ∧
    (held → ∃ t : State, exec (.cwyDefer l id w n) s = .next t.follow ∧ passed t (.defer id w n) ∧
      t.trick r.key = some { k with target := w, defers := n }) ∧
    (held → takes = true → k.phase = .staged → k.anchor = some a →
      ∃ t : State, exec (.cwyCommit l id w) s = .next t.settleAll.follow ∧ passed t (.commit id w) ∧
        t.trick r.key = some { k with target := w, wallGo := true } ∧
        (∀ y ∈ t.cwy.rx, y.id ≠ id) ∧ t.cwy.info = s.cwy.info.map (fun i => { i with seq := i.seq + 1 }) ∧
        t.cwy.state = if s.cwy.rejoining = some id then 2 else s.cwy.state) ∧
    (held → ∃ t : State, exec (.cwyDiscard l id) s = .next t.settleAll.follow ∧ passed t (.discard id) ∧
      t.trick r.key = none ∧ ∀ y ∈ t.cwy.rx, y.id ≠ id) ∧
    (∃ t : State, exec (.cwySweep l id) s = .next t.settleAll.follow ∧ passed t (.sweep id) ∧
      ∀ q : Fin 5, q ≠ 0 → (s.cport q).run = .active →
      (s.cport q).ready.any (fun e => e.1 = id) = false → s.cwy.through.contains id = false → s.cwy.rejoining ≠ some id →
      (s.cport q).joined = true → benched t q) ∧
    (∃ t : State, exec (.cwyBench l reason w) s = .next t.settleAll.follow ∧ came t ∧ t.cwy.state = 3 ∧
      t.cwy.reason = reason.toNat ∧ t.reg .CWY_BENCH_FRAME 0 0 = w ∧ t.cwy.rx = [] ∧ t.cwy.rejoining = none ∧
      ∀ q : Fin 5, q ≠ 0 → (s.cport q).run = .active → (s.cport q).joined = true → benched t q) ∧
    (s.cwyId = hand.toNat → s.cwy.state = 3 → ∃ t : State, exec (.cwyRejoin l hand id) s = .next t.follow ∧ came t ∧
      t.cwy.rejoining = some id) ∧
    (s.cwyId ≠ hand.toNat → s.cwy.rejoining ≠ some id → ∃ t : State, exec (.cwyRejoin l hand id) s = .next t.follow ∧
      passed t (.rejoin hand.toNat id) ∧ id ∈ t.cwy.through) ∧
    (∃ t : State, exec (.cwySetId l (BitVec.ofNat 17 s.cwyPath) hand) s = .next t.follow ∧ came t ∧
      t.fld F.CWY_ID_ID = hand.toNat ∧
      t.cwy.state = if hand = 0 then 4 else if s.cwy.state = 4 ∨ s.cwy.state = 5 then 1 else s.cwy.state)

/-- R389, R392, R394, R398, R400, R403: what a parent does with each packet from below: ALIVE renews the child's lease,
and admits a child that has its ID at last; READY is noted, and one with FAIL, like a lease that ran out, benches the
child; BENCHED becomes a record at the dealer, EVENT a log entry, and both go up from a hand. A hand whose copy failed
says so with READY, one whose copy and subtree are whole sends their count. -/
def Obligations.WallFromBelow : Prop :=
  ∀ (s : State) (p : Fin 5) (l : BitVec 16) (id : BitVec 14) (st reason : BitVec 4) (j b : Nat) (trick frame : Word)
    (code port : Byte) (r : RxTrick) (k : Trick), s.alive = true → p ≠ 0 →
    let c := s.cport p
    let here : Prop := c.run = .active ∧ l.toNat = c.rx
    let benched (t : State) : Prop := (t.cport p).joined = false ∧ (t.cport p).benched = true
    let up (t : State) (x : Pkt) : Prop := (s.cport 0).run = .active → (s.cport 0).fwd = [] → (s.cport 0).replay = [] →
      Sends s t (.cwy 0 (.pkt (s.cport 0).tx x))
    let idx := s.fld F.CWY_BENCH_NEXT_INDEX
    let leaf : Prop := s.dealer = false ∧ (∀ q : Fin 5, q ≠ 0 → (s.cport q).run ≠ .active ∧ (s.cport q).ready = []) ∧
      s.hif.slots = [] ∧ s.trk.shown = [] ∧ s.trk.tricks = [k] ∧ k.phase = .opened ∧ s.cwy.rx = [r] ∧
      r.key = k.key ∧ r.id = trick ∧ r.readySent = false ∧ r.failed = false ∧ r.descs.length = j ∧
      (∀ d ∈ r.descs, d.staged = true) ∧ (∀ e ∈ s.hif.rings, e.2.held = [] ∧ e.2.cqFullLogged = false ∧
        e.2.phase ≠ .draining) ∧ s.takesTrick trick = true ∧ (s.cport 0).run = .active ∧ l.toNat = (s.cport 0).rx
    (here → c.peer ≠ 0 → exec (.cwyAlive p l id st j b) s = .next (s.modPort p (fun c => { c with
      rx := (c.rx + 1) % 65536, nakked := false, age := 0, subJoined := j, subBenched := b })).follow) ∧
    (here → c.peer = 0 → c.joined = false → c.benched = false → id ≠ 0 → st ≠ 4 → st ≠ 5 →
      ∃ t : State, exec (.cwyAlive p l id st j b) s = .next t.follow ∧ (t.cport p).peer = id.toNat ∧
        (t.cport p).joined = Decidable.decide (s.wallSeq = 0) ∧ (t.cport p).benched = Decidable.decide (s.wallSeq ≠ 0)) ∧
    (here → c.joined = true → s.dealer = true ∨ s.cwy.through.contains trick = false →
      ∃ t : State, exec (.cwyReady p l trick j none) s = .next t.settleAll.follow ∧
        (t.cport p).ready = c.ready ++ [(trick, j)] ∧ (t.cport p).joined = true) ∧
    (here → c.joined = true → ∃ t : State, exec (.cwyReady p l trick j (some id)) s = .next t.settleAll.follow ∧ benched t) ∧
    (here → s.dealer = true → ∃ t : State, exec (.cwyBenched p l id reason j) s = .next t.follow ∧
      t.fld (F.CWY_BENCH_REC0_ID idx) = id.toNat ∧ t.fld (F.CWY_BENCH_REC0_REASON idx) = reason.toNat ∧
      t.reg .CWY_BENCH_REC1 idx 0 = s.cwy.frame ∧ t.fld F.CWY_BENCH_NEXT_INDEX = (idx + 1) % 64) ∧
    (here → s.dealer = false → ∃ t : State, exec (.cwyBenched p l id reason j) s = .next t.follow ∧
      RegsKept [RegId.addr .PMC_OVF 0 0] s t ∧ up t (.benched id.toNat reason.toNat j)) ∧
    (here → s.dealer = true → ∃ t : State, exec (.cwyEvent p l id code port frame) s = .next t.follow ∧
      t.fld (F.VLG_TOTAL_COUNT 0) = min (s.fld (F.VLG_TOTAL_COUNT 0) + 1) (2 ^ 32 - 1)) ∧
    (here → s.dealer = false → ∃ t : State, exec (.cwyEvent p l id code port frame) s = .next t.follow ∧
      up t (.event id.toNat code.toNat port.toNat frame)) ∧
    (c.run = .active → c.joined = true → s.leaseFrames ≤ c.age → ∃ t : State,
      exec (.childSilent p) s = .next t.settleAll.follow ∧ benched t) ∧
    (c.run = .active → c.age < s.leaseFrames → exec (.childSilent p) s = .next s.follow) ∧
    (leaf → ∃ t : State, exec (.cwyEnd l trick j true) s = .next t.follow ∧ up t (.ready trick 1 none) ∧
      ∃ x, t.trick k.key = some x ∧ x.phase = .staged) ∧
    (leaf → ∃ t : State, exec (.cwyEnd l trick j false) s = .next t.follow ∧ up t (.ready trick 0 (some s.cwyId)))

/-- R380, R393 to R395, R401: at its decision point the dealer commits a due wall trick whose hands are all ready, and
defers any other by a frame and counts it, and says so to the joined hands; CWY_SETID sends an ID to the hand it
names, and CWY_REJOIN lists a hand for the resynchronisation trick. Without GO, or on a hand, both do nothing. What
the model chooses here is in log entries 50 and 54. -/
def Obligations.DealerCommands : Prop :=
  ∀ (s : State) (n : Fin 6) (x : Trick) (p : Fin 5) (v : Word), s.attends = true →
    let w := (s.head n).sc.scanFrame + 1
    let id := v.toNat % 16384
    let go := v.getLsbD 31
    let tells (t : State) (k : Pkt) : Prop := ∀ q : Fin 5, q ≠ 0 → (s.cport q).run = .active →
      (s.cport q).joined = true → (s.cport q).fwd = [] → (s.cport q).replay = [] →
      Sends s t (.cwy q (.pkt (s.cport q).tx k))
    let due : Prop := s.dealer = true ∧ s.refHead = some n ∧ (s.head n).beams = true ∧ s.cwy.decided ≠ some w ∧
      s.trk.tricks.filter (fun t => t.wall && t.announced && !t.wallGo) = [x] ∧ s.trick x.key = some x ∧
      (x.target - w).toInt ≤ 0
    (due → s.wallReady x = true → ∃ (t : State) (y : Trick), exec .decisionPoint s = .next t.settleAll.follow ∧
      t.trick x.key = some y ∧ y.wallGo = true ∧ y.target = w ∧ t.cwy.decided = some w ∧ tells t (.commit x.id w)) ∧
    (due → s.wallReady x = false → ∃ (t : State) (y : Trick), exec .decisionPoint s = .next t.settleAll.follow ∧
      t.trick x.key = some y ∧ y.wallGo = x.wallGo ∧ y.target = w + 1 ∧ y.defers = x.defers + 1 ∧
      t.fld F.CWY_DEFERS_COUNT = min (s.fld F.CWY_DEFERS_COUNT + 1) (2 ^ 32 - 1) ∧
      t.cwy.decided = some w ∧ tells t (.defer x.id (w + 1) (x.defers + 1))) ∧
    (s.refHead = some n → s.cwy.decided = some w → exec .decisionPoint s = .next s.follow) ∧
    (go = true → s.dealer = true → p ≠ 0 → s.fld ⟨.CWY_SETID_PATH, 0, 0, 16, 0⟩ = 16384 + (p.val - 1) →
      (s.cport p).run = .active → ∃ t : State, exec (.cwySetidWrite v) s = .next t.follow ∧
        (t.cport p).peer = id ∧ ((s.cport p).fwd = [] → (s.cport p).replay = [] →
          Sends s t (.cwy p (.pkt (s.cport p).tx (.setId (16384 + (p.val - 1)) id))))) ∧
    (go = true → s.dealer = true → id ≠ 0 → id ∉ s.cwy.rejoin → exec (.cwyRejoinWrite v) s =
      .next { s with cwy := { s.cwy with rejoin := s.cwy.rejoin ++ [id] } }.follow) ∧
    (go = false ∨ s.dealer = false → exec (.cwySetidWrite v) s = .next s.follow ∧
      exec (.cwyRejoinWrite v) s = .next s.follow)

/-! ### Sleep -/

/-- R405 to R407, R410 to R413, R415, R416: where no blocker stands the idle times start the entry to DOZE and, from DOZE,
to SLUMBER; each step that ends starts the next, unless a wake is pending there: then the entry is counted as aborted
and its point kept; the last step enters the mode. A wake source is recorded once and starts the exit, whose last step
ends in a working mode; a sleep image that fails its CRC ends it in a warm reset. What the model chooses here is in
log entry 62. -/
def Obligations.PowerSteps : Prop :=
  ∀ (s : State) (src : BitVec 8) (ok : Bool), s.alive = true →
    let w := s.pwr
    let k := w.step
    let calm : Prop := w.wake = none ∧ ∀ p < 32, s.flag (F.GPIO_PIN_WAKE_EN p) = true →
      s.pinLevel p ≠ s.flag (F.GPIO_PIN_WAKE_LVL p)
    let pwr (t : State) (entry step : Nat) : Prop := t.pwr.entry = entry ∧ t.pwr.step = step ∧ t.glob.mode = s.glob.mode
    let aborted (t : State) (pt : Nat) : Prop := t.pwr.wake = none ∧
      t.fld F.PWR_ABORTS_COUNT = min (s.fld F.PWR_ABORTS_COUNT + 1) (2 ^ 32 - 1) ∧ t.fld F.PWR_WAKE_ABORT_PT = pt
    let last := if w.deep then 9 else 7
    let crc := if w.deep then 5 else 4
    let asleep : Prop := s.glob.mode = .doze ∨ s.glob.mode = .slumber
    let source : Prop := 1 ≤ src.toNat ∧ src.toNat ≤ 9 ∧ (src = 7 → s.part.headset = true) ∧
      (src = 3 → ∃ p < 32, s.flag (F.GPIO_PIN_WAKE_EN p) = true) ∧ (src = 4 → s.glob.mode ≠ .slumber)
    (s.mayDoze = true → w.entry = 0 → calm → ∃ t : State, exec .dozeIdleExpiry s = .next t ∧ pwr t 1 1) ∧
    (s.mayDoze = false ∨ w.entry ≠ 0 → exec .dozeIdleExpiry s = .next s) ∧
    (s.glob.mode = .doze → s.maySlumber = true → w.entry = 0 → calm →
      ∃ t : State, exec .slumberIdleExpiry s = .next t ∧ pwr t 2 1) ∧
    (s.maySlumber = false → exec .slumberIdleExpiry s = .next s) ∧
    (w.entry = 1 → k < 5 → calm → ∃ t : State, exec .entryStepEnd s = .next t.follow ∧ pwr t 1 (k + 1) ∧
      (k = 2 → ∀ n : Fin 6, n ∈ s.enabledHeads → (t.head n).beams = false)) ∧
    (w.entry = 2 → k < 11 → calm → ∃ t : State, exec .entryStepEnd s = .next t.follow ∧ pwr t 2 (k + 1)) ∧
    (w.entry = 1 → k < 4 → w.wake.isSome = true →
      ∃ t : State, exec .entryStepEnd s = .next t.follow ∧ aborted t (k + 1) ∧ t.pwr.entry = 0) ∧
    (w.entry = 2 → k < 10 → w.wake.isSome = true →
      ∃ t : State, exec .entryStepEnd s = .next t.follow ∧ aborted t (10 + (k + 1)) ∧ t.pwr.entry = 3) ∧
    (w.entry = 1 → 5 ≤ k → ∃ t : State, exec .entryStepEnd s = .next t.follow ∧ t.glob.mode = .doze ∧
      t.glob.prev = s.glob.mode ∧ t.fld F.PWR_DOZES_COUNT = min (s.fld F.PWR_DOZES_COUNT + 1) (2 ^ 32 - 1) ∧
      t.gpio.asleep = true ∧ t.pwr.entry = if w.wake.isSome then 3 else 0) ∧
    (w.entry = 2 → 11 ≤ k → ∃ t : State, exec .entryStepEnd s = .next t.follow ∧ t.glob.mode = .slumber ∧
      t.glob.prev = s.glob.mode ∧ t.fld F.PWR_SLUMBERS_COUNT = min (s.fld F.PWR_SLUMBERS_COUNT + 1) (2 ^ 32 - 1) ∧
      (∀ n, (t.head n).dp.trained = false) ∧ t.pwr.entry = if w.wake.isSome then 3 else 0) ∧
    (source → w.entry = 1 ∨ w.entry = 2 → w.wake = none → ∃ t : State, exec (.wakeEvent src) s = .next t ∧
      t.pwr = { w with wake := some src.toNat } ∧ t.fld F.PWR_WAKE_LAST_SRC = src.toNat) ∧
    (source → asleep → w.entry = 0 → ∃ t : State, exec (.wakeEvent src) s = .next t ∧ t.pwr = { w with
        wake := some src.toNat, entry := 3, step := 0, deep := Decidable.decide (s.glob.mode = .slumber) } ∧
      t.fld F.PWR_WAKE_LAST_SRC = src.toNat) ∧
    (source → ¬ asleep → w.entry = 0 → exec (.wakeEvent src) s = .next s) ∧
    (w.entry = 3 → k + 1 < last → (k + 1 = crc → ok = true) →
      ∃ t : State, exec (.exitStep ok) s = .next t.follow ∧ pwr t 3 (k + 1)) ∧
    (w.entry = 3 → last ≤ k + 1 → ∃ t : State, exec (.exitStep ok) s = .next t.follow ∧
      t.working = true ∧ t.pwr.entry = 0 ∧ t.pwr.wake = none ∧ t.gpio.asleep = false) ∧
    (w.entry = 3 → k + 1 = crc → ok = false → ∃ t : State, exec (.exitStep ok) s = .next t.follow ∧
      t.glob.mode = .bringUp ∧ t.flag F.PWR_STAT_PEAT_ERR = true)

/-! ### Journal and boot -/

/-- R421 to R424: a store takes its snapshot when no application is under way, copies it, and then erases, programs and
reads back its slot in the seven steps of R423, of which the last puts the slot in force; an operation that fails, or
takes too long, ends the store with its offset. What the model chooses here is in log entry 64. -/
def Obligations.JournalSteps : Prop :=
  ∀ (s : State) (st : Store) (c : Scene) (off : Nat), s.alive = true → s.jrnl.store = some st →
    let k := s.jrnl.target
    let base := k.val * 0x800000
    let slot (t : State) : JSlot := t.jrnl.slots[k]
    let units := match st.scene with | some c => c.units | none => 0
    let done := s.fld F.JOURNAL_STATUS_PROGRESS
    let ended (t : State) : Prop := s.jrnl.queue = [] → t.jrnl.store = none ∧ t.flag F.JOURNAL_STATUS_BUSY = false
    let goes (n : Nat) (op at_ : Nat) (x : JSlot) : Prop := ∃ t : State,
      exec (.flashOpDone true off) s = .next t.follow ∧ t.jrnl.store = some { st with step := n } ∧
      Sends s t (.qspi op (base + at_)) ∧ slot t = x
    let failed (t : State) : Prop := ended t ∧ t.flag F.JOURNAL_STATUS_FAILED = true ∧
      t.fld F.JOURNAL_FAIL_V = off % 2 ^ 32 ∧ t.jrnl.slots = s.jrnl.slots
    (st.scene = none → s.trk.queue = [] → ∃ t : State, exec .journalSnapshot s = .next t ∧
      (s.capture.size ≤ 8 * 0x100000 - 8192 →
        Recorded { s with jrnl := { s.jrnl with store := some { st with scene := some s.capture } } } t) ∧
      (8 * 0x100000 - 8192 < s.capture.size → ended t ∧ t.jrnl.slots = s.jrnl.slots)) ∧
    (st.scene ≠ none ∨ s.trk.queue ≠ [] → exec .journalSnapshot s = .next s) ∧
    (st.scene = some c → st.copied = false → ∃ (t : State) (c' : Scene), exec .snapshotCopyEnd s = .next t.follow ∧
      t.jrnl.store = some { st with scene := some c', copied := true, step := 1 } ∧
      c' = { c with early := c'.early, trump := c'.trump, ranges := c'.ranges } ∧
      Sends s t (.qspi 0 (base + 0x7FF000)) ∧ ∀ o ∈ t.oldPages, o.snap = false) ∧
    (st.copied = true →
      (st.step = 1 → goes 2 0 0 { slot s with record := none }) ∧
      (st.step = 2 → goes 3 1 0 { slot s with header := none, headerBad := false }) ∧
      (st.step = 3 → goes 4 0 0x10000 { slot s with header := some s.jrnl.nextSeq }) ∧
      (st.step = 4 → goes 5 1 0x1000 (slot s)) ∧
      (st.step = 5 → if done + 1 < units then goes 5 1 0x1000 (slot s) else goes 6 2 0x1000 (slot s)) ∧
      (st.step = 6 → goes 7 1 0x7FF000 { slot s with scene := st.scene }) ∧
      (st.step = 7 → ∃ t : State, exec (.flashOpDone true off) s = .next t.follow ∧ ended t ∧
        t.jrnl.inForce = some k ∧ slot t = { slot s with record := some s.jrnl.nextSeq } ∧
        t.flag F.JOURNAL_STATUS_VALID = true ∧ t.fld F.JOURNAL_STATUS_SLOT = k.val ∧
        t.fld F.JOURNAL_SEQ_V = s.jrnl.nextSeq % 2 ^ 32)) ∧
    (st.copied = true → ∃ t : State, exec (.flashOpDone false off) s = .next t.follow ∧ failed t) ∧
    (st.copied = true → ∃ t : State, exec (.flashTimeout off) s = .next t.follow ∧ failed t)

/-- R419, R425 to R429: boot puts the valid slot with the larger SEQ in force, or ends without one; loads its early plane
and trump regions; restores its configuration and turns its scene into one trick, or fails into FALLBACK; and ends
when that trick has been applied. What the model chooses here is in log entries 64 and 65. -/
def Obligations.BootSteps : Prop :=
  ∀ (s : State) (f : FlashRead) (e u : Bool) (c : Scene) (k : Fin 2) (q : Nat), s.alive = true →
    let boot (t : State) : Nat := t.fld F.JOURNAL_STATUS_BOOT
    let ends (t : State) (code : Nat) : Prop := t.jrnl.boot = .done ∧ t.working = true ∧ boot t = code
    let bare (t : State) (code : Nat) : Prop := ends t code ∧ t.jrnl.inForce = none ∧ t.enabledHeads = []
    let has : Prop := s.storedScene = some c
    (s.jrnl.boot = .locked → s.jrnl.skip = false → f.sfdp = true → s.jrnl.choose f = some (k, q) →
      ∃ t : State, exec (.slotChoice f) s = .next t.follow ∧ t.jrnl.boot = .chosen ∧ t.jrnl.inForce = some k ∧
        boot t = 1 ∧ t.flag F.JOURNAL_STATUS_VALID = true ∧ t.fld F.JOURNAL_STATUS_SLOT = k.val ∧
        t.fld F.JOURNAL_SEQ_V = q % 2 ^ 32) ∧
    (s.jrnl.boot = .locked → s.jrnl.skip = true → ∃ t : State, exec (.slotChoice f) s = .next t.follow ∧ bare t 3) ∧
    (s.jrnl.boot = .locked → s.jrnl.skip = false → f.sfdp = false ∨ s.jrnl.choose f = none →
      ∃ t : State, exec (.slotChoice f) s = .next t.follow ∧ bare t 0) ∧
    (s.jrnl.boot ≠ .locked → exec (.slotChoice f) s = .next s.follow) ∧
    (s.jrnl.boot = .chosen → has → ∃ t : State, exec (.earlyLoaded e u) s = .next t.follow ∧ t.jrnl.boot = .early ∧
      t.jrnl.dark = !(e && u) ∧ (e = true → u = true → ∀ n ∈ t.enabledHeads, (t.head n).early = true) ∧
      (e = false → u = false → RegsKept [RegId.addr .MEM_POOL 0 0] s t ∧ t.mem = s.mem)) ∧
    (s.jrnl.boot = .early → has → e = false → ∃ t : State, exec (.sceneRestore e u) s = .next t.follow ∧ bare t 0 ∧
      t.flag F.JOURNAL_STATUS_VALID = false) ∧
    (s.jrnl.boot = .early → has → e = true → u = false → ∃ t : State, exec (.sceneRestore e u) s = .next t.follow ∧
      ends t 2 ∧ t.jrnl.failed = true ∧ t.glob.mode = .fallback) ∧
    (s.jrnl.boot = .early → has → e = true → u = true → ∃ (t : State) (x : Trick),
      exec (.sceneRestore e u) s = .next t.follow ∧ t.jrnl.boot = .scene ∧ x ∈ t.trk.tricks ∧ x.owner = .boot ∧
      x.phase = .staged ∧ t.jrnl.sceneKey = some x.key) ∧
    (s.jrnl.boot = .scene → (∀ x, s.jrnl.sceneKey = some x → s.trick x = none) →
      ∃ t : State, exec .bootEnd s = .next t.follow ∧ t.jrnl.boot = .done ∧ t.working = true ∧ t.jrnl.sceneKey = none) ∧
    (∀ x, s.jrnl.sceneKey = some x → s.trick x ≠ none → exec .bootEnd s = .next s.follow)

/-! ### Timers, pins and counters -/

/-- R430 to R437: in a cycle in which only channel n sees a tick of its source, its counter goes up to TOP and starts from
0, or, with UPDN, up to TOP and down to 0; MATCH is set where the new count is CMP, OVF where it has wrapped or come
down to 0; every other channel stays. A capture keeps the count in the channel's queue of four, or sets CAP_OVR; a
read of the queue gives the oldest entry and what is left; a write of COUNT and TMR_START, TMR_STOP and TMR_RESET set
what they name. What the model chooses here is in log entry 70. -/
def Obligations.TimerChannels : Prop :=
  ∀ (s : State) (n : Fin 16) (pins mask v : Word), s.tmrAlive = true → s.tmr.carryActs = [] → s.tmr.carryTicks = [] →
    let c := s.timer n
    let top := (s.useReg .TMR_TOP n 0).toNat
    let cmp := (s.useReg .TMR_CMP n 0).toNat
    let updn := s.flag (F.TMR_CTL_UPDN n)
    let bits : BitVec 16 := BitVec.ofNat 16 (2 ^ n.val)
    let others (t : State) : Prop := ∀ m, m ≠ n → t.timer m = s.timer m
    let counted (t : State) (count : Nat) (down ovf : Bool) : Prop := (t.timer n).count = count ∧
      (t.timer n).down = down ∧ others t ∧
      t.flag (F.TMR_STAT_MATCH n) = (s.flag (F.TMR_STAT_MATCH n) || Decidable.decide (count = cmp)) ∧
      t.flag (F.TMR_STAT_OVF n) = (s.flag (F.TMR_STAT_OVF n) || ovf)
    let runs : Prop := s.tmrSourceOk n = true ∧ s.flag (F.TMR_IN_GATE_EN n) = false ∧
      s.fld (F.TMR_CTL_MATCH_ACT n) = 0 ∧ s.fld (F.TMR_CTL_OVF_ACT n) = 0 ∧ s.tmrLinked n = []
    let captures : Prop := s.fld (F.TMR_IN_CAP_SRC n) = 1 ∧ s.tmrInLive (s.fld (F.TMR_IN_CAP_IN n)) = true ∧
      s.fld (F.TMR_IN_CAP_EDGE n) ≠ 3
    let regs (t : State) (ex : List Nat) (tm : Timers) : Prop := t = { s with regs := t.regs, tmr := tm } ∧ RegsKept ex s t
    let ctls := (List.finRange 16).map (fun m => RegId.addr .TMR_CTL m.val 0)
    (runs → updn = false → c.count ≠ top → c.count ≠ 0xFFFFFF →
      ∃ t : State, exec (.timerTick bits 0 pins) s = .next t ∧ counted t (c.count + 1) false false) ∧
    (runs → updn = false → c.count = top ∨ c.count = 0xFFFFFF →
      ∃ t : State, exec (.timerTick bits 0 pins) s = .next t ∧ counted t 0 false true) ∧
    (runs → updn = true → c.down = false → c.count < max 1 top →
      ∃ t : State, exec (.timerTick bits 0 pins) s = .next t ∧
        counted t (c.count + 1) (Decidable.decide (c.count + 1 = max 1 top)) false) ∧
    (runs → updn = true → c.down = true → 1 ≤ c.count → c.count < 2 ^ 24 →
      ∃ t : State, exec (.timerTick bits 0 pins) s = .next t ∧
        counted t (c.count - 1) (Decidable.decide (c.count ≠ 1)) (Decidable.decide (c.count = 1))) ∧
    (captures → c.caps.length < 4 → ∃ t : State, exec (.timerCapture bits pins) s = .next t ∧ others t ∧
      t.timer n = { c with caps := c.caps ++ [c.count] } ∧ t.flag (F.TMR_STAT_CAP n) = true) ∧
    (captures → 4 ≤ c.caps.length → ∃ t : State, exec (.timerCapture bits pins) s = .next t ∧ others t ∧
      t.timer n = c ∧ t.flag (F.TMR_STAT_CAP_OVR n) = true) ∧
    (s.attends = true →
      (c.caps = [] → exec (.capRead n) s = .next (s.emit (.regData 0))) ∧
      (∀ x rest, c.caps = x :: rest → exec (.capRead n) s = .next ((s.modTimer n (fun t => { t with caps := rest })).emit
        (.regData (BitVec.ofNat 32 (0x80000000 + rest.length * 0x1000000 + x % 0x1000000))))) ∧
      exec (.countWrite n v) s =
        .next (s.modTimer n (fun t => { t with count := v.toNat % 0x1000000, pre := s.clock })) ∧
      (∃ t : State, exec (.tmrStart mask) s = .next t ∧ regs t ctls t.tmr ∧ ∀ m : Fin 16,
        t.flag (F.TMR_CTL_RUN m) = (s.flag (F.TMR_CTL_RUN m) || mask.getLsbD m) ∧
        t.timer m = { s.timer m with pre := if mask.getLsbD m && !s.flag (F.TMR_CTL_RUN m)
          then s.clock else (s.timer m).pre }) ∧
      (∃ t : State, exec (.tmrStop mask) s = .next t ∧ regs t ctls s.tmr ∧ ∀ m : Fin 16,
        t.flag (F.TMR_CTL_RUN m) = (s.flag (F.TMR_CTL_RUN m) && !mask.getLsbD m)) ∧
      (∃ t : State, exec (.tmrReset mask) s = .next t ∧ t = { s with tmr := { s.tmr with ch := t.tmr.ch } } ∧
        ∀ m : Fin 16, t.timer m = if mask.getLsbD m
          then { s.timer m with count := 0, down := false, out := false, pre := s.clock } else s.timer m))

/-- R444, R445, R448, R451, R452, R454, R465: GPIO_OUT_SET and GPIO_OUT_CLR change the bits they name at once; a pattern
that holds sets its unit's EVENT bit; PMC_START and PMC_STOP set EN of the counters they name; a counter that wraps
sets its bit of PMC_OVF; a read of LO latches the high bits, of a counter page only its owner's counter; a read of
FRAME latches both beams. What the model chooses here is in log entries 68 and 70. -/
def Obligations.PinsAndCounters : Prop :=
  ∀ (s : State) (v mask levels : Word) (u : Fin 8) (k : Fin 32) (n : Fin 6) (f : Fin 16) (add : BitVec 48),
    s.attends = true →
    let out := s.reg .GPIO_OUT 0 0
    let pins : State := { s with gpio := { s.gpio with pins := levels } }
    let cfgs := (List.range 32).map (fun m => RegId.addr .PMC_CFG m 0)
    let enabled (t : State) (en : Bool → Bool → Bool) : Prop := t = { s with regs := t.regs } ∧
      RegsKept cfgs s t ∧ ∀ m < 32, t.flag (F.PMC_CFG_EN m) = en (s.flag (F.PMC_CFG_EN m)) (mask.getLsbD m)
    let counts : Prop := s.glob.mode ≠ .doze ∧ s.glob.mode ≠ .slumber
    let count := s.pmc.count[k]
    let total := count.toNat + add.toNat
    let own : Prop := s.fnExists f = true ∧ (s.reg .PMC_USER_EN 0 0).getLsbD f = true ∧ s.fld (F.PMC_CFG_OWNER k) = f.val
    let drives (t : State) (w : Word) : Prop := t.reg .GPIO_OUT 0 0 = w ∧
      t = { s with regs := t.regs, live := t.live } ∧ RegsKept [RegId.addr .GPIO_OUT 0 0] s t
    (∃ t : State, exec (.gpioOutSet v) s = .next t ∧ drives t (out ||| v)) ∧
    (∃ t : State, exec (.gpioOutClr v) s = .next t ∧ drives t (out &&& ~~~v)) ∧
    (pins.pmCond u = true → ∃ t : State, exec (.patternMatchEvent u levels) s = .next t ∧ t.gpio.pins = levels ∧
      t.fld F.GPIO_PM_STAT_EVENT = s.fld F.GPIO_PM_STAT_EVENT ||| 2 ^ u.val ∧
      RegsKept [RegId.addr .GPIO_PM_STAT 0 0] s t) ∧
    (pins.pmCond u = false → exec (.patternMatchEvent u levels) s = .next pins) ∧
    (∃ t : State, exec (.pmcStart mask) s = .next t ∧ enabled t (fun e m => e || m)) ∧
    (∃ t : State, exec (.pmcStop mask) s = .next t ∧ enabled t (fun e m => e && !m)) ∧
    (counts → s.flag (F.PMC_CFG_EN k) = true → k = 0 ∨ s.flag (F.PMC_CFG_CHAIN k) = false → total < 2 ^ 48 →
      exec (.counterOverflow k add) s = .next { s with pmc := { s.pmc with
        count := s.pmc.count.set k (BitVec.ofNat 48 total) } }) ∧
    (counts → s.flag (F.PMC_CFG_EN k) = true → k = 0 ∨ s.flag (F.PMC_CFG_CHAIN k) = false → 2 ^ 48 ≤ total →
      (k.val + 1 < 32 → s.flag (F.PMC_CFG_CHAIN (k.val + 1)) = false) → ∃ t : State, exec (.counterOverflow k add) s = .next t ∧
        t.pmc = { s.pmc with count := s.pmc.count.set k (BitVec.ofNat 48 total) } ∧
        t.reg .PMC_OVF 0 0 = s.reg .PMC_OVF 0 0 ||| BitVec.ofNat 32 (2 ^ k.val) ∧
        RegsKept [RegId.addr .PMC_OVF 0 0] s t) ∧
    (s.flag (F.PMC_CFG_EN k) = false ∨ ¬ counts → exec (.counterOverflow k add) s = .next s) ∧
    (∃ t : State, exec (.ctrLoRead k) s = .next t ∧ t.out = s.out ++ [.regData (count.setWidth 32)] ∧
      t.pmc.latch[k] = (count >>> 32).setWidth 16 ∧ t.pmc.latched.getLsbD k = true ∧
      t = { s with pmc := { s.pmc with latch := t.pmc.latch, latched := t.pmc.latched }, out := t.out }) ∧
    (own → ∃ t : State, exec (.userCtrRead f k false) s = .next t ∧ t.out = s.out ++ [.regData (count.setWidth 32)] ∧
      t.pmc.userLatch.find? (fun e => e.1 = f.val * 32 + k.val) = some (f.val * 32 + k.val, (count >>> 32).setWidth 16)) ∧
    (own → ∀ x, s.pmc.userLatch.find? (fun e => e.1 = f.val * 32 + k.val) = some x →
      exec (.userCtrRead f k true) s = .next (s.emit (.regData (0x80000000 ||| x.2.setWidth 32)))) ∧
    (s.fnExists f = true → s.fld (F.PMC_CFG_OWNER k) ≠ f.val → ∀ high, exec (.userCtrRead f k high) s = .next (s.emit (.regData 0))) ∧
    (s.headPresent n = true → ∃ t : State, exec (.frameRead n) s = .next t ∧
      t.out = s.out ++ [.regData (s.head n).frame] ∧ (∀ m, m ≠ n → t.head m = s.head m) ∧
      t.head n = { s.head n with sc := { (s.head n).sc with
        latchComp := (t.head n).sc.latchComp, latchScan := (t.head n).sc.latchScan } } ∧
      (t.head n).sc.latchComp.toNat / 65536 = (s.head n).sc.scanFrame.toNat % 65536 ∧
      (t.head n).sc.latchComp.toNat % 16384 = (s.head n).line % 16384 ∧
      (t.head n).sc.latchScan.toNat / 65536 % 16384 = (s.head n).sc.scanLine % 16384 ∧
      (t.head n).sc.latchScan.toNat % 16384 = (s.head n).sc.scanPixel % 16384)

/-! ### Freeze and readout -/

/-- R33, R56, R109, R306, R402, R455 to R457, R459: the pin and the keyed register are sources of the freeze; the device
enters FREEZE while any source holds, and from then on its state stands and BAR writes are dropped and counted; when
all have cleared it restarts: the mode is the one R33 gives, no descriptor is left running, every enabled head starts
from step 2 of R304 with its link down, and one being disabled is off. A sleep image that fails its CRC on the way
ends it in a warm reset. R457, R458: in FREEZE a readout path gives the word at its address and moves on to the next:
here the program words of a sequencer and committed Tarn; an address of no space reads as 0 and is not valid. Outside
FREEZE it gives 0. FRZ_SEL sets the address of its path, FRZ_STAT tells the sources and the entry; a transaction that
fails its PEC only counts. What the model chooses here is in log entries 63, 66, 67 and 80. -/
def Obligations.FreezeAndReadout : Prop :=
  (∀ (s : State) (v w : Word) (ns : Nat) (a : BitVec 24), s.linked = true →
    let key := v.toNat / 65536 = 0x6D1A
    let source (t : State) (pin reg : Bool) : Prop :=
      t = { s with glob := { s.glob with frzPin := pin, frzReg := reg, frzCwy := t.glob.frzCwy, frzSeen := t.glob.frzSeen }
                   cwy := { s.cwy with sending := t.cwy.sending, thawing := t.cwy.thawing }, out := t.out }
    let awake : Prop := s.frozen = true ∨ s.sleeping = false
    (50 ≤ ns → ∃ t : State, exec (.freezeNAssert ns) s = .next t ∧ source t true s.glob.frzReg) ∧
    (ns < 50 → exec (.freezeNAssert ns) s = .next s) ∧
    (∃ t : State, exec .freezeNRelease s = .next t ∧ source t false s.glob.frzReg) ∧
    (awake → key → v.getLsbD 0 = true →
      ∃ t : State, exec (.frzSet v) s = .next t ∧ source t s.glob.frzPin true) ∧
    (awake → key → v.getLsbD 0 = false → v.getLsbD 1 = true →
      ∃ t : State, exec (.frzRelease v) s = .next t ∧ source t s.glob.frzPin false) ∧
    (awake → ¬ key → exec (.frzSet v) s = .next s ∧ exec (.frzRelease v) s = .next s) ∧
    (s.frzAny = true → s.frozen = false → s.trk.queue = [] → ∃ t : State, exec .freezeEntry s = .next t ∧
      t.glob = { s.glob with mode := .freeze, prev := s.glob.mode, cause := 7, frozenFrom := s.glob.mode
                             frzSeen := s.frzSources, frzClock := s.clock, restarting := false } ∧
      t.reg .DBG_FRZ_ENTRY 0 0 = (s.head 0).frame ∧ t.reg .DBG_FRZ_DROPS 0 0 = 0 ∧ t.trump.armed = false ∧
      t = { s with regs := t.regs, glob := t.glob, trump := t.trump, jrnl := t.jrnl, oldPages := t.oldPages
                   pba := t.pba, pmc := t.pmc, out := t.out }) ∧
    (s.frzAny = true → s.frozen = true → exec .freezeEntry s =
      .next { s with glob := { s.glob with restarting := false } }) ∧
    (s.frzAny = false → exec .freezeEntry s = .next s) ∧
    (s.frozen = true → s.frzAny = false → exec .freezeReleased s =
      .next { s with glob := { s.glob with restarting := true } }) ∧
    (s.frzAny = true → exec .freezeReleased s = .next s) ∧
    (s.frozen = true → decodeReg (a.toNat / 4 * 4) ≠ some (.DBG_FRZ_CTL, 0, 0) →
      decodeReg (a.toNat / 4 * 4) ≠ some (.DBG_RD_ADDR, 0, 0) → ∃ t : State,
      exec (.registerWrite (.bar0 a) w 15) s = .next t.follow ∧ t = { s with regs := t.regs } ∧
      RegsKept [RegId.addr .DBG_FRZ_DROPS 0 0, RegId.addr .DBG_FRZ_DROP_FIRST 0 0] s t ∧
      (t.reg .DBG_FRZ_DROPS 0 0).toNat = min ((s.reg .DBG_FRZ_DROPS 0 0).toNat + 1) (2 ^ 32 - 1) ∧
      t.reg .DBG_FRZ_DROP_FIRST 0 0 = if s.reg .DBG_FRZ_DROPS 0 0 = 0 then BitVec.ofNat 32 (a.toNat / 4 * 4)
        else s.reg .DBG_FRZ_DROP_FIRST 0 0) ∧
    (s.frozen = true → s.glob.restarting = true → s.glob.hostLossHeld = false → s.glob.hostLossWake = false →
      ∃ t : State, exec .freezeRestartDone s = .next t.follow ∧
        ((s.thawsImage = true ∧ t.glob.mode = .bringUp ∧ t.flag F.PWR_STAT_PEAT_ERR = true) ∨
        t.glob.mode = (match s.glob.frozenFrom with | .bringUp => .bringUp | .fallback => .fallback | _ => .run) ∧
        t.glob.restarting = false ∧ t.glob.prev = .freeze ∧ t.pwr = {} ∧ (s.hif.slots = [] → t.mem = s.mem) ∧
        (s.trk.tricks = [] → s.trk.shown = [] → ∀ x ∈ t.hif.slots, x.st = .held) ∧
        ∀ n, (s.head n).enabled = true →
          ((s.head n).disabling = false → (t.head n).blank = .s2 ∧ (t.head n).beams = false ∧
            (t.head n).dp.trained = false ∧ (t.head n).dp.needTrain = true ∧ (t.head n).sc.video = false) ∧
          ((s.head n).disabling = true → (t.head n).enabled = false)))) ∧
  (∀ (s : State) (v : Word) (words : Nat), s.linked = true →
    let space (x : Word) : Nat := x.toNat / 2 ^ 28
    let addr (x : Word) : Nat := x.toNat % 2 ^ 24
    let moved (x y : Word) (k : Nat) : Prop := addr y = (addr x + k) % 2 ^ 24 ∧ y.toNat / 2 ^ 24 = x.toNat / 2 ^ 24
    let holds (x w : Word) (valid : Bool) : Prop :=
      (space x = 3 → ∀ q : Fin 8, addr x / 16384 = q.val →
        valid = true ∧ w = (wordAt (s.seq q).bank.prog (addr x % 16384)).setWidth 32) ∧
      (space x = 1 → 4 * addr x < s.tarnTop →
        valid = true ∧ w = BitVec.ofNat 32 (ofLe (s.mem.readBytes (4 * addr x) 4))) ∧
      (6 ≤ space x → valid = false ∧ w = 0)
    let n := max 1 (min 8 words)
    let calm : Prop := s.frozen = true ∨ s.sleeping = false
    let counted : State := { s with trump := { s.trump with pecFails := min 255 (s.trump.pecFails + 1) } }
    (s.frozen = true → ∃ (t : State) (w : Word) (b : Bool), exec .rdDataRead s = .next t ∧
      t = { s with regs := t.regs, free := t.free, out := s.out ++ [.regData w] } ∧
      RegsKept [RegId.addr .DBG_RD_ADDR 0 0] s t ∧ holds (s.reg .DBG_RD_ADDR 0 0) w b ∧
      moved (s.reg .DBG_RD_ADDR 0 0) (t.reg .DBG_RD_ADDR 0 0) 1) ∧
    (s.frozen = false → s.sleeping = false → exec .rdDataRead s = .next (s.emit (.regData 0))) ∧
    exec (.jtagFrzSel v) s = .next { s with dbg := { s.dbg with jtagSel := v } } ∧
    (s.frozen = true → ∃ (t : State) (w : Word) (b : Bool), exec .frzData s = .next t ∧
      t = { s with dbg := { s.dbg with jtagSel := t.dbg.jtagSel }, free := t.free
                   out := s.out ++ [.jtag (BitVec.ofNat 33 (w.toNat + if b then 2 ^ 32 else 0))] } ∧
      holds s.dbg.jtagSel w b ∧ moved s.dbg.jtagSel t.dbg.jtagSel 1) ∧
    (s.frozen = false → exec .frzData s = .next (s.emit (.jtag 0))) ∧
    (calm → exec (.frzSel true v) s = .next { s with dbg := { s.dbg with smbSel := v } }) ∧
    (s.frozen = true → ∃ (t : State) (bs : List Byte), exec (.frzRead true words) s = .next t ∧ bs.length = 4 * n ∧
      t = { s with dbg := { s.dbg with smbSel := t.dbg.smbSel }, free := t.free, out := s.out ++ [.smb bs] } ∧
      moved s.dbg.smbSel t.dbg.smbSel n ∧ ∃ w b, holds s.dbg.smbSel w b ∧ bs.take 4 = leBytes 4 w.toNat) ∧
    (s.frozen = false → s.sleeping = false → exec (.frzRead true words) s = .next (s.emit (.smb []))) ∧
    (calm → exec (.frzStat true) s = .next (s.emit (.smb (leBytes 4 ((if s.frozen then 1 else 0) + 2 * s.frzSources) ++
      leBytes 4 (s.reg .DBG_FRZ_ENTRY 0 0).toNat)))) ∧
    exec (.frzSel false v) s = .next counted ∧ exec (.frzRead false words) s = .next counted ∧
    exec (.frzStat false) s = .next counted)

/-! ### The machine as a whole -/

/-- A step carries out the command at the front of the queue on the state with the queue's rest. With nothing waiting one
FCLK period passes, and only counting sees it (the model's choice, log entries 1 and 9). No command ever ends in a
fault or a refusal: whatever stands in the state, the block goes on. -/
def Obligations.StepRuns : Prop :=
  ((∀ (c : Instr) (s : State), step { s with pending := c :: s.pending } = exec c s) ∧
  (∀ s : State, s.pending = [] → ∃ t : State, step s = .next t ∧ Counted { s with clock := s.clock + 1 } t ∧
    (s.alive = false → t = { s with clock := s.clock + 1 }))) ∧
  (∀ (c : Instr) (s : State), Completes c s)

/-- R16, R50: after reset the block is in BRING-UP with nothing queued, no ring, descriptor or trick, no head enabled, no
beam, sequencer or rate domain running, and every register at its Cold value. Registers without a stated Cold value,
the part and the content of memory are the model's choice (log entries 6, 10 and 12). -/
def Obligations.AfterReset : Prop :=
  let s := State.reset
  s.glob.mode = .bringUp ∧ s.glob.heldInReset = false ∧ s.pending = [] ∧ s.out = [] ∧
  s.hif.rings = [] ∧ s.hif.slots = [] ∧ s.hif.vfEnable = false ∧ s.trk.tricks = [] ∧ s.trk.shown = [] ∧ s.trk.queue = [] ∧
  s.jrnl.boot = .start ∧ s.jrnl.store = none ∧ s.cwy.rx = [] ∧ s.trump.held = none ∧ s.trump.armed = false ∧
  (∀ n : Fin 6, (s.head n).enabled = false ∧ (s.head n).beams = false) ∧ (∀ q : Fin 8, (s.seq q).run = .idle) ∧
  (∀ d : Fin 3, (s.dm d).run = false) ∧ (∀ c : Fin 32, (s.chan c).slot = none) ∧ (∀ c : Fin 8, (s.bctx c).slot = none) ∧
  (∀ (r : RegId) (i j : Nat), s.reg r i j = coldOf s.part r i j ∧ s.useReg r i j = coldOf s.part r i j) ∧
  s.fld (F.HIF_FN_SLOTS_QUOTA 0) = 4096 ∧ s.reg .TRK_FN_OPEN 0 0 = 64 ∧ s.reg .MEM_FN_POOL 0 0 = 8192 ∧
  s.reg .GLB_UNIT_PRESENT 0 0 = s.part.unitPresent

/-- The state after reset has its memory in canonical form (log entry 7). -/
def Obligations.MemoryFormAtReset : Prop := State.reset.MemoryForm

/-- Every step keeps memory and the pages of tricks in canonical form. What the model chooses here is in log entry 7. -/
def Obligations.StepKeepsMemoryForm : Prop :=
  ∀ s t : State, s.MemoryForm → step s = .next t → t.MemoryForm

/-- R28, R55: in OFF, and while RESET_N holds the device in reset, no command but PWR_OK and RESET_N changes anything;
PERST_N and the link are noted. What the model chooses here is in log entries 66 and 74. -/
def Obligations.NothingMovesWhenOff : Prop :=
  ∀ (c : Instr) (s : State), s.glob.mode = .off ∨ (s.glob.heldInReset = true ∧ s.glob.mode = .bringUp) →
    (∀ x r, c ≠ .pwrOkRise x r) → (c = .pwrOkFall → s.glob.mode = .off) →
    (∀ ns x, c = .resetNPulse ns x → s.glob.mode = .off) →
    ∃ t : State, exec c s = .next t ∧
      t = { s with hif := { s.hif with perst := t.hif.perst, linkUp := t.hif.linkUp } } ∧
      (c ≠ .perstNAssert → c ≠ .pcieLinkDown → t = s)

/-- R456, R457: in FREEZE no command but a reset, the end of the restart and the loss of a Causeway link changes memory, a
trick, a ring or a descriptor, a head, a sequencer, a mover, the audio engine, a timer, the pins, the power sequence
or the journal. What the model chooses here is in log entry 66. -/
def Obligations.FrozenUnitsStand : Prop :=
  ∀ (c : Instr) (s : State), s.glob.mode = .freeze → s.glob.heldInReset = false →
    c ≠ .pwrOkFall → (∀ ns x, c ≠ .resetNPulse ns x) → (∀ x, c ≠ .watchdogExpiry x) → c ≠ .freezeRestartDone →
    (∀ p, c ≠ .blockLockLoss p) →
    ∃ t : State, exec c s = .next t ∧ t.glob.mode = .freeze ∧
      t = { s with regs := t.regs, glob := t.glob, trump := t.trump, dbg := t.dbg, cwy := t.cwy, pba := t.pba
                   pmc := t.pmc, out := t.out, free := t.free
                   hif := { s.hif with perst := t.hif.perst, linkUp := t.hif.linkUp, vfEnable := t.hif.vfEnable
                                       numVfs := t.hif.numVfs, d3hot := t.hif.d3hot } }
end

