-- ==== Sys2Proof/Laws/State.lean ====
section
/-!
SUPPORT. One lemma for each field of State and each plain update of it, so that no proof unfolds a record
update.
-/

set_option Elab.async false  -- the joined text is large: no thread per declaration

namespace Sys2Proof.Machine

@[simp] theorem State.setReg_part (s : State) (r : RegId) (i j : Nat) (w : Word) : (s.setReg r i j w).part = s.part := rfl
@[simp] theorem State.setReg_clock (s : State) (r : RegId) (i j : Nat) (w : Word) : (s.setReg r i j w).clock = s.clock := rfl
@[simp] theorem State.setReg_free (s : State) (r : RegId) (i j : Nat) (w : Word) : (s.setReg r i j w).free = s.free := rfl
@[simp] theorem State.setReg_live (s : State) (r : RegId) (i j : Nat) (w : Word) : (s.setReg r i j w).live = s.live := rfl
@[simp] theorem State.setReg_mem (s : State) (r : RegId) (i j : Nat) (w : Word) : (s.setReg r i j w).mem = s.mem := rfl
@[simp] theorem State.setReg_oldPages (s : State) (r : RegId) (i j : Nat) (w : Word) : (s.setReg r i j w).oldPages = s.oldPages := rfl
@[simp] theorem State.setReg_glob (s : State) (r : RegId) (i j : Nat) (w : Word) : (s.setReg r i j w).glob = s.glob := rfl
@[simp] theorem State.setReg_hif (s : State) (r : RegId) (i j : Nat) (w : Word) : (s.setReg r i j w).hif = s.hif := rfl
@[simp] theorem State.setReg_trk (s : State) (r : RegId) (i j : Nat) (w : Word) : (s.setReg r i j w).trk = s.trk := rfl
@[simp] theorem State.setReg_heads (s : State) (r : RegId) (i j : Nat) (w : Word) : (s.setReg r i j w).heads = s.heads := rfl
@[simp] theorem State.setReg_seqs (s : State) (r : RegId) (i j : Nat) (w : Word) : (s.setReg r i j w).seqs = s.seqs := rfl
@[simp] theorem State.setReg_keys (s : State) (r : RegId) (i j : Nat) (w : Word) : (s.setReg r i j w).keys = s.keys := rfl
@[simp] theorem State.setReg_trump (s : State) (r : RegId) (i j : Nat) (w : Word) : (s.setReg r i j w).trump = s.trump := rfl
@[simp] theorem State.setReg_mv (s : State) (r : RegId) (i j : Nat) (w : Word) : (s.setReg r i j w).mv = s.mv := rfl
@[simp] theorem State.setReg_aud (s : State) (r : RegId) (i j : Nat) (w : Word) : (s.setReg r i j w).aud = s.aud := rfl
@[simp] theorem State.setReg_dbg (s : State) (r : RegId) (i j : Nat) (w : Word) : (s.setReg r i j w).dbg = s.dbg := rfl
@[simp] theorem State.setReg_pmc (s : State) (r : RegId) (i j : Nat) (w : Word) : (s.setReg r i j w).pmc = s.pmc := rfl
@[simp] theorem State.setReg_tmr (s : State) (r : RegId) (i j : Nat) (w : Word) : (s.setReg r i j w).tmr = s.tmr := rfl
@[simp] theorem State.setReg_gpio (s : State) (r : RegId) (i j : Nat) (w : Word) : (s.setReg r i j w).gpio = s.gpio := rfl
@[simp] theorem State.setReg_cwy (s : State) (r : RegId) (i j : Nat) (w : Word) : (s.setReg r i j w).cwy = s.cwy := rfl
@[simp] theorem State.setReg_pwr (s : State) (r : RegId) (i j : Nat) (w : Word) : (s.setReg r i j w).pwr = s.pwr := rfl
@[simp] theorem State.setReg_jrnl (s : State) (r : RegId) (i j : Nat) (w : Word) : (s.setReg r i j w).jrnl = s.jrnl := rfl
@[simp] theorem State.setReg_out (s : State) (r : RegId) (i j : Nat) (w : Word) : (s.setReg r i j w).out = s.out := rfl
@[simp] theorem State.setReg_pending (s : State) (r : RegId) (i j : Nat) (w : Word) : (s.setReg r i j w).pending = s.pending := rfl

@[simp] theorem State.setLive_part (s : State) (r : RegId) (i j : Nat) (w : Word) : (s.setLive r i j w).part = s.part := rfl
@[simp] theorem State.setLive_clock (s : State) (r : RegId) (i j : Nat) (w : Word) : (s.setLive r i j w).clock = s.clock := rfl
@[simp] theorem State.setLive_free (s : State) (r : RegId) (i j : Nat) (w : Word) : (s.setLive r i j w).free = s.free := rfl
@[simp] theorem State.setLive_regs (s : State) (r : RegId) (i j : Nat) (w : Word) : (s.setLive r i j w).regs = s.regs := rfl
@[simp] theorem State.setLive_mem (s : State) (r : RegId) (i j : Nat) (w : Word) : (s.setLive r i j w).mem = s.mem := rfl
@[simp] theorem State.setLive_oldPages (s : State) (r : RegId) (i j : Nat) (w : Word) : (s.setLive r i j w).oldPages = s.oldPages := rfl
@[simp] theorem State.setLive_glob (s : State) (r : RegId) (i j : Nat) (w : Word) : (s.setLive r i j w).glob = s.glob := rfl
@[simp] theorem State.setLive_hif (s : State) (r : RegId) (i j : Nat) (w : Word) : (s.setLive r i j w).hif = s.hif := rfl
@[simp] theorem State.setLive_trk (s : State) (r : RegId) (i j : Nat) (w : Word) : (s.setLive r i j w).trk = s.trk := rfl
@[simp] theorem State.setLive_heads (s : State) (r : RegId) (i j : Nat) (w : Word) : (s.setLive r i j w).heads = s.heads := rfl
@[simp] theorem State.setLive_seqs (s : State) (r : RegId) (i j : Nat) (w : Word) : (s.setLive r i j w).seqs = s.seqs := rfl
@[simp] theorem State.setLive_keys (s : State) (r : RegId) (i j : Nat) (w : Word) : (s.setLive r i j w).keys = s.keys := rfl
@[simp] theorem State.setLive_trump (s : State) (r : RegId) (i j : Nat) (w : Word) : (s.setLive r i j w).trump = s.trump := rfl
@[simp] theorem State.setLive_mv (s : State) (r : RegId) (i j : Nat) (w : Word) : (s.setLive r i j w).mv = s.mv := rfl
@[simp] theorem State.setLive_aud (s : State) (r : RegId) (i j : Nat) (w : Word) : (s.setLive r i j w).aud = s.aud := rfl
@[simp] theorem State.setLive_dbg (s : State) (r : RegId) (i j : Nat) (w : Word) : (s.setLive r i j w).dbg = s.dbg := rfl
@[simp] theorem State.setLive_pmc (s : State) (r : RegId) (i j : Nat) (w : Word) : (s.setLive r i j w).pmc = s.pmc := rfl
@[simp] theorem State.setLive_tmr (s : State) (r : RegId) (i j : Nat) (w : Word) : (s.setLive r i j w).tmr = s.tmr := rfl
@[simp] theorem State.setLive_gpio (s : State) (r : RegId) (i j : Nat) (w : Word) : (s.setLive r i j w).gpio = s.gpio := rfl
@[simp] theorem State.setLive_cwy (s : State) (r : RegId) (i j : Nat) (w : Word) : (s.setLive r i j w).cwy = s.cwy := rfl
@[simp] theorem State.setLive_pwr (s : State) (r : RegId) (i j : Nat) (w : Word) : (s.setLive r i j w).pwr = s.pwr := rfl
@[simp] theorem State.setLive_jrnl (s : State) (r : RegId) (i j : Nat) (w : Word) : (s.setLive r i j w).jrnl = s.jrnl := rfl
@[simp] theorem State.setLive_out (s : State) (r : RegId) (i j : Nat) (w : Word) : (s.setLive r i j w).out = s.out := rfl
@[simp] theorem State.setLive_pending (s : State) (r : RegId) (i j : Nat) (w : Word) : (s.setLive r i j w).pending = s.pending := rfl

@[simp] theorem State.dropLive_part (s : State) (r : RegId) (i j : Nat) : (s.dropLive r i j).part = s.part := rfl
@[simp] theorem State.dropLive_clock (s : State) (r : RegId) (i j : Nat) : (s.dropLive r i j).clock = s.clock := rfl
@[simp] theorem State.dropLive_free (s : State) (r : RegId) (i j : Nat) : (s.dropLive r i j).free = s.free := rfl
@[simp] theorem State.dropLive_regs (s : State) (r : RegId) (i j : Nat) : (s.dropLive r i j).regs = s.regs := rfl
@[simp] theorem State.dropLive_mem (s : State) (r : RegId) (i j : Nat) : (s.dropLive r i j).mem = s.mem := rfl
@[simp] theorem State.dropLive_oldPages (s : State) (r : RegId) (i j : Nat) : (s.dropLive r i j).oldPages = s.oldPages := rfl
@[simp] theorem State.dropLive_glob (s : State) (r : RegId) (i j : Nat) : (s.dropLive r i j).glob = s.glob := rfl
@[simp] theorem State.dropLive_hif (s : State) (r : RegId) (i j : Nat) : (s.dropLive r i j).hif = s.hif := rfl
@[simp] theorem State.dropLive_trk (s : State) (r : RegId) (i j : Nat) : (s.dropLive r i j).trk = s.trk := rfl
@[simp] theorem State.dropLive_heads (s : State) (r : RegId) (i j : Nat) : (s.dropLive r i j).heads = s.heads := rfl
@[simp] theorem State.dropLive_seqs (s : State) (r : RegId) (i j : Nat) : (s.dropLive r i j).seqs = s.seqs := rfl
@[simp] theorem State.dropLive_keys (s : State) (r : RegId) (i j : Nat) : (s.dropLive r i j).keys = s.keys := rfl
@[simp] theorem State.dropLive_trump (s : State) (r : RegId) (i j : Nat) : (s.dropLive r i j).trump = s.trump := rfl
@[simp] theorem State.dropLive_mv (s : State) (r : RegId) (i j : Nat) : (s.dropLive r i j).mv = s.mv := rfl
@[simp] theorem State.dropLive_aud (s : State) (r : RegId) (i j : Nat) : (s.dropLive r i j).aud = s.aud := rfl
@[simp] theorem State.dropLive_dbg (s : State) (r : RegId) (i j : Nat) : (s.dropLive r i j).dbg = s.dbg := rfl
@[simp] theorem State.dropLive_pmc (s : State) (r : RegId) (i j : Nat) : (s.dropLive r i j).pmc = s.pmc := rfl
@[simp] theorem State.dropLive_tmr (s : State) (r : RegId) (i j : Nat) : (s.dropLive r i j).tmr = s.tmr := rfl
@[simp] theorem State.dropLive_gpio (s : State) (r : RegId) (i j : Nat) : (s.dropLive r i j).gpio = s.gpio := rfl
@[simp] theorem State.dropLive_cwy (s : State) (r : RegId) (i j : Nat) : (s.dropLive r i j).cwy = s.cwy := rfl
@[simp] theorem State.dropLive_pwr (s : State) (r : RegId) (i j : Nat) : (s.dropLive r i j).pwr = s.pwr := rfl
@[simp] theorem State.dropLive_jrnl (s : State) (r : RegId) (i j : Nat) : (s.dropLive r i j).jrnl = s.jrnl := rfl
@[simp] theorem State.dropLive_out (s : State) (r : RegId) (i j : Nat) : (s.dropLive r i j).out = s.out := rfl
@[simp] theorem State.dropLive_pending (s : State) (r : RegId) (i j : Nat) : (s.dropLive r i j).pending = s.pending := rfl

@[simp] theorem State.setF_part (s : State) (f : Fld) (v : Nat) : (s.setF f v).part = s.part := rfl
@[simp] theorem State.setF_clock (s : State) (f : Fld) (v : Nat) : (s.setF f v).clock = s.clock := rfl
@[simp] theorem State.setF_free (s : State) (f : Fld) (v : Nat) : (s.setF f v).free = s.free := rfl
@[simp] theorem State.setF_live (s : State) (f : Fld) (v : Nat) : (s.setF f v).live = s.live := rfl
@[simp] theorem State.setF_mem (s : State) (f : Fld) (v : Nat) : (s.setF f v).mem = s.mem := rfl
@[simp] theorem State.setF_oldPages (s : State) (f : Fld) (v : Nat) : (s.setF f v).oldPages = s.oldPages := rfl
@[simp] theorem State.setF_glob (s : State) (f : Fld) (v : Nat) : (s.setF f v).glob = s.glob := rfl
@[simp] theorem State.setF_hif (s : State) (f : Fld) (v : Nat) : (s.setF f v).hif = s.hif := rfl
@[simp] theorem State.setF_trk (s : State) (f : Fld) (v : Nat) : (s.setF f v).trk = s.trk := rfl
@[simp] theorem State.setF_heads (s : State) (f : Fld) (v : Nat) : (s.setF f v).heads = s.heads := rfl
@[simp] theorem State.setF_seqs (s : State) (f : Fld) (v : Nat) : (s.setF f v).seqs = s.seqs := rfl
@[simp] theorem State.setF_keys (s : State) (f : Fld) (v : Nat) : (s.setF f v).keys = s.keys := rfl
@[simp] theorem State.setF_trump (s : State) (f : Fld) (v : Nat) : (s.setF f v).trump = s.trump := rfl
@[simp] theorem State.setF_mv (s : State) (f : Fld) (v : Nat) : (s.setF f v).mv = s.mv := rfl
@[simp] theorem State.setF_aud (s : State) (f : Fld) (v : Nat) : (s.setF f v).aud = s.aud := rfl
@[simp] theorem State.setF_dbg (s : State) (f : Fld) (v : Nat) : (s.setF f v).dbg = s.dbg := rfl
@[simp] theorem State.setF_pmc (s : State) (f : Fld) (v : Nat) : (s.setF f v).pmc = s.pmc := rfl
@[simp] theorem State.setF_tmr (s : State) (f : Fld) (v : Nat) : (s.setF f v).tmr = s.tmr := rfl
@[simp] theorem State.setF_gpio (s : State) (f : Fld) (v : Nat) : (s.setF f v).gpio = s.gpio := rfl
@[simp] theorem State.setF_cwy (s : State) (f : Fld) (v : Nat) : (s.setF f v).cwy = s.cwy := rfl
@[simp] theorem State.setF_pwr (s : State) (f : Fld) (v : Nat) : (s.setF f v).pwr = s.pwr := rfl
@[simp] theorem State.setF_jrnl (s : State) (f : Fld) (v : Nat) : (s.setF f v).jrnl = s.jrnl := rfl
@[simp] theorem State.setF_out (s : State) (f : Fld) (v : Nat) : (s.setF f v).out = s.out := rfl
@[simp] theorem State.setF_pending (s : State) (f : Fld) (v : Nat) : (s.setF f v).pending = s.pending := rfl

@[simp] theorem State.raiseF_part (s : State) (f : Fld) : (s.raiseF f).part = s.part := rfl
@[simp] theorem State.raiseF_clock (s : State) (f : Fld) : (s.raiseF f).clock = s.clock := rfl
@[simp] theorem State.raiseF_free (s : State) (f : Fld) : (s.raiseF f).free = s.free := rfl
@[simp] theorem State.raiseF_live (s : State) (f : Fld) : (s.raiseF f).live = s.live := rfl
@[simp] theorem State.raiseF_mem (s : State) (f : Fld) : (s.raiseF f).mem = s.mem := rfl
@[simp] theorem State.raiseF_oldPages (s : State) (f : Fld) : (s.raiseF f).oldPages = s.oldPages := rfl
@[simp] theorem State.raiseF_glob (s : State) (f : Fld) : (s.raiseF f).glob = s.glob := rfl
@[simp] theorem State.raiseF_hif (s : State) (f : Fld) : (s.raiseF f).hif = s.hif := rfl
@[simp] theorem State.raiseF_trk (s : State) (f : Fld) : (s.raiseF f).trk = s.trk := rfl
@[simp] theorem State.raiseF_heads (s : State) (f : Fld) : (s.raiseF f).heads = s.heads := rfl
@[simp] theorem State.raiseF_seqs (s : State) (f : Fld) : (s.raiseF f).seqs = s.seqs := rfl
@[simp] theorem State.raiseF_keys (s : State) (f : Fld) : (s.raiseF f).keys = s.keys := rfl
@[simp] theorem State.raiseF_trump (s : State) (f : Fld) : (s.raiseF f).trump = s.trump := rfl
@[simp] theorem State.raiseF_mv (s : State) (f : Fld) : (s.raiseF f).mv = s.mv := rfl
@[simp] theorem State.raiseF_aud (s : State) (f : Fld) : (s.raiseF f).aud = s.aud := rfl
@[simp] theorem State.raiseF_dbg (s : State) (f : Fld) : (s.raiseF f).dbg = s.dbg := rfl
@[simp] theorem State.raiseF_pmc (s : State) (f : Fld) : (s.raiseF f).pmc = s.pmc := rfl
@[simp] theorem State.raiseF_tmr (s : State) (f : Fld) : (s.raiseF f).tmr = s.tmr := rfl
@[simp] theorem State.raiseF_gpio (s : State) (f : Fld) : (s.raiseF f).gpio = s.gpio := rfl
@[simp] theorem State.raiseF_cwy (s : State) (f : Fld) : (s.raiseF f).cwy = s.cwy := rfl
@[simp] theorem State.raiseF_pwr (s : State) (f : Fld) : (s.raiseF f).pwr = s.pwr := rfl
@[simp] theorem State.raiseF_jrnl (s : State) (f : Fld) : (s.raiseF f).jrnl = s.jrnl := rfl
@[simp] theorem State.raiseF_out (s : State) (f : Fld) : (s.raiseF f).out = s.out := rfl
@[simp] theorem State.raiseF_pending (s : State) (f : Fld) : (s.raiseF f).pending = s.pending := rfl

@[simp] theorem State.incF_part (s : State) (f : Fld) (n : Nat) : (s.incF f n).part = s.part := rfl
@[simp] theorem State.incF_clock (s : State) (f : Fld) (n : Nat) : (s.incF f n).clock = s.clock := rfl
@[simp] theorem State.incF_free (s : State) (f : Fld) (n : Nat) : (s.incF f n).free = s.free := rfl
@[simp] theorem State.incF_live (s : State) (f : Fld) (n : Nat) : (s.incF f n).live = s.live := rfl
@[simp] theorem State.incF_mem (s : State) (f : Fld) (n : Nat) : (s.incF f n).mem = s.mem := rfl
@[simp] theorem State.incF_oldPages (s : State) (f : Fld) (n : Nat) : (s.incF f n).oldPages = s.oldPages := rfl
@[simp] theorem State.incF_glob (s : State) (f : Fld) (n : Nat) : (s.incF f n).glob = s.glob := rfl
@[simp] theorem State.incF_hif (s : State) (f : Fld) (n : Nat) : (s.incF f n).hif = s.hif := rfl
@[simp] theorem State.incF_trk (s : State) (f : Fld) (n : Nat) : (s.incF f n).trk = s.trk := rfl
@[simp] theorem State.incF_heads (s : State) (f : Fld) (n : Nat) : (s.incF f n).heads = s.heads := rfl
@[simp] theorem State.incF_seqs (s : State) (f : Fld) (n : Nat) : (s.incF f n).seqs = s.seqs := rfl
@[simp] theorem State.incF_keys (s : State) (f : Fld) (n : Nat) : (s.incF f n).keys = s.keys := rfl
@[simp] theorem State.incF_trump (s : State) (f : Fld) (n : Nat) : (s.incF f n).trump = s.trump := rfl
@[simp] theorem State.incF_mv (s : State) (f : Fld) (n : Nat) : (s.incF f n).mv = s.mv := rfl
@[simp] theorem State.incF_aud (s : State) (f : Fld) (n : Nat) : (s.incF f n).aud = s.aud := rfl
@[simp] theorem State.incF_dbg (s : State) (f : Fld) (n : Nat) : (s.incF f n).dbg = s.dbg := rfl
@[simp] theorem State.incF_pmc (s : State) (f : Fld) (n : Nat) : (s.incF f n).pmc = s.pmc := rfl
@[simp] theorem State.incF_tmr (s : State) (f : Fld) (n : Nat) : (s.incF f n).tmr = s.tmr := rfl
@[simp] theorem State.incF_gpio (s : State) (f : Fld) (n : Nat) : (s.incF f n).gpio = s.gpio := rfl
@[simp] theorem State.incF_cwy (s : State) (f : Fld) (n : Nat) : (s.incF f n).cwy = s.cwy := rfl
@[simp] theorem State.incF_pwr (s : State) (f : Fld) (n : Nat) : (s.incF f n).pwr = s.pwr := rfl
@[simp] theorem State.incF_jrnl (s : State) (f : Fld) (n : Nat) : (s.incF f n).jrnl = s.jrnl := rfl
@[simp] theorem State.incF_out (s : State) (f : Fld) (n : Nat) : (s.incF f n).out = s.out := rfl
@[simp] theorem State.incF_pending (s : State) (f : Fld) (n : Nat) : (s.incF f n).pending = s.pending := rfl

@[simp] theorem State.wrapF_part (s : State) (f : Fld) : (s.wrapF f).part = s.part := rfl
@[simp] theorem State.wrapF_clock (s : State) (f : Fld) : (s.wrapF f).clock = s.clock := rfl
@[simp] theorem State.wrapF_free (s : State) (f : Fld) : (s.wrapF f).free = s.free := rfl
@[simp] theorem State.wrapF_live (s : State) (f : Fld) : (s.wrapF f).live = s.live := rfl
@[simp] theorem State.wrapF_mem (s : State) (f : Fld) : (s.wrapF f).mem = s.mem := rfl
@[simp] theorem State.wrapF_oldPages (s : State) (f : Fld) : (s.wrapF f).oldPages = s.oldPages := rfl
@[simp] theorem State.wrapF_glob (s : State) (f : Fld) : (s.wrapF f).glob = s.glob := rfl
@[simp] theorem State.wrapF_hif (s : State) (f : Fld) : (s.wrapF f).hif = s.hif := rfl
@[simp] theorem State.wrapF_trk (s : State) (f : Fld) : (s.wrapF f).trk = s.trk := rfl
@[simp] theorem State.wrapF_heads (s : State) (f : Fld) : (s.wrapF f).heads = s.heads := rfl
@[simp] theorem State.wrapF_seqs (s : State) (f : Fld) : (s.wrapF f).seqs = s.seqs := rfl
@[simp] theorem State.wrapF_keys (s : State) (f : Fld) : (s.wrapF f).keys = s.keys := rfl
@[simp] theorem State.wrapF_trump (s : State) (f : Fld) : (s.wrapF f).trump = s.trump := rfl
@[simp] theorem State.wrapF_mv (s : State) (f : Fld) : (s.wrapF f).mv = s.mv := rfl
@[simp] theorem State.wrapF_aud (s : State) (f : Fld) : (s.wrapF f).aud = s.aud := rfl
@[simp] theorem State.wrapF_dbg (s : State) (f : Fld) : (s.wrapF f).dbg = s.dbg := rfl
@[simp] theorem State.wrapF_pmc (s : State) (f : Fld) : (s.wrapF f).pmc = s.pmc := rfl
@[simp] theorem State.wrapF_tmr (s : State) (f : Fld) : (s.wrapF f).tmr = s.tmr := rfl
@[simp] theorem State.wrapF_gpio (s : State) (f : Fld) : (s.wrapF f).gpio = s.gpio := rfl
@[simp] theorem State.wrapF_cwy (s : State) (f : Fld) : (s.wrapF f).cwy = s.cwy := rfl
@[simp] theorem State.wrapF_pwr (s : State) (f : Fld) : (s.wrapF f).pwr = s.pwr := rfl
@[simp] theorem State.wrapF_jrnl (s : State) (f : Fld) : (s.wrapF f).jrnl = s.jrnl := rfl
@[simp] theorem State.wrapF_out (s : State) (f : Fld) : (s.wrapF f).out = s.out := rfl
@[simp] theorem State.wrapF_pending (s : State) (f : Fld) : (s.wrapF f).pending = s.pending := rfl

@[simp] theorem State.reloadHead_part (s : State) (n : Fin 6) : (s.reloadHead n).part = s.part := rfl
@[simp] theorem State.reloadHead_clock (s : State) (n : Fin 6) : (s.reloadHead n).clock = s.clock := rfl
@[simp] theorem State.reloadHead_free (s : State) (n : Fin 6) : (s.reloadHead n).free = s.free := rfl
@[simp] theorem State.reloadHead_regs (s : State) (n : Fin 6) : (s.reloadHead n).regs = s.regs := rfl
@[simp] theorem State.reloadHead_mem (s : State) (n : Fin 6) : (s.reloadHead n).mem = s.mem := rfl
@[simp] theorem State.reloadHead_oldPages (s : State) (n : Fin 6) : (s.reloadHead n).oldPages = s.oldPages := rfl
@[simp] theorem State.reloadHead_glob (s : State) (n : Fin 6) : (s.reloadHead n).glob = s.glob := rfl
@[simp] theorem State.reloadHead_hif (s : State) (n : Fin 6) : (s.reloadHead n).hif = s.hif := rfl
@[simp] theorem State.reloadHead_trk (s : State) (n : Fin 6) : (s.reloadHead n).trk = s.trk := rfl
@[simp] theorem State.reloadHead_heads (s : State) (n : Fin 6) : (s.reloadHead n).heads = s.heads := rfl
@[simp] theorem State.reloadHead_seqs (s : State) (n : Fin 6) : (s.reloadHead n).seqs = s.seqs := rfl
@[simp] theorem State.reloadHead_keys (s : State) (n : Fin 6) : (s.reloadHead n).keys = s.keys := rfl
@[simp] theorem State.reloadHead_trump (s : State) (n : Fin 6) : (s.reloadHead n).trump = s.trump := rfl
@[simp] theorem State.reloadHead_mv (s : State) (n : Fin 6) : (s.reloadHead n).mv = s.mv := rfl
@[simp] theorem State.reloadHead_aud (s : State) (n : Fin 6) : (s.reloadHead n).aud = s.aud := rfl
@[simp] theorem State.reloadHead_dbg (s : State) (n : Fin 6) : (s.reloadHead n).dbg = s.dbg := rfl
@[simp] theorem State.reloadHead_pmc (s : State) (n : Fin 6) : (s.reloadHead n).pmc = s.pmc := rfl
@[simp] theorem State.reloadHead_tmr (s : State) (n : Fin 6) : (s.reloadHead n).tmr = s.tmr := rfl
@[simp] theorem State.reloadHead_gpio (s : State) (n : Fin 6) : (s.reloadHead n).gpio = s.gpio := rfl
@[simp] theorem State.reloadHead_cwy (s : State) (n : Fin 6) : (s.reloadHead n).cwy = s.cwy := rfl
@[simp] theorem State.reloadHead_pwr (s : State) (n : Fin 6) : (s.reloadHead n).pwr = s.pwr := rfl
@[simp] theorem State.reloadHead_jrnl (s : State) (n : Fin 6) : (s.reloadHead n).jrnl = s.jrnl := rfl
@[simp] theorem State.reloadHead_out (s : State) (n : Fin 6) : (s.reloadHead n).out = s.out := rfl
@[simp] theorem State.reloadHead_pending (s : State) (n : Fin 6) : (s.reloadHead n).pending = s.pending := rfl

@[simp] theorem State.poke_part (s : State) (a : Nat) (bs : List Byte) : (s.poke a bs).part = s.part := rfl
@[simp] theorem State.poke_clock (s : State) (a : Nat) (bs : List Byte) : (s.poke a bs).clock = s.clock := rfl
@[simp] theorem State.poke_free (s : State) (a : Nat) (bs : List Byte) : (s.poke a bs).free = s.free := rfl
@[simp] theorem State.poke_regs (s : State) (a : Nat) (bs : List Byte) : (s.poke a bs).regs = s.regs := rfl
@[simp] theorem State.poke_live (s : State) (a : Nat) (bs : List Byte) : (s.poke a bs).live = s.live := rfl
@[simp] theorem State.poke_oldPages (s : State) (a : Nat) (bs : List Byte) : (s.poke a bs).oldPages = s.oldPages := rfl
@[simp] theorem State.poke_glob (s : State) (a : Nat) (bs : List Byte) : (s.poke a bs).glob = s.glob := rfl
@[simp] theorem State.poke_hif (s : State) (a : Nat) (bs : List Byte) : (s.poke a bs).hif = s.hif := rfl
@[simp] theorem State.poke_trk (s : State) (a : Nat) (bs : List Byte) : (s.poke a bs).trk = s.trk := rfl
@[simp] theorem State.poke_heads (s : State) (a : Nat) (bs : List Byte) : (s.poke a bs).heads = s.heads := rfl
@[simp] theorem State.poke_seqs (s : State) (a : Nat) (bs : List Byte) : (s.poke a bs).seqs = s.seqs := rfl
@[simp] theorem State.poke_keys (s : State) (a : Nat) (bs : List Byte) : (s.poke a bs).keys = s.keys := rfl
@[simp] theorem State.poke_trump (s : State) (a : Nat) (bs : List Byte) : (s.poke a bs).trump = s.trump := rfl
@[simp] theorem State.poke_mv (s : State) (a : Nat) (bs : List Byte) : (s.poke a bs).mv = s.mv := rfl
@[simp] theorem State.poke_aud (s : State) (a : Nat) (bs : List Byte) : (s.poke a bs).aud = s.aud := rfl
@[simp] theorem State.poke_dbg (s : State) (a : Nat) (bs : List Byte) : (s.poke a bs).dbg = s.dbg := rfl
@[simp] theorem State.poke_pmc (s : State) (a : Nat) (bs : List Byte) : (s.poke a bs).pmc = s.pmc := rfl
@[simp] theorem State.poke_tmr (s : State) (a : Nat) (bs : List Byte) : (s.poke a bs).tmr = s.tmr := rfl
@[simp] theorem State.poke_gpio (s : State) (a : Nat) (bs : List Byte) : (s.poke a bs).gpio = s.gpio := rfl
@[simp] theorem State.poke_cwy (s : State) (a : Nat) (bs : List Byte) : (s.poke a bs).cwy = s.cwy := rfl
@[simp] theorem State.poke_pwr (s : State) (a : Nat) (bs : List Byte) : (s.poke a bs).pwr = s.pwr := rfl
@[simp] theorem State.poke_jrnl (s : State) (a : Nat) (bs : List Byte) : (s.poke a bs).jrnl = s.jrnl := rfl
@[simp] theorem State.poke_out (s : State) (a : Nat) (bs : List Byte) : (s.poke a bs).out = s.out := rfl
@[simp] theorem State.poke_pending (s : State) (a : Nat) (bs : List Byte) : (s.poke a bs).pending = s.pending := rfl

@[simp] theorem State.scramble_part (s : State) (lo hi : Nat) : (s.scramble lo hi).part = s.part := rfl
@[simp] theorem State.scramble_clock (s : State) (lo hi : Nat) : (s.scramble lo hi).clock = s.clock := rfl
@[simp] theorem State.scramble_regs (s : State) (lo hi : Nat) : (s.scramble lo hi).regs = s.regs := rfl
@[simp] theorem State.scramble_live (s : State) (lo hi : Nat) : (s.scramble lo hi).live = s.live := rfl
@[simp] theorem State.scramble_oldPages (s : State) (lo hi : Nat) : (s.scramble lo hi).oldPages = s.oldPages := rfl
@[simp] theorem State.scramble_glob (s : State) (lo hi : Nat) : (s.scramble lo hi).glob = s.glob := rfl
@[simp] theorem State.scramble_hif (s : State) (lo hi : Nat) : (s.scramble lo hi).hif = s.hif := rfl
@[simp] theorem State.scramble_trk (s : State) (lo hi : Nat) : (s.scramble lo hi).trk = s.trk := rfl
@[simp] theorem State.scramble_heads (s : State) (lo hi : Nat) : (s.scramble lo hi).heads = s.heads := rfl
@[simp] theorem State.scramble_seqs (s : State) (lo hi : Nat) : (s.scramble lo hi).seqs = s.seqs := rfl
@[simp] theorem State.scramble_keys (s : State) (lo hi : Nat) : (s.scramble lo hi).keys = s.keys := rfl
@[simp] theorem State.scramble_trump (s : State) (lo hi : Nat) : (s.scramble lo hi).trump = s.trump := rfl
@[simp] theorem State.scramble_mv (s : State) (lo hi : Nat) : (s.scramble lo hi).mv = s.mv := rfl
@[simp] theorem State.scramble_aud (s : State) (lo hi : Nat) : (s.scramble lo hi).aud = s.aud := rfl
@[simp] theorem State.scramble_dbg (s : State) (lo hi : Nat) : (s.scramble lo hi).dbg = s.dbg := rfl
@[simp] theorem State.scramble_pmc (s : State) (lo hi : Nat) : (s.scramble lo hi).pmc = s.pmc := rfl
@[simp] theorem State.scramble_tmr (s : State) (lo hi : Nat) : (s.scramble lo hi).tmr = s.tmr := rfl
@[simp] theorem State.scramble_gpio (s : State) (lo hi : Nat) : (s.scramble lo hi).gpio = s.gpio := rfl
@[simp] theorem State.scramble_cwy (s : State) (lo hi : Nat) : (s.scramble lo hi).cwy = s.cwy := rfl
@[simp] theorem State.scramble_pwr (s : State) (lo hi : Nat) : (s.scramble lo hi).pwr = s.pwr := rfl
@[simp] theorem State.scramble_jrnl (s : State) (lo hi : Nat) : (s.scramble lo hi).jrnl = s.jrnl := rfl
@[simp] theorem State.scramble_out (s : State) (lo hi : Nat) : (s.scramble lo hi).out = s.out := rfl
@[simp] theorem State.scramble_pending (s : State) (lo hi : Nat) : (s.scramble lo hi).pending = s.pending := rfl

@[simp] theorem State.modHead_part (s : State) (n : Fin 6) (f : HeadSt → HeadSt) : (s.modHead n f).part = s.part := rfl
@[simp] theorem State.modHead_clock (s : State) (n : Fin 6) (f : HeadSt → HeadSt) : (s.modHead n f).clock = s.clock := rfl
@[simp] theorem State.modHead_free (s : State) (n : Fin 6) (f : HeadSt → HeadSt) : (s.modHead n f).free = s.free := rfl
@[simp] theorem State.modHead_regs (s : State) (n : Fin 6) (f : HeadSt → HeadSt) : (s.modHead n f).regs = s.regs := rfl
@[simp] theorem State.modHead_live (s : State) (n : Fin 6) (f : HeadSt → HeadSt) : (s.modHead n f).live = s.live := rfl
@[simp] theorem State.modHead_mem (s : State) (n : Fin 6) (f : HeadSt → HeadSt) : (s.modHead n f).mem = s.mem := rfl
@[simp] theorem State.modHead_oldPages (s : State) (n : Fin 6) (f : HeadSt → HeadSt) : (s.modHead n f).oldPages = s.oldPages := rfl
@[simp] theorem State.modHead_glob (s : State) (n : Fin 6) (f : HeadSt → HeadSt) : (s.modHead n f).glob = s.glob := rfl
@[simp] theorem State.modHead_hif (s : State) (n : Fin 6) (f : HeadSt → HeadSt) : (s.modHead n f).hif = s.hif := rfl
@[simp] theorem State.modHead_trk (s : State) (n : Fin 6) (f : HeadSt → HeadSt) : (s.modHead n f).trk = s.trk := rfl
@[simp] theorem State.modHead_seqs (s : State) (n : Fin 6) (f : HeadSt → HeadSt) : (s.modHead n f).seqs = s.seqs := rfl
@[simp] theorem State.modHead_keys (s : State) (n : Fin 6) (f : HeadSt → HeadSt) : (s.modHead n f).keys = s.keys := rfl
@[simp] theorem State.modHead_trump (s : State) (n : Fin 6) (f : HeadSt → HeadSt) : (s.modHead n f).trump = s.trump := rfl
@[simp] theorem State.modHead_mv (s : State) (n : Fin 6) (f : HeadSt → HeadSt) : (s.modHead n f).mv = s.mv := rfl
@[simp] theorem State.modHead_aud (s : State) (n : Fin 6) (f : HeadSt → HeadSt) : (s.modHead n f).aud = s.aud := rfl
@[simp] theorem State.modHead_dbg (s : State) (n : Fin 6) (f : HeadSt → HeadSt) : (s.modHead n f).dbg = s.dbg := rfl
@[simp] theorem State.modHead_pmc (s : State) (n : Fin 6) (f : HeadSt → HeadSt) : (s.modHead n f).pmc = s.pmc := rfl
@[simp] theorem State.modHead_tmr (s : State) (n : Fin 6) (f : HeadSt → HeadSt) : (s.modHead n f).tmr = s.tmr := rfl
@[simp] theorem State.modHead_gpio (s : State) (n : Fin 6) (f : HeadSt → HeadSt) : (s.modHead n f).gpio = s.gpio := rfl
@[simp] theorem State.modHead_cwy (s : State) (n : Fin 6) (f : HeadSt → HeadSt) : (s.modHead n f).cwy = s.cwy := rfl
@[simp] theorem State.modHead_pwr (s : State) (n : Fin 6) (f : HeadSt → HeadSt) : (s.modHead n f).pwr = s.pwr := rfl
@[simp] theorem State.modHead_jrnl (s : State) (n : Fin 6) (f : HeadSt → HeadSt) : (s.modHead n f).jrnl = s.jrnl := rfl
@[simp] theorem State.modHead_out (s : State) (n : Fin 6) (f : HeadSt → HeadSt) : (s.modHead n f).out = s.out := rfl
@[simp] theorem State.modHead_pending (s : State) (n : Fin 6) (f : HeadSt → HeadSt) : (s.modHead n f).pending = s.pending := rfl

@[simp] theorem State.modSeq_part (s : State) (q : Fin 8) (f : SeqSt → SeqSt) : (s.modSeq q f).part = s.part := rfl
@[simp] theorem State.modSeq_clock (s : State) (q : Fin 8) (f : SeqSt → SeqSt) : (s.modSeq q f).clock = s.clock := rfl
@[simp] theorem State.modSeq_free (s : State) (q : Fin 8) (f : SeqSt → SeqSt) : (s.modSeq q f).free = s.free := rfl
@[simp] theorem State.modSeq_regs (s : State) (q : Fin 8) (f : SeqSt → SeqSt) : (s.modSeq q f).regs = s.regs := rfl
@[simp] theorem State.modSeq_live (s : State) (q : Fin 8) (f : SeqSt → SeqSt) : (s.modSeq q f).live = s.live := rfl
@[simp] theorem State.modSeq_mem (s : State) (q : Fin 8) (f : SeqSt → SeqSt) : (s.modSeq q f).mem = s.mem := rfl
@[simp] theorem State.modSeq_oldPages (s : State) (q : Fin 8) (f : SeqSt → SeqSt) : (s.modSeq q f).oldPages = s.oldPages := rfl
@[simp] theorem State.modSeq_glob (s : State) (q : Fin 8) (f : SeqSt → SeqSt) : (s.modSeq q f).glob = s.glob := rfl
@[simp] theorem State.modSeq_hif (s : State) (q : Fin 8) (f : SeqSt → SeqSt) : (s.modSeq q f).hif = s.hif := rfl
@[simp] theorem State.modSeq_trk (s : State) (q : Fin 8) (f : SeqSt → SeqSt) : (s.modSeq q f).trk = s.trk := rfl
@[simp] theorem State.modSeq_heads (s : State) (q : Fin 8) (f : SeqSt → SeqSt) : (s.modSeq q f).heads = s.heads := rfl
@[simp] theorem State.modSeq_keys (s : State) (q : Fin 8) (f : SeqSt → SeqSt) : (s.modSeq q f).keys = s.keys := rfl
@[simp] theorem State.modSeq_trump (s : State) (q : Fin 8) (f : SeqSt → SeqSt) : (s.modSeq q f).trump = s.trump := rfl
@[simp] theorem State.modSeq_mv (s : State) (q : Fin 8) (f : SeqSt → SeqSt) : (s.modSeq q f).mv = s.mv := rfl
@[simp] theorem State.modSeq_aud (s : State) (q : Fin 8) (f : SeqSt → SeqSt) : (s.modSeq q f).aud = s.aud := rfl
@[simp] theorem State.modSeq_dbg (s : State) (q : Fin 8) (f : SeqSt → SeqSt) : (s.modSeq q f).dbg = s.dbg := rfl
@[simp] theorem State.modSeq_pmc (s : State) (q : Fin 8) (f : SeqSt → SeqSt) : (s.modSeq q f).pmc = s.pmc := rfl
@[simp] theorem State.modSeq_tmr (s : State) (q : Fin 8) (f : SeqSt → SeqSt) : (s.modSeq q f).tmr = s.tmr := rfl
@[simp] theorem State.modSeq_gpio (s : State) (q : Fin 8) (f : SeqSt → SeqSt) : (s.modSeq q f).gpio = s.gpio := rfl
@[simp] theorem State.modSeq_cwy (s : State) (q : Fin 8) (f : SeqSt → SeqSt) : (s.modSeq q f).cwy = s.cwy := rfl
@[simp] theorem State.modSeq_pwr (s : State) (q : Fin 8) (f : SeqSt → SeqSt) : (s.modSeq q f).pwr = s.pwr := rfl
@[simp] theorem State.modSeq_jrnl (s : State) (q : Fin 8) (f : SeqSt → SeqSt) : (s.modSeq q f).jrnl = s.jrnl := rfl
@[simp] theorem State.modSeq_out (s : State) (q : Fin 8) (f : SeqSt → SeqSt) : (s.modSeq q f).out = s.out := rfl
@[simp] theorem State.modSeq_pending (s : State) (q : Fin 8) (f : SeqSt → SeqSt) : (s.modSeq q f).pending = s.pending := rfl

@[simp] theorem State.emit_part (s : State) (o : Out) : (s.emit o).part = s.part := rfl
@[simp] theorem State.emit_clock (s : State) (o : Out) : (s.emit o).clock = s.clock := rfl
@[simp] theorem State.emit_free (s : State) (o : Out) : (s.emit o).free = s.free := rfl
@[simp] theorem State.emit_regs (s : State) (o : Out) : (s.emit o).regs = s.regs := rfl
@[simp] theorem State.emit_live (s : State) (o : Out) : (s.emit o).live = s.live := rfl
@[simp] theorem State.emit_mem (s : State) (o : Out) : (s.emit o).mem = s.mem := rfl
@[simp] theorem State.emit_oldPages (s : State) (o : Out) : (s.emit o).oldPages = s.oldPages := rfl
@[simp] theorem State.emit_glob (s : State) (o : Out) : (s.emit o).glob = s.glob := rfl
@[simp] theorem State.emit_hif (s : State) (o : Out) : (s.emit o).hif = s.hif := rfl
@[simp] theorem State.emit_trk (s : State) (o : Out) : (s.emit o).trk = s.trk := rfl
@[simp] theorem State.emit_heads (s : State) (o : Out) : (s.emit o).heads = s.heads := rfl
@[simp] theorem State.emit_seqs (s : State) (o : Out) : (s.emit o).seqs = s.seqs := rfl
@[simp] theorem State.emit_keys (s : State) (o : Out) : (s.emit o).keys = s.keys := rfl
@[simp] theorem State.emit_trump (s : State) (o : Out) : (s.emit o).trump = s.trump := rfl
@[simp] theorem State.emit_mv (s : State) (o : Out) : (s.emit o).mv = s.mv := rfl
@[simp] theorem State.emit_aud (s : State) (o : Out) : (s.emit o).aud = s.aud := rfl
@[simp] theorem State.emit_dbg (s : State) (o : Out) : (s.emit o).dbg = s.dbg := rfl
@[simp] theorem State.emit_pmc (s : State) (o : Out) : (s.emit o).pmc = s.pmc := rfl
@[simp] theorem State.emit_tmr (s : State) (o : Out) : (s.emit o).tmr = s.tmr := rfl
@[simp] theorem State.emit_gpio (s : State) (o : Out) : (s.emit o).gpio = s.gpio := rfl
@[simp] theorem State.emit_cwy (s : State) (o : Out) : (s.emit o).cwy = s.cwy := rfl
@[simp] theorem State.emit_pwr (s : State) (o : Out) : (s.emit o).pwr = s.pwr := rfl
@[simp] theorem State.emit_jrnl (s : State) (o : Out) : (s.emit o).jrnl = s.jrnl := rfl
@[simp] theorem State.emit_pending (s : State) (o : Out) : (s.emit o).pending = s.pending := rfl

@[simp] theorem State.modRing_part (s : State) (f : Fin 16) (r : Fin 64) (g : RingSt → RingSt) : (s.modRing f r g).part = s.part := rfl
@[simp] theorem State.modRing_clock (s : State) (f : Fin 16) (r : Fin 64) (g : RingSt → RingSt) : (s.modRing f r g).clock = s.clock := rfl
@[simp] theorem State.modRing_free (s : State) (f : Fin 16) (r : Fin 64) (g : RingSt → RingSt) : (s.modRing f r g).free = s.free := rfl
@[simp] theorem State.modRing_regs (s : State) (f : Fin 16) (r : Fin 64) (g : RingSt → RingSt) : (s.modRing f r g).regs = s.regs := rfl
@[simp] theorem State.modRing_live (s : State) (f : Fin 16) (r : Fin 64) (g : RingSt → RingSt) : (s.modRing f r g).live = s.live := rfl
@[simp] theorem State.modRing_mem (s : State) (f : Fin 16) (r : Fin 64) (g : RingSt → RingSt) : (s.modRing f r g).mem = s.mem := rfl
@[simp] theorem State.modRing_oldPages (s : State) (f : Fin 16) (r : Fin 64) (g : RingSt → RingSt) : (s.modRing f r g).oldPages = s.oldPages := rfl
@[simp] theorem State.modRing_glob (s : State) (f : Fin 16) (r : Fin 64) (g : RingSt → RingSt) : (s.modRing f r g).glob = s.glob := rfl
@[simp] theorem State.modRing_trk (s : State) (f : Fin 16) (r : Fin 64) (g : RingSt → RingSt) : (s.modRing f r g).trk = s.trk := rfl
@[simp] theorem State.modRing_heads (s : State) (f : Fin 16) (r : Fin 64) (g : RingSt → RingSt) : (s.modRing f r g).heads = s.heads := rfl
@[simp] theorem State.modRing_seqs (s : State) (f : Fin 16) (r : Fin 64) (g : RingSt → RingSt) : (s.modRing f r g).seqs = s.seqs := rfl
@[simp] theorem State.modRing_keys (s : State) (f : Fin 16) (r : Fin 64) (g : RingSt → RingSt) : (s.modRing f r g).keys = s.keys := rfl
@[simp] theorem State.modRing_trump (s : State) (f : Fin 16) (r : Fin 64) (g : RingSt → RingSt) : (s.modRing f r g).trump = s.trump := rfl
@[simp] theorem State.modRing_mv (s : State) (f : Fin 16) (r : Fin 64) (g : RingSt → RingSt) : (s.modRing f r g).mv = s.mv := rfl
@[simp] theorem State.modRing_aud (s : State) (f : Fin 16) (r : Fin 64) (g : RingSt → RingSt) : (s.modRing f r g).aud = s.aud := rfl
@[simp] theorem State.modRing_dbg (s : State) (f : Fin 16) (r : Fin 64) (g : RingSt → RingSt) : (s.modRing f r g).dbg = s.dbg := rfl
@[simp] theorem State.modRing_pmc (s : State) (f : Fin 16) (r : Fin 64) (g : RingSt → RingSt) : (s.modRing f r g).pmc = s.pmc := rfl
@[simp] theorem State.modRing_tmr (s : State) (f : Fin 16) (r : Fin 64) (g : RingSt → RingSt) : (s.modRing f r g).tmr = s.tmr := rfl
@[simp] theorem State.modRing_gpio (s : State) (f : Fin 16) (r : Fin 64) (g : RingSt → RingSt) : (s.modRing f r g).gpio = s.gpio := rfl
@[simp] theorem State.modRing_cwy (s : State) (f : Fin 16) (r : Fin 64) (g : RingSt → RingSt) : (s.modRing f r g).cwy = s.cwy := rfl
@[simp] theorem State.modRing_pwr (s : State) (f : Fin 16) (r : Fin 64) (g : RingSt → RingSt) : (s.modRing f r g).pwr = s.pwr := rfl
@[simp] theorem State.modRing_jrnl (s : State) (f : Fin 16) (r : Fin 64) (g : RingSt → RingSt) : (s.modRing f r g).jrnl = s.jrnl := rfl
@[simp] theorem State.modRing_out (s : State) (f : Fin 16) (r : Fin 64) (g : RingSt → RingSt) : (s.modRing f r g).out = s.out := rfl
@[simp] theorem State.modRing_pending (s : State) (f : Fin 16) (r : Fin 64) (g : RingSt → RingSt) : (s.modRing f r g).pending = s.pending := rfl

@[simp] theorem State.modSlot_part (s : State) (id : Nat) (f : Slot → Slot) : (s.modSlot id f).part = s.part := rfl
@[simp] theorem State.modSlot_clock (s : State) (id : Nat) (f : Slot → Slot) : (s.modSlot id f).clock = s.clock := rfl
@[simp] theorem State.modSlot_free (s : State) (id : Nat) (f : Slot → Slot) : (s.modSlot id f).free = s.free := rfl
@[simp] theorem State.modSlot_regs (s : State) (id : Nat) (f : Slot → Slot) : (s.modSlot id f).regs = s.regs := rfl
@[simp] theorem State.modSlot_live (s : State) (id : Nat) (f : Slot → Slot) : (s.modSlot id f).live = s.live := rfl
@[simp] theorem State.modSlot_mem (s : State) (id : Nat) (f : Slot → Slot) : (s.modSlot id f).mem = s.mem := rfl
@[simp] theorem State.modSlot_oldPages (s : State) (id : Nat) (f : Slot → Slot) : (s.modSlot id f).oldPages = s.oldPages := rfl
@[simp] theorem State.modSlot_glob (s : State) (id : Nat) (f : Slot → Slot) : (s.modSlot id f).glob = s.glob := rfl
@[simp] theorem State.modSlot_trk (s : State) (id : Nat) (f : Slot → Slot) : (s.modSlot id f).trk = s.trk := rfl
@[simp] theorem State.modSlot_heads (s : State) (id : Nat) (f : Slot → Slot) : (s.modSlot id f).heads = s.heads := rfl
@[simp] theorem State.modSlot_seqs (s : State) (id : Nat) (f : Slot → Slot) : (s.modSlot id f).seqs = s.seqs := rfl
@[simp] theorem State.modSlot_keys (s : State) (id : Nat) (f : Slot → Slot) : (s.modSlot id f).keys = s.keys := rfl
@[simp] theorem State.modSlot_trump (s : State) (id : Nat) (f : Slot → Slot) : (s.modSlot id f).trump = s.trump := rfl
@[simp] theorem State.modSlot_mv (s : State) (id : Nat) (f : Slot → Slot) : (s.modSlot id f).mv = s.mv := rfl
@[simp] theorem State.modSlot_aud (s : State) (id : Nat) (f : Slot → Slot) : (s.modSlot id f).aud = s.aud := rfl
@[simp] theorem State.modSlot_dbg (s : State) (id : Nat) (f : Slot → Slot) : (s.modSlot id f).dbg = s.dbg := rfl
@[simp] theorem State.modSlot_pmc (s : State) (id : Nat) (f : Slot → Slot) : (s.modSlot id f).pmc = s.pmc := rfl
@[simp] theorem State.modSlot_tmr (s : State) (id : Nat) (f : Slot → Slot) : (s.modSlot id f).tmr = s.tmr := rfl
@[simp] theorem State.modSlot_gpio (s : State) (id : Nat) (f : Slot → Slot) : (s.modSlot id f).gpio = s.gpio := rfl
@[simp] theorem State.modSlot_cwy (s : State) (id : Nat) (f : Slot → Slot) : (s.modSlot id f).cwy = s.cwy := rfl
@[simp] theorem State.modSlot_pwr (s : State) (id : Nat) (f : Slot → Slot) : (s.modSlot id f).pwr = s.pwr := rfl
@[simp] theorem State.modSlot_jrnl (s : State) (id : Nat) (f : Slot → Slot) : (s.modSlot id f).jrnl = s.jrnl := rfl
@[simp] theorem State.modSlot_out (s : State) (id : Nat) (f : Slot → Slot) : (s.modSlot id f).out = s.out := rfl
@[simp] theorem State.modSlot_pending (s : State) (id : Nat) (f : Slot → Slot) : (s.modSlot id f).pending = s.pending := rfl

@[simp] theorem State.dropSlot_part (s : State) (id : Nat) : (s.dropSlot id).part = s.part := rfl
@[simp] theorem State.dropSlot_clock (s : State) (id : Nat) : (s.dropSlot id).clock = s.clock := rfl
@[simp] theorem State.dropSlot_free (s : State) (id : Nat) : (s.dropSlot id).free = s.free := rfl
@[simp] theorem State.dropSlot_regs (s : State) (id : Nat) : (s.dropSlot id).regs = s.regs := rfl
@[simp] theorem State.dropSlot_live (s : State) (id : Nat) : (s.dropSlot id).live = s.live := rfl
@[simp] theorem State.dropSlot_mem (s : State) (id : Nat) : (s.dropSlot id).mem = s.mem := rfl
@[simp] theorem State.dropSlot_oldPages (s : State) (id : Nat) : (s.dropSlot id).oldPages = s.oldPages := rfl
@[simp] theorem State.dropSlot_glob (s : State) (id : Nat) : (s.dropSlot id).glob = s.glob := rfl
@[simp] theorem State.dropSlot_trk (s : State) (id : Nat) : (s.dropSlot id).trk = s.trk := rfl
@[simp] theorem State.dropSlot_heads (s : State) (id : Nat) : (s.dropSlot id).heads = s.heads := rfl
@[simp] theorem State.dropSlot_seqs (s : State) (id : Nat) : (s.dropSlot id).seqs = s.seqs := rfl
@[simp] theorem State.dropSlot_keys (s : State) (id : Nat) : (s.dropSlot id).keys = s.keys := rfl
@[simp] theorem State.dropSlot_trump (s : State) (id : Nat) : (s.dropSlot id).trump = s.trump := rfl
@[simp] theorem State.dropSlot_mv (s : State) (id : Nat) : (s.dropSlot id).mv = s.mv := rfl
@[simp] theorem State.dropSlot_aud (s : State) (id : Nat) : (s.dropSlot id).aud = s.aud := rfl
@[simp] theorem State.dropSlot_dbg (s : State) (id : Nat) : (s.dropSlot id).dbg = s.dbg := rfl
@[simp] theorem State.dropSlot_pmc (s : State) (id : Nat) : (s.dropSlot id).pmc = s.pmc := rfl
@[simp] theorem State.dropSlot_tmr (s : State) (id : Nat) : (s.dropSlot id).tmr = s.tmr := rfl
@[simp] theorem State.dropSlot_gpio (s : State) (id : Nat) : (s.dropSlot id).gpio = s.gpio := rfl
@[simp] theorem State.dropSlot_cwy (s : State) (id : Nat) : (s.dropSlot id).cwy = s.cwy := rfl
@[simp] theorem State.dropSlot_pwr (s : State) (id : Nat) : (s.dropSlot id).pwr = s.pwr := rfl
@[simp] theorem State.dropSlot_jrnl (s : State) (id : Nat) : (s.dropSlot id).jrnl = s.jrnl := rfl
@[simp] theorem State.dropSlot_out (s : State) (id : Nat) : (s.dropSlot id).out = s.out := rfl
@[simp] theorem State.dropSlot_pending (s : State) (id : Nat) : (s.dropSlot id).pending = s.pending := rfl

@[simp] theorem State.modTrick_part (s : State) (k : Nat) (f : Trick → Trick) : (s.modTrick k f).part = s.part := rfl
@[simp] theorem State.modTrick_clock (s : State) (k : Nat) (f : Trick → Trick) : (s.modTrick k f).clock = s.clock := rfl
@[simp] theorem State.modTrick_free (s : State) (k : Nat) (f : Trick → Trick) : (s.modTrick k f).free = s.free := rfl
@[simp] theorem State.modTrick_regs (s : State) (k : Nat) (f : Trick → Trick) : (s.modTrick k f).regs = s.regs := rfl
@[simp] theorem State.modTrick_live (s : State) (k : Nat) (f : Trick → Trick) : (s.modTrick k f).live = s.live := rfl
@[simp] theorem State.modTrick_mem (s : State) (k : Nat) (f : Trick → Trick) : (s.modTrick k f).mem = s.mem := rfl
@[simp] theorem State.modTrick_oldPages (s : State) (k : Nat) (f : Trick → Trick) : (s.modTrick k f).oldPages = s.oldPages := rfl
@[simp] theorem State.modTrick_glob (s : State) (k : Nat) (f : Trick → Trick) : (s.modTrick k f).glob = s.glob := rfl
@[simp] theorem State.modTrick_hif (s : State) (k : Nat) (f : Trick → Trick) : (s.modTrick k f).hif = s.hif := rfl
@[simp] theorem State.modTrick_heads (s : State) (k : Nat) (f : Trick → Trick) : (s.modTrick k f).heads = s.heads := rfl
@[simp] theorem State.modTrick_seqs (s : State) (k : Nat) (f : Trick → Trick) : (s.modTrick k f).seqs = s.seqs := rfl
@[simp] theorem State.modTrick_keys (s : State) (k : Nat) (f : Trick → Trick) : (s.modTrick k f).keys = s.keys := rfl
@[simp] theorem State.modTrick_trump (s : State) (k : Nat) (f : Trick → Trick) : (s.modTrick k f).trump = s.trump := rfl
@[simp] theorem State.modTrick_mv (s : State) (k : Nat) (f : Trick → Trick) : (s.modTrick k f).mv = s.mv := rfl
@[simp] theorem State.modTrick_aud (s : State) (k : Nat) (f : Trick → Trick) : (s.modTrick k f).aud = s.aud := rfl
@[simp] theorem State.modTrick_dbg (s : State) (k : Nat) (f : Trick → Trick) : (s.modTrick k f).dbg = s.dbg := rfl
@[simp] theorem State.modTrick_pmc (s : State) (k : Nat) (f : Trick → Trick) : (s.modTrick k f).pmc = s.pmc := rfl
@[simp] theorem State.modTrick_tmr (s : State) (k : Nat) (f : Trick → Trick) : (s.modTrick k f).tmr = s.tmr := rfl
@[simp] theorem State.modTrick_gpio (s : State) (k : Nat) (f : Trick → Trick) : (s.modTrick k f).gpio = s.gpio := rfl
@[simp] theorem State.modTrick_cwy (s : State) (k : Nat) (f : Trick → Trick) : (s.modTrick k f).cwy = s.cwy := rfl
@[simp] theorem State.modTrick_pwr (s : State) (k : Nat) (f : Trick → Trick) : (s.modTrick k f).pwr = s.pwr := rfl
@[simp] theorem State.modTrick_jrnl (s : State) (k : Nat) (f : Trick → Trick) : (s.modTrick k f).jrnl = s.jrnl := rfl
@[simp] theorem State.modTrick_out (s : State) (k : Nat) (f : Trick → Trick) : (s.modTrick k f).out = s.out := rfl
@[simp] theorem State.modTrick_pending (s : State) (k : Nat) (f : Trick → Trick) : (s.modTrick k f).pending = s.pending := rfl

end Sys2Proof.Machine
end

