-- ==== Sys2Proof/Laws/Units.lean ====
section
/-!
SUPPORT. Reading a unit after it, or another, was written: heads, sequencers, rings, registers of the
sparse store, and the words of a sequencer bank.
-/

set_option Elab.async false  -- the joined text is large: no thread per declaration

namespace Sys2Proof.Machine

/-! ### Heads and sequencers -/

@[simp] theorem State.head_modHead_self (s : State) (n : Fin 6) (f : HeadSt → HeadSt) :
    (s.modHead n f).head n = f (s.head n) := by
  simp [State.head, State.modHead]

theorem State.head_modHead_ne (s : State) {n m : Fin 6} (h : m ≠ n) (f : HeadSt → HeadSt) :
    (s.modHead n f).head m = s.head m := by
  have : n.val ≠ m.val := fun e => h (Fin.ext e.symm)
  simp [State.head, State.modHead, this]

@[simp] theorem State.seq_modSeq_self (s : State) (q : Fin 8) (f : SeqSt → SeqSt) :
    (s.modSeq q f).seq q = f (s.seq q) := by
  simp [State.seq, State.modSeq]

theorem State.seq_modSeq_ne (s : State) {q p : Fin 8} (h : p ≠ q) (f : SeqSt → SeqSt) :
    (s.modSeq q f).seq p = s.seq p := by
  have : q.val ≠ p.val := fun e => h (Fin.ext e.symm)
  simp [State.seq, State.modSeq, this]

theorem State.modSeq_modSeq (s : State) (q : Fin 8) (f g : SeqSt → SeqSt) :
    (s.modSeq q f).modSeq q g = s.modSeq q (fun x => g (f x)) := by
  simp [State.modSeq]

theorem State.modHead_modHead (s : State) (n : Fin 6) (f g : HeadSt → HeadSt) :
    (s.modHead n f).modHead n g = s.modHead n (fun x => g (f x)) := by
  simp [State.modHead]

@[simp] theorem SeqSt.reg_setReg_self (x : SeqSt) (r : Fin 16) (v : W24) : (x.setReg r v).reg r = v := by
  simp [SeqSt.reg, SeqSt.setReg]

theorem SeqSt.reg_setReg_ne (x : SeqSt) {r k : Fin 16} (h : k ≠ r) (v : W24) :
    (x.setReg r v).reg k = x.reg k := by
  have : r.val ≠ k.val := fun e => h (Fin.ext e.symm)
  simp [SeqSt.reg, SeqSt.setReg, this]

/-! ### The sparse register store -/

theorem SMap.find_insert (m : SMap) (a b : Nat) (w : Word) :
    SMap.find (SMap.insert m a w) b = if b = a then some w else SMap.find m b := by
  induction m with
  | nil => simp [SMap.insert, SMap.find]
  | cons e m ih =>
    obtain ⟨k, v⟩ := e
    simp only [SMap.insert]
    split
    · simp [SMap.find]
    · split
      · subst_vars; by_cases h : b = k <;> simp [SMap.find, h]
      · by_cases h : b = k <;> simp [SMap.find, h, ih]; omega

theorem SMap.find_erase (m : SMap) (a b : Nat) :
    SMap.find (SMap.erase m a) b = if b = a then none else SMap.find m b := by
  induction m with
  | nil => simp [SMap.erase, SMap.find]
  | cons e m ih =>
    obtain ⟨k, v⟩ := e
    simp only [SMap.erase]
    split
    · subst_vars; rw [ih]; by_cases h : b = k <;> simp [SMap.find, h]
    · by_cases h : b = k <;> simp [SMap.find, h, ih]; omega

/-- A register reads what was written to it. -/
@[simp] theorem State.reg_setReg_self (s : State) (r : RegId) (i j : Nat) (w : Word) :
    (s.setReg r i j w).reg r i j = w := by
  simp only [State.reg, State.setReg]
  split <;> simp_all [SMap.find_erase, SMap.find_insert]

/-- A register at another address reads what it read. -/
theorem State.reg_setReg_ne (s : State) {r q : RegId} {i j k l : Nat} (h : q.addr k l ≠ r.addr i j) (w : Word) :
    (s.setReg r i j w).reg q k l = s.reg q k l := by
  simp only [State.reg, State.setReg]
  split <;> simp [SMap.find_erase, SMap.find_insert, h]

theorem State.find_setReg_ne (s : State) (r : RegId) (i j : Nat) (w : Word) {a : Nat} (h : a ≠ r.addr i j) :
    SMap.find (s.setReg r i j w).regs a = SMap.find s.regs a := by
  simp only [State.setReg]
  split <;> simp [SMap.find_erase, SMap.find_insert, h]

theorem RegsKept.refl (ex : List Nat) (s : State) : RegsKept ex s s := fun _ _ => rfl

theorem RegsKept.trans {ex : List Nat} {s t u : State} (h : RegsKept ex s t) (k : RegsKept ex t u) :
    RegsKept ex s u := fun a ha => (k a ha).trans (h a ha)

theorem RegsKept.mono {ex ey : List Nat} {s t : State} (h : RegsKept ex s t) (k : ∀ a ∈ ex, a ∈ ey) :
    RegsKept ey s t := fun a ha => h a (fun m => ha (k a m))

theorem RegsKept.setReg {ex : List Nat} (s : State) (r : RegId) (i j : Nat) (w : Word) (h : r.addr i j ∈ ex) :
    RegsKept ex s (s.setReg r i j w) :=
  fun _ ha => s.find_setReg_ne r i j w (fun e => ha (e ▸ h))

/-- A register whose address is not among those that may change reads what it read. -/
theorem RegsKept.reg {ex : List Nat} {s t : State} (h : RegsKept ex s t) (hp : t.part = s.part) {r : RegId}
    {i j : Nat} (ha : r.addr i j ∉ ex) : t.reg r i j = s.reg r i j := by
  simp [State.reg, h _ ha, hp]

/-! ### Words of a sequencer bank -/

theorem wordAt_wordErase (m : List (Nat × W24)) (a b : Nat) :
    wordAt (wordErase m a) b = if b = a then 0 else wordAt m b := by
  induction m with
  | nil => simp [wordErase, wordAt]
  | cons e m ih =>
    obtain ⟨k, v⟩ := e
    simp only [wordErase]
    split
    · subst_vars; rw [ih]; by_cases h : b = k <;> simp [wordAt, h]
    · by_cases h : b = k <;> simp [wordAt, h, ih]; omega

theorem wordAt_wordIns (m : List (Nat × W24)) (a b : Nat) (w : W24) :
    wordAt (wordIns m a w) b = if b = a then w else wordAt m b := by
  induction m with
  | nil => simp [wordIns, wordAt]
  | cons e m ih =>
    obtain ⟨k, v⟩ := e
    simp only [wordIns]
    split
    · simp [wordAt]
    · split
      · subst_vars; by_cases h : b = k <;> simp [wordAt, h]
      · by_cases h : b = k <;> simp [wordAt, h, ih]; omega

theorem wordAt_wordPut (m : List (Nat × W24)) (a b : Nat) (w : W24) :
    wordAt (wordPut m a w) b = if b = a then w else wordAt m b := by
  unfold wordPut
  split
  · subst_vars; exact wordAt_wordErase m a b
  · exact wordAt_wordIns m a b w

/-! ### Rings -/

theorem ringFind_ringPut (l : List (Nat × RingSt)) (a b : Nat) (w : RingSt) :
    ringFind (ringPut l a w) b = if b = a then w else ringFind l b := by
  induction l with
  | nil => simp [ringPut, ringFind]
  | cons e m ih =>
    obtain ⟨k, v⟩ := e
    simp only [ringPut]
    split
    · simp [ringFind]
    · split
      · subst_vars; by_cases h : b = k <;> simp [ringFind, h]
      · by_cases h : b = k <;> simp [ringFind, h, ih]; omega

theorem ringKey_inj {f g : Fin 16} {r q : Fin 64} (h : ringKey f r = ringKey g q) : f = g ∧ r = q := by
  simp only [ringKey] at h
  omega

@[simp] theorem State.ring_modRing_self (s : State) (f : Fin 16) (r : Fin 64) (g : RingSt → RingSt) :
    (s.modRing f r g).ring f r = g (s.ring f r) := by
  simp [State.ring, State.modRing, ringFind_ringPut]

theorem State.ring_modRing_ne (s : State) {f f' : Fin 16} {r r' : Fin 64} (h : ¬(f' = f ∧ r' = r))
    (g : RingSt → RingSt) : (s.modRing f r g).ring f' r' = s.ring f' r' := by
  have : ringKey f' r' ≠ ringKey f r := fun e => h (ringKey_inj e)
  simp [State.ring, State.modRing, ringFind_ringPut, this]

end Sys2Proof.Machine
end

