-- ==== Sys2Proof/Laws/Count.lean ====
section
/-!
SUPPORT. What counting an event, sending a message and making a fault record can do (R448 to R451, R287,
R461 to R463), said once.
-/

set_option Elab.async false  -- the joined text is large: no thread per declaration

namespace Sys2Proof.Machine

theorem Signalled.refl (s : State) : Signalled s s := ⟨List.prefix_refl _, BitVec.and_self⟩

theorem Signalled.trans {s t u : State} (h : Signalled s t) (k : Signalled t u) : Signalled s u := by
  refine ⟨h.1.trans k.1, ?_⟩
  rw [← h.2, BitVec.and_assoc, k.2]

theorem Signalled.emit (s : State) (o : Out) : Signalled s (s.emit o) := ⟨⟨[o], rfl⟩, BitVec.and_self⟩

theorem Counted.refl (s : State) : Counted s s := ⟨rfl, RegsKept.refl _ _, .refl _⟩

theorem Counted.trans {s t u : State} (h : Counted s t) (k : Counted t u) : Counted s u := by
  obtain ⟨h1, h2, h3⟩ := h
  obtain ⟨k1, k2, k3⟩ := k
  refine ⟨?_, h2.trans k2, h3.trans k3⟩
  rw [k1, h1]

theorem Counted.emit (s : State) (o : Out) : Counted s (s.emit o) :=
  ⟨rfl, RegsKept.refl _ _, .emit s o⟩

/-- A signalled vector is written out or becomes pending (R73). -/
theorem Counted.msixSend (s : State) (fn vec : Nat) : Counted s (s.msixSend fn vec) := by
  unfold State.msixSend
  split
  · exact ⟨rfl, fun _ _ => rfl, List.prefix_refl _, by ext i; simp +contextual⟩
  · exact .emit s _

theorem Counted.rawVec (s : State) (fn vec : Nat) : Counted s (s.rawVec fn vec) := by
  unfold State.rawVec
  split
  · exact (Counted.emit s _).trans (.msixSend _ _ _)
  · exact .refl s

theorem Counted.setPmc (s : State) (p : Pmc) : Counted s { s with pmc := p } :=
  ⟨rfl, fun _ _ => rfl, .refl _⟩

theorem Counted.pmcOverflow (s : State) (k : Nat) : Counted s (s.pmcOverflow k) := by
  have h : Counted s (s.setReg .PMC_OVF 0 0 (s.reg .PMC_OVF 0 0 ||| BitVec.ofNat 32 (2 ^ k))) :=
    ⟨rfl, RegsKept.setReg _ _ _ _ _ (by simp), .refl _⟩
  simp only [State.pmcOverflow]
  split
  · exact h.trans (.rawVec _ _ _)
  · exact h

theorem Counted.pmcBump (fuel : Nat) : ∀ (s : State) (k n : Nat), Counted s (s.pmcBump fuel k n) := by
  induction fuel with
  | zero => intro s k n; exact .refl s
  | succ fuel ih =>
    intro s k n
    unfold State.pmcBump
    split
    · simp only []
      split
      · exact .setPmc s _
      · split
        · exact ((Counted.setPmc s _).trans (.pmcOverflow _ _)).trans (ih _ _ _)
        · exact (Counted.setPmc s _).trans (.pmcOverflow _ _)
    · exact .refl s

theorem Counted.foldl {α : Type} (f : State → α → State) (h : ∀ s a, Counted s (f s a)) :
    ∀ (l : List α) (s : State), Counted s (l.foldl f s)
  | [], s => .refl s
  | a :: l, s => (h s a).trans (Counted.foldl f h l _)

theorem Counted.pmcAny (s : State) (k : Nat) : Counted s (s.pmcAny k) := by
  unfold State.pmcAny
  split
  · exact .refl s
  · exact (Counted.setPmc s _).trans (.pmcBump _ _ _ _)

/-- Counting an event changes the counters, PMC_OVF and the messages, nothing else. -/
theorem State.count_counted (s : State) (code inst n : Nat) (a : Attr) : Counted s (s.count code inst n a) := by
  unfold State.count
  split
  · exact .refl s
  refine Counted.foldl _ (fun s k => ?_) _ s
  split
  · exact .pmcBump _ _ _ _
  · split
    · exact .pmcAny _ _
    · exact .refl s

/-- Signalling a vector changes what counting it may change, nothing else (R287). -/
theorem Counted.sendVec (s : State) (fn vec : Nat) : Counted s (s.sendVec fn vec) := by
  unfold State.sendVec
  split
  · exact (Counted.rawVec s fn vec).trans (State.count_counted _ _ _ _ _)
  · exact .refl s

theorem Counted.signal (s : State) (w : Word) : Counted s (s.signal w) := by
  unfold State.signal
  split
  · exact .sendVec s _ _
  · exact .refl s

/-- Counting the events of a cycle changes what counting one may change, nothing else (R449). -/
theorem State.cycleCounts_counted (s : State) : Counted s s.cycleCounts := by
  have hq : ∀ (s : State) (q : Fin 8), Counted s
      (if (s.seq q).run = .stalled && s.clock % 2 = 0 then s.count 0x83 q.val 1 else s) := by
    intro s q
    split
    · exact s.count_counted _ _ _ _
    · exact .refl s
  have hc : ∀ (s : State) (c : Fin 8), Counted s (if (s.bctx c).waiting then s.count 0xA2 0 1
      (((s.bctx c).slot.bind s.slot).map (fun x => { fn := some x.hdr.fn.val }) |>.getD {}) else s) := by
    intro s c
    split
    · exact s.count_counted _ _ _ _
    · exact .refl s
  have hf : Counted s (allFns.foldl (fun (s : State) (f : Fin 16) =>
      s.count 0x06 0 (s.slotsOf f) { fn := some f.val }) (s.count 0x00 0 1)) :=
    (s.count_counted _ _ _ _).trans (.foldl _ (fun s f => s.count_counted _ _ _ _) _ _)
  have ha : ∀ (a : Option Attr) (t : State), Counted s t →
      Counted s (match a with | some a => t.count 0x24 0 1 a | none => t) := by
    intro a t h
    cases a with
    | none => exact h
    | some a => exact h.trans (t.count_counted _ _ _ _)
  exact ((ha _ _ hf).trans (.foldl _ hq _ _)).trans (.foldl _ hc _ _)

theorem Counted.msix {s t : State} (h : Counted s t) : t.msix = s.msix := by rw [h.1]
theorem Counted.part {s t : State} (h : Counted s t) : t.part = s.part := by rw [h.1]
theorem Counted.clock {s t : State} (h : Counted s t) : t.clock = s.clock := by rw [h.1]
theorem Counted.free {s t : State} (h : Counted s t) : t.free = s.free := by rw [h.1]
theorem Counted.live {s t : State} (h : Counted s t) : t.live = s.live := by rw [h.1]
theorem Counted.mem {s t : State} (h : Counted s t) : t.mem = s.mem := by rw [h.1]
theorem Counted.oldPages {s t : State} (h : Counted s t) : t.oldPages = s.oldPages := by rw [h.1]
theorem Counted.glob {s t : State} (h : Counted s t) : t.glob = s.glob := by rw [h.1]
theorem Counted.hif {s t : State} (h : Counted s t) : t.hif = s.hif := by rw [h.1]
theorem Counted.trk {s t : State} (h : Counted s t) : t.trk = s.trk := by rw [h.1]
theorem Counted.heads {s t : State} (h : Counted s t) : t.heads = s.heads := by rw [h.1]
theorem Counted.seqs {s t : State} (h : Counted s t) : t.seqs = s.seqs := by rw [h.1]
theorem Counted.keys {s t : State} (h : Counted s t) : t.keys = s.keys := by rw [h.1]
theorem Counted.trump {s t : State} (h : Counted s t) : t.trump = s.trump := by rw [h.1]
theorem Counted.mv {s t : State} (h : Counted s t) : t.mv = s.mv := by rw [h.1]
theorem Counted.aud {s t : State} (h : Counted s t) : t.aud = s.aud := by rw [h.1]
theorem Counted.dbg {s t : State} (h : Counted s t) : t.dbg = s.dbg := by rw [h.1]
theorem Counted.tmr {s t : State} (h : Counted s t) : t.tmr = s.tmr := by rw [h.1]
theorem Counted.gpio {s t : State} (h : Counted s t) : t.gpio = s.gpio := by rw [h.1]
theorem Counted.cwy {s t : State} (h : Counted s t) : t.cwy = s.cwy := by rw [h.1]
theorem Counted.pwr {s t : State} (h : Counted s t) : t.pwr = s.pwr := by rw [h.1]
theorem Counted.jrnl {s t : State} (h : Counted s t) : t.jrnl = s.jrnl := by rw [h.1]
theorem Counted.pending {s t : State} (h : Counted s t) : t.pending = s.pending := by rw [h.1]

@[simp] theorem State.count_msix (s : State) (c i n : Nat) (a : Attr) : (s.count c i n a).msix = s.msix := (s.count_counted c i n a).msix
@[simp] theorem State.count_part (s : State) (c i n : Nat) (a : Attr) : (s.count c i n a).part = s.part := (s.count_counted c i n a).part
@[simp] theorem State.count_clock (s : State) (c i n : Nat) (a : Attr) : (s.count c i n a).clock = s.clock := (s.count_counted c i n a).clock
@[simp] theorem State.count_free (s : State) (c i n : Nat) (a : Attr) : (s.count c i n a).free = s.free := (s.count_counted c i n a).free
@[simp] theorem State.count_live (s : State) (c i n : Nat) (a : Attr) : (s.count c i n a).live = s.live := (s.count_counted c i n a).live
@[simp] theorem State.count_mem (s : State) (c i n : Nat) (a : Attr) : (s.count c i n a).mem = s.mem := (s.count_counted c i n a).mem
@[simp] theorem State.count_oldPages (s : State) (c i n : Nat) (a : Attr) : (s.count c i n a).oldPages = s.oldPages := (s.count_counted c i n a).oldPages
@[simp] theorem State.count_glob (s : State) (c i n : Nat) (a : Attr) : (s.count c i n a).glob = s.glob := (s.count_counted c i n a).glob
@[simp] theorem State.count_hif (s : State) (c i n : Nat) (a : Attr) : (s.count c i n a).hif = s.hif := (s.count_counted c i n a).hif
@[simp] theorem State.count_trk (s : State) (c i n : Nat) (a : Attr) : (s.count c i n a).trk = s.trk := (s.count_counted c i n a).trk
@[simp] theorem State.count_heads (s : State) (c i n : Nat) (a : Attr) : (s.count c i n a).heads = s.heads := (s.count_counted c i n a).heads
@[simp] theorem State.count_seqs (s : State) (c i n : Nat) (a : Attr) : (s.count c i n a).seqs = s.seqs := (s.count_counted c i n a).seqs
@[simp] theorem State.count_keys (s : State) (c i n : Nat) (a : Attr) : (s.count c i n a).keys = s.keys := (s.count_counted c i n a).keys
@[simp] theorem State.count_trump (s : State) (c i n : Nat) (a : Attr) : (s.count c i n a).trump = s.trump := (s.count_counted c i n a).trump
@[simp] theorem State.count_mv (s : State) (c i n : Nat) (a : Attr) : (s.count c i n a).mv = s.mv := (s.count_counted c i n a).mv
@[simp] theorem State.count_aud (s : State) (c i n : Nat) (a : Attr) : (s.count c i n a).aud = s.aud := (s.count_counted c i n a).aud
@[simp] theorem State.count_dbg (s : State) (c i n : Nat) (a : Attr) : (s.count c i n a).dbg = s.dbg := (s.count_counted c i n a).dbg
@[simp] theorem State.count_tmr (s : State) (c i n : Nat) (a : Attr) : (s.count c i n a).tmr = s.tmr := (s.count_counted c i n a).tmr
@[simp] theorem State.count_gpio (s : State) (c i n : Nat) (a : Attr) : (s.count c i n a).gpio = s.gpio := (s.count_counted c i n a).gpio
@[simp] theorem State.count_cwy (s : State) (c i n : Nat) (a : Attr) : (s.count c i n a).cwy = s.cwy := (s.count_counted c i n a).cwy
@[simp] theorem State.count_pwr (s : State) (c i n : Nat) (a : Attr) : (s.count c i n a).pwr = s.pwr := (s.count_counted c i n a).pwr
@[simp] theorem State.count_jrnl (s : State) (c i n : Nat) (a : Attr) : (s.count c i n a).jrnl = s.jrnl := (s.count_counted c i n a).jrnl
@[simp] theorem State.count_pending (s : State) (c i n : Nat) (a : Attr) : (s.count c i n a).pending = s.pending := (s.count_counted c i n a).pending


/-! ### Fault records -/

theorem Recorded.refl (s : State) : Recorded s s := ⟨rfl, RegsKept.refl _ _, .refl _⟩

theorem Recorded.trans {s t u : State} (h : Recorded s t) (k : Recorded t u) : Recorded s u := by
  obtain ⟨h1, h2, h3⟩ := h
  obtain ⟨k1, k2, k3⟩ := k
  refine ⟨?_, h2.trans k2, h3.trans k3⟩
  rw [k1, h1]

theorem Counted.recorded {s t : State} (h : Counted s t) : Recorded s t :=
  ⟨by rw [h.1], fun a ha => h.2.1 a (fun hm => ha (by simp_all [faultRegs])), h.2.2⟩

theorem Recorded.signal (s : State) (w : Word) : Recorded s (s.signal w) := (Counted.signal s w).recorded

theorem Recorded.dbg (s : State) (d : Dbg) : Recorded s { s with dbg := d } :=
  ⟨rfl, fun _ _ => rfl, .refl _⟩

theorem Recorded.setReg (s : State) (r : RegId) (i j : Nat) (w : Word) (h : r.addr i j ∈ faultRegs) :
    Recorded s (s.setReg r i j w) := ⟨rfl, RegsKept.setReg _ _ _ _ _ h, .refl _⟩

theorem Recorded.fltPend (s : State) (code : Nat) : Recorded s (s.fltPend code) := by
  unfold State.fltPend
  split
  · split
    · exact .refl s
    · exact (Recorded.setReg s _ _ _ _ (by decide)).trans (.signal _ _)
  · exact .refl s

/-- Making a fault record changes the ring and its mirror, the record registers and the messages,
nothing else (R461 to R463). -/
theorem State.fault_recorded (s : State) (code unit index : Nat) (frame : Word) (line pixel detail : Nat) :
    Recorded s (s.fault code unit index frame line pixel detail) := by
  have h : Recorded s (s.setF F.DBG_FLT_NEXT_SEQ (s.fld F.DBG_FLT_NEXT_SEQ + 1)) :=
    Recorded.setReg s _ _ _ _ (by decide)
  simp only [State.fault]
  refine Recorded.trans ?_ (.fltPend _ _)
  refine h.trans ?_
  split
  · exact (Recorded.dbg _ _).trans (Recorded.setReg _ _ _ _ _ (by decide))
  · split <;> exact .dbg _ _

theorem State.faultDev_recorded (s : State) (code unit index detail : Nat) :
    Recorded s (s.faultDev code unit index detail) := s.fault_recorded _ _ _ _ _ _ _

theorem Recorded.msix {s t : State} (h : Recorded s t) : t.msix = s.msix := by rw [h.1]
theorem Recorded.part {s t : State} (h : Recorded s t) : t.part = s.part := by rw [h.1]
theorem Recorded.clock {s t : State} (h : Recorded s t) : t.clock = s.clock := by rw [h.1]
theorem Recorded.free {s t : State} (h : Recorded s t) : t.free = s.free := by rw [h.1]
theorem Recorded.live {s t : State} (h : Recorded s t) : t.live = s.live := by rw [h.1]
theorem Recorded.mem {s t : State} (h : Recorded s t) : t.mem = s.mem := by rw [h.1]
theorem Recorded.oldPages {s t : State} (h : Recorded s t) : t.oldPages = s.oldPages := by rw [h.1]
theorem Recorded.glob {s t : State} (h : Recorded s t) : t.glob = s.glob := by rw [h.1]
theorem Recorded.hif {s t : State} (h : Recorded s t) : t.hif = s.hif := by rw [h.1]
theorem Recorded.trk {s t : State} (h : Recorded s t) : t.trk = s.trk := by rw [h.1]
theorem Recorded.heads {s t : State} (h : Recorded s t) : t.heads = s.heads := by rw [h.1]
theorem Recorded.seqs {s t : State} (h : Recorded s t) : t.seqs = s.seqs := by rw [h.1]
theorem Recorded.keys {s t : State} (h : Recorded s t) : t.keys = s.keys := by rw [h.1]
theorem Recorded.trump {s t : State} (h : Recorded s t) : t.trump = s.trump := by rw [h.1]
theorem Recorded.mv {s t : State} (h : Recorded s t) : t.mv = s.mv := by rw [h.1]
theorem Recorded.aud {s t : State} (h : Recorded s t) : t.aud = s.aud := by rw [h.1]
theorem Recorded.tmr {s t : State} (h : Recorded s t) : t.tmr = s.tmr := by rw [h.1]
theorem Recorded.gpio {s t : State} (h : Recorded s t) : t.gpio = s.gpio := by rw [h.1]
theorem Recorded.cwy {s t : State} (h : Recorded s t) : t.cwy = s.cwy := by rw [h.1]
theorem Recorded.pwr {s t : State} (h : Recorded s t) : t.pwr = s.pwr := by rw [h.1]
theorem Recorded.jrnl {s t : State} (h : Recorded s t) : t.jrnl = s.jrnl := by rw [h.1]
theorem Recorded.pending {s t : State} (h : Recorded s t) : t.pending = s.pending := by rw [h.1]


end Sys2Proof.Machine
end

