-- ==== Sys2Proof/Laws/Fields.lean ====
section
/-!
SUPPORT. Bit fields of register words: a field reads what was put into it, and no other field changes.
-/

set_option Elab.async false  -- the joined text is large: no thread per declaration

namespace Sys2Proof.Machine

theorem bits_testBit (w : Word) (hi lo i : Nat) :
    (bits w hi lo).testBit i = (decide (i < hi + 1 - lo) && w.getLsbD (lo + i)) := by
  rw [bits, Nat.testBit_mod_two_pow, Nat.testBit_shiftRight, BitVec.getLsbD]

theorem bits_lt (w : Word) (hi lo : Nat) : bits w hi lo < 2 ^ (hi + 1 - lo) :=
  Nat.mod_lt _ (Nat.two_pow_pos _)

theorem getLsbD_putBits (w : Word) {hi lo : Nat} (h : hi < 32) (v k : Nat) :
    (putBits w hi lo v).getLsbD k =
      if lo ≤ k ∧ k ≤ hi then v.testBit (k - lo) else w.getLsbD k := by
  by_cases hk : k < 32
  · have e : ((2 ^ (hi + 1 - lo) - 1) <<< lo).testBit k = decide (lo ≤ k ∧ k ≤ hi) := by
      rw [Nat.testBit_shiftLeft, Nat.testBit_two_pow_sub_one, Bool.eq_iff_iff]
      simp; omega
    simp only [putBits, BitVec.getLsbD_or, BitVec.getLsbD_and, BitVec.getLsbD_not, BitVec.getLsbD_ofNat, e, hk,
      Nat.testBit_shiftLeft]
    by_cases hm : lo ≤ k ∧ k ≤ hi
    · simp [hm]
    · simp [hm]
  · have h1 : ¬ (lo ≤ k ∧ k ≤ hi) := by omega
    rw [if_neg h1, BitVec.getLsbD_of_ge _ _ (by omega), BitVec.getLsbD_of_ge _ _ (by omega)]

/-- A field reads what was put into it. -/
theorem bits_putBits_self (w : Word) {hi lo : Nat} (h : hi < 32) (v : Nat) :
    bits (putBits w hi lo v) hi lo = v % 2 ^ (hi + 1 - lo) := by
  apply Nat.eq_of_testBit_eq
  intro i
  rw [bits_testBit, getLsbD_putBits w h, Nat.testBit_mod_two_pow]
  by_cases hi' : i < hi + 1 - lo
  · simp only [hi', decide_true, Bool.true_and]
    rw [if_pos (by omega)]; congr 1; omega
  · simp [hi']

/-- A field apart from the one that was put reads what it read. -/
theorem bits_putBits_disjoint (w : Word) {hi lo hi' lo' : Nat} (h : hi < 32) (d : hi' < lo ∨ hi < lo') (v : Nat) :
    bits (putBits w hi lo v) hi' lo' = bits w hi' lo' := by
  apply Nat.eq_of_testBit_eq
  intro i
  rw [bits_testBit, bits_testBit, getLsbD_putBits w h]
  by_cases hi' : i < hi' + 1 - lo'
  · rw [if_neg (by omega)]
  · simp [hi']

theorem putBits_bits (w : Word) {hi lo : Nat} (h : hi < 32) : putBits w hi lo (bits w hi lo) = w := by
  apply BitVec.eq_of_getLsbD_eq
  intro i hi'
  rw [getLsbD_putBits w h, bits_testBit]
  split
  · rename_i hm
    have : i - lo < hi + 1 - lo := by omega
    simp only [this, decide_true, Bool.true_and]; congr 1; omega
  · rfl

theorem bit_eq (w : Word) (k : Nat) : bit w k = w.getLsbD k := rfl

theorem bit_putBits (w : Word) {hi lo : Nat} (h : hi < 32) (v k : Nat) :
    bit (putBits w hi lo v) k = if lo ≤ k ∧ k ≤ hi then v.testBit (k - lo) else bit w k :=
  getLsbD_putBits w h v k

/-- A field reads what was put into it. -/
theorem State.fld_setF_self (s : State) (f : Fld) (h : f.hi < 32) (v : Nat) :
    (s.setF f v).fld f = v % 2 ^ (f.hi + 1 - f.lo) := by
  simp only [State.fld, State.setF, State.reg_setReg_self]
  exact bits_putBits_self _ h v

/-- Another field of the same register reads what it read. -/
theorem State.fld_setF_disjoint (s : State) (f g : Fld) (h : f.hi < 32) (hr : g.id = f.id) (hi : g.i = f.i)
    (hj : g.j = f.j) (d : g.hi < f.lo ∨ f.hi < g.lo) (v : Nat) : (s.setF f v).fld g = s.fld g := by
  simp only [State.fld, State.setF, hr, hi, hj, State.reg_setReg_self]
  exact bits_putBits_disjoint _ h d v

/-- A field of a register at another address reads what it read. -/
theorem State.fld_setReg_ne (s : State) {r : RegId} {i j : Nat} {g : Fld} (h : g.id.addr g.i g.j ≠ r.addr i j)
    (w : Word) : (s.setReg r i j w).fld g = s.fld g := by
  simp only [State.fld, State.reg_setReg_ne s h]

theorem State.fld_setF_ne (s : State) {f g : Fld} (h : g.id.addr g.i g.j ≠ f.id.addr f.i f.j) (v : Nat) :
    (s.setF f v).fld g = s.fld g := s.fld_setReg_ne h _

theorem State.reg_setF_ne (s : State) {f : Fld} {r : RegId} {i j : Nat} (h : r.addr i j ≠ f.id.addr f.i f.j)
    (v : Nat) : (s.setF f v).reg r i j = s.reg r i j := s.reg_setReg_ne h _

/-- Fields outside what counting may change read what they read. -/
theorem Counted.reg {s t : State} (h : Counted s t) {r : RegId} {i j : Nat} (ha : r.addr i j ≠ RegId.addr .PMC_OVF 0 0) :
    t.reg r i j = s.reg r i j := h.2.1.reg (by rw [h.1]) (by simpa using ha)

theorem Counted.fld {s t : State} (h : Counted s t) {g : Fld} (ha : g.id.addr g.i g.j ≠ RegId.addr .PMC_OVF 0 0) :
    t.fld g = s.fld g := by simp only [State.fld, h.reg ha]

theorem Recorded.reg {s t : State} (h : Recorded s t) {r : RegId} {i j : Nat} (ha : r.addr i j ∉ faultRegs) :
    t.reg r i j = s.reg r i j := h.2.1.reg (by rw [h.1]) ha

theorem Recorded.fld {s t : State} (h : Recorded s t) {g : Fld} (ha : g.id.addr g.i g.j ∉ faultRegs) :
    t.fld g = s.fld g := by simp only [State.fld, h.reg ha]

end Sys2Proof.Machine
end

