-- ==== Sys2Proof/Laws/Follow.lean ====
section
/-!
SUPPORT. What follows a command when nothing waits: nothing.
-/

set_option Elab.async false  -- the joined text is large: no thread per declaration

namespace Sys2Proof.Machine

theorem State.settle_quiet {s : State} (h : s.quiet = true) : s.settle = s := by
  simp [State.settle, h]

theorem State.settleAll_quiet {s : State} (h : s.quiet = true) (hr : s.cwy.rx.isEmpty = true) :
    s.settleAll = s := by
  simp [State.settleAll, State.settle_quiet h, hr]

theorem State.domRate_off {s : State} {d : Fin 3} (h : s.flag (F.AUD_DOM_CTL_EN d) = false) :
    s.domRate d = none := by
  simp [State.domRate, h]

theorem State.mute_iff {s : State} : s.mute = true ↔
    (∀ d, (s.dm d).run = false ∧ s.flag (F.AUD_DOM_CTL_EN d) = false) ∧
    (∀ p : Fin 16, s.fld (F.PLAY_CTL_FMT p) ≠ 3) ∧ ∀ n, bit (s.head n).dp.dpAud 31 = false := by
  have hd : ∀ d : Fin 3, d ∈ allDoms := by decide
  have hp : ∀ p : Fin 16, p ∈ allPlayers := by decide
  have hn : ∀ n : Fin 6, n ∈ allHeads := by decide
  simp [State.mute, hd, hp, hn, and_assoc]

theorem foldl_same {α β : Type} (f : β → α → β) (b : β) : ∀ l : List α, (∀ a ∈ l, f b a = b) → l.foldl f b = b
  | [], _ => rfl
  | a :: l, h => by
    rw [List.foldl_cons, h a (by simp)]
    exact foldl_same f b l (fun x hx => h x (by simp [hx]))

theorem State.sinkDomain_mute {s : State} (h : ∀ n, bit (s.head n).dp.dpAud 31 = false) (k : Fin 17)
    (hk : k.val < 6) : s.sinkDomain k = 3 := by
  simp [State.sinkDomain, hk, State.dpAudOf, h]

/-- Where nothing sounds, the audio engine has nothing to follow. -/
theorem State.audReview_mute {s : State} (h : s.mute = true) : s.audReview = s := by
  obtain ⟨hd, hp, hn⟩ := State.mute_iff.1 h
  have h1 : s.domReview = s := foldl_same _ s _ (fun d _ => by
    simp only [State.domRate_off (hd d).2, (hd d).1])
  have h2 : s.playReview = s := foldl_same _ s _ (fun p _ => by simp [hp p])
  have h3 : s.dpSinkReview = s := foldl_same _ s _ (fun k _ => by
    split
    · rename_i d e
      simp only []
      split
      · rename_i hk
        simp only [Bool.and_eq_true, decide_eq_true_eq] at hk
        have := List.find?_some e
        simp only [State.sinkDomain_mute hn k hk.1, decide_eq_true_eq] at this
        omega
      · rfl
    · rfl)
  unfold State.audReview
  split
  · rfl
  · rw [h1, h2, h3]; simp [State.ltrFrom]

theorem State.calm_iff {s : State} : s.calm = true ↔
    s.quiet = true ∧ s.cwy.rx.isEmpty = true ∧ s.mute = true := by
  simp [State.calm, and_assoc]

/-- In a calm state nothing follows a command. -/
theorem State.follow_calm {s : State} (h : s.calm = true) : s.follow = s := by
  obtain ⟨a, b, c⟩ := State.calm_iff.1 h
  unfold State.follow
  rw [State.settleAll_quiet a b, State.audReview_mute c]

/-- A block that is off, held in reset or frozen moves nothing on. -/
theorem State.follow_dead {s : State} (h : s.alive = false) : s.follow = s := by
  simp [State.follow, State.settleAll, State.settle, State.audReview, h]

/-- What makes the audio engine stand: its domains, the formats of its players, and the DP audio in force. -/
theorem State.mute_of {s t : State} (h : s.mute = true) (ha : t.aud = s.aud)
    (hr : ∀ d : Fin 3, t.reg .AUD_DOM_CTL d 0 = s.reg .AUD_DOM_CTL d 0)
    (hp : ∀ p : Fin 16, t.reg .PLAY_CTL p 0 = s.reg .PLAY_CTL p 0)
    (hd : ∀ n, (t.head n).dp.dpAud = (s.head n).dp.dpAud) : t.mute = true := by
  obtain ⟨c, p, n⟩ := State.mute_iff.1 h
  refine State.mute_iff.2 ⟨fun d => ⟨?_, ?_⟩, fun q => ?_, fun m => ?_⟩
  · simpa [State.dm, ha] using (c d).1
  · have e : ∀ u : State, u.flag (F.AUD_DOM_CTL_EN d) =
        Decidable.decide (bits (u.reg .AUD_DOM_CTL d 0) 31 31 ≠ 0) := fun _ => rfl
    rw [e, hr d, ← e]; exact (c d).2
  · have := p q
    simp only [State.fld] at this ⊢
    rw [hp q]; exact this
  · rw [hd m]; exact n m

/-- What makes a state calm is its host interface, its tricks, its forwarded tricks and its audio engine. -/
theorem State.calm_of {s t : State} (h : s.calm = true) (hh : t.hif = s.hif) (ht : t.trk = s.trk)
    (hc : t.cwy.rx = s.cwy.rx) (hm : s.mute = true → t.mute = true) : t.calm = true := by
  obtain ⟨a, b, c⟩ := State.calm_iff.1 h
  refine State.calm_iff.2 ⟨?_, ?_, hm c⟩
  · simpa [State.quiet, hh, ht] using a
  · simpa [hc] using b

end Sys2Proof.Machine
end

