-- ==== Sys2Proof/Laws/Memory.lean ====
section
/-!
SUPPORT. Device memory: every operation keeps the canonical form, a byte reads what was last written, and a
write leaves every other byte alone.
-/

set_option Elab.async false  -- the joined text is large: no thread per declaration

namespace Sys2Proof.Machine

/-- Addresses of a list rise strictly. -/
def Rising (cs : List Host.Cell) : Prop := cs.Pairwise (fun a b => a.1 < b.1)

theorem risingFrom_iff (cs : List Host.Cell) :
    (risingFrom none cs = true ↔ Rising cs) ∧
    ∀ p, risingFrom (some p) cs = true ↔ (∀ c ∈ cs, p < c.1) ∧ Rising cs := by
  induction cs with
  | nil => simp [risingFrom, Rising]
  | cons c cs ih =>
    obtain ⟨-, ih⟩ := ih
    have key : risingFrom (some c.1) cs = true ↔ Rising (c :: cs) := by
      rw [ih c.1]; simp [Rising]
    refine ⟨by simp only [risingFrom]; exact key, fun p => ?_⟩
    simp only [risingFrom, Bool.and_eq_true, decide_eq_true_eq, key]
    constructor
    · rintro ⟨h, k⟩
      refine ⟨fun d hd => ?_, k⟩
      rcases List.mem_cons.1 hd with rfl | hd
      · exact h
      · exact h.trans ((List.pairwise_cons.1 k).1 d hd)
    · rintro ⟨h, k⟩
      exact ⟨h c (by simp), k⟩

/-- A listed byte is not one that reads so without being listed. -/
def DevMem.listable (m : DevMem) (c : Host.Cell) : Prop := ¬(c.2 = 0 ∧ m.zeroAt c.1 = true)

theorem listable_iff (b : Byte) (z : Bool) : (!(Decidable.decide (b = 0) && z)) = true ↔ ¬(b = 0 ∧ z = true) := by
  cases z <;> simp

theorem DevMem.wf_iff (m : DevMem) : m.wf = true ↔ Rising m.cells ∧ ∀ c ∈ m.cells, m.listable c := by
  simp only [DevMem.wf, Bool.and_eq_true, (risingFrom_iff m.cells).1, List.all_eq_true, DevMem.listable,
    listable_iff]

theorem Rising.filter {cs : List Host.Cell} (h : Rising cs) (p : Host.Cell → Bool) : Rising (cs.filter p) :=
  List.Pairwise.filter p h

theorem cellFind_none {cs : List Host.Cell} {a : Nat} (h : ∀ c ∈ cs, a < c.1) : cellFind cs a = none := by
  cases cs with
  | nil => rfl
  | cons c cs =>
    have := h c (by simp)
    simp only [cellFind]
    rw [if_neg (by omega), if_pos this]

/-- In a rising list a byte is found exactly where it stands. -/
theorem cellFind_iff {cs : List Host.Cell} (h : Rising cs) (a : Nat) (v : Byte) :
    cellFind cs a = some v ↔ (a, v) ∈ cs := by
  induction cs with
  | nil => simp [cellFind]
  | cons c cs ih =>
    obtain ⟨b, w⟩ := c
    obtain ⟨h1, h2⟩ := List.pairwise_cons.1 h
    simp only [cellFind]
    split
    · subst_vars
      constructor
      · intro e; simp_all
      · intro e
        rcases List.mem_cons.1 e with e | e
        · simp_all
        · have := h1 _ e; simp at this
    · split
      · constructor
        · simp
        · intro e
          rcases List.mem_cons.1 e with e | e
          · simp_all
          · have := h1 _ e; simp at this; omega
      · rw [ih h2]
        simp [Prod.ext_iff]
        omega

theorem cellFind_eq_none {cs : List Host.Cell} (h : Rising cs) (a : Nat) :
    cellFind cs a = none ↔ ∀ c ∈ cs, c.1 ≠ a := by
  constructor
  · intro e c hc k
    have := (cellFind_iff h a c.2).2 (by rw [← k]; exact hc)
    simp [e] at this
  · intro k
    cases hf : cellFind cs a with
    | none => rfl
    | some v => exact absurd rfl (k _ ((cellFind_iff h a v).1 hf))

/-- Two rising lists that hold the same bytes at an address find the same there. -/
theorem cellFind_congr {cs ds : List Host.Cell} (hc : Rising cs) (hd : Rising ds) (a : Nat)
    (h : ∀ v, (a, v) ∈ cs ↔ (a, v) ∈ ds) : cellFind cs a = cellFind ds a := by
  apply Option.ext
  intro v
  rw [cellFind_iff hc, cellFind_iff hd, h v]

/-! ### Splicing -/

theorem DevMem.rising_splice {m : DevMem} (h1 : Rising m.cells) {lo hi : Nat} (hl : lo ≤ hi) {cs : List Host.Cell}
    (hc : Rising cs) (hr : ∀ c ∈ cs, lo ≤ c.1 ∧ c.1 < hi) : Rising (m.splice lo hi cs).cells := by
  simp only [DevMem.splice, Rising]
  rw [List.pairwise_append, List.pairwise_append]
  refine ⟨h1.filter _, ⟨hc.filter _, h1.filter _, ?_⟩, ?_⟩
  · intro a ha b hb
    have := hr a (List.mem_filter.1 ha).1
    have := (List.mem_filter.1 hb).2
    simp at this; omega
  · intro a ha b hb
    have ha' := (List.mem_filter.1 ha).2
    simp at ha'
    rcases List.mem_append.1 hb with hb | hb
    · have := hr b (List.mem_filter.1 hb).1; omega
    · have := (List.mem_filter.1 hb).2
      simp at this; omega

/-- Replacing a run of bytes keeps the canonical form. -/
theorem DevMem.wf_splice {m : DevMem} (h : m.wf = true) {lo hi : Nat} (hl : lo ≤ hi) {cs : List Host.Cell}
    (hc : Rising cs) (hr : ∀ c ∈ cs, lo ≤ c.1 ∧ c.1 < hi) : (m.splice lo hi cs).wf = true := by
  refine (DevMem.wf_iff _).2 ⟨DevMem.rising_splice (m.wf_iff.1 h).1 hl hc hr, ?_⟩
  intro c hm
  simp only [DevMem.splice, List.mem_append, List.mem_filter] at hm
  rcases hm with hm | hm | hm
  · exact (m.wf_iff.1 h).2 c hm.1
  · exact (listable_iff _ _).1 hm.2
  · exact (m.wf_iff.1 h).2 c hm.1

theorem zipCells (a : Nat) (bs : List Byte) :
    Rising (bs.zipIdx.map (fun e => (a + e.2, e.1))) ∧
    ∀ c ∈ bs.zipIdx.map (fun e => (a + e.2, e.1)), a ≤ c.1 ∧ c.1 < a + bs.length := by
  constructor
  · simp only [Rising, List.pairwise_map]
    rw [List.pairwise_iff_getElem]
    intro i j hi hj hij
    simp; omega
  · intro c hc
    simp only [List.mem_map] at hc
    obtain ⟨⟨v, i⟩, he, rfl⟩ := hc
    have := List.mem_zipIdx he
    simp at this ⊢; omega

/-- Writing bytes keeps the canonical form. -/
theorem DevMem.wf_writeBytes {m : DevMem} (h : m.wf = true) (a : Nat) (bs : List Byte) :
    (m.writeBytes a bs).wf = true :=
  DevMem.wf_splice h (by omega) (zipCells a bs).1 (zipCells a bs).2

theorem DevMem.wf_write {m : DevMem} (h : m.wf = true) (a : Nat) (b : Byte) : (m.write a b).wf = true :=
  DevMem.wf_writeBytes h a [b]

/-- A part of memory is in canonical form. -/
theorem DevMem.wf_slice {m : DevMem} (h : m.wf = true) (lo hi : Nat) : (m.slice lo hi).wf = true := by
  obtain ⟨h1, h2⟩ := m.wf_iff.1 h
  exact (DevMem.wf_iff _).2 ⟨h1.filter _, fun c hc => h2 c (List.mem_filter.1 hc).1⟩

theorem regionAt_cons (r : Region) (rs : List Region) (a : Nat) :
    regionAt (r :: rs) a = if r.lo ≤ a ∧ a < r.hi then some r.fill else regionAt rs a := rfl

/-- Filling a run of addresses keeps the canonical form. -/
theorem DevMem.wf_fill {m : DevMem} (h : m.wf = true) (lo hi : Nat) (f : Fill) : (m.fill lo hi f).wf = true := by
  obtain ⟨h1, h2⟩ := m.wf_iff.1 h
  refine (DevMem.wf_iff _).2 ⟨h1.filter _, ?_⟩
  intro c hm
  have hc := List.mem_filter.1 hm
  have := h2 c hc.1
  simp only [DevMem.listable, DevMem.zeroAt, DevMem.fill, regionAt_cons] at this ⊢
  rw [if_neg]
  · exact this
  · have := hc.2; simp at this; omega

theorem regionAt_append (xs ys : List Region) (a : Nat) :
    regionAt (xs ++ ys) a = (match regionAt xs a with | some f => some f | none => regionAt ys a) := by
  induction xs with
  | nil => rfl
  | cons r xs ih =>
    simp only [List.cons_append, regionAt_cons]
    split
    · rfl
    · exact ih

theorem regionAt_clip (bg : List Region) {lo hi a : Nat} (h : a < lo ∨ hi ≤ a) : regionAt (clipBg lo hi bg) a = none := by
  unfold clipBg
  induction bg with
  | nil => rfl
  | cons r bg ih =>
    simp only [List.filter_cons]
    split
    · simp only [List.map_cons, regionAt_cons]
      rw [if_neg (by simp; omega)]
      exact ih
    · exact ih

/-- Remapping a page keeps the canonical form. -/
theorem DevMem.wf_replace {m img : DevMem} (h : m.wf = true) (hi' : img.wf = true) {lo hi : Nat} (hl : lo ≤ hi) :
    (m.replace lo hi img).wf = true := by
  obtain ⟨i1, -⟩ := img.wf_iff.1 hi'
  obtain ⟨h1, h2⟩ := m.wf_iff.1 h
  have hr : ∀ c ∈ img.cells.filter (fun c => lo ≤ c.1 && c.1 < hi), lo ≤ c.1 ∧ c.1 < hi := by
    intro c hc; simpa using (List.mem_filter.1 hc).2
  simp only [DevMem.replace]
  split
  · exact DevMem.wf_splice h hl (i1.filter _) hr
  · refine (DevMem.wf_iff _).2 ⟨?_, ?_⟩
    · exact DevMem.rising_splice (m := { cells := m.cells, bg := clipBg lo hi img.bg ++ m.bg }) h1 hl (i1.filter _) hr
    · intro c hm
      simp only [DevMem.splice, List.mem_append, List.mem_filter] at hm
      have out : ∀ c ∈ m.cells, (c.1 < lo ∨ hi ≤ c.1) →
          DevMem.listable { cells := m.cells, bg := clipBg lo hi img.bg ++ m.bg } c := by
        intro c hc ho
        have := h2 c hc
        simp only [DevMem.listable, DevMem.zeroAt, regionAt_append, regionAt_clip img.bg ho] at this ⊢
        exact this
      rcases hm with hm | hm | hm
      · have := out c hm.1 (.inl (by simpa using hm.2))
        simpa [DevMem.listable, DevMem.zeroAt, DevMem.splice] using this
      · exact (listable_iff _ _).1 hm.2
      · have := out c hm.1 (.inr (by simpa using hm.2))
        simpa [DevMem.listable, DevMem.zeroAt, DevMem.splice] using this

/-! ### Reading after writing -/

theorem mem_zipCells (a : Nat) (bs : List Byte) (x : Nat) (v : Byte) :
    (x, v) ∈ bs.zipIdx.map (fun e => (a + e.2, e.1)) ↔ a ≤ x ∧ bs[x - a]? = some v := by
  simp only [List.mem_map, Prod.mk.injEq]
  constructor
  · rintro ⟨⟨w, i⟩, he, h1, h2⟩
    have := List.mem_zipIdx_iff_getElem?.1 he
    simp at h1 h2 this
    subst h1 h2
    refine ⟨by omega, ?_⟩
    simpa using this
  · rintro ⟨h, k⟩
    refine ⟨(v, x - a), List.mem_zipIdx_iff_getElem?.2 (by simpa using k), by simp; omega, rfl⟩

theorem DevMem.unlisted_zero {m : DevMem} {a : Nat} (h : m.zeroAt a = true) : m.unlisted a = 0 := by
  unfold DevMem.zeroAt at h
  unfold DevMem.unlisted
  split at h <;> simp_all

/-- After a write the bytes written read as written and every other byte as before. -/
theorem DevMem.read_writeBytes {m : DevMem} (h : m.wf = true) (a : Nat) (bs : List Byte) (x : Nat) :
    (m.writeBytes a bs).read x = if a ≤ x ∧ x < a + bs.length then bs.getD (x - a) 0 else m.read x := by
  obtain ⟨h1, h2⟩ := m.wf_iff.1 h
  obtain ⟨z1, z2⟩ := zipCells a bs
  have hs : Rising (m.writeBytes a bs).cells := DevMem.rising_splice h1 (by omega) z1 z2
  have hu : (m.writeBytes a bs).unlisted x = m.unlisted x := rfl
  have mem : ∀ v, (x, v) ∈ (m.writeBytes a bs).cells ↔
      (if a ≤ x ∧ x < a + bs.length then bs[x - a]? = some v ∧ ¬(v = 0 ∧ m.zeroAt x = true) else (x, v) ∈ m.cells) := by
    intro v
    simp only [DevMem.writeBytes, DevMem.splice, List.mem_append, List.mem_filter, mem_zipCells]
    split
    · rename_i hx
      constructor
      · rintro (k | k | k)
        · have := k.2; simp at this; omega
        · refine ⟨k.1.2, ?_⟩
          exact (listable_iff _ _).1 k.2
        · have := k.2; simp at this; omega
      · rintro ⟨k1, k2⟩
        exact .inr (.inl ⟨⟨hx.1, k1⟩, (listable_iff _ _).2 k2⟩)
    · rename_i hx
      constructor
      · rintro (k | k | k)
        · exact k.1
        · have hlt : x - a < bs.length := by
            by_contra hc
            have := k.1.2
            rw [List.getElem?_eq_none (by omega)] at this
            cases this
          omega
        · exact k.1
      · intro k
        by_cases hlt : x < a
        · exact .inl ⟨k, by simpa using hlt⟩
        · exact .inr (.inr ⟨k, by simp; omega⟩)
  by_cases hx : a ≤ x ∧ x < a + bs.length
  · simp only [if_pos hx] at mem
    rw [if_pos hx]
    have hlt : x - a < bs.length := by omega
    have hb : bs[x - a]? = some (bs.getD (x - a) 0) := by
      simp [List.getElem?_eq_getElem hlt, List.getD]
    simp only [DevMem.read, hu]
    by_cases hz : bs.getD (x - a) 0 = 0 ∧ m.zeroAt x = true
    · have : cellFind (m.writeBytes a bs).cells x = none := by
        rw [cellFind_eq_none hs]
        rintro ⟨y, v⟩ hc rfl
        have := (mem v).1 hc
        rw [hb] at this
        have h3 := Option.some.inj this.1
        exact this.2 ⟨h3 ▸ hz.1, hz.2⟩
      rw [this, hz.1]
      exact DevMem.unlisted_zero hz.2
    · have := (cellFind_iff hs x _).2 ((mem _).2 ⟨hb, hz⟩)
      rw [this]; rfl
  · simp only [if_neg hx] at mem
    rw [if_neg hx]
    simp only [DevMem.read, hu]
    rw [cellFind_congr hs h1 x mem]

/-- Memory after reset is in canonical form. -/
theorem DevMem.wf_reset : State.reset.mem.wf = true := rfl

/-- The operations over the memory of a state keep its canonical form. -/
theorem State.wf_poke {s : State} (h : s.mem.wf = true) (a : Nat) (bs : List Byte) : (s.poke a bs).mem.wf = true :=
  DevMem.wf_writeBytes h a bs

theorem State.wf_scramble {s : State} (h : s.mem.wf = true) (lo hi : Nat) : (s.scramble lo hi).mem.wf = true :=
  DevMem.wf_fill h lo hi _

end Sys2Proof.Machine
end

