-- ==== Sys2Proof/Laws/Seq.lean ====
section
/-!
SUPPORT. What running one sequencer instruction comes to, said once: the encoded words are legal and keep
their opcode, a legal word runs, and the program counter goes on.
-/

set_option Elab.async false  -- the joined text is large: no thread per declaration

namespace Sys2Proof.Machine

theorem wf24_ofNat {x : Nat} (h : x < 2 ^ 24) (hi lo : Nat) :
    wf24 (BitVec.ofNat 24 x) hi lo = x / 2 ^ lo % 2 ^ (hi + 1 - lo) := by
  rw [wf24, BitVec.toNat_ofNat, Nat.mod_eq_of_lt h]

/-- A legal instruction at the program counter of a running sequencer runs. -/
theorem State.seqExec_legal {s : State} {q : Fin 8} {w : W24} (h : s.seqAt q w)
    (hi : illegalWord q w = false) (f : State → State) : s.seqExec q w f = (f s).count 0x80 q 1 := by
  obtain ⟨h1, h2, h3, h4⟩ := h
  simp [State.seqExec, h1, h2, h3, h4, hi]

theorem State.seqNext_lt {s : State} {q : Fin 8} (h : (s.seq q).pc < 16383) :
    s.seqNext q = s.modSeq q (fun x => { x with pc := x.pc + 1 }) := by
  simp [State.seqNext]; omega

theorem illegalWord_R {op : Nat} (hop : op ∈ [4,5,6,7,8,9,10,11,12,13]) (q : Fin 8) (gd ga gb : Fin 16) :
    illegalWord q (encR op gd ga gb) = false := by
  have h1 := gd.isLt
  have h2 := ga.isLt
  have h3 := gb.isLt
  have hop' : 4 ≤ op ∧ op ≤ 13 := by simp at hop; omega
  have hx : op * 2 ^ 18 + gd * 2 ^ 14 + ga * 2 ^ 10 + gb * 2 ^ 6 < 2^24 := by omega
  have e1 : wf24 (encR op gd ga gb) 23 18 = op := by
    rw [encR, wf24_ofNat hx]; omega
  have e2 : wf24 (encR op gd ga gb) 5 0 = 0 := by
    rw [encR, wf24_ofNat hx]; omega
  unfold illegalWord
  rw [e1]
  simp at hop
  rcases hop with rfl|rfl|rfl|rfl|rfl|rfl|rfl|rfl|rfl|rfl <;> simp [e2]

theorem illegalWord_cmp (q : Fin 8) (ga gb : Fin 16) :
    illegalWord q (encR 0x0E 0 ga gb) = false := by
  have h2 := ga.isLt
  have h3 := gb.isLt
  have hx : 0x0E * 2 ^ 18 + 0 * 2 ^ 14 + ga.val * 2 ^ 10 + gb.val * 2 ^ 6 < 2^24 := by omega
  have e1 : wf24 (encR 0x0E 0 ga gb) 23 18 = 0x0E := by
    rw [encR, wf24_ofNat hx]; omega
  have e2 : wf24 (encR 0x0E 0 ga gb) 5 0 = 0 := by
    rw [encR, wf24_ofNat hx]; omega
  have e3 : wf24 (encR 0x0E 0 ga gb) 17 14 = 0 := by
    rw [encR, wf24_ofNat hx]; omega
  unfold illegalWord
  rw [e1]
  simp [e2, e3]
theorem illegalWord_mov (q : Fin 8) (gd ga : Fin 16) :
    illegalWord q (encR 0x0F gd ga 0) = false := by
  have h2 := ga.isLt
  have h3 := gd.isLt
  have hx : 0x0F * 2 ^ 18 + gd.val * 2 ^ 14 + ga.val * 2 ^ 10 + 0 * 2 ^ 6 < 2^24 := by omega
  have e1 : wf24 (encR 0x0F gd ga 0) 23 18 = 0x0F := by
    rw [encR, wf24_ofNat hx]; omega
  have e2 : wf24 (encR 0x0F gd ga 0) 9 0 = 0 := by
    rw [encR, wf24_ofNat hx]; omega
  unfold illegalWord
  rw [e1]
  simp [e2]
theorem illegalWord_I {op : Nat} (hop : op ∈ [0x10,0x12,0x13,0x14,0x15]) (q : Fin 8) (gd : Fin 16) (i : BitVec 14) :
    illegalWord q (encI op gd i.toNat) = false := by
  have h1 := gd.isLt
  have h2 := i.isLt
  have hop' : 4 ≤ op ∧ op ≤ 0x15 := by simp at hop; omega
  have hx : op * 2 ^ 18 + gd * 2 ^ 14 + i.toNat < 2^24 := by omega
  have e1 : wf24 (encI op gd i.toNat) 23 18 = op := by
    rw [encI, wf24_ofNat hx]; omega
  unfold illegalWord
  rw [e1]
  simp at hop
  rcases hop with rfl|rfl|rfl|rfl|rfl <;> simp
theorem illegalWord_lui (q : Fin 8) (gd : Fin 16) (i : BitVec 10) :
    illegalWord q (encI 0x11 gd i.toNat) = false := by
  have h1 := gd.isLt
  have h2 := i.isLt
  have hx : 0x11 * 2 ^ 18 + gd * 2 ^ 14 + i.toNat < 2^24 := by omega
  have e1 : wf24 (encI 0x11 gd i.toNat) 23 18 = 0x11 := by
    rw [encI, wf24_ofNat hx]; omega
  have e2 : wf24 (encI 0x11 gd i.toNat) 13 10 = 0 := by
    rw [encI, wf24_ofNat hx]; omega
  unfold illegalWord
  rw [e1]
  simp [e2]
theorem illegalWord_A {op : Nat} (hop : op ∈ [0x1E,0x1F]) (q : Fin 8) (gd : Fin 16) (i : BitVec 12) :
    illegalWord q (encI op gd i.toNat) = false := by
  have h1 := gd.isLt
  have h2 := i.isLt
  have hop' : 4 ≤ op ∧ op ≤ 0x1F := by simp at hop; omega
  have hx : op * 2 ^ 18 + gd * 2 ^ 14 + i.toNat < 2^24 := by omega
  have e1 : wf24 (encI op gd i.toNat) 23 18 = op := by
    rw [encI, wf24_ofNat hx]; omega
  have e2 : wf24 (encI op gd i.toNat) 13 12 = 0 := by
    rw [encI, wf24_ofNat hx]; omega
  unfold illegalWord
  rw [e1]
  simp at hop
  rcases hop with rfl|rfl <;> simp [e2]
theorem illegalWord_S {op : Nat} (hop : op ∈ [0x16,0x17,0x18]) (q : Fin 8) (gd ga : Fin 16) (i : BitVec 5) :
    illegalWord q (encS op gd ga i.toNat) = false := by
  have h1 := gd.isLt
  have h3 := ga.isLt
  have h2 := i.isLt
  have hop' : 4 ≤ op ∧ op ≤ 0x18 := by simp at hop; omega
  have hx : op * 2 ^ 18 + gd * 2 ^ 14 + ga * 2^10 + i.toNat < 2^24 := by omega
  have e1 : wf24 (encS op gd ga i.toNat) 23 18 = op := by
    rw [encS, wf24_ofNat hx]; omega
  have e2 : wf24 (encS op gd ga i.toNat) 9 5 = 0 := by
    rw [encS, wf24_ofNat hx]; omega
  unfold illegalWord
  rw [e1]
  simp at hop
  rcases hop with rfl|rfl|rfl <;> simp [e2]
theorem illegalWord_M {op : Nat} (hop : op ∈ [0x1C,0x1D]) (q : Fin 8) (gd ga : Fin 16) (i : BitVec 10) :
    illegalWord q (encM op gd ga i.toNat) = false := by
  have h1 := gd.isLt
  have h3 := ga.isLt
  have h2 := i.isLt
  have hop' : 4 ≤ op ∧ op ≤ 0x1D := by simp at hop; omega
  have hx : op * 2 ^ 18 + gd * 2 ^ 14 + ga * 2^10 + i.toNat < 2^24 := by omega
  have e1 : wf24 (encM op gd ga i.toNat) 23 18 = op := by
    rw [encM, wf24_ofNat hx]; omega
  unfold illegalWord
  rw [e1]
  simp at hop
  rcases hop with rfl|rfl <;> simp

/-! The words of the instructions that are not of plain register form. -/

theorem illegalWord_br (q : Fin 8) (c : BitVec 4) (t : BitVec 14) (hc : c ≠ 15) :
    illegalWord q (encI 0x20 c.toNat t.toNat) = false := by
  have l_c := c.isLt
  have l_t := t.isLt
  have hc2 : c.toNat ≠ 15 := fun e => hc (BitVec.eq_of_toNat_eq e)
  have hx : 0x20 * 2 ^ 18 + c.toNat * 2 ^ 14 + t.toNat < 2 ^ 24 := by omega
  have e1 : wf24 (encI 0x20 c.toNat t.toNat) 23 18 = 32 := by
    rw [encI, wf24_ofNat hx]; omega
  have f0 : wf24 (encI 0x20 c.toNat t.toNat) 17 14 = c.toNat := by
    rw [encI, wf24_ofNat hx]; omega
  unfold illegalWord
  rw [e1]
  simp [f0, hc2]

theorem illegalWord_dbnz (q : Fin 8) (g : Fin 16) (t : BitVec 14) :
    illegalWord q (encI 0x21 g t.toNat) = false := by
  have l_g := g.isLt
  have l_t := t.isLt
  have hx : 0x21 * 2 ^ 18 + g.val * 2 ^ 14 + t.toNat < 2 ^ 24 := by omega
  have e1 : wf24 (encI 0x21 g t.toNat) 23 18 = 33 := by
    rw [encI, wf24_ofNat hx]; omega
  unfold illegalWord
  rw [e1]
  rfl

theorem illegalWord_call (q : Fin 8) (t : BitVec 14) :
    illegalWord q (encI 0x22 0 t.toNat) = false := by
  have l_t := t.isLt
  have hx : 0x22 * 2 ^ 18 + 0 * 2 ^ 14 + t.toNat < 2 ^ 24 := by omega
  have e1 : wf24 (encI 0x22 0 t.toNat) 23 18 = 34 := by
    rw [encI, wf24_ofNat hx]; omega
  have f0 : wf24 (encI 0x22 0 t.toNat) 17 14 = 0 := by
    rw [encI, wf24_ofNat hx]; omega
  unfold illegalWord
  rw [e1]
  simp [f0]

theorem illegalWord_waitl (q : Fin 8) (t : BitVec 14) :
    illegalWord q (encI 0x28 0 t.toNat) = false := by
  have l_t := t.isLt
  have hx : 0x28 * 2 ^ 18 + 0 * 2 ^ 14 + t.toNat < 2 ^ 24 := by omega
  have e1 : wf24 (encI 0x28 0 t.toNat) 23 18 = 40 := by
    rw [encI, wf24_ofNat hx]; omega
  have f0 : wf24 (encI 0x28 0 t.toNat) 17 14 = 0 := by
    rw [encI, wf24_ofNat hx]; omega
  unfold illegalWord
  rw [e1]
  simp [f0]

theorem illegalWord_waitlc (q : Fin 8) (g : Fin 16) :
    illegalWord q (encI 0x29 0 (g.val * 1024)) = false := by
  have l_g := g.isLt
  have hx : 0x29 * 2 ^ 18 + 0 * 2 ^ 14 + g.val * 1024 < 2 ^ 24 := by omega
  have e1 : wf24 (encI 0x29 0 (g.val * 1024)) 23 18 = 41 := by
    rw [encI, wf24_ofNat hx]; omega
  have f0 : wf24 (encI 0x29 0 (g.val * 1024)) 17 14 = 0 := by
    rw [encI, wf24_ofNat hx]; omega
  have f1 : wf24 (encI 0x29 0 (g.val * 1024)) 9 0 = 0 := by
    rw [encI, wf24_ofNat hx]; omega
  unfold illegalWord
  rw [e1]
  simp [f0, f1]

theorem illegalWord_waitc (q : Fin 8) (t : BitVec 10) :
    illegalWord q (encI 0x2A 0 t.toNat) = false := by
  have l_t := t.isLt
  have hx : 0x2A * 2 ^ 18 + 0 * 2 ^ 14 + t.toNat < 2 ^ 24 := by omega
  have e1 : wf24 (encI 0x2A 0 t.toNat) 23 18 = 42 := by
    rw [encI, wf24_ofNat hx]; omega
  have f0 : wf24 (encI 0x2A 0 t.toNat) 17 10 = 0 := by
    rw [encI, wf24_ofNat hx]; omega
  unfold illegalWord
  rw [e1]
  simp [f0]

theorem illegalWord_waitn (q : Fin 8) (t : BitVec 14) (hc : 0 < t.toNat) :
    illegalWord q (encI 0x2B 0 t.toNat) = false := by
  have l_t := t.isLt
  have hc2 : t.toNat ≠ 0 := by omega
  have hx : 0x2B * 2 ^ 18 + 0 * 2 ^ 14 + t.toNat < 2 ^ 24 := by omega
  have e1 : wf24 (encI 0x2B 0 t.toNat) 23 18 = 43 := by
    rw [encI, wf24_ofNat hx]; omega
  have f0 : wf24 (encI 0x2B 0 t.toNat) 17 14 = 0 := by
    rw [encI, wf24_ofNat hx]; omega
  have f1 : wf24 (encI 0x2B 0 t.toNat) 13 0 = t.toNat := by
    rw [encI, wf24_ofNat hx]; omega
  unfold illegalWord
  rw [e1]
  simp [f0, f1, hc2]

theorem illegalWord_waitt (q : Fin 8) (g : Fin 16) (e : BitVec 2) (hc : e ≠ 3) :
    illegalWord q (encI 0x2C g (e.toNat * 4096)) = false := by
  have l_g := g.isLt
  have l_e := e.isLt
  have hc2 : e.toNat ≠ 3 := fun k => hc (BitVec.eq_of_toNat_eq k)
  have hx : 0x2C * 2 ^ 18 + g.val * 2 ^ 14 + e.toNat * 4096 < 2 ^ 24 := by omega
  have e1 : wf24 (encI 0x2C g (e.toNat * 4096)) 23 18 = 44 := by
    rw [encI, wf24_ofNat hx]; omega
  have f0 : wf24 (encI 0x2C g (e.toNat * 4096)) 11 0 = 0 := by
    rw [encI, wf24_ofNat hx]; omega
  have f1 : wf24 (encI 0x2C g (e.toNat * 4096)) 13 12 = e.toNat := by
    rw [encI, wf24_ofNat hx]; omega
  unfold illegalWord
  rw [e1]
  simp [f0, f1, hc2]

theorem illegalWord_beam (q : Fin 8) (g : Fin 16) (e : BitVec 2) :
    illegalWord q (encI 0x2D g (e.toNat * 4096)) = false := by
  have l_g := g.isLt
  have l_e := e.isLt
  have hx : 0x2D * 2 ^ 18 + g.val * 2 ^ 14 + e.toNat * 4096 < 2 ^ 24 := by omega
  have e1 : wf24 (encI 0x2D g (e.toNat * 4096)) 23 18 = 45 := by
    rw [encI, wf24_ofNat hx]; omega
  have f0 : wf24 (encI 0x2D g (e.toNat * 4096)) 11 0 = 0 := by
    rw [encI, wf24_ofNat hx]; omega
  unfold illegalWord
  rw [e1]
  simp [f0]

theorem illegalWord_sync (q : Fin 8) (j : Fin 8) (hc : j ≠ q) :
    illegalWord q (BitVec.ofNat 24 (0x2E * 2 ^ 18 + j.val * 2 ^ 15)) = false := by
  have l_j := j.isLt
  have hc2 : j.val ≠ q.val := fun k => hc (Fin.ext k)
  have hx : 0x2E * 2 ^ 18 + j.val * 2 ^ 15 < 2 ^ 24 := by omega
  have e1 : wf24 (BitVec.ofNat 24 (0x2E * 2 ^ 18 + j.val * 2 ^ 15)) 23 18 = 46 := by
    rw [wf24_ofNat hx]; omega
  have f0 : wf24 (BitVec.ofNat 24 (0x2E * 2 ^ 18 + j.val * 2 ^ 15)) 14 0 = 0 := by
    rw [wf24_ofNat hx]; omega
  have f1 : wf24 (BitVec.ofNat 24 (0x2E * 2 ^ 18 + j.val * 2 ^ 15)) 17 15 = j.val := by
    rw [wf24_ofNat hx]; omega
  unfold illegalWord
  rw [e1]
  simp only [f0, f1]
  simp [hc2]

theorem illegalWord_sig (q : Fin 8) (j : Fin 8) (hc : j ≠ q) :
    illegalWord q (BitVec.ofNat 24 (0x2F * 2 ^ 18 + j.val * 2 ^ 15)) = false := by
  have l_j := j.isLt
  have hc2 : j.val ≠ q.val := fun k => hc (Fin.ext k)
  have hx : 0x2F * 2 ^ 18 + j.val * 2 ^ 15 < 2 ^ 24 := by omega
  have e1 : wf24 (BitVec.ofNat 24 (0x2F * 2 ^ 18 + j.val * 2 ^ 15)) 23 18 = 47 := by
    rw [wf24_ofNat hx]; omega
  have f0 : wf24 (BitVec.ofNat 24 (0x2F * 2 ^ 18 + j.val * 2 ^ 15)) 14 0 = 0 := by
    rw [wf24_ofNat hx]; omega
  have f1 : wf24 (BitVec.ofNat 24 (0x2F * 2 ^ 18 + j.val * 2 ^ 15)) 17 15 = j.val := by
    rw [wf24_ofNat hx]; omega
  unfold illegalWord
  rw [e1]
  simp only [f0, f1]
  simp [hc2]

theorem illegalWord_key (q : Fin 8) (a : Fin 4) (i : BitVec 6) (g : Fin 16) :
    illegalWord q (encKey a i.toNat g) = false := by
  have l_a := a.isLt
  have l_i := i.isLt
  have l_g := g.isLt
  have hx : 0x34 * 2 ^ 18 + a.val * 2 ^ 16 + i.toNat * 2 ^ 10 + g.val * 2 ^ 6 < 2 ^ 24 := by omega
  have e1 : wf24 (encKey a i.toNat g) 23 18 = 52 := by
    rw [encKey, wf24_ofNat hx]; omega
  have f0 : wf24 (encKey a i.toNat g) 5 0 = 0 := by
    rw [encKey, wf24_ofNat hx]; omega
  unfold illegalWord
  rw [e1]
  simp [f0]

theorem illegalWord_raise (q : Fin 8) (c : Byte) :
    illegalWord q (encI 0x35 (c.toNat / 16) (c.toNat % 16 * 1024)) = false := by
  have l_c := c.isLt
  have hx : 0x35 * 2 ^ 18 + c.toNat / 16 * 2 ^ 14 + c.toNat % 16 * 1024 < 2 ^ 24 := by omega
  have e1 : wf24 (encI 0x35 (c.toNat / 16) (c.toNat % 16 * 1024)) 23 18 = 53 := by
    rw [encI, wf24_ofNat hx]; omega
  have f0 : wf24 (encI 0x35 (c.toNat / 16) (c.toNat % 16 * 1024)) 9 0 = 0 := by
    rw [encI, wf24_ofNat hx]; omega
  unfold illegalWord
  rw [e1]
  simp [f0]

theorem illegalWord_move (q : Fin 8) (g : Fin 16) (w : Fin 4) (t : BitVec 12) :
    illegalWord q (encW 0x30 g w t.toNat) = false := by
  have l_g := g.isLt
  have l_w := w.isLt
  have l_t := t.isLt
  have hx : 0x30 * 2 ^ 18 + g.val * 2 ^ 14 + w.val * 2 ^ 12 + t.toNat < 2 ^ 24 := by omega
  have e1 : wf24 (encW 0x30 g w t.toNat) 23 18 = 48 := by
    rw [encW, wf24_ofNat hx]; omega
  unfold illegalWord
  rw [e1]
  rfl

theorem illegalWord_moveb (q : Fin 8) (g : Fin 16) (w : Fin 4) (t : BitVec 12) :
    illegalWord q (encW 0x32 g w t.toNat) = false := by
  have l_g := g.isLt
  have l_w := w.isLt
  have l_t := t.isLt
  have hx : 0x32 * 2 ^ 18 + g.val * 2 ^ 14 + w.val * 2 ^ 12 + t.toNat < 2 ^ 24 := by omega
  have e1 : wf24 (encW 0x32 g w t.toNat) 23 18 = 50 := by
    rw [encW, wf24_ofNat hx]; omega
  unfold illegalWord
  rw [e1]
  rfl

theorem illegalWord_movebx (q : Fin 8) (g : Fin 16) (w : Fin 4) (t : BitVec 12) :
    illegalWord q (encW 0x33 g w t.toNat) = false := by
  have l_g := g.isLt
  have l_w := w.isLt
  have l_t := t.isLt
  have hx : 0x33 * 2 ^ 18 + g.val * 2 ^ 14 + w.val * 2 ^ 12 + t.toNat < 2 ^ 24 := by omega
  have e1 : wf24 (encW 0x33 g w t.toNat) 23 18 = 51 := by
    rw [encW, wf24_ofNat hx]; omega
  unfold illegalWord
  rw [e1]
  rfl

theorem illegalWord_movex (q : Fin 8) (g : Fin 16) (w : Fin 4) (t : BitVec 12) (hc : g.val % 2 = 0) :
    illegalWord q (encW 0x31 g w t.toNat) = false := by
  have l_g := g.isLt
  have l_w := w.isLt
  have l_t := t.isLt
  have hx : 0x31 * 2 ^ 18 + g.val * 2 ^ 14 + w.val * 2 ^ 12 + t.toNat < 2 ^ 24 := by omega
  have e1 : wf24 (encW 0x31 g w t.toNat) 23 18 = 49 := by
    rw [encW, wf24_ofNat hx]; omega
  have f0 : wf24 (encW 0x31 g w t.toNat) 14 14 = 0 := by
    rw [encW, wf24_ofNat hx]; omega
  unfold illegalWord
  rw [e1]
  simp [f0]

theorem State.modSeq_congr {s : State} {q : Fin 8} {f g : SeqSt → SeqSt} (h : f (s.seq q) = g (s.seq q)) :
    s.modSeq q f = s.modSeq q g := by
  simp only [State.seq, Fin.getElem_fin] at h
  simp [State.modSeq, h]

theorem SeqNext.intro {c : Instr} {s : State} {q : Fin 8} {w : W24} {f : SeqSt → SeqSt} {F : State → State} {g : SeqSt → SeqSt}
   (hc : exec c s = .next (s.seqExec q w F)) (hw : illegalWord q w = false)
   (hf : F s = (s.modSeq q g).seqNext q) (hg : g (s.seq q) = f (s.seq q)) (hpc : (f (s.seq q)).pc = (s.seq q).pc) :
   s.seqReady q w → ∃ t, exec c s = .next t ∧ SeqNext s t q f := by
  intro ⟨h, hp⟩
  refine ⟨_, hc, ?_⟩
  rw [State.seqExec_legal h hw, hf, State.seqNext_lt, State.modSeq_modSeq]
  rotate_left
  · simp [hpc, hp, hg]
  have e : (s.modSeq q fun x => { (g x) with pc := (g x).pc + 1 }) = s.modSeq q fun x => { (f x) with pc := x.pc + 1 } :=
    State.modSeq_congr (by simp only [hg, hpc])
  rw [SeqNext, SeqDone, ← e]
  exact State.count_counted _ _ _ _ _

/-- As `SeqNext.intro`, for an instruction that says itself where the program goes on. -/
theorem SeqDone.intro {c : Instr} {s : State} {q : Fin 8} {w : W24} {f : SeqSt → SeqSt} {F : State → State} {g : SeqSt → SeqSt}
   (hc : exec c s = .next (s.seqExec q w F)) (hw : illegalWord q w = false)
   (hf : F s = s.modSeq q g) (hg : g (s.seq q) = f (s.seq q)) :
   s.seqAt q w → ∃ t, exec c s = .next t ∧ SeqDone s t q f := by
  intro h
  refine ⟨_, hc, ?_⟩
  rw [State.seqExec_legal h hw, hf, State.modSeq_congr hg]
  exact State.count_counted _ _ _ _ _

theorem flagsAdd_v (a b : W24) : (a.msb = b.msb && (a + b).msb ≠ a.msb) = decide ((a + b).toInt ≠ a.toInt + b.toInt) := by
  have ha := a.isLt
  have hb := b.isLt
  simp only [BitVec.msb_eq_decide, BitVec.toInt_eq_toNat_cond, BitVec.toNat_add]
  rw [Bool.eq_iff_iff]; simp; omega
theorem flagsSub_v (a b : W24) : (a.msb ≠ b.msb && (a - b).msb ≠ a.msb) = decide ((a - b).toInt ≠ a.toInt - b.toInt) := by
  have ha := a.isLt
  have hb := b.isLt
  simp only [BitVec.msb_eq_decide, BitVec.toInt_eq_toNat_cond, BitVec.toNat_sub]
  rw [Bool.eq_iff_iff]; simp; omega

end Sys2Proof.Machine
end

