-- ==== Sys2Proof/WellFormed.lean ====
section
/-!
DEFINITION. Well-formed commands: what a row of the table asks of its operands beyond their types.
`Machine.exec` has a meaning for ill-formed commands too.
-/

set_option Elab.async false  -- the joined text is large: no thread per declaration

namespace Sys2Proof

/-- The place of a register write is a whole word (R15). -/
def WriteTo.word : WriteTo → Bool
  | .bar0 a => a.toNat % 4 = 0
  | .page _ o => o.toNat % 4 = 0
  | .power _ => true

/-- The operands are ones the row of the table can have. -/
def Instr.wf : Instr → Bool
  | .pwrOkRise .. => true
  | .pwrOkFall => true
  | .resetNPulse .. => true
  | .glbResetWarm .. => true
  | .watchdogExpiry .. => true
  | .pllLock .. => true
  | .refLost => true
  | .holdoverExpiry => true
  | .slewEnd => true
  | .refReturn => true
  | .tempMeasurement .. => true
  | .freezeNAssert .. => true
  | .freezeNRelease => true
  | .hostLossExpiry => true
  | .perstNAssert => true
  | .pcieLinkDown => true
  | .pfFlr => true
  -- a function-level reset of a virtual function names one of 1 to 15 (R108)
  | .vfFlr fn => fn ≠ 0
  | .poisonedWrite .. => true
  -- a register write names a word and at least one byte of it (R15)
  | .registerWrite dest _ be => dest.word && be ≠ 0
  | .frameRead .. => true
  | .quotaWrite .. => true
  | .vecCountWrite .. => true
  | .limitWrite .. => true
  | .memPoolWrite .. => true
  -- RING_ENABLE sets EN (R82)
  | .ringEnable _ _ value => value.getLsbD 31
  -- RING_DISABLE clears EN (R83)
  | .ringDisable _ _ value => !value.getLsbD 31
  | .knock .. => true
  | .knockStormEnd .. => true
  | .doorbellPoll => true
  | .doorbellRecordRead .. => true
  | .staleRecordReread .. => true
  | .cqFull .. => true
  | .holdoffExpiry .. => true
  | .leaseExpired .. => true
  | .fnRereg .. => true
  -- the types up to 0x10 are known (R91)
  | .unknownType type _ _ => 0x10 < type.toNat
  | .nop .. => true
  | .trickBegin .. => true
  -- MODE is neither AT nor DISCARD (R118)
  | .trickCommitNext _ payload => payload.toNat % 256 ≠ 1 && payload.toNat % 256 ≠ 2
  -- MODE is AT (R118)
  | .trickCommitAt _ payload => payload.toNat % 256 = 1
  -- MODE is DISCARD (R117)
  | .trickCommitDiscard _ payload => payload.toNat % 256 = 2
  | .regWrite .. => true
  | .mapUpdate .. => true
  | .deckUpdate .. => true
  | .patternLoad .. => true
  | .paletteLoad .. => true
  | .seqLoad .. => true
  | .blitList .. => true
  | .sluice .. => true
  | .audioStream .. => true
  | .graphLoad .. => true
  | .fence .. => true
  -- ITEM is no other row's (R469)
  | .queryRegister _ payload => payload.toNat % 256 = 0 || 4 < payload.toNat % 256
  -- ITEM is 1 (R469)
  | .queryMode _ payload => payload.toNat % 256 = 1
  -- ITEM is 2 (R469)
  | .querySlots _ payload => payload.toNat % 256 = 2
  -- ITEM is 3 (R469)
  | .queryFnStatus _ payload => payload.toNat % 256 = 3
  -- ITEM is 4 (R469)
  | .queryLastTrick _ payload => payload.toNat % 256 = 4
  | .latTol .. => true
  | .journalStore .. => true
  | .commitCutoff .. => true
  | .applicationEnd => true
  | .noHeadApply => true
  | .frameWrap .. => true
  -- scrubbed addresses lie in Tarn (R143)
  | .tarnScrub corrected uncorrectable => corrected.all (fun a => a < 0x4000000) && uncorrectable.all (fun a => a < 0x4000000)
  -- an access ends within BAR4 (R154)
  | .bar4Read off len => off.toNat + len ≤ 0x4000000
  -- an access ends within BAR4 (R154)
  | .bar4Write off bytes => off.toNat + bytes.length ≤ 0x4000000
  -- a line number has 14 bits (R245)
  | .composeLineStart _ scanLine => scanLine < 16384
  | .composeChunk .. => true
  | .evaluationEnd .. => true
  | .scanChunk .. => true
  | .frameTick .. => true
  | .trumpSignatureCheck .. => true
  | .wbBufferComplete .. => true
  | .holdLast .. => true
  | .holdWrite .. => true
  | .dmgAddRect .. => true
  | .dmgAddAll .. => true
  | .trumpKeyLoWrite .. => true
  | .keyPresentation .. => true
  | .sessionClose => true
  | .rekey => true
  | .sessionTimeout => true
  | .lockoutEnd => true
  | .trumpAck .. => true
  | .trumpRelease .. => true
  | .tpOpen .. => true
  | .tpData .. => true
  | .tpReg .. => true
  | .tpCommit .. => true
  | .tpAbort .. => true
  | .tpClose .. => true
  | .tpStatus .. => true
  | .tpLeaseExpiry => true
  | .seqHalt .. => true
  | .seqAdd .. => true
  | .seqSub .. => true
  | .seqAnd .. => true
  | .seqOr .. => true
  | .seqXor .. => true
  | .seqShl .. => true
  | .seqShr .. => true
  | .seqSar .. => true
  | .seqMul .. => true
  | .seqMulf .. => true
  | .seqCmp .. => true
  | .seqMov .. => true
  | .seqLdi .. => true
  | .seqLui .. => true
  | .seqAddi .. => true
  | .seqAndi .. => true
  | .seqOri .. => true
  | .seqCmpi .. => true
  | .seqShli .. => true
  | .seqShri .. => true
  | .seqSari .. => true
  | .seqLd .. => true
  | .seqSt .. => true
  | .seqLda .. => true
  | .seqSta .. => true
  -- condition 15 is reserved (R283)
  | .seqBr _ cond _ => cond.toNat ≠ 15
  | .seqDbnz .. => true
  | .seqCall .. => true
  | .seqRet .. => true
  | .seqWaitl .. => true
  | .seqWaitlc .. => true
  | .seqWaitc .. => true
  -- WAITN 0 is illegal (R288)
  | .seqWaitn _ n => n.toNat ≠ 0
  | .beamWaitRelease .. => true
  -- event 3 is reserved (R272)
  | .seqWaitt _ _ ev => ev.toNat ≠ 3
  | .seqBeam .. => true
  -- a sequencer does not name itself (R285)
  | .seqSync q j => j ≠ q
  -- a sequencer does not name itself (R285)
  | .seqSig q k => k ≠ q
  | .seqMove .. => true
  -- MOVEX names an even register (R279)
  | .seqMovex _ gs _ _ => gs.val % 2 = 0
  | .seqMoveb .. => true
  | .seqMovebx .. => true
  | .landingQueueEntry .. => true
  | .voiceOn .. => true
  | .voiceOff .. => true
  | .rampStart .. => true
  | .rampStop .. => true
  | .seqRaise .. => true
  | .reservedOpcode .. => true
  | .programStart .. => true
  | .cmdHalt .. => true
  | .cmdRestart .. => true
  | .blankingChangeStart .. => true
  | .pgclkRelock .. => true
  | .linkTrainingDone .. => true
  | .trainingRetry .. => true
  | .compositionRestart .. => true
  | .hpdPlug .. => true
  | .hpdUnplug .. => true
  | .irqHpd .. => true
  | .hpdBounceEnd .. => true
  | .retrain .. => true
  | .auxNativeWrite .. => true
  | .auxNativeRead .. => true
  | .auxI2cWrite .. => true
  | .auxI2cRead .. => true
  | .auxReply .. => true
  | .auxRetry .. => true
  | .auxStormEnd .. => true
  | .listReadDone .. => true
  | .bltFill .. => true
  | .bltCopy .. => true
  | .bltCopyKey .. => true
  | .bltBlend .. => true
  | .bltExpand .. => true
  | .raceRowRelease .. => true
  | .bltWatermark .. => true
  | .blitListComplete .. => true
  | .channelGrant .. => true
  | .stagingBufferGrant .. => true
  -- a burst moves at most 512 bytes (R344)
  | .sluiceBurst _ data => data.length ≤ 512
  | .sluiceDrainDone .. => true
  | .sluiceAccessFail .. => true
  | .channelLeaseExpiry .. => true
  | .audioSampleTick .. => true
  | .playerReadDone .. => true
  | .mixEnd .. => true
  | .mixClr .. => true
  | .mixLd .. => true
  | .mixSt .. => true
  | .mixAdd .. => true
  | .mixSub .. => true
  | .mixMul .. => true
  | .mixMac .. => true
  | .mixMulr .. => true
  | .mixMacr .. => true
  | .mixIn .. => true
  | .mixOut .. => true
  | .mixBiq .. => true
  | .mixDwr .. => true
  | .mixDrd .. => true
  | .mixLim .. => true
  -- SHR shifts by 1 to 31 (R358)
  | .mixShr _ n => 0 < n.toNat && n.toNat < 32
  | .mixSat .. => true
  | .rampSet .. => true
  | .coefSet .. => true
  | .sinkSilent .. => true
  | .capturePeriod .. => true
  | .headsetPlug => true
  | .typeDone .. => true
  | .headsetUnplug => true
  | .button .. => true
  | .portBlockLock .. => true
  | .measureDone .. => true
  | .trainingFailure .. => true
  | .portRetrain .. => true
  | .blockLockLoss .. => true
  | .replayTimeout .. => true
  | .ackInterval .. => true
  | .freezeRepeat => true
  | .cwyTick .. => true
  | .wallTick .. => true
  | .cwyAck .. => true
  | .cwyNak .. => true
  | .cwyProbe .. => true
  | .cwyEcho .. => true
  | .cwyFreeze .. => true
  | .cwyThaw .. => true
  | .cwyHello .. => true
  | .cwyWallInfo .. => true
  -- it comes from a child (R398)
  | .cwyAlive port _ _ _ _ _ => port ≠ 0
  | .cwyDesc .. => true
  | .cwyData .. => true
  | .cwyEnd .. => true
  | .cwyPrepare .. => true
  -- it comes from a child (R394)
  | .cwyReady port _ _ _ _ => port ≠ 0
  | .cwyCommit .. => true
  | .cwyDefer .. => true
  | .cwyDiscard .. => true
  | .cwySweep .. => true
  | .cwyBench .. => true
  -- it comes from a child (R398)
  | .cwyBenched port _ _ _ _ => port ≠ 0
  | .cwyRejoin .. => true
  | .cwySetId .. => true
  -- it comes from a child (R403)
  | .cwyEvent port _ _ _ _ _ => port ≠ 0
  | .badToken .. => true
  | .decisionPoint => true
  -- port 0 has no child (R398)
  | .childSilent port => port ≠ 0
  | .flapHoldEnd .. => true
  | .cwySetidWrite .. => true
  | .cwyRejoinWrite .. => true
  | .dozeIdleExpiry => true
  | .slumberIdleExpiry => true
  | .entryStepEnd => true
  -- the wake sources are 1 to 9 (R407)
  | .wakeEvent src => 0 < src.toNat && src.toNat < 10
  | .exitStep .. => true
  | .journalSnapshot => true
  | .snapshotCopyEnd => true
  | .flashOpDone .. => true
  | .flashTimeout .. => true
  | .slotChoice .. => true
  | .earlyLoaded .. => true
  | .sceneRestore .. => true
  | .bootEnd => true
  | .timerTick .. => true
  | .timerCapture .. => true
  | .capRead .. => true
  | .countWrite .. => true
  | .tmrStart .. => true
  | .tmrStop .. => true
  | .tmrReset .. => true
  | .gpioOutSet .. => true
  | .gpioOutClr .. => true
  | .patternMatchEvent .. => true
  | .pmcStart .. => true
  | .pmcStop .. => true
  | .counterOverflow .. => true
  | .ctrLoRead .. => true
  | .userCtrRead .. => true
  -- the key with SET (R455)
  | .frzSet value => value.toNat / 65536 = 0x6D1A && value.getLsbD 0
  -- the key with RELEASE (R455)
  | .frzRelease value => value.toNat / 65536 = 0x6D1A && value.getLsbD 1 && !value.getLsbD 0
  | .freezeEntry => true
  | .freezeReleased => true
  | .freezeRestartDone => true
  | .rdDataRead => true
  | .jtagFrzSel .. => true
  | .frzData => true
  | .frzSel .. => true
  -- a block read takes 1 to 8 words (R458)
  | .frzRead _ words => 0 < words && words < 9
  | .frzStat .. => true
  | .pcieLinkUp => true
  | .packetCrcFailure .. => true
  | .linkLoss .. => true
  | .pllLockLoss .. => true
  | .hostReadCompletion .. => true
  -- NumVFs has 16 bits (R8)
  | .numvfsWrite num _ => num < 65536

end Sys2Proof
end

