-- ==== Sys2Proof/Tests/Slice0.lean ====
section
/-!
SUPPORT. Tests: an ill-formed operand for each check of `Instr.wf`; and for each statement states and operands
that meet its hypotheses, clause by clause, so that no statement is empty. States are small ones made by the
helpers below; expected values are worked out from the manual's rules.
-/

set_option Elab.async false  -- the joined text is large: no thread per declaration

namespace Sys2Proof.Machine

/-! ### Well-formedness -/

theorem test_wf_vfFlr : Instr.wf (.vfFlr 0) = false := by decide +kernel
theorem test_wf_registerWrite : Instr.wf (.registerWrite (.bar0 2) 0 15) = false := by decide +kernel
theorem test_wf_ringEnable : Instr.wf (.ringEnable 0 0 0) = false := by decide +kernel
theorem test_wf_ringDisable : Instr.wf (.ringDisable 0 0 0x80000000) = false := by decide +kernel
theorem test_wf_unknownType : Instr.wf (.unknownType 0x10 ⟨0, 0, 0, 0, 0⟩ 0) = false := by decide +kernel
theorem test_wf_trickCommitNext : Instr.wf (.trickCommitNext ⟨0, 0, 0, 0, 0⟩ 1) = false := by decide +kernel
theorem test_wf_trickCommitAt : Instr.wf (.trickCommitAt ⟨0, 0, 0, 0, 0⟩ 0) = false := by decide +kernel
theorem test_wf_trickCommitDiscard : Instr.wf (.trickCommitDiscard ⟨0, 0, 0, 0, 0⟩ 1) = false := by decide +kernel
theorem test_wf_queryRegister : Instr.wf (.queryRegister ⟨0, 0, 0, 0, 0⟩ 4) = false := by decide +kernel
theorem test_wf_queryMode : Instr.wf (.queryMode ⟨0, 0, 0, 0, 0⟩ 0) = false := by decide +kernel
theorem test_wf_querySlots : Instr.wf (.querySlots ⟨0, 0, 0, 0, 0⟩ 1) = false := by decide +kernel
theorem test_wf_queryFnStatus : Instr.wf (.queryFnStatus ⟨0, 0, 0, 0, 0⟩ 2) = false := by decide +kernel
theorem test_wf_queryLastTrick : Instr.wf (.queryLastTrick ⟨0, 0, 0, 0, 0⟩ 3) = false := by decide +kernel
theorem test_wf_tarnScrub : Instr.wf (.tarnScrub [] [0x4000000]) = false := by decide +kernel
theorem test_wf_bar4Read : Instr.wf (.bar4Read 0x3FFFFFF 2) = false := by decide +kernel
theorem test_wf_bar4Write : Instr.wf (.bar4Write 0x3FFFFFF [none, none]) = false := by decide +kernel
theorem test_wf_composeLineStart : Instr.wf (.composeLineStart 0 16384) = false := by decide +kernel
theorem test_wf_seqBr : Instr.wf (.seqBr 0 15 0) = false := by decide +kernel
theorem test_wf_seqWaitn : Instr.wf (.seqWaitn 0 0) = false := by decide +kernel
theorem test_wf_seqWaitt : Instr.wf (.seqWaitt 0 0 3) = false := by decide +kernel
theorem test_wf_seqSync : Instr.wf (.seqSync 3 3) = false := by decide +kernel
theorem test_wf_seqSig : Instr.wf (.seqSig 3 3) = false := by decide +kernel
theorem test_wf_seqMovex : Instr.wf (.seqMovex 0 1 0 0) = false := by decide +kernel
theorem test_wf_sluiceBurst : Instr.wf (.sluiceBurst 0 (List.replicate 513 0)) = false := by decide +kernel
theorem test_wf_mixShr : Instr.wf (.mixShr 0 32) = false := by decide +kernel
theorem test_wf_cwyAlive : Instr.wf (.cwyAlive 0 0 0 0 0 0) = false := by decide +kernel
theorem test_wf_cwyReady : Instr.wf (.cwyReady 0 0 0 0 none) = false := by decide +kernel
theorem test_wf_cwyBenched : Instr.wf (.cwyBenched 0 0 0 0 0) = false := by decide +kernel
theorem test_wf_cwyEvent : Instr.wf (.cwyEvent 0 0 0 0 0 0) = false := by decide +kernel
theorem test_wf_childSilent : Instr.wf (.childSilent 0) = false := by decide +kernel
theorem test_wf_wakeEvent : Instr.wf (.wakeEvent 10) = false := by decide +kernel
theorem test_wf_frzSet : Instr.wf (.frzSet 1) = false := by decide +kernel
theorem test_wf_frzRelease : Instr.wf (.frzRelease 0x6D1A0003) = false := by decide +kernel
theorem test_wf_frzRead : Instr.wf (.frzRead true 9) = false := by decide +kernel
theorem test_wf_numvfsWrite : Instr.wf (.numvfsWrite 65536 true) = false := by decide +kernel

/-! ### Sequencers -/

/-- The device in RUN right after reset. -/
def onRun : State := { State.reset with glob := { mode := .run } }

/-- Sequencer 6, which has no beam head, runs at the word `w`, one address before the last. -/
def seqOn (w : W24) (f : SeqSt → SeqSt := id) : State :=
  (onRun.setF (F.SEQ_CTL_EN 6) 1).modSeq 6 (fun x => f { x with
    run := .running, pc := 16382, bank := { prog := [(16382, w)], data := [(7, 0x123456), (4095, 1)] }
    g := (x.g.set 1 0x7FFFFF).set 2 0x800001 })

/-- A 1920 by 1080 timing set. -/
def tim : Timing := { h := 0x08980780, hsync := 0, v := 0x04650438, vsync := 0, clk := 0, link := 0x70034 }

/-- Head 0 composing line 10 of frame 5. -/
def headOn : HeadSt :=
  { ts := some tim, enabled := true, beams := true, active := true, frame := 5, line := 10, lineOn := true
    inWindow := true, info := { frame := 5, w := 1920, h := 1080 } }

/-- Sequencer 0 runs on head 0 at the word `w`. -/
def beamOn (w : W24) (f : SeqSt → SeqSt := id) : State :=
  ((onRun.modHead 0 (fun _ => headOn)).setF (F.SEQ_CTL_EN 0) 1).modSeq 0 (fun x => f { x with
    run := .running, pc := 16382, bank := { prog := [(16382, w)] } })

/-- SeqAlu, SeqLoadsAndStores, SeqControlFlow, SeqWaiting (latches): words that stand at the program counter
(the first and the last code of each form, at the ends of their fields). -/
theorem test_seqOn : [encR 0x00 0 0 0, encR 0x04 15 1 2, encR 0x0F 3 1 2, encI 0x10 2 0x3FFF, encI 0x1B 15 0x2000,
    encI 0x21 1 7, encI 0x23 0 0].Forall fun w => (seqOn w).seqAt 6 w ∧ ((seqOn w).seq 6).pc < 16383 := by
  unfold State.seqAt; decide +kernel

/-- SeqControlFlow: CALL with seven entries on the return stack, RET with one, HALT without a beam head. -/
theorem test_seqStacks : ((seqOn 0 (fun x => { x with stack := List.replicate 7 3 })).seq 6).stack.length < 8 ∧
    ((seqOn 0 (fun x => { x with stack := [16383] })).seq 6).stack = 16383 :: [] ∧
    (seqOn 0).beamHead 6 = none ∧ (14 : BitVec 4) ≠ 15 := by decide +kernel

/-- SeqWaiting: each beam wait on a head that composes, at the last line. -/
theorem test_beamOn : [encI 0x28 0 1124, encI 0x29 0 15360].Forall fun w => (beamOn w).seqAt 0 w ∧ (beamOn w).beamHead 0 = some 0 ∧
    ((beamOn w).seq 0).pc < 16383 ∧ 1124 < ((beamOn w).head 0).vTotal := by
  unfold State.seqAt; decide +kernel

/-- SeqWaiting: HALT with FRAME 1, and a wait whose release line has started. -/
theorem test_beamWaits :
    ((beamOn 0).setF (F.SEQ_CTL_FRAME 0) 1).flag (F.SEQ_CTL_FRAME 0) = true ∧
    ((beamOn 0).setF (F.SEQ_CTL_FRAME 0) 1).seqMayRun 0 = true ∧
    ((beamOn 0 (fun x => { x with run := .waitBeam 5 11 3 false })).seq 0).run = .waitBeam 5 11 3 false ∧
    (let s := beamOn 0 (fun x => { x with run := .waitBeam 5 11 3 false })
     s.lineOf 0 (11, 3, 5) - max 1 (s.fld (F.SEQ_CTL_AHEAD 0)) ≤ s.composeAt 0) := by decide +kernel

/-- A landing-queue entry of sequencer 6 for MELD_BG of head 0. -/
def landed : Landing := ⟨6, 0x100A04, 1, none⟩

/-- SeqWrites: sixteen registers from MELD_STEP 0 on are line-class registers of head 0's window, and the queue
has room for exactly sixteen; MOVEX names an even register. -/
theorem test_moveRoom :
    (let s := (seqOn 0).modHead 0 (fun h => { h with queue := List.replicate 112 landed })
     s.headPresent 0 = true ∧ s.queueRoom 0 = 16 ∧ (14 : Fin 16).val % 2 = 0 ∧
     (∀ k < 16, inHeadWin 0 (s.fld (F.SEQ_WIN_BASE 6 0) * 16384 + (0x290 + k) * 4) = true) ∧
     (∀ k < 16, (decodeReg (s.fld (F.SEQ_WIN_BASE 6 0) * 16384 + (0x290 + k) * 4)).map (fun e => e.1.row.cls) =
       some .line)) := by decide +kernel

/-- SeqWrites: a full queue, and a trick-class register of a present head. -/
theorem test_moveStallsAndDrops :
    (let s := (seqOn 0).modHead 0 (fun h => { h with queue := List.replicate 128 landed })
     s.queueRoom 0 = 0 ∧ decodeReg (s.fld (F.SEQ_WIN_BASE 6 0) * 16384 + 0x281 * 4) = some (.MELD_BG, 0, 0)) ∧
    decodeReg ((seqOn 0).fld (F.SEQ_WIN_BASE 6 0) * 16384 + 0x300 * 4) = some (.SINK_CTL, 0, 0) ∧
    RegId.SINK_CTL.row.cls = .trick ∧
    (seqOn 0).absentWindow ((seqOn 0).fld (F.SEQ_WIN_BASE 6 0) * 16384 + 0x300 * 4) = false := by decide +kernel

/-- SeqWrites: an untagged write, one whose apply point is the chunk after, and one whose apply point is now. -/
theorem test_landing :
    (let s (tag) := beamOn 0 (fun x => { x with issued := [⟨0x100A04, 1, tag⟩] })
     (s none).alive = true ∧ ((s none).seq 0).issued = [⟨0x100A04, 1, none⟩] ∧ inHeadWin 0 0x100A04 = true ∧
     ((s (some (10, 1, 5))).head 0).lineOn = true ∧
     ¬ ((10, 1, (5 : Word)).2.2 = ((s none).head 0).frame ∧ (10 < ((s none).head 0).line ∨
       (10 = ((s none).head 0).line ∧ 1 ≤ 0))) ∧
     ((10, 0, (5 : Word)).2.2 = ((s none).head 0).frame ∧ 10 = ((s none).head 0).line)) := by decide +kernel

/-- SeqKeysAndRaise: without a beam head every key is untagged, and on head 0, the head of the line domain, one
without a tag is; RAISE finds its word. -/
theorem test_keys : (seqOn 0).beamHead 6 = none ∧ (beamOn 0).beamHead 0 = some 0 ∧ ((beamOn 0).seq 0).tag = none ∧
    ((seqOn 0).seq 6).pc < 16383 := by decide +kernel

/-- SeqKeysAndRaise: a tag on head 0, the head of the line domain; SeqWrites: registers outside the head windows, one of
them the audio engine's. -/
theorem test_taggedKey :
    (let s := beamOn 0 (fun x => { x with tag := some (10, 0, 5) })
     (s.seq 0).pc < 16383 ∧ s.beamHead 0 = some 0 ∧ (s.seq 0).tag = some (10, 0, 5) ∧ s.fld (F.AUD_DOM_CTL_HEAD 0) = 0) ∧
    windowHead (RegId.addr .GPIO_OUT 0 0) = none ∧ decodeReg (RegId.addr .GPIO_OUT 0 0) = some (.GPIO_OUT, 0, 0) ∧
    ¬ (0x260000 ≤ RegId.addr .GPIO_OUT 0 0 ∧ RegId.addr .GPIO_OUT 0 0 < 0x270000) ∧
    windowHead (RegId.addr .VOICE_PITCH 0 0) = none ∧
    decodeReg (RegId.addr .VOICE_PITCH 0 0) = some (.VOICE_PITCH, 0, 0) ∧
    0x260000 ≤ RegId.addr .VOICE_PITCH 0 0 ∧ RegId.addr .VOICE_PITCH 0 0 < 0x270000 := by decide +kernel

/-- SeqFaultCodes: an illegal word, the last address, a full and an empty return stack, no beam head, and a
line at V_TOTAL. -/
theorem test_faultCauses : illegalWord 6 (BitVec.ofNat 24 (0x3F * 2 ^ 18)) = true ∧
    ((seqOn 0 id).modSeq 6 (fun x => { x with pc := 16383, bank := { prog := [(16383, encR 0x0F 1 2 0)] } })).seqMayRun 6
      = true ∧
    8 ≤ ((seqOn 0 (fun x => { x with stack := List.replicate 8 0 })).seq 6).stack.length ∧
    ((seqOn 0).seq 6).stack = [] ∧ (seqOn 0).beamHead 6 = none ∧ ((beamOn 0).head 0).vTotal ≤ 1125 := by
  decide +kernel

/-- A sequencer of the last address. -/
theorem test_faultLast : [encR 0x00 0 0 0, encR 0x0F 1 2 0].Forall fun w => ((seqOn 0).modSeq 6 (fun x => { x with
    pc := 16383, bank := { prog := [(16383, w)] } })).seqAt 6 w := by unfold State.seqAt; decide +kernel

/-- SeqStarts: a start owed without a beam head, and one whose line 0 has been released. -/
theorem test_starts :
    (let s := (seqOn 0 (fun x => { x with owed := some ⟨none, false⟩ }))
     s.alive = true ∧ (s.seq 6).stopAt = none ∧ (s.seq 6).owed = some ⟨none, false⟩ ∧
     s.flag (F.SEQ_CTL_EN 6) = true ∧ s.beamHead 6 = none ∧ s.attends = true) ∧
    (let s := (beamOn 0 (fun x => { x with owed := some ⟨some 5, true⟩, pendBank := some {} }))
     s.beamHead 0 = some 0 ∧ s.headComposing 0 = true ∧ (s.seq 0).run ≠ .faulted ∧
     s.lineOf 0 (0, 0, 5) - max 1 (s.fld (F.SEQ_CTL_AHEAD 0)) ≤ s.composeAt 0) := by decide +kernel

/-! ### The mix program -/

/-- A program of one word and END, with a delay line of two samples and one limiter node. -/
def img (w : Word) : AudImage :=
  { domain := 1, xfade := 0, prog := [w, 0], coef := [], samp := [], ramps := [], carry := []
    delays := [⟨3, false, 0, 0, 2⟩], lims := [⟨2, 0, 6⟩] }

/-- Domain 1 stands at the word `w`. -/
def mixOn (w : Word) (pc : Nat := 0) : State :=
  onRun.modDom 1 (fun m => { m with
    run := true, pc := some pc, image := some (img w), acc := 0x7FFFFFFF, delays := [⟨3, 1, 0⟩]
    samp := [(5, 0x7FFFFFFF), (6, 0x80000000)], coef := [(0, 0x100000), (1, 0x080000), (4, 0xF00000)]
    lims := [{ node := 2 }], ins := [(1, -5)] })

/-- MixAccumulator, MixMemories, MixLimiter: any word can stand at the program's place. -/
theorem test_mixAt (w : Word) : (mixOn w).mixAt 1 w 0 := ⟨rfl, rfl, rfl, rfl, rfl⟩

/-- MixAccumulator: SHR by 1 and by 31. -/
theorem test_mixShr : 1 ≤ (1 : BitVec 6).toNat ∧ (31 : BitVec 6).toNat ≤ 31 := by decide

/-- MixMemories, MixLimiter: the program declares delay line 3 and limiter node 2, and no node 1. -/
theorem test_mixDecls (w : Word) :
    (mixOn w).mem.wf = true ∧ ((mixOn w).dm 1).image = some (img w) ∧
    (img w).delays.find? (fun e => e.line = (3 : BitVec 10).toNat) = some ⟨3, false, 0, 0, 2⟩ ∧
    ((mixOn w).dm 1).delays.find? (fun p => p.line = (3 : BitVec 10).toNat) = some ⟨3, 1, 0⟩ ∧
    (img w).lims.find? (fun l => l.node = (2 : BitVec 10).toNat) = some ⟨2, 0, 6⟩ ∧
    (img w).lims.find? (fun l => l.node = (1 : BitVec 10).toNat) = none := ⟨rfl, rfl, rfl, rfl, rfl, rfl⟩

/-- MixMemories: END at the last word, with no further sample owed. -/
theorem test_mixEnd : (let s := mixOn 0 1
    s.alive = true ∧ (s.dm 1).run = true ∧ (s.dm 1).pc = some 1 ∧ (img 0).prog[1]? = some (encMix 0 0 0 0) ∧
    (s.dm 1).owed = []) := by decide +kernel

/-! ### Power, resets and the host's link -/

/-- The device off. -/
def offNow : State := { onRun with glob := { mode := .off } }

/-- A global state of RUN changed by `f`. -/
def runGlob (f : Glob → Glob) : State := { onRun with glob := f onRun.glob }

/-- PowerAndWarmResets: OFF and not, RUN attending, and the boundary lengths and key. -/
theorem test_resets : offNow.glob.mode = .off ∧ onRun.glob.mode ≠ .off ∧ onRun.attends = true ∧
    100 ≤ 100 ∧ 19 < 20 ∧ (0xA5C30001 : Word).toNat / 65536 = 0xA5C3 ∧ (0xA5C30001 : Word).getLsbD 0 = true ∧
    ((0xA5C20001 : Word).toNat / 65536 ≠ 0xA5C3) ∧ (0xA5C30000 : Word).getLsbD 0 = false := by decide +kernel

/-- ClocksAndTemperature: a locked PLL; the PCIe reference in use; each phase of its loss and return. -/
theorem test_clocks :
    (onRun.raiseF F.GLB_CLK_STATUS_ROOT_LOCK).flag F.GLB_CLK_STATUS_ROOT_LOCK = true ∧
    (onRun.raiseF F.GLB_CLK_STATUS_ACLK48_LOCK).flag F.GLB_CLK_STATUS_ACLK48_LOCK = true ∧
    (onRun.raiseF F.GLB_CLK_STATUS_ACLK44_LOCK).flag F.GLB_CLK_STATUS_ACLK44_LOCK = true ∧
    (onRun.setF F.CWY_CTL_EN 0).flag F.CWY_CTL_EN = false ∧ onRun.alive = true ∧
    (let s := onRun.raiseF F.GLB_CLK_STATUS_REF_STRAP
     (s.flag F.GLB_CLK_STATUS_REF_STRAP && !s.glob.pcieRefLost) = true ∧ s.glob.tracking = false ∧
     s.glob.ref = .locked) ∧
    (runGlob (fun g => { g with ref := .holdover })).glob.ref = .holdover ∧
    (runGlob (fun g => { g with ref := .slewAway })).glob.ref = .slewAway ∧
    (runGlob (fun g => { g with ref := .slewAway })).glob.refCwy = false ∧
    (runGlob (fun g => { g with ref := .slewTo })).glob.ref = .slewTo ∧
    (let s := runGlob (fun g => { g with pcieRefLost := true })
     s.alive = true ∧ s.glob.pcieRefLost = true ∧ s.glob.tracking = false ∧ s.glob.refCwy = false) := by decide +kernel

/-- Virtual functions 1 to 15 exist. -/
def withVfs : State := { onRun with hif := { onRun.hif with vfEnable := true, numVfs := 15 } }

/-- HostInterfaceResets: nothing in flight, in RUN and in FREEZE; function 15 exists. -/
theorem test_hifResets : withVfs.alive = true ∧ withVfs.hif.slots = [] ∧ withVfs.trk.tricks = [] ∧
    (15 : Fin 16) ≠ 0 ∧ withVfs.hif.vfEnable = true ∧ (15 : Fin 16).val ≤ withVfs.hif.numVfs ∧
    (runGlob (fun g => { g with mode := .freeze })).glob.mode = .freeze ∧
    (runGlob (fun g => { g with mode := .freeze })).glob.heldInReset = false ∧ (∀ d : Fin 3, (withVfs.dm d).run = false) ∧
    ({ withVfs with glob := { withVfs.glob with mode := .freeze } } : State).fnExists 15 = true := by decide +kernel

/-- HostLinkEvents: the largest NumVFs and one more; the host and the Causeway lost in BRING-UP, in RUN without
and with an enabled head. -/
theorem test_hostLink : onRun.attends = true ∧ onRun.fld (F.VLG_TOTAL_COUNT 15) < 2 ^ 32 - 1 ∧ onRun.part.vfMax ≤ onRun.part.vfMax ∧ onRun.part.vfMax < 16 ∧
    (let s := onRun.setF F.GLB_FB_CTL_HOSTLOSS_S 1
     s.bothLost = true ∧ s.attends = true ∧ s.glob.mode = .run ∧ s.enabledHeads = [] ∧
     (s.modHead 0 (fun _ => headOn)).bothLost = true ∧ (s.modHead 0 (fun _ => headOn)).enabledHeads ≠ [] ∧
     ((s.modHead 0 (fun _ => headOn)).head 0).fb = false ∧
     ({ s with glob := {} } : State).bothLost = true ∧ ({ s with glob := {} } : State).glob.mode = .bringUp) := by
  decide +kernel

/-! ### Register writes, rings and doorbells -/

/-- Ring 1 of function 0 as `f` makes it. -/
def ringAs (f : RingSt → RingSt) : State := onRun.modRing 0 1 f

/-- ShareAndPoolWrites: a QUOTA, a VEC_COUNT and a LIMIT that just fit beside those of the functions and ones that do
not; nothing stands against a new pool, or a trick does. -/
theorem test_shares : onRun.attends = true ∧ onRun.mem.wf = true ∧
    ((List.finRange 16).map (fun g => if g = 0 then 4096 else onRun.fld (F.HIF_FN_SLOTS_QUOTA g))).sum ≤ 4096 ∧
    4096 < ((List.finRange 16).map (fun g => if g = 1 then 1 else onRun.fld (F.HIF_FN_SLOTS_QUOTA g))).sum ∧
    ((List.finRange 16).map (fun g => if g = 0 then 64 else onRun.fld (F.HIF_FN_CTL_VEC_COUNT g))).sum ≤ 512 ∧
    ((List.finRange 16).map (fun g => if g = 0 then 64 else onRun.fld (F.TRK_FN_OPEN_LIMIT g))).sum ≤ 64 ∧
    64 < ((List.finRange 16).map (fun g => if g = 1 then 1 else onRun.fld (F.TRK_FN_OPEN_LIMIT g))).sum ∧
    onRun.openTricks = 0 ∧ onRun.stagedCount = 0 ∧ onRun.oldPages = [] ∧
    (∀ n : Fin 6, overlaps (0x4000000 - 512 * 65536, 0x4000000) (onRun.trumpRegion n) = false) ∧
    ({ onRun with trk := { tricks := [{ key := 0, owner := .fn 0, id := 1 }] } } : State).openTricks ≠ 0 := by
  decide +kernel

/-- ShareAndPoolWrites: eight functions of 64 vectors leave none for a ninth. -/
theorem test_vecSum : (let s := [1, 2, 3, 4, 5, 6, 7].foldl (fun s f => s.setF (F.HIF_FN_CTL_VEC_COUNT f) 64) onRun
    512 < ((List.finRange 16).map (fun g => if g = 8 then 1 else s.fld (F.HIF_FN_CTL_VEC_COUNT g))).sum) := by
  decide +kernel

/-- A pending vector 63 of function 0, which has 64. -/
def pended : State := { onRun.setF (F.HIF_FN_CTL_VEC_COUNT 0) 64 with pba := 1 <<< 63 }

/-- RegisterWrite: an address without a register; a trick-class, a line-class and a plain register of class now; a
write of three bytes, and one in the window of an absent head; the last word of an MSI-X table; D3hot. -/
theorem test_registerWrites : decodeReg (0x00FFFC / 4 * 4) = none ∧
    decodeReg (0x100C00 / 4 * 4) = some (.SINK_CTL, 0, 0) ∧ onRun.regPresent .SINK_CTL 0 0 = true ∧
    isTrumpField .SINK_CTL = false ∧ RegId.SINK_CTL.row.cls = .trick ∧
    decodeReg (0x100A04 / 4 * 4) = some (.MELD_BG, 0, 0) ∧ onRun.regPresent .MELD_BG 0 0 = true ∧
    isTrumpField .MELD_BG = false ∧ RegId.MELD_BG.row.cls = .line ∧
    decodeReg (RegId.addr .DBG_FLT_MASK 0 0 / 4 * 4) = some (.DBG_FLT_MASK, 0, 0) ∧
    onRun.regPresent .DBG_FLT_MASK 0 0 = true ∧ (7 : BitVec 4) ≠ 15 ∧ onRun.absentAt (0x100C00 / 4 * 4) = false ∧
    ({ onRun with part := .mva2420 } : State).absentAt (RegId.addr .SINK_CTL 5 0 / 4 * 4) = true ∧
    pended.attends = true ∧ pended.fnExists 0 = true ∧ 1020 / 16 < pended.fld (F.HIF_FN_CTL_VEC_COUNT 0) ∧
    pended.pba.getLsbD ((0 : Fin 16).val * 64 + 1020 / 16) = true ∧ (3 : Word).toNat % 4 = 3 := by decide +kernel

/-- RingsAndLeases: EN 1 with LOG2N 4 and 16 and the last vector, and with LOG2N 17; EN 0 on a ring without slots; a
fenced function's ring. -/
theorem test_ringControl :
    (0x843F0000 : Word).getLsbD 31 = true ∧ (onRun.ring 0 1).phase = .off ∧
    4 ≤ bits (0x843F0000 : Word) 28 24 ∧ bits (0x903F0000 : Word) 28 24 ≤ 16 ∧
    bits (0x843F0000 : Word) 21 16 < (onRun.setF (F.HIF_FN_CTL_VEC_COUNT 0) 64).fld (F.HIF_FN_CTL_VEC_COUNT 0) ∧
    16 < bits (0x913F0000 : Word) 28 24 ∧
    (0x04000000 : Word).getLsbD 31 = false ∧ ((ringAs (fun g => { g with phase := .on })).ring 0 1).phase = .on ∧
    (ringAs (fun g => { g with phase := .on })).ringSlots 0 1 = [] ∧
    (0xB0C50001 : Word).toNat / 65536 = 0xB0C5 ∧ (0xB0C50001 : Word).getLsbD 0 = true ∧
    (let s := ({ ringAs (fun g => { g with phase := .on }) with hif :=
        { (ringAs (fun g => { g with phase := .on })).hif with fenced := 1 } } : State).setReg .HIF_RING_CTL 0 1 0x84000000
     s.fnExists 0 = true ∧ s.fenced 0 = true ∧ (s.ring 0 1).phase = .on ∧ s.ringBad 0 1 = false ∧ s.attends = true) := by
  decide +kernel

/-- A completion entry that waits for room. -/
def cpl0 : Cpl := ⟨7, 0, 5, 0, 0, 0, false⟩

/-- A descriptor slot of ring 1 of function 0. -/
def slot0 : Slot := { id := 4, hdr := ⟨0, 1, 0, 7, 0⟩, type := 0, payload := 0, st := .held }

/-- Doorbells: each clause on a ring, the indices at their largest. -/
theorem test_doorbells : onRun.serving = true ∧ onRun.fnExists 0 = true ∧ onRun.fenced 0 = false ∧
    (onRun.ring 0 1).phase ≠ .on ∧
    (let g := (ringAs (fun g => { g with phase := .on, log2n := 4, stormTimes := List.replicate 255 0 })).ring 0 1
     g.phase = .on ∧ g.quar = false ∧ g.stormIgnore = false ∧ g.stormTimes.length < 256 ∧ g.reading = false) ∧
    ((ringAs (fun g => { g with stormIgnore := true })).ring 0 1).stormIgnore = true ∧
    (let g := (ringAs (fun g => { g with phase := .on, log2n := 4, reading := true, knocked := some 0x8000 })).ring 0 1
     g.phase = .on ∧ g.reading = true ∧ (15 : BitVec 16).toNat < 2 ^ g.log2n ∧ g.knocked = some 0x8000 ∧
     ¬ ((0x8000 - (0 : Word).setWidth 16 : BitVec 16).toNat ≤ 32767)) ∧
    (let g := (ringAs (fun g => { g with phase := .on, knocked := some 1, rereads := 1 })).ring 0 1
     g.phase = .on ∧ g.knocked.isSome = true ∧ g.reading = false ∧ 0 < g.rereads) ∧
    (let g := (ringAs (fun g => { g with held := [⟨4, cpl0⟩] })).ring 0 1
     g.held ≠ [] ∧ g.cqFullLogged = false) ∧
    (let s := (ringAs (fun g => { g with phase := .on, holdoff := true, holdoffDue := true })).setF
       (F.HIF_FN_CTL_VEC_COUNT 0) 1
     (s.ring 0 1).holdoff = true ∧ (s.ring 0 1).holdoffDue = true ∧ (s.ring 0 1).noIrq = false ∧
     bits (s.reg .HIF_RING_CTL 0 1) 21 16 < s.fld (F.HIF_FN_CTL_VEC_COUNT 0)) := by decide +kernel

/-- RingsAndLeases: a function blocked on a ring with a held completion. -/
theorem test_lease : (let s := ({ ringAs (fun g => { g with phase := .on, held := [⟨4, cpl0⟩] }) with hif :=
      { (ringAs (fun g => { g with phase := .on, held := [⟨4, cpl0⟩] })).hif with slots := [slot0] } } : State)
    s.alive = true ∧ s.fenced 0 = false ∧ s.blockedOnFn 0 = true ∧ (∀ x ∈ s.hif.slots, s.exempt x = false) ∧
    (s.hif.slots.map (·.id)).Nodup) := by decide +kernel

/-! ### Descriptors -/

/-- A payload with numbers at descriptor offsets. -/
def pl (l : List (Nat × Nat)) : BitVec 448 := BitVec.ofNat 448 ((l.map (fun e => e.2 * 256 ^ (e.1 - 8))).sum)

/-- A header of ring 1 of function 0 with a head (7: none) and a trick. -/
def hd (head trick : Nat) : Hdr := ⟨0, 1, BitVec.ofNat 8 (head * 16), 7, BitVec.ofNat 32 trick⟩

/-- The head is named 1, composing and enabled; ring 1 of function 0 has one descriptor to fetch; trick 1 is open. -/
def rdy : State :=
  let s := (onRun.modHead 1 (fun _ => headOn)).modRing 0 1 (fun _ => { phase := .on, log2n := 4, cons := 15 })
  { s with trk := { tricks := [{ key := 0, owner := .fn 0, id := 1, heads := 0x3F }], nextKey := 1 } }

/-- DescriptorsAtOnce: each type with its operands at the ends of their ranges. -/
theorem test_atOnce : rdy.takes 0x00 (hd 7 0) 0 ∧ rdy.takes 0x0F (hd 7 0) (pl [(8, 0xFFFFFFFF)]) ∧
    rdy.takes 0x0D (hd 1 0) (pl [(9, 1), (12, 5)]) ∧ (hd 1 0).headFin = some 1 ∧
    (rdy.head 1).frame - BitVec.ofNat 32 (pay (pl [(9, 1), (12, 5)]) 12 4) = 0 ∧
    rdy.takes 0x0E (hd 7 0) (pl [(8, 1)]) ∧ rdy.takes 0x0E (hd 7 0) (pl [(8, 2)]) ∧
    rdy.takes 0x0E (hd 7 0) (pl [(8, 3)]) ∧ rdy.takes 0x0E (hd 5 0) (pl [(8, 4)]) ∧
    rdy.takes 0x0E (hd 7 0) (pl [(12, 0x100C00)]) ∧ decodeReg 0x100C00 = some (.SINK_CTL, 0, 0) ∧
    rdy.regPresent .SINK_CTL 0 0 = true := by unfold State.takes State.still; and_intros <;> decide +kernel

/-- UnknownDescriptor: type 0x11 on the same ring. -/
theorem test_unknownType : 0x10 < (0x11 : Byte).toNat ∧ rdy.still [] ∧ rdy.canFetch 0 1 = true ∧
    (rdy.ring 0 1).hasRoom = true := by unfold State.still; decide +kernel

/-- TrickDescriptors: a new trick; the open one committed, discarded and written. -/
theorem test_trickDescriptors :
    (rdy.takes 0x01 (hd 7 2) (pl [(8, 0x3F)]) ∧ (∀ x ∈ rdy.trk.tricks, x.key < rdy.trk.nextKey) ∧
     rdy.trickAt (hd 7 1) = some 0 ∧
     rdy.trick 0 = some { key := 0, owner := .fn 0, id := 1, heads := 0x3F } ∧ (hd 7 1).fn = 0 ∧
     rdy.takes 0x02 (hd 7 1) (pl [(8, 0)]) ∧ rdy.takes 0x02 (hd 7 1) (pl [(8, 1), (12, 260)]) ∧
     rdy.takes 0x02 (hd 7 1) (pl [(8, 2)]) ∧
     rdy.takes 0x03 (hd 7 1) (pl [(8, 1), (12, 0x100C00), (16, 1)]) ∧
     (rdy.slotOf 0x03 (hd 7 1) (pl [(8, 1), (12, 0x100C00), (16, 1)])).stagedPairs.length = 1 ∧
     rdy.takes 0x03 (hd 7 0) (pl [(8, 1), (12, RegId.addr .TMR_IRQ 0 0), (16, 0x8F00003F)])) := by
  unfold State.takes State.still; and_intros <;> decide +kernel

/-- SourceReads: each type with its source in host memory. -/
theorem test_sourceReads :
    rdy.takes 0x04 (hd 1 1) (pl [(8, 0x10001), (16, 0), (22, 2), (24, 2), (28, 6)]) ∧
    rdy.takes 0x05 (hd 1 1) (pl [(8, 0x10001), (16, 65535), (20, 1), (24, 15)]) ∧
    rdy.takes 0x06 (hd 7 1) (pl [(8, 0x10001), (16, 0x10000), (24, 64)]) ∧
    rdy.takes 0x07 (hd 1 1) (pl [(8, 0x10001), (16, 4095), (18, 1)]) ∧
    rdy.takes 0x08 (hd 7 1) (pl [(8, 0x10001), (16, 6), (20, 16383), (22, 1)]) ∧
    rdy.takes 0x0C (hd 7 1) (pl [(8, 0x10001), (16, 64)]) := by unfold State.takes State.still; and_intros <;> decide +kernel

/-- A descriptor that waits for its source data, alone. -/
def srcOf (type head : Nat) (l : List (Nat × Nat)) : Slot :=
  { rdy.slotOf type (hd head 1) (pl l) with st := .waitHost }

/-- The device with one slot in flight and trick 1 open. -/
def withSlot (x : Slot) : State := { rdy with hif := { rdy.hif with slots := [x], nextSlot := 1 } }

/-- Trick 1 as it is open. -/
def trick1 : Trick := { key := 0, owner := .fn 0, id := 1, heads := 0x3F }

/-- SourceDataStages: a slot that waits meets the premises, its trick open and unspoiled. -/
theorem test_sourceWaits : (let x := srcOf 0x06 7 [(16, 0x10000), (24, 64)]
    let s := withSlot x
    s.still [x] ∧ x.st = .waitHost ∧ x.trick = some trick1.key ∧ s.trick trick1.key = some trick1 ∧
    trick1.spoil = none ∧ trick1.wall = false ∧ (s.ring x.hdr.fn x.hdr.ring).hasRoom = true) := by
  unfold State.still; decide +kernel

/-- SourceDataStages: each type passes the late checks with its data, and its pages are granted. -/
theorem test_sourceStages :
    [srcOf 0x06 7 [(16, 0x10000), (24, 64)], srcOf 0x07 1 [(16, 4095), (18, 1)],
     srcOf 0x05 1 [(16, 65535), (20, 1), (24, 15)], srcOf 0x04 1 [(18, 15), (20, 15), (22, 1), (24, 1), (28, 3)]].Forall
    (fun x =>
      (withSlot x).checkLate x = none ∧
      (withSlot x).poolGrant trick1 (trick1.lacks ((withSlot x).tarnPlan trick1 x.type (x.hdr.headFin.getD 0) x.payload
        (List.replicate (srcBytes x.type x.payload) 7)).1).length = .ok) ∧
    (withSlot (srcOf 0x06 7 [(16, 0x10000), (24, 64)])).mem.wf = true ∧
    (let x := srcOf 0x08 7 [(16, 6), (20, 16383), (22, 1)]
     (6 : Fin 8).val = seqNo x.payload ∧ srcBytes 0x08 x.payload = 3 ∧ (withSlot x).checkLate x = none ∧
     (withSlot x).seqGrant trick1.key 6 = .ok) := by decide +kernel

/-! ### Units that run descriptors -/

/-- A SLUICE of `n` bytes from 0x10000 to `dst` on channel 31, kinds and PIX as in bytes 49 and 50. -/
def sluP (n dst kinds pix : Nat) : BitVec 448 :=
  pl [(8, 0x10000), (16, dst), (24, n), (28, n), (40, 1), (44, 1), (48, 31), (49, kinds), (50, pix)]

/-- A BLIT_LIST of one command on context 7. -/
def blitP : BitVec 448 := pl [(8, 0x10000), (16, 1), (18, 7)]

/-- UnitDescriptors: a BLIT_LIST on a free and on a taken context, a SLUICE with and without a free channel, an
AUDIO_STREAM of one frame, a JOURNAL_STORE. -/
theorem test_unitDescriptors : rdy.takes 0x09 (hd 7 0) blitP ∧ (rdy.bctx (blitCtx blitP)).slot = none ∧
    (rdy.modBctx 7 (fun b => { b with slot := some 9 })).takes 0x09 (hd 7 0) blitP ∧
    ((rdy.modBctx 7 (fun b => { b with slot := some 9 })).bctx (blitCtx blitP)).slot ≠ none ∧
    rdy.takes 0x0A (hd 7 0) (sluP 1 0x20000 2 0) ∧ rdy.freeChan (rdy.slotOf 0x0A (hd 7 0) (sluP 1 0x20000 2 0)) = some 31 ∧
    (rdy.modChan 31 (fun b => { b with slot := some 9 })).takes 0x0A (hd 7 0) (sluP 1 0x20000 2 0) ∧
    ((rdy.modChan 31 (fun b => { b with slot := some 9 })).freeChan
      (rdy.slotOf 0x0A (hd 7 0) (sluP 1 0x20000 2 0))) = none ∧
    (rdy.setF (F.PLAY_CTL_EN 15) 1).takes 0x0B (hd 7 0) (pl [(8, 0x10000), (16, 12), (20, 15), (21, 1)]) ∧
    (rdy.play 15).bufs = [] ∧
    rdy.takes 0x10 (hd 7 0) 0 ∧ rdy.jrnl.store = none ∧ rdy.jrnl.queue = [] := by
  unfold State.takes State.still; and_intros <;> decide +kernel

/-- A blitter command with numbers at its offsets. -/
def cm (l : List (Nat × Nat)) : BitVec 512 := BitVec.ofNat 512 ((l.map (fun e => e.2 * 256 ^ e.1)).sum)

/-- A FILL of two pixels of 8 bits at (62, 1), and of a bad alignment. -/
def fill (l : List (Nat × Nat)) : BitVec 512 :=
  cm ([(2, 3), (4, 1), (8, 0x20000), (24, 2), (26, 1), (28, 62), (30, 1), (36, 0x1FF)] ++ l)

/-- A descriptor that a unit runs, alone. -/
def runOf (type : Nat) (p : BitVec 448) : Slot := { rdy.slotOf type (hd 1 0) p with st := .running }

/-- Context 7 runs a list of one command. -/
def bltOn (f : BltCtx → BltCtx) : State :=
  (withSlot (runOf 0x09 blitP)).modBctx 7 (fun _ => f { slot := some 0 })

/-- BlitLists: a list of one command that passes and of one that does not; the list done; a watermark of head 1. -/
theorem test_blitLists : (bltOn (fun b => { b with reading := true })).still [runOf 0x09 blitP] ∧
    (runOf 0x09 blitP).st = .running ∧ ((bltOn id).bctx 7).slot = some (runOf 0x09 blitP).id ∧
    ((bltOn id).ring 0 1).hasRoom = true ∧ pay blitP 19 1 = 0 ∧ pay blitP 16 2 = 1 ∧
    (bltOn id).listFail (runOf 0x09 blitP) [fill []] 0 = none ∧
    (bltOn id).listFail (runOf 0x09 blitP) [cm [(0, 1), (2, 4), (3, 4), (4, 1), (6, 1), (8, 0x20001), (24, 2), (26, 1)]] 0 =
      some (.plain stAlign 8) ∧
    (let b := (bltOn (fun b => { b with cmds := [0], idx := 1 })).bctx 7
     b.reading = false ∧ b.cmds ≠ [] ∧ b.cmds.length ≤ b.idx ∧ b.marks = []) ∧
    (let s := bltOn (fun b => { b with marks := [(1023, 16383)] })
     (s.bctx 7).marks = (1023, 16383) :: [] ∧ (s.bctx 7).slot.bind s.slot = some (runOf 0x09 blitP) ∧
     (runOf 0x09 blitP).hdr.headFin = some 1 ∧ s.headPresent 1 = true ∧ (s.head 1).enabled = true) ∧
    (let x := { runOf 0x09 blitP with trick := some 0 }
     ((withSlot x).modBctx 7 (fun _ => { slot := some 0, reading := true })).still [x] ∧ x.joined = false) := by
  unfold State.still; and_intros <;> decide +kernel

/-- BlitCommands: a command of each operation, at the right edge of its pitch. -/
theorem test_blitCommands : [fill [], fill [(0, 1), (3, 3), (6, 1), (16, 0x20000), (32, 60)],
    fill [(0, 2), (3, 3), (6, 1), (16, 0x30000)],
    cm [(0, 3), (2, 4), (3, 5), (4, 1), (6, 1), (8, 0x30000), (16, 0x60000), (24, 2), (26, 1), (52, 4), (53, 63)],
    fill [(0, 4), (1, 8), (6, 1), (16, 0x30000)]].Forall (fun c =>
      let s := bltOn (fun b => { b with cmds := [c] })
      s.alive = true ∧ s.mem.wf = true ∧ s.cmdNow 7 = some (runOf 0x09 blitP, c) ∧ (s.bctx 7).started = false ∧
      (s.bctx 7).rows = 0 ∧ s.cmdCheck1 0x3F c = true ∧ cmdMisaligned c = none ∧ cmdBadOverlap c = none ∧
      (s.bctx 7).marks = [] ∧ cmdFen c = false ∧ cmdRace c = false) := by decide +kernel

/-- RaceRows: row 0 of one row races head 1, on line 10, which has started, and on line 11, which has not. -/
theorem test_raceRows : [(9, 10), (10, 11)].Forall (fun e =>
      let c := fill [(1, 2), (56, e.1), (58, 1)]
      let s := bltOn (fun b => { b with cmds := [c], waiting := true, base := 5 })
      s.cmdNow 7 = some (runOf 0x09 blitP, c) ∧ cmdOp c = 0 ∧ s.cmdCheck1 0x3F c = true ∧ cmdMisaligned c = none ∧
      cmdRace c = true ∧ cmdRaceHd c = 1 ∧ (s.bctx 7).waiting = true ∧ (s.bctx 7).rows + 1 = cmdH c ∧
      (s.head 1).enabled = true ∧ (s.head 1).beams = true ∧ cmdLine0 c + cmdDy c = (e.2 : Nat) ∧
      (e.2 : Int) < (s.head 1).vActive ∧ frameDiff (s.head 1).frame 5 = 0 ∧
      (s.head 1).line - (if (s.head 1).lineOn then 0 else 1 : Int) < (s.head 1).vTotal + e.2) := by decide +kernel

/-- Channel 31 runs a SLUICE. -/
def sluOn (p : BitVec 448) (f : SluCh → SluCh := id) (g : Slot → Slot := id) : State :=
  (withSlot (g (runOf 0x0A p))).modChan 31 (fun _ => f { slot := some 0 })

/-- SluiceChannels: a freed channel and a waiting SLUICE; the staging buffer; a drained transfer; an expired lease. -/
theorem test_sluiceChannels :
    (let x := { runOf 0x0A (sluP 1 0x20000 2 0) with st := .waitUnit }
     let s := withSlot x
     s.alive = true ∧ (s.chan 31).slot = none ∧ s.hif.slots = [x] ∧ x.type = 0x0A ∧ chanFits x 31 = true) ∧
    (let s := sluOn (sluP 1024 0x10200 3 0) (fun h => { h with wantStage := true })
     let s : State := { s with mv := { s.mv with stageQ := [31] } }
     s.alive = true ∧ s.mv.stageQ = (31 : Fin 32).val :: [] ∧ (∀ d, (s.chan d).stage = none) ∧
     (s.chan 31).slot.bind s.slot = some (runOf 0x0A (sluP 1024 0x10200 3 0)) ∧ sluSrcDev (sluP 1024 0x10200 3 0) = true ∧
     s.mem.wf = true ∧ max (sluSrcExt (sluP 1024 0x10200 3 0)).1 (sluDstExt (sluP 1024 0x10200 3 0)).1 <
       min (sluSrcExt (sluP 1024 0x10200 3 0)).2 (sluDstExt (sluP 1024 0x10200 3 0)).2) ∧
    (let s := sluOn (sluP 1024 0x10200 0 0) (fun h => { h with wantStage := true })
     let s : State := { s with mv := { s.mv with stageQ := [31] } }
     s.mv.stageQ = (31 : Fin 32).val :: [] ∧ (∀ d, (s.chan d).stage = none) ∧
     (s.chan 31).slot.bind s.slot = some (runOf 0x0A (sluP 1024 0x10200 0 0)) ∧ sluSrcDev (sluP 1024 0x10200 0 0) = false) ∧
    (sluOn (sluP 1 0x20000 2 0) (fun h => { h with draining := true })).still [runOf 0x0A (sluP 1 0x20000 2 0)] ∧
    (let s := sluOn (sluP 1 0x20000 2 0) (fun h => { h with draining := true, readAt := some 0 })
     (s.chan 31).slot = some (runOf 0x0A (sluP 1 0x20000 2 0)).id ∧ (s.chan 31).draining = true ∧
     (s.ring 0 1).hasRoom = true ∧ (s.chan 31).readAt ≠ none ∧ ∀ d : Fin 32, d ≠ 31 → (s.chan d).slot ≠ some 0) := by
  unfold State.still; and_intros <;> decide +kernel

/-- SluiceBursts: a transfer whose last burst comes, device to device with overlap, from and to the host. -/
theorem test_sluiceBursts :
    [sluP 1024 0x10200 3 0, sluP 1024 0x20000 2 0, sluP 1024 0x20000 1 0].Forall (fun p =>
      let s := sluOn p (fun h => { h with pos := 1023 })
      s.alive = true ∧ s.mem.wf = true ∧ (s.chan 31).slot.bind s.slot = some (runOf 0x0A p) ∧ sluFieldsOk p = true ∧
      (s.chan 31).wantStage = false ∧ (s.chan 31).draining = false ∧ (s.chan 31).stage = none ∧ (s.chan 31).fill = none ∧
      s.chanGoes 31 = true ∧ (s.chan 31).pos < sluTotal p) ∧
    (let p := sluP 1024 0x20000 2 0
     sluSrcDev p = false ∧ sluDstDev p = true ∧ 0 < min (min 512 (sluTotal p - 1023)) [(7 : Byte)].length) ∧
    (let p := sluP 1024 0x20000 1 0
     sluSrcDev p = true ∧ sluDstDev p = false ∧ 1023 % sluDlen p + min 512 (sluTotal p - 1023) ≤ sluDlen p ∧
     sluDstAt p 1023 % 4096 + min 512 (sluTotal p - 1023) ≤ 4096) ∧
    (let p := sluP 1024 0x10200 0 0
     ((sluOn p (fun h => { h with stage := some {}, fill := some 512 })).chan 31).fill = some 512 ∧
     DevMem.wf {} = true ∧ (sluFillAt p (sluScnt p + 1) 512) = some (512, 512)) := by
  decide +kernel

/-- SluiceFailures: a read and a write of the host outstanding, and a side in the device. -/
theorem test_sluiceFailures : (sluOn (sluP 8 0x20000 2 0)).still [runOf 0x0A (sluP 8 0x20000 2 0)] ∧
    (let s := sluOn (sluP 8 0x20000 2 0) (fun h => { h with readAt := some 0 })
     (s.chan 31).slot = some (runOf 0x0A (sluP 8 0x20000 2 0)).id ∧ (s.chan 31).wantStage = false ∧
     (s.ring 0 1).hasRoom = true ∧ s.mem.wf = true ∧ sluSrcDev (sluP 8 0x20000 2 0) = false ∧ (s.chan 31).readAt ≠ none ∧
     (s.chan 31).draining = false ∧ sluDstDev (sluP 8 0x20000 2 0) = true) ∧
    (sluDstDev (sluP 8 0x20000 0 0) = false ∧
     ((sluOn (sluP 8 0x20000 0 0) (fun h => { h with draining := true })).chan 31).draining = true) := by
  unfold State.still; and_intros <;> decide +kernel

/-! ### Application of tricks -/

/-- Head 1 at `line` of frame 5, its window open or not. -/
def lineAt (line : Nat) (lineOn win : Bool) : State :=
  rdy.modHead 1 (fun h => { h with line := line, lineOn := lineOn, inWindow := win })

/-- With the tricks `ts` and the queue `q`. -/
def withTricks (s : State) (ts : List Trick) (q : List Nat) : State := { s with trk := { s.trk with tricks := ts, queue := q } }

/-- CommitCutoff: head 1 before its cutoff and at it, with a trick that is due and one that is not. -/
theorem test_cutoff :
    (let s := withTricks (lineAt 1124 true false) [{ trick1 with phase := .staged, anchor := some 1, target := 6 },
       { trick1 with key := 1, phase := .staged, anchor := some 1, target := 7 }] []
     s.beamsRun 1 = true ∧ (s.head 1).inWindow = false ∧ (s.trk.tricks.map (·.key)).Nodup ∧
     (s.head 1).lineOn = true ∧
     (s.head 1).vTotal - min (max 1 (s.fld (F.TRK_HD_CTL_CUTOFF_LINES 1))) ((s.head 1).vTotal - (s.head 1).vActive) ≤
       (s.head 1).line) ∧
    ((lineAt 0 false false).head 1).lineOn = false ∧ ((lineAt 10 true false).head 1).line < 1125 - 45 := by
  decide +kernel

/-- Trick 1 with a write of SINK_CTL and of MELD_BG, and a page whose first byte is 9. -/
def written : Trick := { trick1 with
  writes := [⟨.SINK_CTL, 1, 0, 1, 0xFFFFFFFF⟩, ⟨.MELD_BG, 1, 0, 2, 0xFFFFFF⟩], pages := [⟨16383, { cells := [(0x3FFF000, 9)] }⟩] }

/-- TrickCommits: a trick under way that is anchored on head 1, and one staged with no head enabled. -/
theorem test_commits :
    (let k := { written with phase := .applying, anchor := some 1 }
     let s := { withTricks (lineAt 1124 true true) [k] [0] with mem := { bg := [] } }
     s.alive = true ∧ s.trick k.key = some k ∧ k.owner ≠ .wall ∧ k.owner ≠ .boot ∧ k.key ∉ ([] : List Nat) ∧
     s.mem.wf = true ∧ (k.pages.map (·.page)).Nodup ∧ (∀ p ∈ k.pages, p.img.wf = true ∧ p.img.bg = s.mem.bg) ∧
     (∀ w ∈ k.writes, decodeReg (w.id.addr w.i w.j) = some (w.id, w.i, w.j)) ∧ s.trk.queue = k.key :: [] ∧
     (s.head 1).wrapWait = false) ∧
    (let k := { written with phase := .staged }
     let s := withTricks onRun [k] []
     s.trick k.key = some k ∧ s.trk.queue = [] ∧ k.phase = .staged ∧ k.anchor = none ∧ k.wall = false ∧
     (∀ x ∈ s.trk.tricks, x.order ≤ k.order)) := by and_intros <;> decide +kernel

/-- FrameWraps: head 1 at its last line, with and without an application under way. -/
theorem test_wraps :
    (let s := lineAt 1124 true true
     s.lockGroup 1 = [1] ∧ s.wrapReady 1 = true ∧ (s.head 1).inWindow = true ∧ s.anchorBusy 1 = false) ∧
    (let s := withTricks (lineAt 1124 true true) [{ trick1 with phase := .applying, anchor := some 1 }] [0]
     s.anchorBusy 1 = true ∧ (s.head 1).wrapWait = false) ∧
    (let e : Shown := { key := 3, owner := .fn 0, id := 8, pending := 2, missed := false, anchor := some 1, frame := 6
                        commitSlot := none }
     e.pending.getLsbD (1 : Fin 6).val = true) := by and_intros <;> decide +kernel

/-- TarnAperture: the last byte below the pool, and the last word of Tarn. -/
theorem test_aperture : onRun.attends = true ∧ onRun.mem.wf = true ∧
    onRun.touchesTrump (onRun.fld (F.MEM_AP_CTL_BASE 1) * 0x10000 + 0x1FFFFFF % 0x1000000) 1 = false ∧
    onRun.present (onRun.fld (F.MEM_AP_CTL_BASE 1) * 0x10000 + 0x1FFFFFF % 0x1000000) 1 = true ∧
    onRun.flag (F.MEM_AP_CTL_TARGET 1) = false ∧ onRun.working = true ∧ onRun.glob.mode ≠ .fallback ∧
    0x3FFFFFF < 0x4000000 ∧ 0x1FFFFFF % 0x1000000 + 1 ≤ 0x1000000 ∧
    ((onRun.setF (F.MEM_TRUMP_HD_BASE 0) (onRun.fld (F.MEM_AP_CTL_BASE 1))).setF (F.MEM_TRUMP_HD_SIZE 0) 1).touchesTrump
      (onRun.fld (F.MEM_AP_CTL_BASE 1) * 0x10000 + 0x100FFFF % 0x1000000) 1 = true := by decide +kernel

/-! ### Beams, sinks and damage -/

/-- Head 1 as `f` makes it. -/
def head1 (f : HeadSt → HeadSt) : State := rdy.modHead 1 f

/-- ComposeLines: the next line starts, or its lead is too large; the last line of the frame is past. -/
theorem test_composeLines :
    (let s := head1 (fun h => { h with sc := { scanFrame := 5, scanLine := 10, scanReal := true } })
     s.beamsRun 1 = true ∧ (s.head 1).queue = [] ∧
     (let h := (s.head 1).scanTo 10
      h.composing = false ∧ h.line + 1 < h.vTotal ∧ h.lead 11 (h.scanNow 10) ≤ h.paceT ∧ h.ev.evalLine = none)) ∧
    (let h := ((head1 (fun h => { h with line := 200, sc := { scanFrame := 5, scanLine := 10, scanReal := true } })).head 1)
     ¬ (h.scanTo 10).lead 201 ((h.scanTo 10).scanNow 10) ≤ (h.scanTo 10).paceT) ∧
    (let h := ((head1 (fun h => { h with line := 1124 })).head 1).scanTo 0
     ¬ h.line + 1 < h.vTotal) := by and_intros <;> decide +kernel

/-- ComposeChunks: the last chunk of a line through the strip ring. -/
theorem test_composeChunks :
    (let s := head1 (fun h => { h with composing := true, chunk := 119 })
     s.beamsRun 1 = true ∧ (s.head 1).composing = true ∧ (s.head 1).queue = [] ∧ (s.head 1).sk.sinkBad = false ∧
     (s.head 1).path (s.head 1).sk.sinkC = 0 ∧ (s.head 1).sk.wbCur = none ∧
     (s.head 1).chunk * 16 < (s.head 1).info.w ∧ s.mem.wf = true ∧ s.slotUnread 1 = false) := by decide +kernel

/-- ObjectEvaluation: line 11 starts, and with it the evaluation of line 12 over a deck of two entries; the end of
that of line 0 before the wrap, and of a later line with one entry too many. -/
theorem test_objects :
    (let s := ((((head1 (fun h => { h with sc := { scanFrame := 5, scanLine := 10, scanReal := true } })).setF
       (F.OBJ_CTL_EN 1) 1).setReg .OBJ_COUNT 1 0 2).setReg .OBJ_DECK 1 0 3)
     let h := (s.head 1).scanTo 10
     s.beamsRun 1 = true ∧ h.queue = [] ∧ s.oldPages = [] ∧ s.mem.wf = true ∧ h.composing = false ∧ h.lineOn = true ∧
     h.line + 1 < h.vTotal ∧ h.lead (h.line + 1) (h.scanNow 10) ≤ h.paceT ∧ h.ev.evalLine = none ∧
     h.composes (h.line + 2) = true ∧ s.evaluates 1 = true ∧ bits (s.useReg .OBJ_DECK 1 0) 19 0 % 3 = 0 ∧
     bits (s.useReg .OBJ_DECK 1 0) 19 0 * 64 + 12 * min (bits (s.useReg .OBJ_COUNT 1 0) 16 0) 65536 ≤ s.tarnTop) ∧
    (let s := head1 (fun h => { h with line := 0, lineOn := false, ev := { evalLine := some 0, evalCount := 1 } })
     s.alive = true ∧ (s.head 1).ev.evalLine = some 0 ∧ (s.head 1).line = 0 ∧ (s.head 1).lineOn = false) ∧
    (let h := (head1 (fun h => { h with ev := { evalLine := some 11, found := { hits := 1025 } } })).head 1
     h.ev.evalLine = some 11 ∧ (11 : Nat) ≠ 0 ∧ 1024 < h.ev.found.hits) := by
  and_intros <;> decide +kernel

/-- ScanChunks: the last chunk of a line written, and not written. -/
theorem test_scanChunks :
    (let s := head1 (fun h => { h with sc := { scanFrame := 5, scanLine := 9, scanPixel := 1904, scanReal := true, video := true } })
     s.beamsRun 1 = true ∧ (s.head 1).sc.scanReal = true ∧ (s.head 1).sc.scanLine < (s.head 1).scanInfo.h ∧
     (s.head 1).sc.scanPixel < (s.head 1).scanInfo.w ∧ (s.head 1).command = false ∧ (s.head 1).sc.video = true ∧
     (s.head 1).sc.underrun = false ∧ (s.scanRead 1 9 1904 16).isSome = true) ∧
    (let s := head1 (fun h => { h with sc := { scanFrame := 5, scanLine := 11, scanReal := true, video := true } })
     (s.head 1).sc.scanLine < (s.head 1).scanInfo.h ∧ s.scanRead 1 11 0 16 = none) := by and_intros <;> decide +kernel

/-- FrameTicks: a frame that slips and one that is done. -/
theorem test_frameTicks :
    (let s := head1 (fun h => { h with sc := { scanFrame := 5, scanLine := 1080, scanReal := true } })
     s.beamsRun 1 = true ∧ s.tickGroup 1 = [1] ∧ s.refHead ≠ some 1 ∧ (s.head 1).blank ≠ .s4 ∧
     (s.head 1).scanInfo.h ≤ (s.head 1).sc.scanLine ∧ (s.head 1).disableWrapped = false ∧ (s.head 1).slips = true) ∧
    ((head1 (fun h => { h with line := 1079, sc := { scanFrame := 5 } })).head 1).slips = false := by
  and_intros <;> decide +kernel

/-- TrumpChecks: a frame that matches its signature (no pixel was taken), and one that does not after one miss. -/
theorem test_trumpChecks :
    (let s := ((head1 (fun h => { h with
        sc := { scanFrame := 5, scanLine := 1080, scanReal := true, sentWhole := true } })).setF (F.TRUMP_CTL_EN 1) 1)
     s.beamsRun 1 = true ∧ (s.head 1).sc.checked = false ∧ (s.head 1).scanInfo.h ≤ (s.head 1).sc.scanLine ∧
     (s.head 1).sc.sentWhole = true ∧ s.use (F.TRUMP_CTL_EN 1) = 1 ∧ (s.head 1).sc.crcAny = false ∧
     (s.head 1).scanInfo.sig = 0) ∧
    (let s := (((head1 (fun h => { h with sc := { scanFrame := 5, crcAny := true } })).setF (F.TRUMP_CTL_EN 1) 1).setF
       (F.TRUMP_STAT_MISS_RUN 1) 1).setF (F.TRUMP_CTL_FB_EN 1) 1
     s.fld (F.TRUMP_STAT_MISS_RUN 1) = 1 ∧ ~~~(s.head 1).sc.crc = (s.head 1).scanInfo.sig ∧
     ~~~(0 : Word) ≠ (s.head 1).scanInfo.sig ∧ s.use (F.TRUMP_CTL_FB_EN 1) = 1 ∧ (s.head 1).fb = false) := by
  and_intros <;> decide +kernel

/-- BuffersAndDamage: a buffer whose last line is written, LAST held, and a hold on and beside the buffer being
written. -/
theorem test_buffers :
    (let s := head1 (fun h => { h with sk := { h.sk with wbPrev := some 3 } })
     s.alive = true ∧ (s.head 1).sk.wbPrev = some 3 ∧ (s.head 1).sk.wb[3].full = false) ∧
    (let s := head1 (fun h => { h with sk := { h.sk with wbLast := some 3 } })
     s.attends = true ∧ s.headPresent 1 = true ∧ (s.head 1).sk.wbLast = some 3 ∧
     (head1 id).attends = true ∧ (head1 id).headPresent 1 = true ∧ ((head1 id).head 1).sk.wbLast = none) ∧
    (let s := head1 (fun h => { h with sk := { h.sk with wbCur := some 3 } })
     (s.head 1).sk.wbCur = some 3 ∧ (s.head 1).sk.wb[3].full = false ∧ (s.head 1).command = false) ∧
    (8 : BitVec 4).toNat.testBit 3 = true ∧ (7 : BitVec 4).toNat.testBit 3 = false ∧
    (0x107 : Word).getLsbD 8 = true ∧ (0x008 : Word).getLsbD 8 = false := by and_intros <;> decide +kernel

/-! ### The trump plane -/

/-- A key, its low half presented; `reg` is GLB_TRUMP_SESSION. -/
def keyed (reg : Word) (f : TrumpSt → TrumpSt) : State :=
  { rdy with trump := f { key := 0x123456789ABCDEF0, keyLo := 0x9ABCDEF0 } }.setReg .GLB_TRUMP_SESSION 0 0 reg

/-- TrumpSession: a right and a wrong pair, the lockout, a rekey armed in an open session. -/
theorem test_session :
    (let s := keyed 0x08000000 id
     s.attends = true ∧ s.flag F.GLB_TRUMP_SESSION_LOCKOUT = false ∧ s.flag F.GLB_TRUMP_SESSION_OPEN = false ∧
     s.fld F.GLB_TRUMP_SESSION_BAD = 2 ∧ (0x12345678 : Word) ++ s.trump.keyLo = s.trump.key ∧
     (0 : Word) ++ s.trump.keyLo ≠ s.trump.key) ∧
    (let s := keyed 0x80000000 (fun t => { t with armed := true })
     s.attends = true ∧ s.flag F.GLB_TRUMP_SESSION_LOCKOUT = false ∧ s.flag F.GLB_TRUMP_SESSION_OPEN = true ∧
     s.trump.armed = true) ∧
    (keyed 0x4C000000 id).flag F.GLB_TRUMP_SESSION_LOCKOUT = true := by and_intros <;> decide +kernel

/-- A mismatch stands on head 1, whose path is held, and one check has matched since. -/
def failing : State :=
  ((((keyed 0 (fun t => { t with held := some 1 })).modHead 1 (fun h => { h with dp := { hpd := true } })).setF
    (F.TRUMP_STAT_FAIL 1) 1).setF (F.TRUMP_CTL_EN 1) 1).setF (F.TRUMP_STAT_MATCH_RUN 1) 1

/-- TrumpCommands: a descriptor of the physical function for head 1; the SMBus path, accepted and refused. -/
theorem test_trumpCommands :
    (keyed 0x80000000 id).takes 0x03 ⟨0, 1, 0x14, 7, 0⟩ (onePair (RegId.addr .TRUMP_CMD 1 0) 1) ∧
    (keyed 0x80000000 id).takes 0x03 ⟨0, 1, 0x14, 7, 0⟩ (onePair (RegId.addr .TRUMP_CMD 1 0) 2) ∧
    (keyed 0 (fun t => { t with held := some 1 })).still [] ∧
    (let s := keyed 0 (fun t => { t with held := some 1 })
     s.attends = true ∧ s.trump.held = some 1 ∧ s.trumpCmdRefused 1 1 = false ∧ s.trumpCmdRefused 1 2 = false ∧
     failing.trumpCmdRefused 1 1 = true ∧ failing.trumpCmdRefused 1 2 = true ∧ failing.attends = true ∧
     failing.trump.held = some 1) ∧ failing.still [] := by unfold State.takes State.still; and_intros <;> decide +kernel

/-- Head 1 is held by the SMBus path, with an open batch and a trump region. -/
def batched : State :=
  (withTricks { rdy with trump := { key := 5, held := some 1, batch := some 0 } }
    [{ trick1 with owner := .smbus }] []).setReg .MEM_TRUMP_HD 1 0 (rdy.reg .MEM_TRUMP_HD 1 0)

/-- TrumpPath: the session may open; DATA of the last byte of the region; a batch with 4,095 writes. -/
theorem test_trumpPath :
    (batched.attends = true ∧ batched.flag F.GLB_TRUMP_SESSION_LOCKOUT = false ∧ (5 : BitVec 64) = batched.trump.key ∧
     (6 : BitVec 64) ≠ batched.trump.key ∧ (1 : Byte).toNat = (1 : Fin 6).val ∧ batched.headPresent 1 = true) ∧
    (let k := { trick1 with owner := .smbus }
     batched.trump.held = some 1 ∧ batched.trump.batch = some k.key ∧ batched.trick k.key = some k ∧
     k.phase = .opened ∧ batched.trump.region = none ∧ batched.mem.wf = true ∧ k.wall = false ∧
     k.writes.length < 4096 ∧ batched.stagedCount < 16 ∧ batched.tpCommitting = false ∧ batched.trump.revoked = false) ∧
    (let s := (batched.setF (F.MEM_TRUMP_HD_BASE 1) 16).setF (F.MEM_TRUMP_HD_SIZE 1) 1
     cdiv (s.trumpRegion 1).1 192 * 192 + 65407 + 1 = (s.trumpRegion 1).2 ∧
     s.poolGrant { trick1 with owner := .smbus } (({ trick1 with owner := .smbus } : Trick).lacks
       [(cdiv (s.trumpRegion 1).1 192 * 192 + 65407, [7])]).length = .ok) ∧
    (List.replicate 4095 (⟨.TRUMP_POS, 1, 0, 0, 0⟩ : RegW)).length < 4096 := by and_intros <;> decide +kernel

/-! ### Links -/

/-- Head 1 with a sink of four lanes at the rate its timing asks for. -/
def dp1 (f : HeadSt → HeadSt) (g : DpSt → DpSt := id) : State :=
  head1 (fun h => f { h with dp := g { hpd := true, trained := true, sinkRate := 4, sinkLanes := 3 } })

/-- BlankingSteps: each step of the sequence, with a trained and an untrained link and at the last retry. -/
theorem test_blanking :
    (let s := dp1 (fun h => { h with noWrap := true })
     s.alive = true ∧ (s.head 1).beams = true ∧ (s.head 1).noWrap = true ∧ s.lockGroup 1 = [1] ∧
     (s.head 1).sc.scanReal = false) ∧
    (let h := (dp1 (fun h => { h with blank := .s2 })).head 1
     h.blank = .s2 ∧ h.dp.needTrain = false ∧ h.dp.trained = true ∧ h.dp.training = false) ∧
    (∀ m : Fin 6, m ≠ 1 → ((dp1 (fun h => { h with blank := .s2 })).head m).blank = .none) ∧
    (let s := dp1 (fun h => { h with blank := .s1 }) (fun d => { d with trained := false })
     (s.head 1).tsNext = none ∧ (s.head 1).dp.trained = false ∧ (s.head 1).dp.hpd = true ∧ (s.head 1).enabled = true ∧ (s.head 1).ts.isSome = true ∧
     (s.head 1).sinkReason = 0 ∧ s.glob.mode ≠ .slumber) ∧
    ((dp1 (fun h => { h with blank := .s1, tsNext := some tim })).head 1).tsNext ≠ none ∧
    (let h := (dp1 (fun h => { h with blank := .s3 }) (fun d => { d with training := true })).head 1
     h.dp.training = true ∧ h.blank = .s3 ∧ h.dp.aux = none) ∧
    (let h := (dp1 id (fun d => { d with training := true, retries := 2 })).head 1
     h.dp.training = true ∧ h.blank = .none ∧ h.sinkReason = 0 ∧ h.dp.retries < 3) ∧
    (let h := (dp1 id (fun d => { d with training := true, retries := 3, retryWait := true })).head 1
     3 ≤ h.dp.retries ∧ h.dp.retryWait = true) ∧
    (let s := dp1 (fun h => { h with blank := .s4, line := 1124, lineOn := true })
     (s.head 1).beams = true ∧ (s.head 1).lineOn = true ∧ (s.head 1).blank = .s4 ∧ (s.head 1).noWrap = false ∧ s.anchorBusy 1 = false ∧ (s.head 1).vTotal ≤ 1125 ∧
     (s.head 1).composing = false ∧ (s.head 1).ts = some tim ∧ s.lockLeader tim = none) := by
  and_intros <;> decide +kernel

/-- SinkEvents: a plug, the ninth in a second, and a sink that is there. -/
theorem test_sinks :
    (let s := dp1 id (fun d => { d with hpd := false, plugTimes := List.replicate 7 0 })
     s.attends = true ∧ s.headPresent 1 = true ∧ (s.head 1).dp.hpd = false ∧ (s.head 1).dp.hpdIgnored = false ∧
     (s.head 1).dp.plugTimes.length < 8 ∧ tim.rate ≤ (4 : BitVec 4).toNat ∧ tim.lanes ≤ (3 : BitVec 2).toNat) ∧
    (let s := dp1 id (fun d => { d with hpd := false, plugTimes := List.replicate 8 0 })
     8 ≤ (s.head 1).dp.plugTimes.length ∧ (∀ x ∈ (s.head 1).dp.plugTimes, s.clock < x + 1000 * perMs)) ∧
    (let h := (dp1 id).head 1
     h.dp.hpd = true ∧ h.blank ≠ .s3 ∧ h.dp.trained = true ∧ h.enabled = true ∧ h.ts.isSome = true ∧
     h.sinkReason = 0) := by and_intros <;> decide +kernel

/-- AuxChannel: commands that start, with no sink and in a storm; a command refused; each reply at its last repeat. -/
theorem test_aux :
    (let s := dp1 id
     s.attends = true ∧ s.headPresent 1 = true ∧ s.flag (F.DP_AUX_STAT_BUSY 1) = false ∧
     auxRefused 0 0x601 16 = false ∧ auxRefused 1 0x600 16 = false ∧ auxRefused 4 0x50 16 = false ∧
     (s.head 1).dp.hpd = true ∧ (s.head 1).dp.auxSuspended = false ∧ (s.head 1).dp.training = false) ∧
    ((dp1 id (fun d => { d with hpd := false })).head 1).dp.hpd = false ∧
    ((dp1 id (fun d => { d with auxSuspended := true })).head 1).dp.auxSuspended = true ∧
    ((0x5F1 : BitVec 20).toNat ≤ 0x600 ∧ 0x600 < (0x5F1 : BitVec 20).toNat + ((15 : Fin 16).val + 1)) ∧
    ((dp1 id).setF (F.DP_AUX_STAT_BUSY 1) 1).flag (F.DP_AUX_STAT_BUSY 1) = true ∧
    (let a : Aux := { req := 1, len := 16, addr := 0, defers := 6, timeouts := 1 }
     ((dp1 id (fun d => { d with aux := some a })).head 1).dp.aux = some a ∧ a.waiting = false ∧ a.req = 1 ∧
     (List.replicate 16 (7 : Byte)).length = 16 ∧ a.defers < 7 ∧ a.timeouts < 2) ∧
    (let a : Aux := { req := 0, len := 1, addr := 0, defers := 7, timeouts := 2 }
     ((dp1 id (fun d => { d with aux := some a })).head 1).dp.aux = some a ∧ 7 ≤ a.defers ∧ 2 ≤ a.timeouts) ∧
    (let a : Aux := { req := 1, len := 16, addr := 0, waiting := true }
     ((dp1 id (fun d => { d with aux := some a })).head 1).dp.aux = some a) := by and_intros <;> decide +kernel

/-! ### Sound -/

/-- AudioTicks: a running and a standing domain; the sample four ticks back done and not done; a buffer whose bytes
have been asked for. -/
theorem test_audioTicks :
    (onRun.alive = true ∧ (onRun.dm 0).run = false ∧ onRun.keys = []) ∧
    (let m := (onRun.modDom 0 (fun m => { m with run := true, tick := 4, done := [(0, [])] })).dm 0
     m.run = true ∧ 4 ≤ m.tick ∧ ∃ e ∈ m.done, e.1 = m.tick - 4) ∧
    (let m := (onRun.modDom 2 (fun m => { m with run := true, tick := 4 })).dm 2
     m.run = true ∧ 4 ≤ m.tick ∧ ¬ ∃ e ∈ m.done, e.1 = m.tick - 4) ∧
    (let b : PlayBuf := { slot := 0, addr := 0, ask := 0, data := [], asked := 1, last := false }
     let s := (withSlot (runOf 0x0B 0)).modPlay 15 (fun y => { y with bufs := [b] })
     (s.play 15).bufs.find? (fun x => decide (0 < x.asked)) = some b ∧ ((s.play 15).bufs.map (·.slot)).Nodup ∧
     [(7 : Byte)].length = b.asked ∧ s.slot b.slot = some (runOf 0x0B 0) ∧ (s.ring 0 1).held = [] ∧
     (s.ring 0 1).hasRoom = true) := by and_intros <;> decide +kernel

/-- AudioControls: slot 255 is a ramp slot of domain 2 and is not; a sink quiet for its HOLD; a capture ring. -/
theorem test_audioControls :
    (let s := onRun.modDom 2 (fun m => { m with ramps := [⟨⟨255, false, true, false, 0, 0, 0⟩, {}⟩] })
     (let m := (s.modDom 2 (fun m => { m with run := true, rampW := [⟨255, some 5⟩] })).dm 2
      m.run = true ∧ m.pc = none ∧ m.owed = [] ∧ m.pend = none ∧ m.rampW = [⟨255, some 5⟩] ∧ s.keys = []) ∧
     s.attends = true ∧ (s.dm 2).ramps.any (fun e => e.decl.slot = (255 : Fin 256).val && !e.decl.route) = true) ∧
    ((onRun.dm 2).ramps.any (fun e => e.decl.slot = (255 : Fin 256).val && !e.decl.route) = false) ∧
    (0x7FFFFFFF : Word).getLsbD 31 = false ∧
    (let s := ((onRun.setF (F.SINK_SIL_EN 7) 1).setF (F.TDM_CTL_EN 1) 1).modSink 7 (fun y => { y with quiet := true })
     s.flag (F.SINK_SIL_EN 7) = true ∧ (s.asink 7).quiet = true ∧ s.sinkDomain 7 ≠ 3) ∧
    ((onRun.asink 7).quiet = false) ∧ (onRun.setF (F.CAP_CTL_EN 7) 1).flag (F.CAP_CTL_EN 7) = true ∧
    onRun.flag (F.CAP_CTL_EN 7) = false := by and_intros <;> decide +kernel

/-- The headset path with HS_STAT as given. -/
def hs (w : Word) : State := (onRun.setF F.HS_CTL_EN 1).setReg .HS_STAT 0 0 w

/-- Headset: unplugged, plugged, being classified at the ends of each range, and of a type with and without buttons. -/
theorem test_headset : (hs 0).attends = true ∧ (hs 0).hsOn = true ∧ (hs 0).flag F.HS_STAT_PLUGGED = false ∧
    (hs 0x80000000).flag F.HS_STAT_PLUGGED = true ∧
    ({ hs 0x80000000 with aud := { (hs 0).aud with hs := { (hs 0).aud.hs with typing := true } } } : State).aud.hs.typing
      = true ∧
    (199 < 200 ∧ ¬ (600 ≤ 199 ∧ 199 ≤ 10000) ∧ ¬ (600 ≤ 10001 ∧ 10001 ≤ 10000) ∧ ¬ (200 < 200)) ∧
    ((hs 0xA0100000).fld F.HS_STAT_TYPE = 2 ∧ (hs 0xA0100000).fld F.HS_STAT_BUTTONS = 1 ∧ 69 < 70 ∧ ¬ (70 < 70) ∧
     ¬ (110 ≤ 70) ∧ 110 ≤ 180 ∧ (hs 0xA0000000).fld F.HS_STAT_BUTTONS = 0 ∧ (hs 0xB0000000).fld F.HS_STAT_TYPE = 3) ∧
    (hs 0xD0000000).fld F.HS_STAT_TYPE ≠ 2 ∧ (hs 0xD0000000).fld F.HS_STAT_TYPE ≠ 3 := by and_intros <;> decide +kernel

/-! ### Causeway -/

/-- Port `p` as `f` makes it, the root locked; `hand`: the device is a hand. -/
def portOn (p : Fin 5) (f : CwyPort → CwyPort) (hand : Bool := false) : State :=
  (((onRun.setF F.GLB_STRAPS_DEALER (b2n (!hand))).setF F.GLB_CLK_STATUS_ROOT_LOCK 1).setF (F.CWY_PORT_CTL_EN p) 1).modPort p f

/-- PortTraining: each state of a port upstream and downstream, and the last probe. -/
theorem test_training :
    (let s := portOn 4 (fun c => { c with run := .down })
     s.alive = true ∧ s.portMayTrain 4 = true ∧ (s.cport 4).run = .down) ∧
    (let s := portOn 4 (fun c => { c with run := .lock })
     s.portMayTrain 4 = true ∧ (s.cport 4).run = .lock ∧ (s.cport 4).run ≠ .down ∧ s.sleeping = false) ∧
    (portOn 0 id).portMayTrain 0 = false ∧
    (let s := portOn 0 (fun c => { c with run := .hello }) true
     (s.cport 0).run = .hello ∧ (0 : BitVec 16).toNat = (s.cport 0).rx ∧ 1 ≤ (0x1FFFF : BitVec 17).toNat / 16384 ∧
     (0x1FFFF : BitVec 17).toNat / 16384 ≤ 7) ∧
    (let s := portOn 4 (fun c => { c with run := .hello }) true
     (s.cport 4).run = .hello ∧ (0 : BitVec 16).toNat = (s.cport 4).rx ∧ (4 : Fin 5) ≠ 0 ∧ s.childPath 4 / 16384 < 8 ∧
     s.dealer = false) ∧
    (let s := (portOn 4 (fun c => { c with run := .hello })).modCwy (fun c => { c with hands := [(9, 0x4000, true)] })
     s.dealer = true ∧ ∃ h ∈ s.cwy.hands, h.1 = (9 : BitVec 14).toNat ∧ h.2.2 = true ∧ h.2.1 ≠ s.childPath 4) ∧
    8 ≤ ((portOn 4 (fun c => { c with run := .hello }) true).setF ⟨.CWY_ID, 0, 0, 30, 14⟩ 0x1C000).childPath 4 / 16384 ∧
    (let c := (portOn 4 (fun c => { c with run := .measure, probes := 254 })).cport 4
     c.run = .measure ∧ c.probes < 255) ∧
    (let c := (portOn 4 (fun c => { c with run := .measure, probes := 255 })).cport 4
     c.run = .measure ∧ c.probes = 255) ∧
    (let s := portOn 0 (fun c => { c with run := .measure, probes := 256, sum := 513 }) true
     let mean : Int := (s.cport 0).sum + 512 * signed 16 (s.fld (F.CWY_PORT_CTL_HOP_TRIM (0 : Fin 5)))
     (s.cport 0).run = .measure ∧ 256 ≤ (s.cport 0).probes ∧ 0 ≤ mean ∧ mean / 512 + 1 < 2 ^ 24) ∧
    ((portOn 4 (fun c => { c with run := .held })).cport 4).run = .held := by and_intros <;> decide +kernel

/-- An active port at the limit of each of its counts. -/
def fullPort : CwyPort :=
  { run := .active, rx := 65535, replay := [(5, .hello true 0 0 0 0)], naks := List.replicate 15 0
    bads := List.replicate 63 0, leaves := [0, 0] }

/-- PortTraffic: an active port with packets left to acknowledge, at the limits of each count, and one with a child. -/
theorem test_traffic :
    (let c := (portOn 4 (fun _ => fullPort)).cport 4
     c.passes = true ∧ c.fwd = [] ∧ c.run = .active ∧ (65535 : BitVec 16).toNat = c.rx ∧ c.naks.length < 16 ∧
     c.bads.length < 64 ∧ c.leaves.length < 3 ∧ 32768 ≤ ((65534 : BitVec 16).toNat + 65536 - c.rx) % 65536) ∧
    (let s := portOn 4 (fun c => { c with run := .active, joined := true, naks := List.replicate 16 0,
                                          bads := List.replicate 64 0, leaves := [0, 0, 0] })
     let c := s.cport 4
     let recent (times : List Nat) (ms : Nat) : List Nat := times.filter (fun t => s.clock < t + ms * perMs)
     c.passes = true ∧ 16 ≤ (recent c.naks 1).length ∧ 64 ≤ (recent c.bads 1000).length ∧
     3 ≤ (recent c.leaves 10000).length ∧ c.joined = true ∧ (4 : Fin 5) ≠ 0) ∧
    ((portOn 4 (fun c => { c with run := .measure })).cport 4).run = .measure := by and_intros <;> decide +kernel

/-! ### The wall -/

/-- A hand of ID 9 on path 0 of depth 1 whose parent and child 4 are active, as `f` makes its Causeway unit. -/
def handOn (f : Cwy → Cwy) : State :=
  (((portOn 0 (fun c => { c with run := .active }) true).modPort 4 (fun c =>
    { c with run := .active, peer := 3, joined := true })).setReg .CWY_ID 0 0 0).modCwy f

/-- The dealer with child 4 active, as `f` makes its Causeway unit. -/
def dealerOn (f : Cwy → Cwy) : State :=
  (portOn 4 (fun c => { c with run := .active, peer := 3, joined := true })).modCwy f

/-- WallTicks: a hand and the dealer, with a tick owed and none, sending and thawing. -/
theorem test_wallTicks :
    (let s := handOn (fun c => { c with next := some 0xFFFF, sending := true })
     s.linked = true ∧ s.alive = true ∧ s.dealer = false ∧ (s.cport 0).run = .active ∧ s.cwy.next = some 0xFFFF ∧
     (s.cport 0).fwd = [] ∧ (s.cport 0).replay = [] ∧ (1600 : Int).natAbs ≤ 1600 ∧ s.cwy.sending = true) ∧
    ((handOn id).setF F.CWY_CTL_FRZ_UP 1).flag F.CWY_CTL_FRZ_UP = true ∧
    ((handOn id).setF F.CWY_CTL_FRZ_DOWN 1).flag F.CWY_CTL_FRZ_DOWN = true ∧
    ((handOn id).setF F.CWY_CTL_FRZ_DOWN 0).flag F.CWY_CTL_FRZ_DOWN = false ∧
    (let s := dealerOn (fun c => { c with thawing := true })
     s.cwy.next = none ∧ s.cwy.sending = false ∧ s.cwy.thawing = true ∧ s.dealer = true ∧ s.linked = true) ∧
    (let s := dealerOn (fun c => { c with sending := true, origins := [9] })
     s.cwy.sending = true ∧ (s.cport 4).run = .active ∧ (4 : Fin 5) ≠ 0 ∧ (∀ m ∈ s.cwy.origins, m = 9) ∧
     s.ownFreeze = false) ∧
    (dealerOn id).cwy.sending = false ∧ (dealerOn id).cwy.thawing = false := by and_intros <;> decide +kernel

/-- A wall trick as a hand holds it. -/
def wtrick : Trick := { key := 0, owner := .wall, id := 1, heads := 2, wall := true }

/-- WallFromAbove: a hand that takes a trick it does not hold yet, one that holds its copy, one whose copy is staged
on head 1, one that is benched, and one that passes a trick on. -/
theorem test_fromAbove :
    (let s := handOn (fun c => { c with state := 2 })
     s.alive = true ∧ (s.cport 0).run = .active ∧ (0 : BitVec 16).toNat = (s.cport 0).rx ∧ s.dealer = false ∧
     s.takesTrick 1 = true ∧ s.rxTrick 1 = none ∧ s.openTricks < 64 ∧
     64 ≤ (withTricks s ((List.range 64).map (fun k => { trick1 with key := 9 + k })) []).openTricks) ∧
    (let s := withTricks (handOn (fun c => { c with state := 2, rx := [{ id := 1, key := 0 }] })) [wtrick] []
     s.takesTrick 1 = true ∧ s.rxTrick 1 = some { id := 1, key := 0 } ∧ s.trick 0 = some wtrick) ∧
    (let k := { wtrick with phase := .staged, anchor := some 1 }
     let s := withTricks (handOn (fun c => { c with state := 2, rx := [{ id := 1, key := 0 }] })) [k] []
     s.trick 0 = some k ∧ k.phase = .staged ∧ k.anchor = some 1) ∧
    (let s := handOn (fun c => { c with state := 3, through := [1] })
     s.takesTrick 1 = false ∧ s.cwyId = (0 : BitVec 14).toNat ∧ s.cwy.state = 3) ∧
    (let s := handOn id
     s.cwyId ≠ (1 : BitVec 14).toNat ∧ s.cwy.rejoining ≠ some 1 ∧ s.cwy.through.contains 1 = false ∧
     ((s.cport 4).ready.any (fun e => e.1 = (1 : Word)) = false) ∧ (s.cport 4).joined = true) := by
  and_intros <;> decide +kernel

/-- WallFromBelow: a child with its ID, one without, one whose lease ran out; a leaf whose copy ends. -/
theorem test_fromBelow :
    (let s := dealerOn id
     s.alive = true ∧ (4 : Fin 5) ≠ 0 ∧ (s.cport 4).run = .active ∧ (0 : BitVec 16).toNat = (s.cport 4).rx ∧
     (s.cport 4).peer ≠ 0 ∧ (s.cport 4).joined = true ∧ s.dealer = true ∧ (s.cport 4).age < s.leaseFrames) ∧
    (let s := (handOn id).modPort 4 (fun c => { c with peer := 0, joined := false, benched := false })
     (s.cport 4).peer = 0 ∧ (s.cport 4).joined = false ∧ (s.cport 4).benched = false ∧ (1 : BitVec 14) ≠ 0 ∧
     (1 : BitVec 4) ≠ 4 ∧ (1 : BitVec 4) ≠ 5 ∧ s.dealer = false) ∧
    ((handOn id).cwy.through.contains (1 : Word) = false) ∧
    (let s := (dealerOn id).modPort 4 (fun c => { c with age := 255 })
     s.leaseFrames ≤ (s.cport 4).age ∧ (s.cport 4).joined = true) ∧
    (let r : RxTrick := { id := 1, key := 0, descs := [⟨0, 1, hd 7 1, 0, [], true⟩] }
     let s := { withTricks (portOn 0 (fun c => { c with run := .active }) true) [wtrick] [] with
       cwy := { (portOn 0 (fun c => { c with run := .active }) true).cwy with state := 2, rx := [r] } }
     s.dealer = false ∧ (∀ q : Fin 5, q ≠ 0 → (s.cport q).run ≠ .active ∧ (s.cport q).ready = []) ∧ s.hif.slots = [] ∧
     s.trk.shown = [] ∧ s.trk.tricks = [wtrick] ∧ wtrick.phase = .opened ∧ s.cwy.rx = [r] ∧ r.key = wtrick.key ∧
     r.id = 1 ∧ r.readySent = false ∧ r.failed = false ∧ r.descs.length = 1 ∧ (∀ d ∈ r.descs, d.staged = true) ∧
     (∀ e ∈ s.hif.rings, e.2.held = [] ∧ e.2.cqFullLogged = false ∧ e.2.phase ≠ .draining) ∧ s.takesTrick 1 = true ∧
     (s.cport 0).run = .active ∧ (0 : BitVec 16).toNat = (s.cport 0).rx) := by and_intros <;> decide +kernel

/-- DealerCommands: a due trick whose hands are ready, one whose are not, the point passed; an ID for child 4. -/
theorem test_dealer :
    (let k : Trick := { wtrick with announced := true, phase := .staged, anchor := some 0, target := 6 }
     let s0 := dealerOn id
     let s := withTricks (({ s0 with heads := rdy.heads }.modHead 0 (fun _ => { headOn with sc := { scanFrame := 5 } })).setF
       F.CWY_WALL_CTL_REF_HD 0) [k] []
     s.attends = true ∧ s.dealer = true ∧ s.refHead = some 0 ∧ (s.head 0).beams = true ∧
     s.cwy.decided ≠ some ((s.head 0).sc.scanFrame + 1) ∧
     s.trk.tricks.filter (fun t => t.wall && t.announced && !t.wallGo) = [k] ∧ s.trick k.key = some k ∧
     (k.target - ((s.head 0).sc.scanFrame + 1)).toInt ≤ 0 ∧ s.wallReady k = false ∧
     (s.modPort 4 (fun c => { c with ready := [(1, 1)] })).wallReady k = true ∧
     (s.modCwy (fun c => { c with decided := some 6 })).cwy.decided = some ((s.head 0).sc.scanFrame + 1)) ∧
    ((0x80003FFF : Word).getLsbD 31 = true ∧ (0x3FFF : Word).getLsbD 31 = false ∧
     ((dealerOn id).setF ⟨.CWY_SETID_PATH, 0, 0, 16, 0⟩ (16384 + 3)).fld ⟨.CWY_SETID_PATH, 0, 0, 16, 0⟩ =
       16384 + ((4 : Fin 5).val - 1) ∧
     (0x80003FFF : Word).toNat % 16384 ≠ 0 ∧ (0x80003FFF : Word).toNat % 16384 ∉ (dealerOn id).cwy.rejoin) := by
  and_intros <;> decide +kernel

/-! ### Sleep -/

/-- The device in a mode, with the walker at a step. -/
def walk (m : Mode) (entry step : Nat) (f : PwrSt → PwrSt := id) : State :=
  { onRun with glob := { onRun.glob with mode := m }, pwr := f { entry := entry, step := step } }

/-- PowerSteps: idle times, with the longest tolerance; each step of an entry, its last, aborted; wakes; the exits. -/
theorem test_power :
    (let s := (walk .coast 0 0).setReg .HIF_FN_LAT 0 0 0xFFFFFFFF
     s.alive = true ∧ s.mayDoze = true ∧ s.pwr.entry = 0 ∧ s.pwr.wake = none ∧
     ∀ p < 32, s.flag (F.GPIO_PIN_WAKE_EN p) = true → s.pinLevel p ≠ s.flag (F.GPIO_PIN_WAKE_LVL p)) ∧
    (let s := (walk .doze 0 0).setReg .HIF_FN_LAT 0 0 0xFFFFFFFF
     s.glob.mode = .doze ∧ s.maySlumber = true ∧ s.pwr.entry = 0) ∧
    onRun.mayDoze = false ∧ (onRun.setF F.PWR_CTL_MAX_MODE 1).maySlumber = false ∧
    (let s := walk .coast 1 4
     s.pwr.entry = 1 ∧ s.pwr.step < 5 ∧ s.pwr.wake = none ∧ s.alive = true) ∧
    (let s := walk .doze 2 10
     s.pwr.entry = 2 ∧ s.pwr.step < 11 ∧ s.pwr.wake = none) ∧
    (let s := walk .coast 1 3 (fun w => { w with wake := some 5 })
     s.pwr.entry = 1 ∧ s.pwr.step < 4 ∧ s.pwr.wake.isSome = true) ∧
    (let s := walk .doze 2 9 (fun w => { w with wake := some 5 })
     s.pwr.entry = 2 ∧ s.pwr.step < 10 ∧ s.pwr.wake.isSome = true) ∧
    5 ≤ (walk .coast 1 5).pwr.step ∧ 11 ≤ (walk .doze 2 11).pwr.step ∧
    (1 ≤ (9 : BitVec 8).toNat ∧ (9 : BitVec 8).toNat ≤ 9 ∧ (9 : BitVec 8) ≠ 7 ∧ (9 : BitVec 8) ≠ 4) ∧
    (walk .slumber 3 0 (fun w => { w with deep := true })).pwr.step + 1 < 9 ∧
    9 ≤ (walk .slumber 3 8 (fun w => { w with deep := true })).pwr.step + 1 ∧
    7 ≤ (walk .doze 3 6).pwr.step + 1 ∧ (walk .doze 3 3).pwr.step + 1 = 4 ∧
    (walk .slumber 3 4 (fun w => { w with deep := true })).pwr.step + 1 = 5 ∧
    (walk .slumber 0 0).glob.mode = .slumber ∧ onRun.glob.mode ≠ .doze := by and_intros <;> decide +kernel

/-! ### Journal and boot -/

/-- A store in progress as `f` makes it. -/
def storeOn (f : Store → Store) : State :=
  { onRun with jrnl := { store := some (f { slot := none, origin := 1 }), boot := .done } }

/-- JournalSteps: before the snapshot, waiting for an application, its copy, and each step. -/
theorem test_journal :
    ((storeOn id).alive = true ∧ (storeOn id).jrnl.store = some { slot := none, origin := 1 } ∧
     (storeOn id).trk.queue = [] ∧ (storeOn id).jrnl.queue = [] ∧
     (withTricks (storeOn id) [] [0]).trk.queue ≠ []) ∧
    (storeOn (fun x => { x with scene := some {} })).jrnl.store =
      some { slot := none, origin := 1, scene := some {}, copied := false } ∧
    [1, 2, 3, 4, 5, 6, 7].Forall (fun k => (storeOn (fun x => { x with step := k, copied := true, scene := some {} })).jrnl.store =
      some { slot := none, origin := 1, step := k, copied := true, scene := some {} }) := by and_intros <;> decide +kernel

/-- Boot at a phase, with a valid slot 1 of SEQ 2 beside one of SEQ 1. -/
def bootAt (b : BootPhase) : State :=
  { onRun with jrnl := { boot := b, inForce := some 1, slots := #v[{ record := some 1, header := some 1 },
      { record := some 2, header := some 2, scene := some {} }] } }

/-- BootSteps: the choice, the journal skipped, no valid slot, each phase, and the scene's trick there and applied. -/
theorem test_boot :
    ((bootAt .locked).alive = true ∧ (bootAt .locked).jrnl.boot = .locked ∧ (bootAt .locked).jrnl.skip = false ∧
     (bootAt .locked).jrnl.choose ⟨true, true, true⟩ = some (1, 2) ∧
     (bootAt .locked).jrnl.choose ⟨true, false, false⟩ = none) ∧
    ((bootAt .locked).modJ (fun j => { j with skip := true })).jrnl.skip = true ∧
    (bootAt .chosen).jrnl.boot ≠ .locked ∧
    ((bootAt .chosen).jrnl.boot = .chosen ∧ (bootAt .chosen).storedScene = some {}) ∧
    ((bootAt .early).jrnl.boot = .early ∧ (bootAt .early).storedScene = some {}) ∧
    (let s := (bootAt .scene).modJ (fun j => { j with sceneKey := some 0 })
     s.jrnl.boot = .scene ∧ s.jrnl.sceneKey = some 0 ∧ s.trick 0 = none ∧
     (withTricks s [{ trick1 with owner := .boot }] []).trick 0 ≠ none) := by and_intros <;> decide +kernel

/-! ### Timers, pins and counters -/

/-- Channel 15 runs with TOP 9, as `f` makes it; `updn` is UPDN. -/
def tmrOn (f : TimerCh → TimerCh) (updn : Nat := 0) : State :=
  ((((onRun.setF (F.TMR_CTL_RUN 15) 1).setF (F.TMR_CTL_SRC 15) 0).setF (F.TMR_CTL_UPDN 15) updn).setReg .TMR_TOP 15 0 9).modTimer 15 f

/-- Captures of channel 15 from pin 0, which its function gives to the timers. -/
def capOn (f : TimerCh → TimerCh) : State :=
  (((tmrOn f).setF (F.TMR_IN_CAP_SRC 15) 1).setF (F.TMR_IN_CAP_EDGE 15) 0).setF (F.GPIO_PIN_FN_EN 0) 4

/-- TimerChannels: counts below and at TOP, up and down; captures with room and without; a queue with entries. -/
theorem test_timers :
    (let s := tmrOn (fun c => { c with count := 8 })
     s.tmrAlive = true ∧ s.tmr.carryActs = [] ∧ s.tmr.carryTicks = [] ∧ s.tmrSourceOk 15 = true ∧
     s.flag (F.TMR_IN_GATE_EN 15) = false ∧ s.fld (F.TMR_CTL_MATCH_ACT 15) = 0 ∧ s.fld (F.TMR_CTL_OVF_ACT 15) = 0 ∧
     s.tmrLinked 15 = [] ∧ s.flag (F.TMR_CTL_UPDN 15) = false ∧ (s.timer 15).count ≠ (s.useReg .TMR_TOP 15 0).toNat ∧
     (s.timer 15).count ≠ 0xFFFFFF ∧ s.attends = true) ∧
    (let s := tmrOn (fun c => { c with count := 9 })
     (s.timer 15).count = (s.useReg .TMR_TOP 15 0).toNat) ∧
    ((tmrOn (fun c => { c with count := 0xFFFFFF })).timer 15).count = 0xFFFFFF ∧
    (let s := tmrOn (fun c => { c with count := 8 }) 1
     s.tmrSourceOk 15 = true ∧ s.flag (F.TMR_CTL_UPDN 15) = true ∧ (s.timer 15).down = false ∧
     (s.timer 15).count < max 1 (s.useReg .TMR_TOP 15 0).toNat) ∧
    (let s := tmrOn (fun c => { c with count := 1, down := true }) 1
     s.flag (F.TMR_CTL_UPDN 15) = true ∧ (s.timer 15).down = true ∧ 1 ≤ (s.timer 15).count ∧ (s.timer 15).count < 2 ^ 24) ∧
    (let s := capOn (fun c => { c with caps := [1, 2, 3] })
     s.tmrAlive = true ∧ s.fld (F.TMR_IN_CAP_SRC 15) = 1 ∧ (s.tmrInPin (s.fld (F.TMR_IN_CAP_IN 15))).isSome = true ∧
     s.fld (F.TMR_IN_CAP_EDGE 15) ≠ 3 ∧ (s.timer 15).caps.length < 4 ∧ (s.timer 15).caps = 1 :: [2, 3]) ∧
    4 ≤ ((capOn (fun c => { c with caps := [1, 2, 3, 4] })).timer 15).caps.length ∧ ((tmrOn id).timer 15).caps = [] := by
  and_intros <;> decide +kernel

/-- PinsAndCounters: a pattern that holds and one that does not; counter 31 enabled, and its addends at the wrap; a
counter page of function 0. -/
theorem test_pins :
    (let s := onRun.setF (F.GPIO_PM_CTL_EN 7) 1
     s.attends = true ∧ ({ s with gpio := { s.gpio with pins := 0 } } : State).pmCond 7 = true) ∧
    (({ onRun with gpio := { onRun.gpio with pins := 0 } } : State).pmCond 7 = false) ∧
    (let s := (onRun.setF (F.PMC_CFG_EN 31) 1).setF (F.PMC_CFG_CHAIN 31) 0
     s.flag (F.PMC_CFG_EN 31) = true ∧ s.flag (F.PMC_CFG_CHAIN 31) = false ∧
     s.pmc.count[(31 : Fin 32)].toNat + (0xFFFFFFFFFFFF : BitVec 48).toNat < 2 ^ 48 ∧
     2 ^ 48 ≤ (s.pmc.count.set 31 1)[(31 : Fin 32)].toNat + (0xFFFFFFFFFFFF : BitVec 48).toNat ∧ ¬ (31 : Fin 32).val + 1 < 32) ∧
    onRun.flag (F.PMC_CFG_EN 31) = false ∧
    (let s := (onRun.setReg .PMC_USER_EN 0 0 1).setF (F.PMC_CFG_OWNER 31) 0
     s.fnExists 0 = true ∧ (s.reg .PMC_USER_EN 0 0).getLsbD (0 : Fin 16) = true ∧ s.fld (F.PMC_CFG_OWNER 31) = (0 : Fin 16).val ∧
     ({ s with pmc := { s.pmc with userLatch := [(31, 5)] } } : State).pmc.userLatch.find? (fun e => e.1 = 0 * 32 + 31) =
       some (31, 5) ∧
     (s.setF (F.PMC_CFG_OWNER 31) 15).fld (F.PMC_CFG_OWNER 31) ≠ (0 : Fin 16).val) ∧
    onRun.headPresent 5 = true := by and_intros <;> decide +kernel

/-! ### Freeze and readout -/

/-- The device in FREEZE, entered from `m`. -/
def frozenIn (m : Mode) (f : Glob → Glob := id) : State :=
  { rdy with glob := f { rdy.glob with mode := .freeze, frozenFrom := m } }

/-- FreezeLatch: a pulse that is long enough and one that is not, the key, each state of the sources, the restart. -/
theorem test_freeze : rdy.linked = true ∧ rdy.sleeping = false ∧ 50 ≤ 50 ∧ 49 < 50 ∧
    ((0x6D1A0001 : Word).toNat / 65536 = 0x6D1A ∧ (0x6D1A0001 : Word).getLsbD 0 = true ∧
     (0x6D1A0002 : Word).getLsbD 0 = false ∧ (0x6D1A0002 : Word).getLsbD 1 = true ∧
     (0x6D190001 : Word).toNat / 65536 ≠ 0x6D1A) ∧
    (let s : State := { rdy with glob := { rdy.glob with frzCwy := true } }
     s.frzAny = true ∧ s.frozen = false ∧ s.trk.queue = []) ∧
    ((frozenIn .run (fun g => { g with frzPin := true })).frzAny = true ∧ (frozenIn .run).frozen = true ∧
     (frozenIn .run).frzAny = false ∧ (frozenIn .run).linked = true) ∧
    (decodeReg (0xFFFFFC / 4 * 4) ≠ some (.DBG_FRZ_CTL, 0, 0) ∧ decodeReg (0xFFFFFC / 4 * 4) ≠ some (.DBG_RD_ADDR, 0, 0)) ∧
    (frozenIn .slumber (fun g => { g with restarting := true })).thawsImage = true ∧
    (let s := frozenIn .fallback (fun g => { g with restarting := true })
     s.glob.hostLossWake = false ∧ s.glob.restarting = true ∧ s.glob.hostLossHeld = false ∧ s.hif.slots = [] ∧ s.trk.shown = [] ∧
     (s.head 1).enabled = true ∧ (s.head 1).disabling = false ∧
     (s.modHead 1 (fun h => { h with disabling := true })).frozen = true) := by and_intros <;> decide +kernel

/-- Readout: the last program word of sequencer 7, the last word below the pool, and a space that is not there. -/
theorem test_readout :
    (let s := (frozenIn .run).setReg .DBG_RD_ADDR 0 0 0x3001FFFF
     s.linked = true ∧ s.frozen = true ∧ (s.reg .DBG_RD_ADDR 0 0).toNat / 2 ^ 28 = 3 ∧
     (s.reg .DBG_RD_ADDR 0 0).toNat % 2 ^ 24 / 16384 = (7 : Fin 8).val) ∧
    ((0x107FFFFF : Word).toNat / 2 ^ 28 = 1 ∧ 4 * ((0x107FFFFF : Word).toNat % 2 ^ 24) < (frozenIn .run).tarnTop) ∧
    6 ≤ (0x60000000 : Word).toNat / 2 ^ 28 ∧ rdy.frozen = false ∧ rdy.sleeping = false := by and_intros <;> decide +kernel

/-! ### The machine as a whole -/

/-- StepRuns: the queue of the reset state is empty; StepKeepsMemoryForm, MemoryFormAtReset: memory in form with a trick
that holds a page. -/
theorem test_infra : State.reset.pending = [] ∧ onRun.alive = true ∧
    ((withTricks onRun [written] []).mem.wf = true ∧ ∀ k ∈ (withTricks onRun [written] []).trk.tricks, ∀ p ∈ k.pages,
      p.img.wf = true) := by and_intros <;> decide +kernel

/-- StepKeepsMemoryForm: a step answers a next state. -/
theorem test_stepNext : ∃ t, step { onRun with pending := [.bar4Read 0 1] } = .next t := ⟨_, rfl⟩

/-- NothingMovesWhenOff, FrozenUnitsStand: states and commands that meet their premises. -/
theorem test_standing : offNow.glob.mode = .off ∧
    (∀ x r, Instr.dozeIdleExpiry ≠ .pwrOkRise x r) ∧ Instr.dozeIdleExpiry ≠ .pwrOkFall ∧
    (∀ ns x, Instr.dozeIdleExpiry ≠ .resetNPulse ns x) ∧ Instr.dozeIdleExpiry ≠ .perstNAssert ∧
    Instr.dozeIdleExpiry ≠ .pcieLinkDown ∧ (frozenIn .run).glob.mode = .freeze ∧ (frozenIn .run).glob.heldInReset = false ∧
    (∀ x, Instr.dozeIdleExpiry ≠ .watchdogExpiry x) ∧ Instr.dozeIdleExpiry ≠ .freezeRestartDone ∧
    (∀ p, Instr.dozeIdleExpiry ≠ .blockLockLoss p) ∧
    ({ onRun with glob := { onRun.glob with mode := .bringUp, heldInReset := true } } : State).glob.heldInReset = true := by
  refine ⟨rfl, ?_, ?_, ?_, ?_, ?_, rfl, rfl, ?_, ?_, ?_, rfl⟩ <;> intros <;> simp

end Sys2Proof.Machine
end

section
/-!
SUPPORT. Flags and fields of a register after another field of it was written, and which links run where the
unit logic runs.
-/

set_option Elab.async false  -- the joined text is large: no thread per declaration

namespace Sys2Proof.Machine

/-- Where the unit logic runs, the link logic does (R28, R55). -/
theorem State.linked_of_alive {s : State} (h : s.alive = true) : s.linked = true := by
  simp only [State.alive, Bool.and_eq_true] at h
  simpa [State.linked] using h.1

/-- A flag of a register at another address reads what it read. -/
theorem State.flag_setF_ne (s : State) {f g : Fld} (h : g.id.addr g.i g.j ≠ f.id.addr f.i f.j) (v : Nat) :
    (s.setF f v).flag g = s.flag g := by
  simp only [State.flag, s.fld_setF_ne h]

/-- Two fields of one register with no bit in common. -/
abbrev Fld.Apart (f g : Fld) : Prop :=
  f.hi < 32 ∧ g.id = f.id ∧ g.i = f.i ∧ g.j = f.j ∧ (g.hi < f.lo ∨ f.hi < g.lo)

theorem State.fld_setF_apart (s : State) {f g : Fld} (h : f.Apart g) (v : Nat) : (s.setF f v).fld g = s.fld g := by
  obtain ⟨hw, hr, hi, hj, hd⟩ := h
  exact s.fld_setF_disjoint f g hw hr hi hj hd v

theorem State.flag_of_fld {s t : State} {f : Fld} (h : t.fld f = s.fld f) : t.flag f = s.flag f := by
  simp only [State.flag, h]

/-- A one-bit field that was raised is set. -/
theorem State.flag_raiseF_self (s : State) {f : Fld} (h : f.hi < 32) (hw : f.hi = f.lo) :
    (s.raiseF f).flag f = true := by
  simp [State.flag, State.raiseF, s.fld_setF_self f h, hw]

theorem State.flag_withJrnl (s : State) (j : Journal) (f : Fld) :
    { s with jrnl := j }.flag f = s.flag f := rfl

end Sys2Proof.Machine
end

section
/-!
PROOF. The state after reset (O56).
-/

set_option Elab.async false  -- the joined text is large: no thread per declaration

namespace Sys2Proof.Machine

/-- Reset leaves every sequencer HALTED, the STATE of EN 0, and so none of them IDLE (R16). -/
theorem State.reset_seq_halted (q : Fin 8) : (State.reset.seq q).run = .halted := by
  revert q; decide

/-- Refutes O56: the statement asks that every sequencer be IDLE after reset. Sequencer 0 is HALTED. -/
theorem not_afterReset : ¬ Obligations.AfterReset := by
  unfold Obligations.AfterReset
  rintro ⟨-, -, -, -, -, -, -, -, -, -, -, -, -, -, -, -, seqs, -⟩
  exact absurd ((State.reset_seq_halted 0).symm.trans (seqs 0)) (by decide)

end Sys2Proof.Machine
end

section
/-!
PROOF. Locks, the reference clock and temperature (O13): what each command of R21 to R25 and R64 leaves.
-/

set_option Elab.async false  -- the joined text is large: no thread per declaration

namespace Sys2Proof.Machine

/-! ### Locks and failures of units (R7, R21) -/

/-- With the Causeway disabled no port starts to train. -/
theorem State.portsStart_of_off {s : State} (h : s.flag F.CWY_CTL_EN = false) : s.portsStart = s :=
  foldl_same _ s _ (fun p _ => by simp [State.portStart, State.portMayTrain, h])

theorem State.flag_cwyEn_locked (s : State) :
    ((s.raiseF F.GLB_CLK_STATUS_ROOT_LOCK).raiseF F.GLB_CLK_STATUS_AON_OK).flag F.CWY_CTL_EN = s.flag F.CWY_CTL_EN :=
  (State.flag_setF_ne _ (by decide) 1).trans (s.flag_setF_ne (by decide) 1)

theorem State.pllLock_root {s : State} (h : s.alive = true) (hc : s.flag F.CWY_CTL_EN = false) : s.pllLock .root =
    { (s.raiseF F.GLB_CLK_STATUS_ROOT_LOCK).raiseF F.GLB_CLK_STATUS_AON_OK with
      jrnl := { s.jrnl with boot := if s.jrnl.boot = .start then .locked else s.jrnl.boot } } := by
  simp only [State.pllLock, h, Bool.not_true, Bool.false_eq_true, if_false, State.raiseF_jrnl]
  by_cases hb : s.jrnl.boot = .start
  · simp only [hb, if_true]
    exact State.portsStart_of_off ((s.flag_cwyEn_locked).trans hc)
  · simp only [hb, if_false]
    exact State.portsStart_of_off ((s.flag_cwyEn_locked).trans hc)

/-- A PLL that was locked loses its lock: its bit falls and a record is made (R7, log entry 59). -/
theorem State.pllLoss_pll {s : State} (h : s.alive = true) :
    (s.flag F.GLB_CLK_STATUS_ROOT_LOCK = true →
      Recorded (s.setF F.GLB_CLK_STATUS_ROOT_LOCK 0) (s.pllLoss (.pll .root))) ∧
    (s.flag F.GLB_CLK_STATUS_ACLK48_LOCK = true →
      Recorded (s.setF F.GLB_CLK_STATUS_ACLK48_LOCK 0) (s.pllLoss (.pll .aclk48))) ∧
    (s.flag F.GLB_CLK_STATUS_ACLK44_LOCK = true →
      Recorded (s.setF F.GLB_CLK_STATUS_ACLK44_LOCK 0) (s.pllLoss (.pll .aclk44))) := by
  refine ⟨fun hl => ?_, fun hl => ?_, fun hl => ?_⟩ <;>
  · simp only [State.pllLoss, h, hl, Bool.and_self, if_true]
    exact State.faultDev_recorded _ _ _ _ _

/-! ### The reference clock (R24, R25) -/

theorem State.refRecord_recorded (s : State) (lost : Bool) : Recorded s (s.refRecord lost) :=
  s.faultDev_recorded _ _ _ _

/-- Losing the PCIe reference in use starts the holdover. -/
theorem State.refLost_holdover {s : State} (h : s.linked = true) (hs : s.flag F.GLB_CLK_STATUS_REF_STRAP = true)
    (hl : s.glob.pcieRefLost = false) (ht : s.glob.tracking = false) (hr : s.glob.ref = .locked) : s.refLost =
    (({ s with glob := { s.glob with pcieRefLost := true, ref := .holdover, refCwy := false } }.raiseF
      F.GLB_CLK_STATUS_REF_LOST).raiseF F.GLB_CLK_STATUS_HOLDOVER).refRecord true := by
  simp only [State.refLost, h, hs, hl, State.raiseF_glob, ht, hr, Bool.not_true, Bool.or_false, Bool.false_eq_true,
    if_false, ne_eq, not_true_eq_false, decide_false, Bool.false_and]
  rfl

theorem State.slewEnd_away {s : State} (h : s.linked = true) (hr : s.glob.ref = .slewAway)
    (hc : s.glob.refCwy = false) : s.slewEnd = ({ s with glob := { s.glob with ref := .locked } }.setF
      F.GLB_CLK_STATUS_ROOT_SRC (b2n (s.flag F.GLB_CLK_STATUS_REF_STRAP && !s.glob.pcieRefLost))) := by
  simp only [State.slewEnd, h, hr, State.setRef, State.setF_glob, hc, Bool.not_true, Bool.false_eq_true, if_false]

theorem State.slewEnd_to {s : State} (h : s.linked = true) (hr : s.glob.ref = .slewTo) : s.slewEnd =
    ({ s with glob := { s.glob with ref := .locked } }.setF F.GLB_CLK_STATUS_ROOT_SRC
      (if s.glob.tracking then 2 else b2n (s.flag F.GLB_CLK_STATUS_REF_STRAP && !s.glob.pcieRefLost))).setF
        F.GLB_CLK_STATUS_HOLDOVER 0 := by
  simp only [State.slewEnd, h, hr, State.setRef, Bool.not_true, Bool.false_eq_true, if_false]

/-- The PCIe reference returns to a root that does not follow the Causeway: it slews to it. -/
theorem State.refReturn_slew {s : State} (h : s.linked = true) (hl : s.glob.pcieRefLost = true)
    (ht : s.glob.tracking = false) (hc : s.glob.refCwy = false) : s.refReturn =
    { s with glob := { s.glob with pcieRefLost := false, ref := .slewTo } }.refRecord false := by
  simp only [State.refReturn, h, hl, ht, hc, State.setRef, Bool.not_true, Bool.or_false, Bool.and_false,
    Bool.false_eq_true, if_false]

/-! ### Temperature (R64) -/

/-- The fold of `max` from `b` over a list bounds `b` and the list, and is one of them. -/
theorem foldl_max_spec {α : Type} [LinearOrder α] (l : List α) (b : α) :
    b ≤ l.foldl max b ∧ (∀ x ∈ l, x ≤ l.foldl max b) ∧ (l.foldl max b = b ∨ l.foldl max b ∈ l) := by
  induction l generalizing b with
  | nil => simp
  | cons a l ih =>
    obtain ⟨hb, hl, hm⟩ := ih (max b a)
    refine ⟨(le_max_left b a).trans hb, ?_, ?_⟩
    · rintro x (_ | ⟨_, hx⟩)
      · exact (le_max_right b a).trans hb
      · exact hl x hx
    · rw [List.foldl_cons]
      rcases hm with hm | hm
      · rcases max_choice b a with e | e
        · exact .inl (hm.trans e)
        · exact .inr (List.mem_cons.2 (.inl (hm.trans e)))
      · exact .inr (List.mem_cons_of_mem _ hm)

theorem reading_bounds (x : BitVec 11) : -1024 ≤ x.toInt ∧ x.toInt ≤ 1023 := by
  have h1 := BitVec.le_toInt x
  have h2 := BitVec.toInt_lt (x := x)
  norm_num at h1 h2
  omega

theorem mem_readings {r : Vector (BitVec 11) 8} {x : Int} :
    x ∈ r.toList.map BitVec.toInt ↔ ∃ k : Fin 8, r[k].toInt = x := by
  rw [List.mem_map]
  constructor
  · rintro ⟨y, hy, rfl⟩
    obtain ⟨i, hi, rfl⟩ := List.mem_iff_getElem.1 hy
    exact ⟨⟨i, by simpa using hi⟩, by simp⟩
  · rintro ⟨k, rfl⟩
    exact ⟨r[k], by simp, rfl⟩

/-- The first number of `tempRange` is the highest reading. -/
theorem tempRange_high (r : Vector (BitVec 11) 8) :
    (∀ k : Fin 8, r[k].toInt ≤ (tempRange r).1) ∧ ∃ k : Fin 8, r[k].toInt = (tempRange r).1 := by
  obtain ⟨-, hl, hm⟩ : _ ∧ (∀ x ∈ r.toList.map BitVec.toInt, x ≤ (tempRange r).1) ∧
    ((tempRange r).1 = -1024 ∨ (tempRange r).1 ∈ r.toList.map BitVec.toInt) := foldl_max_spec _ _
  have hk : ∀ k : Fin 8, r[k].toInt ≤ (tempRange r).1 := fun k => hl _ (mem_readings.2 ⟨k, rfl⟩)
  refine ⟨hk, hm.elim (fun e => ⟨0, le_antisymm (hk 0) (e ▸ (reading_bounds r[0]).1)⟩) mem_readings.1⟩

/-- The second number of `tempRange` is the lowest reading. -/
theorem tempRange_low (r : Vector (BitVec 11) 8) :
    (∀ k : Fin 8, (tempRange r).2 ≤ r[k].toInt) ∧ ∃ k : Fin 8, r[k].toInt = (tempRange r).2 := by
  obtain ⟨-, hl, hm⟩ : _ ∧ (∀ x ∈ r.toList.map BitVec.toInt, (tempRange r).2 ≤ x) ∧
    ((tempRange r).2 = 1023 ∨ (tempRange r).2 ∈ r.toList.map BitVec.toInt) := foldl_max_spec (α := Intᵒᵈ) _ _
  have hk : ∀ k : Fin 8, (tempRange r).2 ≤ r[k].toInt := fun k => hl _ (mem_readings.2 ⟨k, rfl⟩)
  refine ⟨hk, hm.elim (fun e => ⟨0, le_antisymm (e ▸ (reading_bounds r[0]).2) (hk 0)⟩) mem_readings.1⟩

/-- An 11-bit field reads back the integer that was wrapped into it. -/
theorem signed_wrapInt {x : Int} (h : -1024 ≤ x ∧ x ≤ 1023) : signed 11 (wrapInt 11 x % 2 ^ 11) = x := by
  simp only [signed, wrapInt]
  norm_num
  split <;> omega

/-- The registers after a measurement: TEMP_NOW and TEMP_MAX, and the flags of the excursions (R64). -/
def State.tempNoted (s : State) (r : Vector (BitVec 11) 8) : State :=
  let top := max (tempRange r).1 (signed 11 (s.fld F.GLB_TEMP_TEMP_MAX))
  let s := (s.setF F.GLB_TEMP_TEMP_NOW (wrapInt 11 (tempRange r).1)).setF F.GLB_TEMP_TEMP_MAX (wrapInt 11 top)
  let s := if 500 < (tempRange r).1 then s.raiseF F.GLB_TEMP_OVER else s
  if (tempRange r).2 < -220 then s.raiseF F.GLB_TEMP_UNDER else s

/-- A measurement writes GLB_TEMP, records the excursions that begin, and keeps whether each stands. -/
theorem State.tempMeasure_noted {s : State} (h : s.alive = true) (r : Vector (BitVec 11) 8) :
    ∃ v, Recorded (s.tempNoted r) v ∧ s.tempMeasure r = { v with glob := { v.glob with
      tempOver := Decidable.decide (500 < (tempRange r).1)
      tempUnder := Decidable.decide ((tempRange r).2 < -220) } } := by
  have hf : ∀ (u : State) (b : Bool) (d : Nat), Recorded u (if b then u.faultDev 0x01 unitGlb 0xFF d else u) := by
    intro u b d
    split
    · exact u.faultDev_recorded _ _ _ _
    · exact .refl u
  simp only [State.tempMeasure, h, Bool.not_true, Bool.false_eq_true, if_false, decide_eq_true_eq]
  exact ⟨_, (hf _ _ _).trans (hf _ _ _), rfl⟩

/-- A measurement changes no register but GLB_TEMP. -/
theorem State.tempNoted_frame (s : State) (r : Vector (BitVec 11) 8) :
    s.tempNoted r = { s with regs := (s.tempNoted r).regs } ∧
      RegsKept [RegId.addr .GLB_TEMP 0 0] s (s.tempNoted r) := by
  have hset : ∀ (u : State) (f : Fld) (v : Nat), f.id.addr f.i f.j = RegId.addr .GLB_TEMP 0 0 →
      RegsKept [RegId.addr .GLB_TEMP 0 0] u (u.setF f v) := fun u f v e => .setReg u _ _ _ _ (by simp [e])
  have h2 := (hset s F.GLB_TEMP_TEMP_NOW (wrapInt 11 (tempRange r).1) rfl).trans (hset _ F.GLB_TEMP_TEMP_MAX
    (wrapInt 11 (max (tempRange r).1 (signed 11 (s.fld F.GLB_TEMP_TEMP_MAX)))) rfl)
  unfold State.tempNoted
  dsimp only
  split <;> split
  · exact ⟨rfl, (h2.trans (hset _ F.GLB_TEMP_OVER 1 rfl)).trans (hset _ F.GLB_TEMP_UNDER 1 rfl)⟩
  · exact ⟨rfl, h2.trans (hset _ F.GLB_TEMP_UNDER 1 rfl)⟩
  · exact ⟨rfl, h2.trans (hset _ F.GLB_TEMP_OVER 1 rfl)⟩
  · exact ⟨rfl, h2⟩

/-- Raising a flag on a condition leaves a field apart from it. -/
theorem State.fld_raiseIf_apart (s : State) (c : Prop) [Decidable c] {f g : Fld} (h : f.Apart g) :
    (if c then s.raiseF f else s).fld g = s.fld g := by
  split
  · exact s.fld_setF_apart h 1
  · rfl

/-- A flag raised on a condition is set where it was, or where the condition holds. -/
theorem State.flag_raiseIf_self (s : State) (c : Prop) [Decidable c] {f : Fld} (h : f.hi < 32) (hw : f.hi = f.lo) :
    (if c then s.raiseF f else s).flag f = true ↔ s.flag f = true ∨ c := by
  split
  · next hc => simp [s.flag_raiseF_self h hw, hc]
  · next hc => simp [hc]

theorem State.tempNoted_now (s : State) (r : Vector (BitVec 11) 8) :
    signed 11 ((s.tempNoted r).fld F.GLB_TEMP_TEMP_NOW) = (tempRange r).1 := by
  obtain ⟨k, hk⟩ := (tempRange_high r).2
  simp only [State.tempNoted]
  rw [State.fld_raiseIf_apart _ _ (by decide), State.fld_raiseIf_apart _ _ (by decide),
    State.fld_setF_apart _ (by decide), State.fld_setF_self _ _ (by decide)]
  exact signed_wrapInt (hk ▸ reading_bounds r[k])

theorem State.tempNoted_over (s : State) (r : Vector (BitVec 11) 8) :
    (s.tempNoted r).flag F.GLB_TEMP_OVER = true ↔ s.flag F.GLB_TEMP_OVER = true ∨ 500 < (tempRange r).1 := by
  simp only [State.tempNoted]
  rw [State.flag_of_fld (State.fld_raiseIf_apart _ _ (by decide)), State.flag_raiseIf_self _ _ (by decide) rfl,
    State.flag_of_fld (State.fld_setF_apart _ (by decide) _), State.flag_of_fld (s.fld_setF_apart (by decide) _)]

theorem State.tempNoted_under (s : State) (r : Vector (BitVec 11) 8) :
    (s.tempNoted r).flag F.GLB_TEMP_UNDER = true ↔ s.flag F.GLB_TEMP_UNDER = true ∨ (tempRange r).2 < -220 := by
  simp only [State.tempNoted]
  rw [State.flag_raiseIf_self _ _ (by decide) rfl, State.flag_of_fld (State.fld_raiseIf_apart _ _ (by decide)),
    State.flag_of_fld (State.fld_setF_apart _ (by decide) _), State.flag_of_fld (s.fld_setF_apart (by decide) _)]

/-- Some reading is above a bound where the highest is, and below one where the lowest is. -/
theorem tempRange_excursion (r : Vector (BitVec 11) 8) (b : Int) :
    (b < (tempRange r).1 ↔ ∃ k : Fin 8, b < r[k].toInt) ∧ ((tempRange r).2 < b ↔ ∃ k : Fin 8, r[k].toInt < b) := by
  obtain ⟨hi, ⟨i, ei⟩⟩ := tempRange_high r
  obtain ⟨lo, ⟨j, ej⟩⟩ := tempRange_low r
  exact ⟨⟨fun h => ⟨i, ei ▸ h⟩, fun ⟨k, h⟩ => h.trans_le (hi k)⟩,
    ⟨fun h => ⟨j, ej ▸ h⟩, fun ⟨k, h⟩ => (lo k).trans_lt h⟩⟩

/-- What a measurement leaves: the highest reading, the excursions, and beside them fault records (R64). -/
theorem State.tempMeasure_spec {s t : State} {rd : Vector (BitVec 11) 8} (h : s.alive = true)
    (ht : t = s.tempMeasure rd) :
    signed 11 (t.fld F.GLB_TEMP_TEMP_NOW) = (tempRange rd).1 ∧
    t.glob = { s.glob with tempOver := t.glob.tempOver, tempUnder := t.glob.tempUnder } ∧
    (t.glob.tempOver = true ↔ ∃ k : Fin 8, 500 < rd[k].toInt) ∧
    (t.glob.tempUnder = true ↔ ∃ k : Fin 8, rd[k].toInt < -220) ∧
    (t.flag F.GLB_TEMP_OVER = true ↔ s.flag F.GLB_TEMP_OVER = true ∨ t.glob.tempOver = true) ∧
    (t.flag F.GLB_TEMP_UNDER = true ↔ s.flag F.GLB_TEMP_UNDER = true ∨ t.glob.tempUnder = true) ∧
    t = { s with regs := t.regs, glob := t.glob, pba := t.pba, dbg := t.dbg, pmc := t.pmc, out := t.out } ∧
    RegsKept (RegId.addr .GLB_TEMP 0 0 :: faultRegs) s t := by
  obtain ⟨v, hv, e⟩ := State.tempMeasure_noted h rd
  obtain ⟨hframe, hregs⟩ := s.tempNoted_frame rd
  rw [e] at ht
  have hfld : ∀ f : Fld, f.id.addr f.i f.j ∉ faultRegs → t.fld f = (s.tempNoted rd).fld f := fun f hf => by
    rw [ht]; exact hv.fld hf
  have hover : t.glob.tempOver = Decidable.decide (500 < (tempRange rd).1) := by rw [ht]
  have hunder : t.glob.tempUnder = Decidable.decide ((tempRange rd).2 < -220) := by rw [ht]
  refine ⟨?_, ?_, ?_, ?_, ?_, ?_, ?_, ?_⟩
  · rw [hfld _ (by decide)]; exact s.tempNoted_now rd
  · rw [ht, hv.glob, hframe]
  · rw [hover, decide_eq_true_eq]; exact (tempRange_excursion rd 500).1
  · rw [hunder, decide_eq_true_eq]; exact (tempRange_excursion rd (-220)).2
  · rw [hover, decide_eq_true_eq, State.flag_of_fld (hfld _ (by decide))]; exact s.tempNoted_over rd
  · rw [hunder, decide_eq_true_eq, State.flag_of_fld (hfld _ (by decide))]; exact s.tempNoted_under rd
  · rw [ht, hv.1, hframe]
  · rw [ht]
    exact (hregs.mono (by simp)).trans (hv.2.1.mono (by simp +contextual))

/-- With the Causeway disabled, the locked root changes its status and the boot phase alone (R21, R426). -/
theorem State.pllLock_root_spec {s t : State} (h : s.alive = true) (hc : s.flag F.CWY_CTL_EN = false)
    (ht : t = s.pllLock .root) :
    t = { s with regs := t.regs, jrnl := { s.jrnl with
      boot := if s.jrnl.boot = .start then .locked else s.jrnl.boot } } ∧
    RegsKept [RegId.addr .GLB_CLK_STATUS 0 0] s t ∧ t.flag F.GLB_CLK_STATUS_ROOT_LOCK = true := by
  rw [State.pllLock_root h hc] at ht
  refine ⟨by rw [ht]; rfl, ?_, ?_⟩
  · rw [ht]
    exact (RegsKept.setReg s _ _ _ _ (by decide)).trans
      (RegsKept.setReg (s.raiseF F.GLB_CLK_STATUS_ROOT_LOCK) _ _ _ _ (by decide))
  · rw [ht, State.flag_withJrnl]
    exact (State.flag_of_fld (State.fld_setF_apart _ (by decide) 1)).trans (s.flag_raiseF_self (by decide) rfl)

/-- Settles O13, command by command: a record is made by `faultDev`, which changes fault records alone. -/
theorem clocksAndTemperature : Obligations.ClocksAndTemperature := by
  unfold Obligations.ClocksAndTemperature
  intro s unit rd h pcie
  have hl : s.linked = true := State.linked_of_alive h
  obtain ⟨lossRoot, loss48, loss44⟩ := State.pllLoss_pll h
  refine ⟨?_, ?_, fun hc => ⟨_, rfl, State.pllLock_root_spec h hc rfl⟩, fun f => ⟨_, rfl, lossRoot f⟩,
    fun f => ⟨_, rfl, loss48 f⟩, fun f => ⟨_, rfl, loss44 f⟩, ⟨_, rfl, ?_⟩, ⟨_, rfl, ?_⟩, fun hp ht hr => ⟨_, rfl, ?_⟩,
    fun hr => ?_, fun hr hc => congrArg Host.Outcome.next (State.slewEnd_away hl hr hc),
    fun hr => congrArg Host.Outcome.next (State.slewEnd_to hl hr),
    fun hr ht hc => ⟨_, rfl, ?_⟩, ⟨_, rfl, ?_⟩⟩
  · exact congrArg (fun t : State => Host.Outcome.next t.follow) (by simp [State.pllLock, h])
  · exact congrArg (fun t : State => Host.Outcome.next t.follow) (by simp [State.pllLock, h])
  · simp only [State.pllLoss, h, if_true]; exact s.faultDev_recorded _ _ _ _
  · simp only [State.pllLoss, h, if_true]; exact s.faultDev_recorded _ _ _ _
  · obtain ⟨hs, hlost⟩ : s.flag F.GLB_CLK_STATUS_REF_STRAP = true ∧ s.glob.pcieRefLost = false := by
      simpa [pcie] using hp
    rw [State.refLost_holdover hl hs hlost ht hr]
    exact State.refRecord_recorded _ _
  · exact congrArg Host.Outcome.next (by simp [State.holdoverEnd, hl, hr, State.setRef])
  · rw [State.refReturn_slew hl hr ht hc]
    exact State.refRecord_recorded _ _
  · obtain ⟨hnow, hrest⟩ := State.tempMeasure_spec (rd := rd) h rfl
    obtain ⟨hle, k, hk⟩ := tempRange_high rd
    exact ⟨fun k => (hle k).trans_eq hnow.symm, ⟨k, hk.trans hnow.symm⟩, hrest⟩

end Sys2Proof.Machine
end

section
/-!
PROOF. Writes that fail, NumVFs and the loss of the host (O15): what a log entry changes, and what the expiry
does to each head.
-/

set_option Elab.async false  -- the joined text is large: no thread per declaration

namespace Sys2Proof.Machine

/-- Awake unit logic notes no wake (R405, R407). -/
theorem State.noteWake_attends {s : State} (h : s.attends = true) (src : Nat) : s.noteWake src = s := by
  simp only [State.attends, State.alive, State.sleeping, Bool.and_eq_true, Bool.not_eq_true', Bool.or_eq_false_iff,
    decide_eq_false_iff_not] at h
  obtain ⟨⟨-, hf⟩, ⟨⟨hd, hs⟩, h1⟩, h2⟩ := h
  simp [State.noteWake, hf, hd, hs, h1, h2]

theorem State.alive_of_attends {s : State} (h : s.attends = true) : s.alive = true := by
  simp only [State.attends, Bool.and_eq_true] at h
  exact h.1

theorem State.notSleeping_of_attends {s : State} (h : s.attends = true) : s.sleeping = false := by
  simp only [State.attends, Bool.and_eq_true, Bool.not_eq_true'] at h
  exact h.2

/-! ### The violation log (R104 to R106) -/

/-- `t` is `s` but for counts, messages and the registers of `ex`. -/
def CountedBut (ex : List Nat) (s t : State) : Prop :=
  t = { s with regs := t.regs, pba := t.pba, pmc := t.pmc, out := t.out } ∧ RegsKept ex s t ∧ Signalled s t

theorem CountedBut.trans {ex : List Nat} {s t u : State} (h : CountedBut ex s t) (k : CountedBut ex t u) :
    CountedBut ex s u := by
  obtain ⟨h1, h2, h3⟩ := h
  obtain ⟨k1, k2, k3⟩ := k
  exact ⟨by rw [k1, h1], h2.trans k2, h3.trans k3⟩

theorem CountedBut.mono {ex ey : List Nat} {s t : State} (h : CountedBut ex s t) (k : ∀ a ∈ ex, a ∈ ey) :
    CountedBut ey s t := ⟨h.1, h.2.1.mono k, h.2.2⟩

theorem Counted.but {ex : List Nat} {s t : State} (h : Counted s t) (k : RegId.addr .PMC_OVF 0 0 ∈ ex) :
    CountedBut ex s t := ⟨h.1, h.2.1.mono (by simpa using k), h.2.2⟩

theorem CountedBut.setF {ex : List Nat} (s : State) (f : Fld) (v : Nat) (h : f.id.addr f.i f.j ∈ ex) :
    CountedBut ex s (s.setF f v) := ⟨rfl, RegsKept.setReg s _ _ _ _ h, .refl _⟩

theorem Counted.hostWrite (s : State) (fn addr : Nat) (bs : List Byte) : Counted s (s.hostWrite fn addr bs) :=
  (Counted.emit s _).trans (State.count_counted _ _ _ _ _)

/-- BAR0 addresses of what a log entry of function `f` changes beside VLG_TOTAL. -/
def logRegs (f : Fin 16) : List Nat :=
  [RegId.addr .VLG_SEQ f 0, RegId.addr .VLG_DROP f 0, RegId.addr .PMC_OVF 0 0]

theorem vlgTotal_notMem_logRegs (f : Fin 16) : RegId.addr .VLG_TOTAL f 0 ∉ logRegs f := by
  revert f; decide

theorem vlgTotal_ne_pmcOvf (f : Fin 16) : RegId.addr .VLG_TOTAL f 0 ≠ RegId.addr .PMC_OVF 0 0 := by
  revert f; decide

/-- A log entry counts in VLG_TOTAL; beside it SEQ, DROP, counts and messages change. -/
theorem State.logEntry_counted (s : State) (f : Fin 16) (ring tag code detail : Nat) :
    CountedBut (logRegs f) (s.incF (F.VLG_TOTAL_COUNT f)) (s.logEntry f ring tag code detail) := by
  have hovf : RegId.addr .PMC_OVF 0 0 ∈ logRegs f := by simp [logRegs]
  have hseq : ∀ (u : State) (v : Nat), CountedBut (logRegs f) u (u.setF (F.VLG_SEQ_COUNT f) v) := fun u v =>
    .setF u _ v (by simp [logRegs])
  have hdrop : ∀ u : State, CountedBut (logRegs f) u (u.incF (F.VLG_DROP_COUNT f)) := fun u =>
    .setF u _ _ (by simp [logRegs])
  have hcount : ∀ (u : State) (a : Attr), CountedBut (logRegs f) u (u.count 0x05 0 1 a) := fun u a =>
    (u.count_counted _ _ _ _).but hovf
  simp only [State.logEntry]
  split
  · have hwrite : ∀ (u : State) (a : Nat) (bs : List Byte), CountedBut (logRegs f) u (u.hostWrite f a bs) :=
      fun u a bs => (Counted.hostWrite u f a bs).but hovf
    split
    · exact (((hseq _ _).trans (hcount _ _)).trans (hwrite _ _ _)).trans ((Counted.sendVec _ _ _).but hovf)
    · exact ((hseq _ _).trans (hcount _ _)).trans (hwrite _ _ _)
  · exact ((hseq _ _).trans (hcount _ _)).trans (hdrop _)

/-- VLG_TOTAL after a log entry is one more, up to its limit (R106). -/
theorem State.logEntry_total (s : State) (f : Fin 16) (ring tag code detail : Nat) :
    (s.logEntry f ring tag code detail).fld (F.VLG_TOTAL_COUNT f) =
      min (s.fld (F.VLG_TOTAL_COUNT f) + 1) (2 ^ 32 - 1) := by
  have h := s.logEntry_counted f ring tag code detail
  have e : (s.logEntry f ring tag code detail).fld (F.VLG_TOTAL_COUNT f) =
      (s.incF (F.VLG_TOTAL_COUNT f)).fld (F.VLG_TOTAL_COUNT f) := by
    simp only [State.fld, h.2.1.reg (by rw [h.1]) (vlgTotal_notMem_logRegs f)]
  rw [e, State.incF, State.fld_setF_self _ _ (by simp)]
  exact Nat.mod_eq_of_lt (by simp)

/-- A log entry of function `f` changes its log registers, counts and messages, nothing else. -/
theorem State.logEntry_frame (s : State) (f : Fin 16) (ring tag code detail : Nat) :
    CountedBut (RegId.addr .VLG_TOTAL f 0 :: logRegs f) s (s.logEntry f ring tag code detail) :=
  (CountedBut.setF s _ _ (by simp)).trans ((s.logEntry_counted f ring tag code detail).mono (by simp +contextual))

/-- A change of a ring alone. -/
theorem State.modRing_frame (s : State) (f : Fin 16) (r : Fin 64) (g : RingSt → RingSt) :
    s.modRing f r g = { s with hif := { s.hif with rings := (s.modRing f r g).hif.rings } } := rfl

theorem State.fld_modRing (s : State) (f : Fin 16) (r : Fin 64) (g : RingSt → RingSt) (x : Fld) :
    (s.modRing f r g).fld x = s.fld x := rfl

theorem CountedBut.ring {ex : List Nat} {s t : State} (h : CountedBut ex s t) (f : Fin 16) (r : Fin 64) :
    t.ring f r = s.ring f r := by
  rw [h.1]; rfl

theorem Counted.ring {s t : State} (h : Counted s t) (f : Fin 16) (r : Fin 64) : t.ring f r = s.ring f r := by
  simp only [State.ring, h.hif]

/-- From `s` to `t` violations were logged against ring `r` of function `f`: only its entry among the rings, the
registers, counts and messages changed, and VLG_TOTAL did not fall. -/
def RingLogged (s t : State) (f : Fin 16) (r : Fin 64) : Prop :=
  t = { s with regs := t.regs, pba := t.pba, pmc := t.pmc, out := t.out, hif := { s.hif with rings := t.hif.rings } } ∧
  (∀ g q, ¬ (g = f ∧ q = r) → t.ring g q = s.ring g q) ∧
  s.fld (F.VLG_TOTAL_COUNT f) ≤ t.fld (F.VLG_TOTAL_COUNT f)

theorem RingLogged.trans {s t u : State} {f : Fin 16} {r : Fin 64} (h : RingLogged s t f r) (k : RingLogged t u f r) :
    RingLogged s u f r := by
  obtain ⟨h1, h2, h3⟩ := h
  obtain ⟨k1, k2, k3⟩ := k
  exact ⟨by rw [k1, h1], fun g q hg => (k2 g q hg).trans (h2 g q hg), h3.trans k3⟩

theorem RingLogged.modRing (s : State) (f : Fin 16) (r : Fin 64) (g : RingSt → RingSt) :
    RingLogged s (s.modRing f r g) f r :=
  ⟨rfl, fun _ _ hg => s.ring_modRing_ne hg g, (s.fld_modRing f r g _).ge⟩

theorem RingLogged.logEntry (s : State) (f : Fin 16) (r : Fin 64) (ring tag code detail : Nat) :
    RingLogged s (s.logEntry f ring tag code detail) f r := by
  have h := s.logEntry_frame f ring tag code detail
  refine ⟨?_, fun g q _ => h.ring g q, ?_⟩
  · rw [h.1]
  · rw [State.logEntry_total]
    have := bits_lt (s.reg .VLG_TOTAL f 0) 31 0
    simp only [State.fld] at this ⊢
    omega

theorem RingLogged.counted {s t : State} (h : Counted s t) (f : Fin 16) (r : Fin 64) : RingLogged s t f r :=
  ⟨by rw [h.1], fun g q _ => h.ring g q, (h.fld (vlgTotal_ne_pmcOvf f)).ge⟩

/-- A violation that counts: beyond its log entry only its ring and what a second entry changes, and one more in the
VCOUNT of the ring, which may be quarantined (R104, R105). -/
theorem State.violate_ring (s : State) (f : Fin 16) (r : Fin 64) (tag detail : Nat) {code : Nat}
    (hc : violCounts code = true) :
    RingLogged (s.logEntry f r tag code detail) (s.violate f r tag code detail) f r ∧
    ((s.violate f r tag code detail).ring f r).vcount = min 255 ((s.ring f r).vcount + 1) := by
  have hring : (s.logEntry f r tag code detail).ring f r = s.ring f r := (s.logEntry_frame f r tag code detail).ring f r
  simp only [State.violate, hc, if_true]
  split
  · have hflags : ∀ u : State, Counted u (u.writeDevFlags f r) := fun u => .hostWrite u _ _ _
    refine ⟨(((RingLogged.modRing _ _ _ _).trans (.modRing _ _ _ _)).trans (.counted (hflags _) _ _)).trans
      (.logEntry _ _ _ _ _ _ _), ?_⟩
    rw [(State.logEntry_frame _ f _ _ _ _).ring, (hflags _).ring, State.ring_modRing_self, State.ring_modRing_self,
      hring]
  · exact ⟨.modRing _ _ _ _, by rw [State.ring_modRing_self, hring]⟩

/-! ### Loss of host and Causeway (R32) -/

theorem State.seqIdleFor_heads (s : State) (n : Fin 6) : (s.seqIdleFor n).heads = s.heads := by
  unfold State.seqIdleFor
  refine List.foldlRecOn (motive := fun t : State => t.heads = s.heads) allSeqs _ rfl (fun t ht q _ => ?_)
  split
  · split <;> exact ht
  · exact ht

theorem State.ltrFrom_heads (s old : State) : (s.ltrFrom old).heads = s.heads := by
  unfold State.ltrFrom
  split <;> rfl

theorem State.setMode_heads (s : State) (m : Mode) (cause : Nat) : (s.setMode m cause).heads = s.heads := by
  simp [State.setMode, State.ltrFrom_heads]

theorem State.reviewMode_heads (s : State) : s.reviewMode.heads = s.heads := by
  unfold State.reviewMode
  cases s.glob.mode <;> simp only [apply_ite State.heads, State.setMode_heads, ite_self]

theorem State.head_of_heads {s t : State} (h : t.heads = s.heads) (n : Fin 6) : t.head n = s.head n := by
  simp only [State.head, h]

theorem State.enterFb_heads (s : State) (n : Fin 6) : (s.enterFb n).heads = (s.modHead n (fun h => { h with
    fb := true, fbEnter := false, coast := false, early := h.early && !s.jrnl.failed })).heads :=
  State.seqIdleFor_heads _ n

/-- Entering FALLBACK changes the one head: it is in FALLBACK, and its cause stands (R29). -/
theorem State.enterFb_head (s : State) (n : Fin 6) :
    ((s.enterFb n).head n).fb = true ∧ ((s.enterFb n).head n).fbCause = (s.head n).fbCause ∧
    ∀ m, m ≠ n → (s.enterFb n).head m = s.head m := by
  have hn := State.head_of_heads (s.enterFb_heads n) n
  rw [State.head_modHead_self] at hn
  exact ⟨by rw [hn], by rw [hn],
    fun m hm => (State.head_of_heads (s.enterFb_heads n) m).trans (s.head_modHead_ne hm _)⟩

/-- What the expiry does to one enabled head. -/
def State.hostFallbackHead (s : State) (n : Fin 6) : State :=
  if (s.head n).fb then s
  else
    let s' := s.modHead n (fun h => { h with fbCause := .hostLoss })
    if (s.head n).beams && (s.head n).blank = .none then s'.modHead n (fun h => { h with fbEnter := true })
    else s'.enterFb n

theorem State.hostFallbackHeads_eq (s : State) :
    s.hostFallbackHeads = s.enabledHeads.foldl State.hostFallbackHead s := rfl

theorem State.hostFallbackHead_ne (s : State) {n m : Fin 6} (h : m ≠ n) :
    (s.hostFallbackHead n).head m = s.head m := by
  unfold State.hostFallbackHead
  dsimp only
  split
  · rfl
  · split
    · rw [State.head_modHead_ne _ h, State.head_modHead_ne _ h]
    · rw [(State.enterFb_head _ n).2.2 m h, State.head_modHead_ne _ h]

/-- What the loss of host and Causeway makes of an enabled head that was not in FALLBACK: a composing one enters at
its next frame, one whose beams are stopped at once (R32). -/
def LostHost (h h' : HeadSt) : Prop :=
  h'.fbCause = .hostLoss ∧
  if h.beams = true ∧ h.blank = .none then h' = { h with fbCause := .hostLoss, fbEnter := true } else h'.fb = true

theorem State.hostFallbackHead_self (s : State) {n : Fin 6} (h : (s.head n).fb = false) :
    LostHost (s.head n) ((s.hostFallbackHead n).head n) := by
  unfold State.hostFallbackHead LostHost
  by_cases hc : (s.head n).beams = true ∧ (s.head n).blank = .none
  · simp [h, hc]
  · have hc' : ¬ ((s.head n).beams && Decidable.decide ((s.head n).blank = .none)) = true := by simpa using hc
    obtain ⟨hfb, hcause, -⟩ := State.enterFb_head (s.modHead n (fun h => { h with fbCause := .hostLoss })) n
    simp [h, hc, hc', hfb, hcause]

/-- The heads are taken in turn, and each keeps what its turn made of it. -/
theorem State.foldl_hostFallbackHead : ∀ (l : List (Fin 6)) (s : State) (n : Fin 6), l.Nodup →
    (n ∉ l → (l.foldl State.hostFallbackHead s).head n = s.head n) ∧
    (n ∈ l → (s.head n).fb = false → LostHost (s.head n) ((l.foldl State.hostFallbackHead s).head n))
  | [], s, n, _ => ⟨fun _ => rfl, by simp⟩
  | m :: l, s, n, h => by
    obtain ⟨hm, hl⟩ := List.nodup_cons.1 h
    obtain ⟨hout, hin⟩ := State.foldl_hostFallbackHead l (s.hostFallbackHead m) n hl
    by_cases e : n = m
    · subst e
      refine ⟨fun hn => absurd List.mem_cons_self hn, fun _ hfb => ?_⟩
      rw [List.foldl_cons, hout hm]
      exact s.hostFallbackHead_self hfb
    · rw [s.hostFallbackHead_ne e] at hout hin
      refine ⟨fun hn => hout (fun k => hn (List.mem_cons_of_mem _ k)), fun hn => hin ?_⟩
      exact (List.mem_cons.1 hn).resolve_left e

theorem State.hostFallbackHeads_lost (s : State) {n : Fin 6} (he : (s.head n).enabled = true)
    (hfb : (s.head n).fb = false) : LostHost (s.head n) (s.hostFallbackHeads.head n) := by
  have hall : ∀ k : Fin 6, k ∈ allHeads := by decide
  have hn : n ∈ s.enabledHeads := List.mem_filter.2 ⟨hall n, he⟩
  exact (State.foldl_hostFallbackHead _ s n (.filter _ (by decide))).2 hn hfb

/-- That the device follows its heads changes no head. -/
theorem State.hostFallback_heads (s : State) : s.hostFallback.heads = s.hostFallbackHeads.heads := by
  simp only [State.hostFallback]
  cases s.hostFallbackHeads.glob.mode <;>
    simp only [apply_ite State.heads, State.setMode_heads, State.reviewMode_heads, ite_self]

/-- A transition changes PREV, LAST_CAUSE and the mode; the message of the tolerance and the count of entries come
beside it (R28, R70). -/
theorem State.setMode_counted (s : State) (m : Mode) (cause : Nat) :
    Counted { s with glob := { s.glob with mode := m, prev := s.glob.mode, cause := cause } } (s.setMode m cause) := by
  refine Counted.trans ?_ (State.count_counted _ _ _ _ _)
  unfold State.ltrFrom
  split
  · exact .refl _
  · exact .emit _ _

theorem State.hostFallback_noHeads {s : State} (hm : s.glob.mode = .run ∨ s.glob.mode = .coast)
    (he : s.enabledHeads = []) : s.hostFallback = s.setMode .fallback 0xA := by
  have h : s.hostFallbackHeads = s := by rw [State.hostFallbackHeads_eq, he]; rfl
  rcases hm with hm | hm <;> simp [State.hostFallback, h, hm, he]

theorem State.hostLossExpiry_awake {s : State} (h : s.attends = true) (hb : s.bothLost = true)
    (hm : s.glob.mode = .run ∨ s.glob.mode = .coast) : s.hostLossExpiry = s.hostFallback := by
  have hl := State.linked_of_alive (State.alive_of_attends h)
  rcases hm with hm | hm <;> simp [State.hostLossExpiry, hl, hb, hm, State.notSleeping_of_attends h]

/-! ### Writes that fail (R71, R104) -/

theorem State.writeFailed_poisoned {s : State} (h : s.attends = true) (f : Fin 16) (a : BitVec 64) :
    s.writeFailed (.poisoned f) a = (s.emit .aer).logEntry f 0xFF 0 0x12 a.toNat := by
  have h' : (s.emit .aer).attends = true := h
  have hl := State.linked_of_alive (State.alive_of_attends h)
  simp only [State.writeFailed, State.poisoned, hl, State.alive_of_attends h', State.noteWake_attends h',
    Bool.not_true, Bool.false_eq_true, if_false, if_true]

theorem State.writeFailed_data {s : State} (h : s.alive = true) (f : Fin 16) (a : BitVec 64) :
    s.writeFailed (.data f) a = s.logEntry f 0xFF 0 0x12 a.toNat := by
  simp only [State.writeFailed, h, if_true]

theorem State.writeFailed_ring {s : State} (h : s.alive = true) (f : Fin 16) (r : Fin 64) (tag : BitVec 16)
    (a : BitVec 64) : s.writeFailed (.ring f r tag) a = s.violate f r tag.toNat 0x12 a.toNat := by
  simp only [State.writeFailed, h, if_true]

/-- The state and VLG_TOTAL after a log entry made when only messages went out since `s`. -/
theorem State.logEntry_afterOut {s u : State} (h : u = { s with out := u.out }) (f : Fin 16)
    (ring tag code detail : Nat) : u.logEntry f ring tag code detail = { s with
      regs := (u.logEntry f ring tag code detail).regs, pba := (u.logEntry f ring tag code detail).pba
      pmc := (u.logEntry f ring tag code detail).pmc, out := (u.logEntry f ring tag code detail).out } ∧
    (u.logEntry f ring tag code detail).fld (F.VLG_TOTAL_COUNT f) =
      min (s.fld (F.VLG_TOTAL_COUNT f) + 1) (2 ^ 32 - 1) := by
  obtain ⟨hframe, -, -⟩ := u.logEntry_frame f ring tag code detail
  generalize htot : u.logEntry f ring tag code detail = t at hframe ⊢
  refine ⟨by rw [hframe, h], ?_⟩
  rw [← htot, State.logEntry_total, h]
  rfl

theorem State.violate_ring_spec (s : State) (f : Fin 16) (r : Fin 64) (tag detail : Nat) {code : Nat}
    (hc : violCounts code = true) {t : State} (ht : t = s.violate f r tag code detail) :
    t = { s with regs := t.regs, pba := t.pba, pmc := t.pmc, out := t.out
                 hif := { s.hif with rings := t.hif.rings } } ∧
    (s.fld (F.VLG_TOTAL_COUNT f) < 2 ^ 32 - 1 → s.fld (F.VLG_TOTAL_COUNT f) < t.fld (F.VLG_TOTAL_COUNT f)) ∧
    (t.ring f r).vcount = min 255 ((s.ring f r).vcount + 1) ∧
    ∀ g q, ¬ (g = f ∧ q = r) → t.ring g q = s.ring g q := by
  have hframe := s.logEntry_frame f r tag code detail
  obtain ⟨⟨hv, hothers, htotal⟩, hcount⟩ := s.violate_ring f r tag detail hc
  rw [← ht] at hv hothers htotal hcount
  rw [State.logEntry_total] at htotal
  exact ⟨by rw [hv, hframe.1], fun _ => by omega, hcount, fun g q hg => (hothers g q hg).trans (hframe.ring g q)⟩

/-- Settles O15: the log entry, the ring and each head by the lemmas above. -/
theorem hostLinkEvents : Obligations.HostLinkEvents := by
  unfold Obligations.HostLinkEvents
  intro s f r tag a num en h logged
  have ha : s.alive = true := State.alive_of_attends h
  have hl : s.linked = true := State.linked_of_alive ha
  refine ⟨⟨_, congrArg Host.Outcome.next (State.writeFailed_poisoned h f a), State.logEntry_afterOut rfl f _ _ _ _, ?_⟩,
    ⟨_, congrArg Host.Outcome.next (State.writeFailed_data ha f a), State.logEntry_afterOut rfl f _ _ _ _⟩,
    ⟨_, congrArg Host.Outcome.next (State.writeFailed_ring ha f r tag a), s.violate_ring_spec f r _ _ (by decide) rfl⟩,
    ?_, fun hn => ?_, fun hn => ?_, ?_, fun hb hm => ?_,
    fun hb hm he => ⟨_, rfl, ?_⟩, fun hb hm he => ⟨_, rfl, fun n hn hfb => ?_⟩⟩
  · exact ((s.emit .aer).logEntry_frame f 0xFF 0 0x12 a.toNat).2.2.1
  · exact congrArg Host.Outcome.next (by simp only [State.writeFailed, ha, if_true])
  · exact congrArg Host.Outcome.next (by simp [State.numVfsWrite, hl, hn])
  · exact congrArg Host.Outcome.next (by simp [State.numVfsWrite, hn])
  · exact congrArg Host.Outcome.next (by simp [State.linkUp, hl])
  · exact congrArg (fun t : State => Host.Outcome.next t.follow) (by simp [State.hostLossExpiry, hl, hb, hm])
  · rw [State.hostLossExpiry_awake h hb hm, State.hostFallback_noHeads hm he]
    exact s.setMode_counted _ _
  · rw [State.hostLossExpiry_awake h hb hm, State.head_of_heads s.hostFallback_heads n]
    exact s.hostFallbackHeads_lost hn hfb

end Sys2Proof.Machine
end

section
/-!
PROOF. Register writes (O17): a state in which a BAR0 write changes more than the statement admits.
-/

set_option Elab.async false  -- the joined text is large: no thread per declaration

namespace Sys2Proof.Machine

/-! ### What follows a command where only staged tricks wait -/

/-- From `s` to `t` nothing changed but the trick unit, all of whose tricks are staged. -/
def OnlyStaged (s t : State) : Prop := t = { s with trk := t.trk } ∧ ∀ k ∈ t.trk.tricks, k.phase = .staged

theorem OnlyStaged.trans {s t u : State} (h : OnlyStaged s t) (k : OnlyStaged t u) : OnlyStaged s u := by
  obtain ⟨h1, -⟩ := h
  obtain ⟨k1, k2⟩ := k
  exact ⟨by rw [k1, h1], k2⟩

/-- A trick that is staged does not settle any further. -/
theorem State.settleTrick_staged {s : State} (h : ∀ k ∈ s.trk.tricks, k.phase = .staged) (key : Nat) :
    s.settleTrick key = s := by
  unfold State.settleTrick
  cases e : s.trick key with
  | none => rfl
  | some k =>
    have hk : k.phase = .staged := h k (List.mem_of_find?_eq_some e)
    simp [hk]

theorem OnlyStaged.refl {s : State} (h : ∀ k ∈ s.trk.tricks, k.phase = .staged) : OnlyStaged s s := ⟨rfl, h⟩

theorem OnlyStaged.modTrick {s t : State} (h : OnlyStaged s t) (key : Nat) {f : Trick → Trick}
    (hf : ∀ k, (f k).phase = k.phase) : OnlyStaged s (t.modTrick key f) := by
  refine h.trans ⟨rfl, fun k hk => ?_⟩
  obtain ⟨x, hx, rfl⟩ := List.mem_map.1 hk
  split
  · exact (hf x).trans (h.2 x hx)
  · exact h.2 x hx

theorem OnlyStaged.reanchor {s t : State} (h : OnlyStaged s t) (key : Nat) : OnlyStaged s (t.reanchor key) := by
  unfold State.reanchor
  cases t.trick key with
  | none => exact h
  | some k =>
    dsimp only
    split_ifs
    · exact h.modTrick key (fun _ => rfl)
    · exact h.modTrick key (fun _ => rfl)
    · exact h

theorem OnlyStaged.settleTricks {s t : State} (h : OnlyStaged s t) : OnlyStaged s t.settleTricks := by
  unfold State.settleTricks
  have h1 : OnlyStaged s (t.trk.tricks.foldl (fun u k => u.settleTrick k.key) t) :=
    List.foldlRecOn _ _ h (fun u hu k _ => by rwa [u.settleTrick_staged hu.2])
  exact List.foldlRecOn _ _ h1 (fun u hu k _ => hu.reanchor k.key)

theorem State.complete_noSlots {s : State} (h : s.hif.slots = []) (id st : Nat) (d : Word) :
    s.complete id st d = s := by
  simp [State.complete, State.slot, h]

/-- With no descriptor in flight a trick that has been shown everywhere leaves the list, and nothing completes. -/
theorem State.endShown_noSlots {s : State} (h : s.hif.slots = []) (x : Shown) : s.endShown x =
    { s with trk := { s.trk with shown := s.trk.shown.filter (fun y => y.key ≠ x.key) } } := by
  unfold State.endShown
  cases x.commitSlot with
  | none => rfl
  | some id => simp [State.complete_noSlots, h]

theorem OnlyStaged.endShown {s t : State} (h : OnlyStaged s t) (hs : s.hif.slots = []) (x : Shown) :
    OnlyStaged s (t.endShown x) := by
  rw [State.endShown_noSlots (by rw [h.1]; exact hs)]
  exact h.trans ⟨rfl, h.2⟩

theorem OnlyStaged.settleShown {s t : State} (h : OnlyStaged s t) (hs : s.hif.slots = []) :
    OnlyStaged s t.settleShown := by
  unfold State.settleShown
  refine List.foldlRecOn _ _ (h.trans ⟨rfl, h.2⟩) (fun u hu x _ => ?_)
  split
  · exact hu.endShown hs x
  · exact hu

/-- A round with no descriptor in flight and no ring changes the trick unit alone. -/
theorem OnlyStaged.settleRound {s t : State} (h : OnlyStaged s t) (hs : s.hif.slots = []) (hr : s.hif.rings = []) :
    OnlyStaged s t.settleRound := by
  have ht : t.hif.slots = [] := by rw [h.1]; exact hs
  have h1 : OnlyStaged s (t.settleTricks.settleTricks.settleShown) := h.settleTricks.settleTricks.settleShown hs
  have h2 : t.settleTricks.settleTricks.settleShown.hif.rings = [] := by rw [h1.1]; exact hr
  have e : t.settleRound = t.settleTricks.settleTricks.settleShown := by
    simp [State.settleRound, ht, State.settleRings, h2]
  rwa [e]

theorem OnlyStaged.settleRounds {s : State} (hs : s.hif.slots = []) (hr : s.hif.rings = []) :
    ∀ (n : Nat) (t : State), OnlyStaged s t → OnlyStaged s (t.settleRounds n)
  | 0, _, h => h
  | n + 1, t, h => OnlyStaged.settleRounds hs hr n t.settleRound (h.settleRound hs hr)

/-- Where nothing waits but staged tricks, what follows a command changes the trick unit alone. -/
theorem State.follow_onlyStaged {s : State} (hs : s.hif.slots = []) (hr : s.hif.rings = []) (hx : s.cwy.rx = [])
    (hm : s.mute = true) (hk : ∀ k ∈ s.trk.tricks, k.phase = .staged) : OnlyStaged s s.follow := by
  have h : OnlyStaged s s.settle := by
    unfold State.settle
    split
    · exact .refl hk
    · exact OnlyStaged.settleRounds hs hr _ s (.refl hk)
  have hx' : s.settle.cwy.rx = [] := by rw [h.1]; exact hx
  have hm' : s.settle.mute = true := by rw [h.1]; exact hm
  have e : s.follow = s.settle := by
    simp [State.follow, State.settleAll, hx', State.audReview_mute hm']
  rwa [e]

/-! ### The refuting state -/

/-- A dealer in BRING-UP with an open wall trick under the key that the next trick will take, while a hand waits
for the resynchronisation. -/
def keyTaken : State :=
  { State.reset.raiseF F.GLB_STRAPS_DEALER with
    trk := { tricks := [{ key := 0, owner := .fn 0, id := 1, wall := true }] }
    cwy := { rejoin := [1] } }

/-- `keyTaken` after a write of 0 to GLB_FB_CTL, before what follows it. -/
def keyTakenWritten : State := keyTaken.registerWrite 0x24 0 15

/-- The write stages the wall trick of the same key too, and staging a wall trick serves the hand that waits. -/
theorem keyTakenWritten_rejoin : keyTakenWritten.cwy.rejoin = [] := by decide +kernel

theorem keyTakenWritten_follow_rejoin : keyTakenWritten.follow.cwy.rejoin = [] := by
  have h : OnlyStaged keyTakenWritten keyTakenWritten.follow :=
    State.follow_onlyStaged (by decide +kernel) (by decide +kernel) (by decide +kernel) (by decide +kernel)
      (by decide +kernel)
  rw [h.1]; exact keyTakenWritten_rejoin

/-- Refutes O17: its frame of an implicit trick, all but the trick unit, fails in `keyTaken`, for the statement does
not ask that the next key be free. The model finds the new trick by its key, so the write stages the wall trick of
that key with it, and the hand that waits is served (R401). -/
theorem not_registerWrite : ¬ Obligations.RegisterWrite := by
  unfold Obligations.RegisterWrite
  intro h
  obtain ⟨-, staged, -⟩ := h keyTaken 0x24 0 15 .GLB_FB_CTL 0 0 0 0 (by decide +kernel)
  obtain ⟨t, hexec, ht, k, htricks, -, -, -, hk, -⟩ := staged (by decide +kernel) (by decide +kernel) rfl (.inl rfl)
  have hstaged : ∀ x ∈ t.trk.tricks, x.phase = .staged := by
    rw [htricks]
    simp [keyTaken, hk]
  have hmute : t.mute = true := by
    rw [ht]; exact (by decide +kernel : keyTaken.mute = true)
  have hfollow : OnlyStaged t t.follow :=
    State.follow_onlyStaged (by rw [ht]; rfl) (by rw [ht]; rfl) (by rw [ht]; rfl) hmute hstaged
  have hkept : t.follow.cwy.rejoin = [1] := by rw [hfollow.1, ht]; rfl
  have hsame : keyTakenWritten.follow = t.follow := Host.Outcome.next.inj hexec
  rw [← hsame, keyTakenWritten_follow_rejoin] at hkept
  exact absurd hkept (by decide)

end Sys2Proof.Machine
end

section
/-!
PROOF. In OFF and while held in reset nothing moves (O59): what each guard of the model answers there.
-/

set_option Elab.async false  -- the joined text is large: no thread per declaration

namespace Sys2Proof.Machine

/-- In OFF, or in BRING-UP held in reset: neither unit logic nor link logic runs (R28, R55). -/
def State.Inert (s : State) : Prop := s.glob.mode = .off ∨ (s.glob.heldInReset = true ∧ s.glob.mode = .bringUp)

theorem State.Inert.linked {s : State} (h : s.Inert) : s.linked = false := by
  rcases h with h | ⟨h, -⟩ <;> simp [State.linked, h]

theorem State.alive_of_unlinked {s : State} (h : s.linked = false) : s.alive = false := by
  simp only [State.linked] at h
  simp [State.alive, h]

theorem State.Inert.frozen {s : State} (h : s.Inert) : s.frozen = false := by
  rcases h with h | ⟨-, h⟩ <;> simp [State.frozen, h]

theorem State.Inert.working {s : State} (h : s.Inert) : s.working = false := by
  rcases h with h | ⟨-, h⟩ <;> simp [State.working, h]

/-- Nothing follows a command that left a dead block as it was. -/
theorem State.follow_of_eq {s t : State} (h : s.alive = false) (e : t = s) : t.follow = s := by
  rw [e, State.follow_dead h]

/-! ### Commands behind the unit logic -/

section
variable {s : State} (h : s.alive = false)
include h

theorem State.seqExec_dead (q : Fin 8) (w : W24) (f : State → State) : s.seqExec q w f = s := by
  simp [State.seqExec, h]

theorem State.mixExec_dead (d : Fin 3) (w : Word) (f : State → State) : s.mixExec d w f = s := by
  simp [State.mixExec, h]

theorem State.canFetch_dead (f : Fin 16) (r : Fin 64) : s.canFetch f r = false := by
  simp [State.canFetch, State.ringReady, h]

theorem State.fetch_follow_dead (type : Nat) (d : Hdr) (p : BitVec 448) : (s.fetch type d p).follow = s :=
  State.follow_of_eq h (by simp [State.fetch, State.canFetch_dead h])

theorem State.fetchIf_dead (fits : Bool) (type : Nat) (d : Hdr) (p : BitVec 448) : s.fetchIf fits type d p = s := by
  simp [State.fetchIf, State.fetch_follow_dead h]

theorem State.hostReadDone_dead (target : ReadFor) (r : HostRead) : s.hostReadDone target r = s := by
  cases target with
  | fetch f q => cases r <;> simp [State.hostReadDone, State.fetchFail, State.canFetch_dead h]
  | slot id => simp only [State.hostReadDone, h]; split <;> rfl

theorem State.receive_dead (p : Fin 5) (l : Nat) (f : State → State) : s.receive p l f = s := by
  simp [State.receive, h]

theorem State.portMayTrain_dead (p : Fin 5) : s.portMayTrain p = false := by
  simp [State.portMayTrain, h]

theorem State.cmdRun_dead (c : Fin 8) (op : Nat) : s.cmdRun c op = s := by
  simp only [State.cmdRun, h]; split <;> rfl

theorem State.beamsRun_dead (n : Fin 6) : s.beamsRun n = false := by
  simp [State.beamsRun, h]

theorem State.frameWrap_dead (n : Fin 6) : s.frameWrap n = s := by
  have hn : n ∈ s.lockGroup n := List.mem_filter.2 ⟨by revert n; decide, by simp⟩
  have hg : (s.lockGroup n).all (fun k => s.wrapReady k && (s.head k).inWindow) = false :=
    List.all_eq_false.2 ⟨n, hn, by simp [State.wrapReady, State.beamsRun_dead h]⟩
  simp [State.frameWrap, hg]

theorem State.restartWrap_dead (n : Fin 6) : s.restartWrap n = s := by
  have hn : n ∈ s.blankGroup n := List.mem_filter.2 ⟨by revert n; decide, by simp⟩
  have hg : (s.blankGroup n).all s.restartReady = false :=
    List.all_eq_false.2 ⟨n, hn, by simp [State.restartReady, State.beamsRun_dead h]⟩
  have hr : ∀ b, s.compositionRestart n b = s := fun b => by simp [State.compositionRestart, hg]
  simp only [State.restartWrap, hr]
  cases (s.head n).blank <;> rfl

theorem State.seqTurn_dead (q : Fin 8) : s.seqTurn q = s := by simp [State.seqTurn, h]
theorem State.measureDone_dead (p : Fin 5) (ok : Bool) : s.measureDone p ok = s := by simp [State.measureDone, h]
theorem State.trainingFailure_dead (p : Fin 5) : s.trainingFailure p = s := by simp [State.trainingFailure, h]
theorem State.cwyTick_dead (w : Half) (remain : Word) (delay : Nat) : s.cwyTick w remain delay = s := by
  simp [State.cwyTick, h]
theorem State.echo_dead (p : Fin 5) (turn rtt : Nat) : s.echo p turn rtt = s := by simp [State.echo, h]
theorem State.flapHoldEnd_dead (p : Fin 5) : s.flapHoldEnd p = s := by simp [State.flapHoldEnd, h]
theorem State.packetCrc_dead (p : Fin 5) : s.packetCrc p = s := by simp [State.packetCrc, h]
theorem State.childSilent_dead (p : Fin 5) : s.childSilent p = s := by simp [State.childSilent, h]
theorem State.tempMeasure_dead (r : Vector (BitVec 11) 8) : s.tempMeasure r = s := by simp [State.tempMeasure, h]
theorem State.pllLock_dead (p : Pll) : s.pllLock p = s := by simp [State.pllLock, h]
theorem State.knock_dead (f : Fin 16) (v : Word) : s.knock f v = s := by simp [State.knock, h]
theorem State.knockStormEnd_dead (f : Fin 16) (r : Fin 64) : s.knockStormEnd f r = s := by
  simp [State.knockStormEnd, h]
theorem State.staleReread_dead (f : Fin 16) (r : Fin 64) : s.staleReread f r = s := by simp [State.staleReread, h]
theorem State.cqFull_dead (f : Fin 16) (r : Fin 64) : s.cqFull f r = s := by simp [State.cqFull, h]
theorem State.holdoffEnd_dead (f : Fin 16) (r : Fin 64) : s.holdoffEnd f r = s := by simp [State.holdoffEnd, h]
theorem State.recordRead_dead (f : Fin 16) (r : Fin 64) (d : DbRead) : s.recordRead f r d = s := by
  simp [State.recordRead, h]
theorem State.leaseExpired_dead (f : Fin 16) : s.leaseExpired f = s := by simp [State.leaseExpired, h]
theorem State.pgclkRelock_dead (n : Fin 6) : s.pgclkRelock n = s := by simp [State.pgclkRelock, h]
theorem State.trainingDone_dead (n : Fin 6) (ok : Bool) : s.trainingDone n ok = s := by simp [State.trainingDone, h]
theorem State.trainingRetry_dead (n : Fin 6) : s.trainingRetry n = s := by simp [State.trainingRetry, h]
theorem State.hpdPlug_dead (n : Fin 6) (c : SinkCaps) : s.hpdPlug n c = s := by simp [State.hpdPlug, h]
theorem State.hpdUnplug_dead (n : Fin 6) : s.hpdUnplug n = s := by simp [State.hpdUnplug, h]
theorem State.irqHpd_dead (n : Fin 6) (lostLock : Bool) : s.irqHpd n lostLock = s := by simp [State.irqHpd, h]
theorem State.bounceEnd_dead (n : Fin 6) : s.bounceEnd n = s := by simp [State.bounceEnd, h]
theorem State.stormEnd_dead (n : Fin 6) : s.stormEnd n = s := by simp [State.stormEnd, h]
theorem State.linkLost_dead (n : Fin 6) : s.linkLost n = s := by simp [State.linkLost, h]
theorem State.wbComplete_dead (n : Fin 6) (k : Fin 4) : s.wbComplete n k = s := by simp [State.wbComplete, h]
theorem State.sessionTimeout_dead : s.sessionTimeout = s := by simp [State.sessionTimeout, h]
theorem State.lockoutEnd_dead : s.lockoutEnd = s := by simp [State.lockoutEnd, h]
theorem State.channelGrant_dead (c : Fin 32) : s.channelGrant c = s := by simp [State.channelGrant, h]
theorem State.stagingGrant_dead (c : Fin 32) : s.stagingGrant c = s := by simp [State.stagingGrant, h]
theorem State.wakeEvent_dead (src : Nat) : s.wakeEvent src = s := by simp [State.wakeEvent, h]
theorem State.entryStepEnd_dead : s.entryStepEnd = s := by simp [State.entryStepEnd, h]
theorem State.exitStep_dead (crcOk : Bool) : s.exitStep crcOk = s := by simp [State.exitStep, h]
theorem State.slotChoice_dead (f : FlashRead) : s.slotChoice f = s := by simp [State.slotChoice, h]
theorem State.bootEnd_dead : s.bootEnd = s := by simp [State.bootEnd, h]
theorem State.patternMatch_dead (u : Fin 8) (levels : Word) : s.patternMatch u levels = s := by
  simp [State.patternMatch, h]
theorem State.counterAdd_dead (k : Fin 32) (n : Nat) : s.counterAdd k n = s := by simp [State.counterAdd, h]

theorem State.commitCutoff_dead (n : Fin 6) : s.commitCutoff n = s := by
  simp [State.commitCutoff, State.beamsRun_dead h]
theorem State.blankingStart_dead (n : Fin 6) : s.blankingStart n = s := by
  simp [State.blankingStart, State.beamsRun_dead h]
theorem State.composeLineStart_dead (n : Fin 6) (y : Nat) : s.composeLineStart n y = s := by
  simp [State.composeLineStart, State.beamsRun_dead h]
theorem State.composeChunk_dead (n : Fin 6) : s.composeChunk n = s := by
  simp [State.composeChunk, State.beamsRun_dead h]
theorem State.scanChunk_dead (n : Fin 6) : s.scanChunk n = s := by simp [State.scanChunk, State.beamsRun_dead h]
theorem State.trumpCheck_dead (n : Fin 6) : s.trumpCheck n = s := by simp [State.trumpCheck, State.beamsRun_dead h]
theorem State.blockLock_dead (p : Fin 5) : s.blockLock p = s := by simp [State.blockLock, State.portMayTrain_dead h]
theorem State.portStart_dead (p : Fin 5) : s.portStart p = s := by simp [State.portStart, State.portMayTrain_dead h]
theorem State.replayTimeout_dead (p : Fin 5) : s.replayTimeout p = s := by
  simp [State.replayTimeout, State.replayPort, h]
theorem State.hsPlug_dead : s.hsPlug = s := by simp [State.hsPlug, State.hsOn, h]
theorem State.hsTyped_dead (ctia omtp : Nat) : s.hsTyped ctia omtp = s := by simp [State.hsTyped, State.hsOn, h]
theorem State.hsUnplug_dead : s.hsUnplug = s := by simp [State.hsUnplug, State.hsOn, h]
theorem State.hsReading_dead (ohm ms : Nat) : s.hsReading ohm ms = s := by simp [State.hsReading, State.hsOn, h]
theorem State.tmrCycle_dead (ticks caps : BitVec 16) (pins : Word) : s.tmrCycle ticks caps pins = s := by
  simp [State.tmrCycle, State.tmrAlive, h]

theorem State.wallTick_dead (dev : Int) : s.wallTick dev = s := by
  simp only [State.wallTick, h]
  split <;> rfl
theorem State.decisionPoint_dead : s.decisionPoint = s := by
  simp only [State.decisionPoint, h]
  split <;> rfl
theorem State.applicationEnd_dead : s.applicationEnd = s := by
  simp only [State.applicationEnd, h]
  split <;> rfl
theorem State.noHeadApply_dead : s.noHeadApply = s := by
  simp only [State.noHeadApply, h]
  split <;> rfl
theorem State.auxReply_dead (n : Fin 6) (r : AuxReply) : s.auxReply n r = s := by
  simp only [State.auxReply, h]
  split <;> rfl
theorem State.auxRetry_dead (n : Fin 6) : s.auxRetry n = s := by
  simp only [State.auxRetry, h]
  split <;> rfl
theorem State.tpLease_dead : s.tpLease = s := by
  simp only [State.tpLease, h]
  split <;> rfl
theorem State.raceRelease_dead (c : Fin 8) : s.raceRelease c = s := by
  simp only [State.raceRelease, h]
  split <;> rfl
theorem State.watermark_dead (c : Fin 8) : s.watermark c = s := by
  simp only [State.watermark, h]
  split <;> rfl
theorem State.listComplete_dead (c : Fin 8) : s.listComplete c = s := by
  simp only [State.listComplete, h]
  split <;> rfl
theorem State.sluBurst_dead (c : Fin 32) (d : List Byte) : s.sluBurst c d = s := by
  simp only [State.sluBurst, h]
  split <;> rfl
theorem State.sluDone_dead (c : Fin 32) : s.sluDone c = s := by
  simp only [State.sluDone, h]
  split <;> rfl
theorem State.sluFail_dead (c : Fin 32) (f : AccessFail) : s.sluFail c f = s := by
  simp only [State.sluFail, h]
  split <;> rfl
theorem State.chanLease_dead (c : Fin 32) : s.chanLease c = s := by
  simp only [State.chanLease, h]
  split <;> rfl
theorem State.journalSnapshot_dead : s.journalSnapshot = s := by
  simp only [State.journalSnapshot, h]
  split <;> rfl
theorem State.flashOpDone_dead (ok : Bool) (off : Nat) : s.flashOpDone ok off = s := by
  simp only [State.flashOpDone, h]
  split <;> rfl
theorem State.flashTimeout_dead (off : Nat) : s.flashTimeout off = s := by
  simp only [State.flashTimeout, h]
  split <;> rfl
theorem State.earlyLoaded_dead (earlyOk trumpOk : Bool) : s.earlyLoaded earlyOk trumpOk = s := by
  simp only [State.earlyLoaded, h]
  split <;> rfl
theorem State.sceneRestore_dead (configOk sceneOk : Bool) : s.sceneRestore configOk sceneOk = s := by
  simp only [State.sceneRestore, h]
  split <;> rfl
theorem State.listReadDone_dead (c : Fin 8) (r : HostRead) : s.listReadDone c r = s := by
  simp only [State.listReadDone, h]
  split
  · rfl
  · split <;> rfl
theorem State.snapshotCopyEnd_dead : s.snapshotCopyEnd = s := by
  simp only [State.snapshotCopyEnd, h]
  split
  · rfl
  · split <;> rfl
theorem State.pllLoss_dead (u : UnitFault) : s.pllLoss u = s := by
  simp only [State.pllLoss, h, Bool.false_and, Bool.false_eq_true, if_false]
  split <;> rfl

end

/-! ### Commands behind the link logic -/

section
variable {s : State} (h : s.linked = false)
include h

/-- The guard of the host's and the board's accesses. -/
theorem State.off_or_held_of_unlinked : (Decidable.decide (s.glob.mode = .off) || s.glob.heldInReset) = true := by
  simp only [State.linked] at h
  revert h
  cases Decidable.decide (s.glob.mode = .off) <;> simp

theorem State.barWrite_unlinked (a : Nat) (f : State → State) : s.barWrite a f = s := by
  simp only [State.barWrite, State.off_or_held_of_unlinked h, if_true]

theorem State.hostSet_unlinked (r : RegId) (i : Nat) (v mask : Word) : s.hostSet r i v mask = s :=
  State.barWrite_unlinked h _ _

theorem State.auxWrite_unlinked (n : Fin 6) (req : Nat) (len : Fin 16) (a : BitVec 20) : s.auxWrite n req len a = s :=
  State.hostSet_unlinked h _ _ _ _

theorem State.pageWrite_unlinked (f : Fin 16) (o : Nat) (v : Word) (be : BitVec 4) : s.pageWrite f o v be = s := by
  simp [State.pageWrite, h]

theorem State.registerWrite_unlinked (a : Nat) (v : Word) (be : BitVec 4) : s.registerWrite a v be = s := by
  have hg : (!(Decidable.decide (s.glob.mode = .off)) && !s.glob.heldInReset) = false := h
  simp only [State.registerWrite, hg, Bool.false_and, Bool.false_eq_true, if_false]
  exact State.barWrite_unlinked h _ _

theorem State.bar0Read_unlinked (a : Nat) : s.bar0Read a = s := by
  simp only [State.bar0Read, State.off_or_held_of_unlinked h, if_true]

theorem State.smbAlive_unlinked : s.smbAlive = false := h

theorem State.tpRun_unlinked (pec : Bool) (f : State → State) : s.tpRun pec f = s := by
  simp [State.tpRun, State.smbAlive_unlinked h]

theorem State.smbRun_unlinked (pec : Bool) (f : State → State) : s.smbRun pec f = s := by
  simp [State.smbRun, State.smbAlive_unlinked h]

theorem State.bar4Read_unlinked (o n : Nat) : s.bar4Read o n = s := by
  simp only [State.bar4Read, State.off_or_held_of_unlinked h, if_true]
theorem State.userCtrRead_unlinked (f : Fin 16) (k : Fin 32) (high : Bool) : s.userCtrRead f k high = s := by
  simp only [State.userCtrRead, State.off_or_held_of_unlinked h, Bool.true_or, if_true]
theorem State.rdData_unlinked : s.rdData = s := by simp only [State.rdData, State.off_or_held_of_unlinked h, if_true]
theorem State.jtagSel_unlinked (v : Word) : s.jtagSel v = s := by
  simp only [State.jtagSel, State.off_or_held_of_unlinked h, if_true]
theorem State.jtagData_unlinked : s.jtagData = s := by
  simp only [State.jtagData, State.off_or_held_of_unlinked h, if_true]

theorem State.hifCause_unlinked : s.hifCause = s := by simp [State.hifCause, h]
theorem State.refLost_unlinked : s.refLost = s := by simp [State.refLost, h]
theorem State.holdoverEnd_unlinked : s.holdoverEnd = s := by simp [State.holdoverEnd, h]
theorem State.slewEnd_unlinked : s.slewEnd = s := by simp [State.slewEnd, h]
theorem State.refReturn_unlinked : s.refReturn = s := by simp [State.refReturn, h]
theorem State.hostLossExpiry_unlinked : s.hostLossExpiry = s := by simp [State.hostLossExpiry, h]
theorem State.linkUp_unlinked : s.linkUp = s := by simp [State.linkUp, h]
theorem State.numVfsWrite_unlinked (num : Nat) (en : Bool) : s.numVfsWrite num en = s := by simp [State.numVfsWrite, h]
theorem State.frzAssert_unlinked (ns : Nat) : s.frzAssert ns = s := by simp [State.frzAssert, h]
theorem State.frzUnpin_unlinked : s.frzUnpin = s := by simp [State.frzUnpin, h]
theorem State.frzCtl_unlinked (v : Word) : s.frzCtl v = s := by simp [State.frzCtl, h]
theorem State.freezeEntry_unlinked : s.freezeEntry = s := by simp [State.freezeEntry, h]
theorem State.freezeRepeat_unlinked : s.freezeRepeat = s := by simp [State.freezeRepeat, h]
theorem State.powerWrite_unlinked (f : Fin 16) (v : Word) : s.powerWrite f v = s := by simp [State.powerWrite, h]
theorem State.ackInterval_unlinked (p : Fin 5) : s.ackInterval p = s := by simp [State.ackInterval, h]
theorem State.ackPort_unlinked (p : Fin 5) (l : Nat) : s.ackPort p l = s := by simp [State.ackPort, h]
theorem State.nakPort_unlinked (p : Fin 5) (l : Nat) : s.nakPort p l = s := by simp [State.nakPort, h]
theorem State.probe_unlinked (p : Fin 5) (ts turn : Nat) : s.probe p ts turn = s := by simp [State.probe, h]
theorem State.cwyFreeze_unlinked (p : Fin 5) (id : Nat) : s.cwyFreeze p id = s := by simp [State.cwyFreeze, h]
theorem State.cwyThaw_unlinked (p : Fin 5) (id : Nat) : s.cwyThaw p id = s := by simp [State.cwyThaw, h]
theorem State.blockLockLoss_unlinked (p : Fin 5) : s.blockLockLoss p = s := by simp [State.blockLockLoss, h]
theorem State.writeFailed_unlinked (w : WriteFault) (a : BitVec 64) : s.writeFailed w a = s := by
  have ha := State.alive_of_unlinked h
  cases w <;> simp [State.writeFailed, State.poisoned, h, ha]
theorem State.trumpVia_unlinked (via : TrumpVia) (n : Fin 6) (v : Word) : s.trumpVia via n v = s := by
  cases via with
  | host d => exact State.fetch_follow_dead (State.alive_of_unlinked h) _ _ _
  | smbus => exact State.follow_of_eq (State.alive_of_unlinked h) (State.tpRun_unlinked h _ _)

end

/-! ### Commands that ask for a mode -/

section
variable {s : State} (h : s.Inert)
include h

theorem State.Inert.doorbellPoll : s.doorbellPoll = s := by simp [State.doorbellPoll, State.serving, h.working]
theorem State.Inert.slumberStart : s.slumberStart = s := by
  rcases h with h | ⟨-, h⟩ <;> simp [State.slumberStart, h]
theorem State.Inert.scrub (l m : List Nat) : s.scrub l m = s := by
  rcases h with h | ⟨-, h⟩ <;> simp [State.scrub, h]
theorem State.Inert.vfFlr (f : Fin 16) : s.vfFlr f = s := by
  simp [State.vfFlr, h.frozen, State.alive_of_unlinked h.linked]
theorem State.Inert.freezeReleased : s.freezeReleased = s := by simp [State.freezeReleased, h.frozen]
theorem State.Inert.freezeDone : s.freezeDone = s := by simp [State.freezeDone, h.frozen]

end

/-! ### Every command -/

/-- The commands that a dead block answers: power, the reset pin, and the two that are noted (R50, R55). -/
def answersDead : Instr → Bool
  | .pwrOkRise .. | .pwrOkFall | .resetNPulse .. | .perstNAssert | .pcieLinkDown => true
  | _ => false

theorem answersDead_cases {c : Instr} (h : answersDead c = true) :
    (∃ x r, c = .pwrOkRise x r) ∨ c = .pwrOkFall ∨ (∃ ns x, c = .resetNPulse ns x) ∨ c = .perstNAssert ∨
      c = .pcieLinkDown := by
  unfold answersDead at h
  split at h <;> simp_all

theorem exec_inert {s : State} (h : s.Inert) (c : Instr) (hc : answersDead c = false) : exec c s = .next s := by
  have hl := h.linked
  have ha := State.alive_of_unlinked hl
  have plain : ∀ {t : State}, t = s → Host.Outcome.next t = (.next s : Host.Outcome State Fault Refusal) :=
    congrArg Host.Outcome.next
  have followed : ∀ {t : State}, t = s → Host.Outcome.next t.follow = (.next s : Host.Outcome State Fault Refusal) :=
    fun e => plain (State.follow_of_eq ha e)
  cases c with
  | pwrOkRise | pwrOkFall | resetNPulse | perstNAssert | pcieLinkDown => cases hc
  -- sequencer and mix programs
  | seqHalt | seqAdd | seqSub | seqAnd | seqOr | seqXor | seqShl | seqShr | seqSar | seqMul | seqMulf | seqCmp | seqMov
  | seqLdi | seqLui | seqAddi | seqAndi | seqOri | seqCmpi | seqShli | seqShri | seqSari | seqLd | seqSt | seqLda | seqSta
  | seqBr | seqDbnz | seqCall | seqRet | seqWaitl | seqWaitlc | seqWaitc | seqWaitn | seqWaitt | seqBeam | seqSync | seqSig
  | seqMove | seqMovex | seqMoveb | seqMovebx | voiceOn | voiceOff | rampStart | rampStop | seqRaise =>
    exact plain (State.seqExec_dead ha _ _ _)
  | mixEnd | mixClr | mixLd | mixSt | mixAdd | mixSub | mixMul | mixMac | mixMulr | mixMacr | mixIn | mixOut | mixBiq
  | mixDwr | mixDrd | mixLim | mixShr | mixSat => exact plain (State.mixExec_dead ha _ _ _)
  | beamWaitRelease | landingQueueEntry => exact plain (by simp only [ha, Bool.not_false, if_true])
  | reservedOpcode => exact plain (by simp only [ha, Bool.false_and, Bool.false_eq_true, if_false])
  | programStart => exact followed (State.seqTurn_dead ha _)
  -- descriptors and host reads
  | unknownType | nop | trickBegin | trickCommitNext | trickCommitAt | trickCommitDiscard | regWrite | mapUpdate | deckUpdate
  | patternLoad | paletteLoad | seqLoad | blitList | sluice | audioStream | graphLoad | fence | queryRegister | queryMode
  | querySlots | queryFnStatus | queryLastTrick | latTol | journalStore => exact plain (State.fetchIf_dead ha _ _ _ _)
  | hostReadCompletion => exact followed (State.hostReadDone_dead ha _ _)
  -- writes and reads of the host
  | quotaWrite | vecCountWrite | limitWrite | memPoolWrite | ringEnable | ringDisable | cwySetidWrite | cwyRejoinWrite =>
    exact followed (State.barWrite_unlinked hl _ _)
  | glbResetWarm | bar4Write | trumpKeyLoWrite | keyPresentation | sessionClose | rekey | holdLast | holdWrite | dmgAddRect
  | dmgAddAll | cmdHalt | cmdRestart | retrain | rampSet | coefSet | countWrite | tmrStart | tmrStop | tmrReset | gpioOutSet
  | gpioOutClr | pmcStart | pmcStop => exact plain (State.barWrite_unlinked hl _ _)
  | auxNativeWrite | auxNativeRead | auxI2cWrite | auxI2cRead => exact plain (State.auxWrite_unlinked hl _ _ _ _)
  | registerWrite dest v be =>
    cases dest with
    | bar0 a => exact followed (State.registerWrite_unlinked hl _ _ _)
    | page f o => exact followed (State.pageWrite_unlinked hl _ _ _ _)
    | power f => exact plain (State.powerWrite_unlinked hl _ _)
  | fnRereg => exact followed (State.pageWrite_unlinked hl _ _ _ _)
  | frameRead | capRead | ctrLoRead => exact plain (State.bar0Read_unlinked hl _)
  | bar4Read => exact plain (State.bar4Read_unlinked hl _ _)
  | userCtrRead => exact plain (State.userCtrRead_unlinked hl _ _ _)
  | rdDataRead => exact plain (State.rdData_unlinked hl)
  | jtagFrzSel => exact plain (State.jtagSel_unlinked hl _)
  | frzData => exact plain (State.jtagData_unlinked hl)
  -- the SMBus
  | tpOpen | tpData | tpReg | tpCommit | tpAbort | tpClose => exact followed (State.tpRun_unlinked hl _ _)
  | tpStatus => exact plain (by simp only [State.smbAlive_unlinked hl, Bool.not_false, if_true])
  | frzSel | frzRead | frzStat => exact plain (State.smbRun_unlinked hl _ _)
  | trumpAck | trumpRelease => exact plain (State.trumpVia_unlinked hl _ _ _)
  -- the Causeway
  | cwyHello | cwyWallInfo | cwyAlive | cwyDesc | cwyData | cwyEnd | cwyPrepare | cwyReady | cwyCommit | cwyDefer | cwyDiscard
  | cwySweep | cwyBench | cwyBenched | cwyRejoin | cwySetId | cwyEvent | badToken =>
    exact followed (State.receive_dead ha _ _ _)
  | portBlockLock => exact plain (State.blockLock_dead ha _)
  | portRetrain => exact plain (State.portStart_dead ha _)
  | measureDone => exact plain (State.measureDone_dead ha _ _)
  | trainingFailure => exact plain (State.trainingFailure_dead ha _)
  | replayTimeout => exact plain (State.replayTimeout_dead ha _)
  | ackInterval => exact plain (State.ackInterval_unlinked hl _)
  | freezeRepeat => exact plain (State.freezeRepeat_unlinked hl)
  | cwyTick => exact plain (State.cwyTick_dead ha _ _ _)
  | wallTick => exact plain (State.wallTick_dead ha _)
  | cwyAck => exact plain (State.ackPort_unlinked hl _ _)
  | cwyNak => exact plain (State.nakPort_unlinked hl _ _)
  | cwyProbe => exact plain (State.probe_unlinked hl _ _ _)
  | cwyEcho => exact plain (State.echo_dead ha _ _ _)
  | cwyFreeze => exact plain (State.cwyFreeze_unlinked hl _ _)
  | cwyThaw => exact plain (State.cwyThaw_unlinked hl _ _)
  | flapHoldEnd => exact plain (State.flapHoldEnd_dead ha _)
  | blockLockLoss => exact followed (State.blockLockLoss_unlinked hl _)
  | packetCrcFailure => exact followed (State.packetCrc_dead ha _)
  | childSilent => exact followed (State.childSilent_dead ha _)
  | decisionPoint => exact followed (State.decisionPoint_dead ha)
  -- clocks, temperature, resets and the freeze
  | watchdogExpiry => exact plain (by simp only [hl, Bool.false_eq_true, if_false])
  | refLost => exact plain (State.refLost_unlinked hl)
  | holdoverExpiry => exact plain (State.holdoverEnd_unlinked hl)
  | slewEnd => exact plain (State.slewEnd_unlinked hl)
  | refReturn => exact plain (State.refReturn_unlinked hl)
  | tempMeasurement => exact plain (State.tempMeasure_dead ha _)
  | pllLock => exact followed (State.pllLock_dead ha _)
  | pllLockLoss => exact followed (State.pllLoss_dead ha _)
  | freezeNAssert => exact plain (State.frzAssert_unlinked hl _)
  | freezeNRelease => exact plain (State.frzUnpin_unlinked hl)
  | frzSet | frzRelease => exact plain (State.frzCtl_unlinked hl _)
  | freezeEntry => exact plain (State.freezeEntry_unlinked hl)
  | hostLossExpiry => exact followed (State.hostLossExpiry_unlinked hl)
  | pfFlr => exact followed (State.hifCause_unlinked hl)
  | pcieLinkUp => exact plain (State.linkUp_unlinked hl)
  | numvfsWrite => exact plain (State.numVfsWrite_unlinked hl _ _)
  | poisonedWrite => exact plain (State.writeFailed_unlinked hl _ _)
  | freezeReleased => exact plain h.freezeReleased
  | freezeRestartDone => exact followed h.freezeDone
  | vfFlr => exact followed (h.vfFlr _)
  -- rings
  | doorbellPoll => exact plain h.doorbellPoll
  | knock => exact plain (State.knock_dead ha _ _)
  | knockStormEnd => exact plain (State.knockStormEnd_dead ha _ _)
  | staleRecordReread => exact plain (State.staleReread_dead ha _ _)
  | cqFull => exact plain (State.cqFull_dead ha _ _)
  | holdoffExpiry => exact plain (State.holdoffEnd_dead ha _ _)
  | doorbellRecordRead => exact followed (State.recordRead_dead ha _ _ _)
  | leaseExpired => exact followed (State.leaseExpired_dead ha _)
  -- heads, tricks and Tarn
  | commitCutoff => exact followed (State.commitCutoff_dead ha _)
  | applicationEnd => exact followed (State.applicationEnd_dead ha)
  | noHeadApply => exact followed (State.noHeadApply_dead ha)
  | frameWrap => exact followed (State.frameWrap_dead ha _)
  | compositionRestart => exact followed (State.restartWrap_dead ha _)
  | blankingChangeStart => exact followed (State.blankingStart_dead ha _)
  | pgclkRelock => exact followed (State.pgclkRelock_dead ha _)
  | linkTrainingDone => exact followed (State.trainingDone_dead ha _ _)
  | trainingRetry => exact plain (State.trainingRetry_dead ha _)
  | hpdPlug => exact followed (State.hpdPlug_dead ha _ _)
  | hpdUnplug => exact followed (State.hpdUnplug_dead ha _)
  | irqHpd => exact plain (State.irqHpd_dead ha _ _)
  | hpdBounceEnd => exact plain (State.bounceEnd_dead ha _)
  | linkLoss => exact plain (State.linkLost_dead ha _)
  | auxReply => exact plain (State.auxReply_dead ha _ _)
  | auxRetry => exact plain (State.auxRetry_dead ha _)
  | auxStormEnd => exact plain (State.stormEnd_dead ha _)
  | composeLineStart => exact plain (State.composeLineStart_dead ha _ _)
  | composeChunk => exact plain (State.composeChunk_dead ha _)
  | scanChunk => exact plain (State.scanChunk_dead ha _)
  | trumpSignatureCheck => exact plain (State.trumpCheck_dead ha _)
  | wbBufferComplete => exact plain (State.wbComplete_dead ha _ _)
  | sessionTimeout => exact plain (State.sessionTimeout_dead ha)
  | lockoutEnd => exact plain (State.lockoutEnd_dead ha)
  | tpLeaseExpiry => exact followed (State.tpLease_dead ha)
  | tarnScrub => exact plain (h.scrub _ _)
  -- blitter and Sluice
  | bltFill | bltCopy | bltCopyKey | bltBlend | bltExpand => exact plain (State.cmdRun_dead ha _ _)
  | listReadDone => exact followed (State.listReadDone_dead ha _ _)
  | raceRowRelease => exact plain (State.raceRelease_dead ha _)
  | bltWatermark => exact plain (State.watermark_dead ha _)
  | blitListComplete => exact followed (State.listComplete_dead ha _)
  | channelGrant => exact plain (State.channelGrant_dead ha _)
  | stagingBufferGrant => exact plain (State.stagingGrant_dead ha _)
  | sluiceBurst => exact plain (State.sluBurst_dead ha _ _)
  | sluiceDrainDone => exact followed (State.sluDone_dead ha _)
  | sluiceAccessFail => exact followed (State.sluFail_dead ha _ _)
  | channelLeaseExpiry => exact followed (State.chanLease_dead ha _)
  -- audio and the headset
  | evaluationEnd | frameTick | audioSampleTick | playerReadDone | sinkSilent | capturePeriod | dozeIdleExpiry =>
    exact plain (by simp only [ha, Bool.false_eq_true, if_false])
  | headsetPlug => exact plain (State.hsPlug_dead ha)
  | typeDone => exact plain (State.hsTyped_dead ha _ _)
  | headsetUnplug => exact plain (State.hsUnplug_dead ha)
  | button => exact plain (State.hsReading_dead ha _ _)
  -- power, journal and boot
  | slumberIdleExpiry => exact plain h.slumberStart
  | wakeEvent => exact plain (State.wakeEvent_dead ha _)
  | entryStepEnd => exact followed (State.entryStepEnd_dead ha)
  | exitStep => exact followed (State.exitStep_dead ha _)
  | journalSnapshot => exact plain (State.journalSnapshot_dead ha)
  | snapshotCopyEnd => exact followed (State.snapshotCopyEnd_dead ha)
  | flashOpDone => exact followed (State.flashOpDone_dead ha _ _)
  | flashTimeout => exact followed (State.flashTimeout_dead ha _)
  | slotChoice => exact followed (State.slotChoice_dead ha _)
  | earlyLoaded => exact followed (State.earlyLoaded_dead ha _ _)
  | sceneRestore => exact followed (State.sceneRestore_dead ha _ _)
  | bootEnd => exact followed (State.bootEnd_dead ha)
  -- timers, pins and counters
  | timerTick | timerCapture => exact plain (State.tmrCycle_dead ha _ _ _)
  | patternMatchEvent => exact plain (State.patternMatch_dead ha _ _)
  | counterOverflow => exact plain (State.counterAdd_dead ha _ _)

/-- Settles O59: the five commands of `answersDead` by their own guards, all others by `exec_inert`. -/
theorem nothingMovesWhenOff : Obligations.NothingMovesWhenOff := by
  unfold Obligations.NothingMovesWhenOff
  intro c s h hrise hfall hpulse
  have hs : s.Inert := h
  have noted : ∀ t : State, t.glob = s.glob → exec c s = .next t.hifCause.follow → exec c s = .next t := by
    intro t hg he
    have ht : t.linked = false := by simpa only [State.linked, hg] using hs.linked
    rw [he, State.follow_of_eq (State.alive_of_unlinked ht) (State.hifCause_unlinked ht)]
  cases hc : answersDead c with
  | false => exact ⟨s, exec_inert hs c hc, rfl, fun _ _ => rfl⟩
  | true =>
    rcases answersDead_cases hc with ⟨x, r, rfl⟩ | rfl | ⟨ns, x, rfl⟩ | rfl | rfl
    · exact absurd rfl (hrise x r)
    · exact ⟨s, congrArg Host.Outcome.next (by simp [State.powerDown, hfall rfl]), rfl, fun _ _ => rfl⟩
    · exact ⟨s, congrArg Host.Outcome.next (by simp [State.resetPulse, hpulse ns x rfl]), rfl, fun _ _ => rfl⟩
    · exact ⟨{ s with hif := { s.hif with perst := true, linkUp := false } }, noted _ rfl rfl, rfl,
        fun hne => absurd rfl hne⟩
    · exact ⟨{ s with hif := { s.hif with linkUp := false } }, noted _ rfl rfl, rfl, fun _ hne => absurd rfl hne⟩

end Sys2Proof.Machine
end

section
/-!
PROOF. The restart after a freeze (O54): what each part of it leaves of the mode, the power sequence, the heads,
memory and the descriptors.
-/

set_option Elab.async false  -- the joined text is large: no thread per declaration

namespace Sys2Proof.Machine

/-! ### What sequencers, sound, Causeway, rings and registers leave as it is -/

/-- What a restart is judged by, beside the heads: modes, the power sequence, memory and descriptors. -/
def State.hull (s : State) := (s.glob, s.pwr, s.mem, s.hif.slots)

/-- What a restart is judged by. -/
def State.plant (s : State) := (s.hull, s.heads)

theorem State.plant_foldl {α : Type} {f : State → α → State} (h : ∀ s a, (f s a).plant = s.plant) (l : List α)
    (s : State) : (l.foldl f s).plant = s.plant :=
  List.foldlRecOn (motive := fun t : State => t.plant = s.plant) l f rfl fun t ht a _ => (h t a).trans ht

theorem Counted.plant {s t : State} (h : Counted s t) : t.plant = s.plant := by rw [h.1]; rfl

theorem Recorded.plant {s t : State} (h : Recorded s t) : t.plant = s.plant := by rw [h.1]; rfl

theorem State.hull_of_plant {s t : State} (h : t.plant = s.plant) : t.hull = s.hull := congrArg Prod.fst h

theorem State.heads_of_plant {s t : State} (h : t.plant = s.plant) : t.heads = s.heads := congrArg Prod.snd h

section
variable (s : State)

@[simp] theorem State.emit_plant (o : Out) : (s.emit o).plant = s.plant := rfl
@[simp] theorem State.setReg_plant (r : RegId) (i j : Nat) (w : Word) : (s.setReg r i j w).plant = s.plant := rfl
@[simp] theorem State.setF_plant (f : Fld) (v : Nat) : (s.setF f v).plant = s.plant := rfl
@[simp] theorem State.raiseF_plant (f : Fld) : (s.raiseF f).plant = s.plant := rfl
@[simp] theorem State.incF_plant (f : Fld) (n : Nat) : (s.incF f n).plant = s.plant := rfl
@[simp] theorem State.modSeq_plant (q : Fin 8) (f : SeqSt → SeqSt) : (s.modSeq q f).plant = s.plant := rfl
@[simp] theorem State.modDom_plant (d : Fin 3) (f : AudDom → AudDom) : (s.modDom d f).plant = s.plant := rfl
@[simp] theorem State.modPlay_plant (p : Fin 16) (f : PlaySt → PlaySt) : (s.modPlay p f).plant = s.plant := rfl
@[simp] theorem State.modBridge_plant (b : Fin 16) (f : BridgeSt → BridgeSt) : (s.modBridge b f).plant = s.plant := rfl
@[simp] theorem State.modSink_plant (k : Fin 17) (f : ASink → ASink) : (s.modSink k f).plant = s.plant := rfl
@[simp] theorem State.modPort_plant (p : Fin 5) (f : CwyPort → CwyPort) : (s.modPort p f).plant = s.plant := rfl
@[simp] theorem State.modCwy_plant (f : Cwy → Cwy) : (s.modCwy f).plant = s.plant := rfl
@[simp] theorem State.modTrick_plant (k : Nat) (f : Trick → Trick) : (s.modTrick k f).plant = s.plant := rfl
@[simp] theorem State.modRing_plant (f : Fin 16) (r : Fin 64) (g : RingSt → RingSt) :
    (s.modRing f r g).plant = s.plant := rfl
@[simp] theorem State.modJ_plant (f : Journal → Journal) : (s.modJ f).plant = s.plant := rfl
@[simp] theorem State.count_plant (c i n : Nat) (a : Attr) : (s.count c i n a).plant = s.plant :=
  (s.count_counted c i n a).plant
@[simp] theorem State.sendVec_plant (f v : Nat) : (s.sendVec f v).plant = s.plant := (Counted.sendVec s f v).plant
@[simp] theorem State.msixSend_plant (f v : Nat) : (s.msixSend f v).plant = s.plant := (Counted.msixSend s f v).plant
@[simp] theorem State.hostWrite_plant (f a : Nat) (bs : List Byte) : (s.hostWrite f a bs).plant = s.plant :=
  (Counted.hostWrite s f a bs).plant
@[simp] theorem State.faultDev_plant (c u i d : Nat) : (s.faultDev c u i d).plant = s.plant :=
  (s.faultDev_recorded c u i d).plant

@[simp] theorem State.ltrFrom_plant (old : State) : (s.ltrFrom old).plant = s.plant := by
  unfold State.ltrFrom
  split <;> rfl

theorem State.plant_trk (x : Trk) : { s with trk := x }.plant = s.plant := rfl

/-! The violation log and Causeway. -/

@[simp] theorem State.logEntry_plant (f : Fin 16) (r t c d : Nat) : (s.logEntry f r t c d).plant = s.plant := by
  simp only [State.logEntry]
  split
  · split <;> simp
  · simp

@[simp] theorem State.transmit_plant (p : Fin 5) (k : Pkt) : (s.transmit p k).plant = s.plant := by
  simp [State.transmit]

@[simp] theorem State.pushPkt_plant (p : Fin 5) (k : Pkt) : (s.pushPkt p k).plant = s.plant := by
  simp only [State.pushPkt]
  split
  · rfl
  · split <;> simp

@[simp] theorem State.cwyEvent_plant (c p : Nat) : (s.cwyEvent c p).plant = s.plant := by
  simp only [State.cwyEvent]
  split
  · rfl
  · split <;> simp

@[simp] theorem State.reportBenched_plant (id r k : Nat) : (s.reportBenched id r k).plant = s.plant := by
  simp only [State.reportBenched]
  split <;> simp [State.benchRecord, State.wrapF]

@[simp] theorem State.benchChild_plant (p : Fin 5) (r : Nat) : (s.benchChild p r).plant = s.plant := by
  simp only [State.benchChild]
  split <;> simp

@[simp] theorem State.sendDown_plant (p : Fin 5) (k : Pkt) : (s.sendDown p k).plant = s.plant := by
  simp only [State.sendDown]
  split <;> simp

@[simp] theorem State.castWall_plant (t : Trick) (k : Pkt) : (s.castWall t k).plant = s.plant := by
  simp only [State.castWall, State.castAll, State.castDown]
  split <;> exact State.plant_foldl (fun s p => by split <;> simp) _ s

/-! Tricks that are dropped. -/

@[simp] theorem State.wallDropped_plant (k : Nat) : (s.wallDropped k).plant = s.plant := by
  have hj : ∀ (t : Trick) (s : State), (downPorts.foldl (fun s p => s.modPort p (fun c =>
      { c with rejoin := if c.rejoin = some t.id then none else c.rejoin })) s).plant = s.plant :=
    fun t s => State.plant_foldl (fun s p => by simp) _ s
  have hd : ∀ (b : Bool) (t : Trick), (if b then s.castWall t (.discard t.id) else s).plant = s.plant :=
    fun b t => by split <;> simp
  simp only [State.wallDropped]
  split
  · rfl
  · split
    · rfl
    · split <;> simp only [State.modCwy_plant, hj, hd]

@[simp] theorem State.audDiscard_plant (k : Nat) : (s.audDiscard k).plant = s.plant :=
  State.plant_foldl (fun s d => by split <;> [split <;> simp; rfl]) _ s

@[simp] theorem State.dropTrick_plant (k : Nat) : (s.dropTrick k).plant = s.plant := by
  unfold State.dropTrick
  refine (State.plant_trk _ _).trans ((State.plant_foldl (fun s q => ?_) allSeqs _).trans (s.audDiscard_plant k))
  split <;> [split <;> simp; rfl]

@[simp] theorem State.discardTrick_plant (k : Nat) : (s.discardTrick k).plant = s.plant := by
  simp [State.discardTrick]

@[simp] theorem State.discardTricks_plant (p : Trick → Bool) : (s.discardTricks p).plant = s.plant :=
  State.plant_foldl (fun s t => by simp) _ s

/-! Rings. -/

@[simp] theorem State.writeDevFlags_plant (f : Fin 16) (r : Fin 64) : (s.writeDevFlags f r).plant = s.plant := by
  simp [State.writeDevFlags]

@[simp] theorem State.readRecord_plant (f : Fin 16) (r : Fin 64) : (s.readRecord f r).plant = s.plant := by
  simp only [State.readRecord]
  split <;> simp

@[simp] theorem State.ringStart_plant (f : Fin 16) (r : Fin 64) : (s.ringStart f r).plant = s.plant := by
  simp only [State.ringStart]
  split
  · simp
  · split <;> simp

@[simp] theorem State.rereg_plant (f : Fin 16) : (s.rereg f).plant = s.plant :=
  State.plant_foldl (fun s r => by dsimp only; split <;> simp) _ _

@[simp] theorem State.pollRecords_plant : s.pollRecords.plant = s.plant :=
  State.plant_foldl (fun s e => by dsimp only; split <;> simp) _ s

@[simp] theorem State.ringMsg_plant (f : Fin 16) (r : Fin 64) : (s.ringMsg f r).plant = s.plant := by
  simp only [State.ringMsg]
  split
  · rfl
  · split
    · rfl
    · split <;> split <;> simp

@[simp] theorem State.writeCpl_plant (f : Fin 16) (r : Fin 64) (c : Cpl) : (s.writeCpl f r c).plant = s.plant := by
  simp only [State.writeCpl]
  split <;> simp

/-! Sequencers and sound. -/

@[simp] theorem State.seqIdleFor_plant (n : Fin 6) : (s.seqIdleFor n).plant = s.plant :=
  State.plant_foldl (fun s q => by split <;> [split <;> simp; rfl]) _ s

@[simp] theorem State.wakeStalled_plant : s.wakeStalled.plant = s.plant :=
  State.plant_foldl (fun s q => by dsimp only; split <;> simp) _ s

@[simp] theorem State.seqFreeStart_plant : s.seqFreeStart.plant = s.plant :=
  State.plant_foldl (fun s q => by split <;> simp [State.oweStart]) _ s

@[simp] theorem State.bridgesRefill_plant (d : Fin 3) : (s.bridgesRefill d).plant = s.plant :=
  State.plant_foldl (fun s b => by simp) _ s

@[simp] theorem State.sinksFadeIn_plant (d : Fin 3) (m n k : Nat) : (s.sinksFadeIn d m n k).plant = s.plant :=
  State.plant_foldl (fun s k => by split <;> simp [State.sinkFadeIn]) _ s

@[simp] theorem State.domRescale_plant (d : Fin 3) (n k : Nat) : (s.domRescale d n k).plant = s.plant := by
  simp only [State.domRescale]
  split
  · rfl
  · split <;> rfl

@[simp] theorem State.domStop_plant (d : Fin 3) : (s.domStop d).plant = s.plant :=
  State.plant_foldl (fun s b => by dsimp only; split <;> [split <;> simp; rfl]) _ _

@[simp] theorem State.domReview_plant : s.domReview.plant = s.plant :=
  State.plant_foldl (fun s d => by
    split
    · simp
    · simp [State.domStart]
    · split <;> simp [State.domChange]
    · rfl) _ s

@[simp] theorem State.playReview_plant : s.playReview.plant = s.plant :=
  State.plant_foldl (fun s p => by split <;> simp [State.playIdle]) _ s

@[simp] theorem State.dpSinkReview_plant : s.dpSinkReview.plant = s.plant :=
  State.plant_foldl (fun s k => by split <;> [(dsimp only; split <;> simp); rfl]) _ s

@[simp] theorem State.audReview_plant : s.audReview.plant = s.plant := by
  simp only [State.audReview]
  split <;> simp

@[simp] theorem State.audLoseFlight_plant : s.audLoseFlight.plant = s.plant :=
  State.plant_foldl (fun s d => by dsimp only; split <;> simp) _ _

@[simp] theorem State.audEmpty_plant : s.audEmpty.plant = s.plant :=
  (State.plant_foldl (fun s d => by simp) _ _).trans s.audLoseFlight_plant

@[simp] theorem State.playQuit_plant (p : Fin 16 → Bool) : (s.playQuit p).plant = s.plant :=
  State.plant_foldl (fun s p => by split <;> simp) _ s

/-! The journal and the trump session. -/

@[simp] theorem State.storeNext_plant : s.storeNext.plant = s.plant := by
  unfold State.storeNext
  split <;> simp [State.storeStart]

@[simp] theorem State.closeSession_plant : s.closeSession.plant = s.plant := rfl

@[simp] theorem State.loseCommit_plant (x : Slot) : (s.loseCommit x).plant = s.plant := by
  unfold State.loseCommit
  split
  · exact State.plant_foldl (fun s t => by simp) _ s
  · rfl

end

end Sys2Proof.Machine
end

section
/-!
PROOF. The restart after a freeze (O54): descriptors in flight end, and those that stay are held.
-/

set_option Elab.async false  -- the joined text is large: no thread per declaration

namespace Sys2Proof.Machine

/-- What no descriptor and no unit that gives one up changes. -/
def State.rail (s : State) := (s.glob, s.pwr, s.heads)

/-- What no unit that gives a descriptor up changes. -/
def State.site (s : State) := (s.rail, s.hif)

theorem State.site_foldl {α : Type} {f : State → α → State} (h : ∀ s a, (f s a).site = s.site) (l : List α)
    (s : State) : (l.foldl f s).site = s.site :=
  List.foldlRecOn (motive := fun t : State => t.site = s.site) l f rfl fun t ht a _ => (h t a).trans ht

theorem State.rail_foldl {α : Type} {f : State → α → State} (h : ∀ s a, (f s a).rail = s.rail) (l : List α)
    (s : State) : (l.foldl f s).rail = s.rail :=
  List.foldlRecOn (motive := fun t : State => t.rail = s.rail) l f rfl fun t ht a _ => (h t a).trans ht

theorem State.rail_of_plant {s t : State} (h : t.plant = s.plant) : t.rail = s.rail := by
  simp only [State.plant, State.hull, Prod.mk.injEq] at h
  simp [State.rail, h]

theorem State.slots_of_plant {s t : State} (h : t.plant = s.plant) : t.hif.slots = s.hif.slots :=
  congrArg (fun x => x.1.2.2.2) h

theorem State.mem_of_plant {s t : State} (h : t.plant = s.plant) : t.mem = s.mem :=
  congrArg (fun x => x.1.2.2.1) h

theorem State.rail_of_site {s t : State} (h : t.site = s.site) : t.rail = s.rail := congrArg Prod.fst h

theorem State.slots_of_site {s t : State} (h : t.site = s.site) : t.hif.slots = s.hif.slots :=
  congrArg (fun x => x.2.slots) h

/-! ### A unit gives its descriptor up -/

@[simp] theorem State.scramble_site (s : State) (lo hi : Nat) : (s.scramble lo hi).site = s.site := rfl
@[simp] theorem State.bltFree_site (s : State) (c : Fin 8) : (s.bltFree c).site = s.site := rfl
@[simp] theorem State.chanFree_site (s : State) (c : Fin 32) : (s.chanFree c).site = s.site := rfl

@[simp] theorem State.bltAbort_site (s : State) (id : Nat) : (s.bltAbort id).site = s.site := by
  unfold State.bltAbort
  refine State.site_foldl (fun s c => ?_) _ s
  dsimp only
  split
  · exact (State.bltFree_site _ c).trans (State.site_foldl (fun s cmd => by simp) _ s)
  · rfl

@[simp] theorem State.sluSpoilDst_site (s : State) (x : Slot) : (s.sluSpoilDst x).site = s.site := by
  unfold State.sluSpoilDst
  split <;> rfl

@[simp] theorem State.sluAbort_site (s : State) (id : Nat) : (s.sluAbort id).site = s.site :=
  State.site_foldl (fun s c => by split <;> [split <;> simp; rfl]) _ s

@[simp] theorem State.playAbandon_site (s : State) (p : Slot → Bool) : (s.playAbandon p).site = s.site :=
  State.site_foldl (fun s p => by dsimp only; split <;> rfl) _ s

@[simp] theorem State.unitAbort_site (s : State) (x : Slot) : (s.unitAbort x).site = s.site := by
  unfold State.unitAbort
  split
  · exact s.bltAbort_site x.id
  · exact s.sluAbort_site x.id
  · exact s.playAbandon_site _
  · rfl
  · rfl

/-! ### A descriptor ends -/

theorem State.dropSlot_rail (s : State) (id : Nat) : (s.dropSlot id).rail = s.rail := rfl

theorem State.modSlot_rail (s : State) (id : Nat) (f : Slot → Slot) : (s.modSlot id f).rail = s.rail := rfl

/-- The trick that descriptor `x` names is spoiled by its status. -/
def State.spoilBy (s : State) (x : Slot) (status : Nat) (detail : Word) : State :=
  match x.trick with
  | some k => if spoils status && !x.joined then s.spoil k status detail else s
  | none => s

/-- The completion `c` of slot `id` is written out, discarded, or held for room. -/
def State.endSlot (s : State) (id : Nat) (f : Fin 16) (r : Fin 64) (c : Cpl) : State :=
  if (s.ring f r).held.isEmpty && (s.ring f r).hasRoom then (s.writeCpl f r c).dropSlot id
  else if s.fenced f || (s.ring f r).phase ≠ .on then s.dropSlot id
  else
    (s.modRing f r (fun g => { g with held := g.held ++ [⟨id, c⟩] })).modSlot id (fun x => { x with st := .held })

theorem State.complete_of_slot {s : State} {id : Nat} {x : Slot} (h : s.slot id = some x) (status : Nat)
    (detail : Word) : s.complete id status detail = (s.spoilBy x status detail).endSlot id x.hdr.fn x.hdr.ring
      ((s.spoilBy x status detail).cplOf x.hdr status detail) := by
  simp only [State.complete, h]
  rfl

theorem State.complete_of_none {s : State} {id : Nat} (h : s.slot id = none) (status : Nat) (detail : Word) :
    s.complete id status detail = s := by
  simp only [State.complete, h]

theorem State.spoilBy_plant (s : State) (x : Slot) (status : Nat) (detail : Word) :
    (s.spoilBy x status detail).plant = s.plant := by
  unfold State.spoilBy
  split <;> [(split <;> rfl); rfl]

/-- A slot whose descriptor ends is dropped, or stays held. -/
theorem State.endSlot_cases (s : State) (id : Nat) (f : Fin 16) (r : Fin 64) (c : Cpl) :
    ∃ t : State, t.plant = s.plant ∧ (s.endSlot id f r c = t.dropSlot id ∨
      s.endSlot id f r c = t.modSlot id (fun x => { x with st := .held })) := by
  unfold State.endSlot
  split
  · exact ⟨_, s.writeCpl_plant f r c, .inl rfl⟩
  · split
    · exact ⟨s, rfl, .inl rfl⟩
    · exact ⟨_, s.modRing_plant f r _, .inr rfl⟩

theorem State.complete_cases (s : State) (id status : Nat) (detail : Word) :
    (s.slot id = none ∧ s.complete id status detail = s) ∨
    ∃ t : State, t.plant = s.plant ∧ (s.complete id status detail = t.dropSlot id ∨
      s.complete id status detail = t.modSlot id (fun x => { x with st := .held })) := by
  cases h : s.slot id with
  | none => exact .inl ⟨rfl, State.complete_of_none h _ _⟩
  | some x =>
    obtain ⟨t, ht, he⟩ := (s.spoilBy x status detail).endSlot_cases id x.hdr.fn x.hdr.ring
      ((s.spoilBy x status detail).cplOf x.hdr status detail)
    rw [← State.complete_of_slot h] at he
    exact .inr ⟨t, ht.trans (s.spoilBy_plant x _ _), he⟩

theorem State.complete_rail (s : State) (id st : Nat) (d : Word) : (s.complete id st d).rail = s.rail := by
  obtain ⟨-, h⟩ | ⟨t, ht, h | h⟩ := s.complete_cases id st d
  · rw [h]
  · rw [h]; exact (t.dropSlot_rail id).trans (State.rail_of_plant ht)
  · rw [h]; exact (t.modSlot_rail id _).trans (State.rail_of_plant ht)

/-- Of the descriptors that stand after a completion, those with its number are held. -/
theorem State.mem_slots_complete {s : State} {id st : Nat} {d : Word} {y : Slot}
    (h : y ∈ (s.complete id st d).hif.slots) : y.st = .held ∨ (y ∈ s.hif.slots ∧ y.id ≠ id) := by
  obtain ⟨hnone, he⟩ | ⟨t, ht, he | he⟩ := s.complete_cases id st d <;> rw [he] at h
  · exact .inr ⟨h, by simpa using List.find?_eq_none.1 hnone y h⟩
  · rw [← State.slots_of_plant ht]
    exact .inr (by simpa [State.dropSlot] using h)
  · rw [← State.slots_of_plant ht]
    obtain ⟨x, hx, rfl⟩ := List.mem_map.1 (show y ∈ List.map _ t.hif.slots from h)
    by_cases hid : x.id = id
    · simp [hid]
    · simp [hid, hx]

/-- How a descriptor fetched and not completed ends in FREEZE. -/
def State.freezeSlot (s : State) (x : Slot) : State :=
  ((s.unitAbort x).loseCommit x).complete x.id stFrozen (s.reg .DBG_FRZ_ENTRY 0 0)

theorem State.freezeSlot_rail (s : State) (x : Slot) : (s.freezeSlot x).rail = s.rail := by
  rw [State.freezeSlot, State.complete_rail, State.rail_of_plant (State.loseCommit_plant _ _),
    State.rail_of_site (s.unitAbort_site x)]

theorem State.mem_slots_freezeSlot {s : State} {x y : Slot} (h : y ∈ (s.freezeSlot x).hif.slots) :
    y.st = .held ∨ (y ∈ s.hif.slots ∧ y.id ≠ x.id) := by
  have hs := (State.slots_of_plant ((s.unitAbort x).loseCommit_plant x)).trans
    (State.slots_of_site (s.unitAbort_site x))
  rw [← hs]
  exact State.mem_slots_complete h

/-- Once the descriptors of a list have ended, those of the rest that are not held stood outside it. -/
theorem State.held_of_foldl_freezeSlot : ∀ (xs : List Slot) (s : State),
    (∀ y ∈ s.hif.slots, y.st ≠ .held → y.id ∈ xs.map (·.id)) →
    ∀ y ∈ (xs.foldl State.freezeSlot s).hif.slots, y.st = .held
  | [], s, h, y, hy => by simpa using h y hy
  | x :: xs, s, h, y, hy => by
    refine State.held_of_foldl_freezeSlot xs (s.freezeSlot x) (fun z hz hst => ?_) y hy
    obtain ⟨hz', hne⟩ := (State.mem_slots_freezeSlot hz).resolve_left hst
    simpa [hne] using h z hz' hst

/-- Descriptors that are not held, in the order in which they end. -/
def State.running (s : State) : List Slot := s.hif.slots.filter (fun x => x.st ≠ .held)

/-- Ending the descriptors changes, beside what each end changes, only the tricks shown. -/
theorem State.freezeSlots_plant (s : State) :
    s.freezeSlots.plant = (s.running.foldl State.freezeSlot s).plant := State.plant_trk _ _

theorem State.freezeSlots_rail (s : State) : s.freezeSlots.rail = s.rail :=
  (State.rail_of_plant s.freezeSlots_plant).trans (State.rail_foldl State.freezeSlot_rail _ s)

/-- No descriptor is left running (R109). -/
theorem State.held_of_freezeSlots (s : State) : ∀ y ∈ s.freezeSlots.hif.slots, y.st = .held := by
  rw [State.slots_of_plant s.freezeSlots_plant]
  refine State.held_of_foldl_freezeSlot _ s (fun y hy hst => List.mem_map_of_mem ?_)
  simp [State.running, hy, hst]

/-! ### Descriptors that go with their function or with the host interface -/

/-- The mode, the power sequence and the heads stay, and so does memory where no descriptor runs. -/
def State.Spares (s t : State) : Prop :=
  t.rail = s.rail ∧ (s.hif.slots = [] → t.hif.slots = [] ∧ t.mem = s.mem)

theorem State.Spares.trans {s t u : State} (h : s.Spares t) (k : t.Spares u) : s.Spares u := by
  obtain ⟨hr, hv⟩ := h
  obtain ⟨kr, kv⟩ := k
  refine ⟨kr.trans hr, fun hs => ?_⟩
  obtain ⟨ht, hm⟩ := hv hs
  obtain ⟨hu, hn⟩ := kv ht
  exact ⟨hu, hn.trans hm⟩

theorem State.Spares.of_plant {s t : State} (h : t.plant = s.plant) : s.Spares t :=
  ⟨State.rail_of_plant h, fun hs => ⟨(State.slots_of_plant h).trans hs, State.mem_of_plant h⟩⟩

theorem State.abandonSlots_plant (s : State) (p : Slot → Bool) : (s.abandonSlots p).plant =
    ((s.hif.slots.filter p).foldl (fun s x => (s.unitAbort x).dropSlot x.id) s).plant := State.plant_trk _ _

theorem State.abandonSlots_spares (s : State) (p : Slot → Bool) : s.Spares (s.abandonSlots p) := by
  refine ⟨(State.rail_of_plant (s.abandonSlots_plant p)).trans (State.rail_foldl (fun s x => ?_) _ s), fun hs => ?_⟩
  · exact (State.dropSlot_rail _ _).trans (State.rail_of_site (s.unitAbort_site x))
  · have h : (s.abandonSlots p).plant = s.plant := by rw [s.abandonSlots_plant, hs]; rfl
    exact (State.Spares.of_plant h).2 hs

@[simp] theorem State.dropRings_plant (s : State) (p : Nat → Bool) : (s.dropRings p).plant = s.plant := rfl

theorem State.pageReset_spares (s : State) (f : Fin 16) : s.Spares (s.pageReset f) := .of_plant rfl

theorem State.ringsOff_plant (s : State) (f : Fin 16) :
    (allRings.foldl (fun s r => s.setF (F.HIF_RING_CTL_EN f r) 0) s).plant = s.plant :=
  State.plant_foldl (fun s r => by simp) allRings s

/-- A function-level reset out of FREEZE (R108). -/
theorem State.vfFlr_spares {s : State} (f : Fin 16) (h : s.frozen = false) : s.Spares (s.vfFlr f) := by
  simp only [State.vfFlr, h, Bool.false_eq_true, if_false]
  split
  · exact .of_plant rfl
  split
  · exact .of_plant rfl
  refine ((s.pageReset_spares f).trans (State.abandonSlots_spares _ fun x => x.hdr.fn = f)).trans
    (.of_plant ?_)
  rw [State.playQuit_plant, State.setReg_plant, State.rereg_plant, State.dropRings_plant, State.ringsOff_plant,
    State.discardTricks_plant]

/-- The function-level resets that waited for the release of the freeze (R457). -/
theorem State.flrDue_spares {s : State} (h : s.frozen = false) :
    { s with glob := { s.glob with flrPending := 0 } }.Spares s.flrDue := by
  unfold State.flrDue
  refine List.foldlRecOn (motive := fun t : State => State.Spares { s with glob := { s.glob with flrPending := 0 } } t)
    _ _ (.of_plant rfl) (fun t ht f _ => ht.trans (State.vfFlr_spares f ?_))
  have hg : t.glob = { s.glob with flrPending := 0 } := congrArg Prod.fst ht.1
  simpa [State.frozen, hg] using h

theorem State.hifReset_slots (s : State) : s.hifReset.hif.slots = [] := by
  simp only [State.hifReset]

/-- The host-interface reset (R107) leaves no descriptor. -/
theorem State.hifReset_spares (s : State) : s.Spares s.hifReset ∧ s.hifReset.hif.slots = [] := by
  obtain ⟨hr, hm⟩ := s.abandonSlots_spares (fun _ => true)
  refine ⟨⟨?_, fun hs => ⟨s.hifReset_slots, ?_⟩⟩, s.hifReset_slots⟩
  · exact (State.rail_of_plant (State.discardTricks_plant _ _)).trans hr
  · exact (State.mem_of_plant (State.discardTricks_plant _ _)).trans (hm hs).2

theorem State.capturesOff_plant (s : State) :
    ((List.range 8).foldl (fun s r => s.setF (F.CAP_CTL_EN r) 0) s).plant = s.plant :=
  State.plant_foldl (fun s r => by simp) _ s

theorem State.hifResetAll_spares (s : State) : s.Spares s.hifResetAll ∧ s.hifResetAll.hif.slots = [] := by
  have hp : s.hifResetAll.plant = s.hifReset.plant := by
    rw [State.hifResetAll, State.ltrFrom_plant, State.raiseF_plant, State.capturesOff_plant,
      State.audLoseFlight_plant, State.playQuit_plant, State.closeSession_plant]
  obtain ⟨hs, hn⟩ := s.hifReset_spares
  exact ⟨hs.trans (.of_plant hp), (State.slots_of_plant hp).trans hn⟩

theorem State.freezeSlots_spares (s : State) : s.Spares s.freezeSlots := by
  refine ⟨s.freezeSlots_rail, fun hs => ?_⟩
  have h : s.freezeSlots.plant = s.plant := by rw [s.freezeSlots_plant, State.running, hs]; rfl
  exact (State.Spares.of_plant h).2 hs

end Sys2Proof.Machine
end

section
/-!
PROOF. The restart after a freeze (O54): every enabled head starts from step 2 of R304, and one being disabled is off.
-/

set_option Elab.async false  -- the joined text is large: no thread per declaration

namespace Sys2Proof.Machine

/-- From `s` to `t` only head `n` moves, and with it nothing of the modes, the power sequence, memory and descriptors. -/
def State.OnlyHead (n : Fin 6) (s t : State) : Prop := t.hull = s.hull ∧ ∀ m, m ≠ n → t.head m = s.head m

theorem State.OnlyHead.trans {n : Fin 6} {s t u : State} (h : State.OnlyHead n s t) (k : State.OnlyHead n t u) :
    State.OnlyHead n s u := ⟨k.1.trans h.1, fun m hm => (k.2 m hm).trans (h.2 m hm)⟩

theorem State.OnlyHead.of_plant {s t : State} (h : t.plant = s.plant) (n : Fin 6) : State.OnlyHead n s t :=
  ⟨State.hull_of_plant h, fun m _ => State.head_of_heads (State.heads_of_plant h) m⟩

theorem State.head_of_plant {s t : State} (h : t.plant = s.plant) (n : Fin 6) : t.head n = s.head n :=
  State.head_of_heads (State.heads_of_plant h) n

section
variable (s : State) (n : Fin 6)

theorem State.modHead_onlyHead (f : HeadSt → HeadSt) : State.OnlyHead n s (s.modHead n f) :=
  ⟨rfl, fun _ hm => s.head_modHead_ne hm f⟩

/-! ### One head -/

theorem State.auxSend_plant : (s.auxSend n).plant = s.plant := by
  unfold State.auxSend
  split <;> [(split <;> rfl); rfl]

theorem State.endVideo_head : (s.endVideo n).head n = { s.head n with
    sc := { (s.head n).sc with video := false, sentWhole := false }
    dp := { (s.head n).dp with audMuted := true, prOn := false } } := by
  simp [State.endVideo, State.modSc, State.modDp]

theorem State.endVideo_onlyHead : State.OnlyHead n s (s.endVideo n) :=
  (s.modHead_onlyHead n _).trans (State.modHead_onlyHead _ n _)

theorem State.stopBeams_head : (s.stopBeams n).head n = { s.head n with
    beams := false, composing := false, active := false, sc := { (s.head n).sc with scanReal := false } } := by
  rw [State.stopBeams, State.head_modHead_self, State.head_of_plant (s.seqIdleFor_plant n)]

theorem State.stopBeams_onlyHead : State.OnlyHead n s (s.stopBeams n) :=
  (State.OnlyHead.of_plant (s.seqIdleFor_plant n) n).trans (State.modHead_onlyHead _ n _)

theorem State.endTraining_head : (s.endTraining n).head n =
    { s.head n with dp := { (s.head n).dp with training := false } } := by
  unfold State.endTraining
  split
  · rw [State.head_of_plant (State.auxSend_plant _ n), State.modDp, State.head_modHead_self]
  · next h =>
    have hf : (s.head n).dp.training = false := by simpa using h
    rw [← hf]

theorem State.endTraining_onlyHead : State.OnlyHead n s (s.endTraining n) := by
  unfold State.endTraining
  split
  · exact (s.modHead_onlyHead n _).trans (.of_plant (State.auxSend_plant _ n) n)
  · exact .of_plant rfl n

theorem State.blankFromRelock_head : (s.blankFromRelock n).head n =
    { s.head n with blank := .s2, noWrap := false, inWindow := false } := State.head_modHead_self ..

theorem State.blankFromRelock_onlyHead : State.OnlyHead n s (s.blankFromRelock n) := s.modHead_onlyHead n _

theorem State.dropOldPages_plant : (s.dropOldPages n).plant = s.plant := rfl

/-! ### Heads in step 3 -/

/-- Whether the head is enabled, and is being disabled. -/
def HeadSt.power (h : HeadSt) : Bool × Bool := (h.enabled, h.disabling)

/-- From `s` to `t` only head `n` moves, and stays enabled, disabled or on its way as it was. -/
def State.Within (n : Fin 6) (s t : State) : Prop := State.OnlyHead n s t ∧ (t.head n).power = (s.head n).power

theorem State.Within.trans {n : Fin 6} {s t u : State} (h : State.Within n s t) (k : State.Within n t u) :
    State.Within n s u := ⟨h.1.trans k.1, k.2.trans h.2⟩

theorem State.Within.of_plant {s t : State} (h : t.plant = s.plant) (n : Fin 6) : State.Within n s t :=
  ⟨.of_plant h n, by rw [State.head_of_plant h]⟩

theorem State.modHead_within {f : HeadSt → HeadSt} (hf : ∀ h, (f h).power = h.power) :
    State.Within n s (s.modHead n f) := ⟨s.modHead_onlyHead n f, by rw [State.head_modHead_self, hf]⟩

theorem State.modSk_within (f : SinkSt → SinkSt) : State.Within n s (s.modSk n f) :=
  s.modHead_within n (fun _ => rfl)

theorem State.modDp_within (f : DpSt → DpSt) : State.Within n s (s.modDp n f) :=
  s.modHead_within n (fun _ => rfl)

theorem State.endTraining_within : State.Within n s (s.endTraining n) :=
  ⟨s.endTraining_onlyHead n, by rw [s.endTraining_head n]; rfl⟩

theorem State.wbPublish_plant : (s.wbPublish n).plant = s.plant := by
  simp only [State.wbPublish]
  split <;> rfl

theorem State.sinkAdopt_within : State.Within n s (s.sinkAdopt n) := by
  have hc : ∀ (b : Bool) (s : State), State.Within n s (if b then s.raiseF (F.SINK_STAT_CFG n) else s) := by
    intro b s
    split <;> exact .of_plant rfl n
  simp only [State.sinkAdopt]
  split
  · exact (s.modSk_within n _).trans (hc _ _)
  · exact (((s.modSk_within n _).trans (hc _ _)).trans (State.modSk_within _ n _)).trans
      (.of_plant (State.wbPublish_plant _ n) n)

/-- The blank frame of a head (R304) moves that head only. -/
theorem State.blankFrame_within : State.Within n s (s.blankFrame n) := by
  refine ((((s.modHead_within n ?_).trans (State.sinkAdopt_within _ n)).trans
    (State.modHead_within _ n ?_)).trans (State.modHead_within _ n ?_)).trans (State.modHead_within _ n ?_)
  all_goals exact fun _ => rfl

/-- A training attempt of a head moves that head only. -/
theorem State.startTraining_within : State.Within n s (s.startTraining n) := by
  have hr : ∀ r : Nat, State.Within n s (if r = 0 then s else
      (s.raiseF (F.HEAD_STAT_TS_ERR n)).setF (F.HEAD_STAT_TS_REASON n) r) := by
    intro r
    split <;> exact .of_plant rfl n
  simp only [State.startTraining]
  split
  · exact .of_plant rfl n
  split
  · exact ((hr _).trans (State.modDp_within _ n _)).trans (State.endTraining_within _ n)
  · exact ((hr _).trans (State.modDp_within _ n _)).trans (.of_plant (State.emit_plant _ _) n)

end

/-- From `s` to `t` only heads in step 3 move, and stay enabled, disabled or on their way as they were. -/
def State.OnlyStep3 (s t : State) : Prop := t.hull = s.hull ∧ ∀ m, (t.head m).power = (s.head m).power ∧
  ((s.head m).blank ≠ .s3 → t.head m = s.head m)

theorem State.Within.power {n : Fin 6} {s t : State} (h : State.Within n s t) (m : Fin 6) :
    (t.head m).power = (s.head m).power := by
  by_cases e : m = n
  · rw [e, h.2]
  · rw [h.1.2 m e]

/-- Heads taken in turn, each moving only itself. -/
theorem State.foldl_within {f : State → Fin 6 → State} (hf : ∀ s n, State.Within n s (f s n)) (l : List (Fin 6))
    (s : State) : (l.foldl f s).hull = s.hull ∧ ∀ m, ((l.foldl f s).head m).power = (s.head m).power ∧
      (m ∉ l → (l.foldl f s).head m = s.head m) := by
  refine List.foldlRecOn (motive := fun t : State => t.hull = s.hull ∧ ∀ m, (t.head m).power = (s.head m).power ∧
    (m ∉ l → t.head m = s.head m)) l f ⟨rfl, fun _ => ⟨rfl, fun _ => rfl⟩⟩ (fun t ht n hn => ?_)
  obtain ⟨hh, hm⟩ := ht
  have hs := hf t n
  refine ⟨hs.1.1.trans hh, fun m => ⟨(hs.power m).trans (hm m).1, fun hl => ?_⟩⟩
  exact (hs.1.2 m (fun e => hl (e ▸ hn))).trans ((hm m).2 hl)

/-- Heads in step 3 whose attempts, and those of the heads in step with them, are over (R304, R308). -/
def State.step3Due (s : State) : List (Fin 6) :=
  allHeads.filter (fun n => (s.head n).blank = .s3 && (s.blankGroup n).all (fun k => !(s.head k).dp.training))

/-- Heads in step 3 whose attempts are over go on (R304, R305). -/
theorem State.settleStep3_onlyStep3 (s : State) : State.OnlyStep3 s s.settleStep3 := by
  obtain ⟨hh, hm⟩ := State.foldl_within (fun s n => s.blankFrame_within n) s.step3Due s
  obtain ⟨kh, km⟩ := State.foldl_within
    (f := fun s n => if 0 < (s.head n).dp.retries then s.startTraining n else s)
    (fun s n => by split <;> [exact s.startTraining_within n; exact .of_plant rfl n]) s.step3Due
    (s.step3Due.foldl State.blankFrame s)
  refine ⟨kh.trans hh, fun m => ⟨(km m).1.trans (hm m).1, fun hb => ?_⟩⟩
  have hd : m ∉ s.step3Due := by simp [State.step3Due, hb]
  exact ((km m).2 hd).trans ((hm m).2 hd)

/-! ### Every head after a freeze -/

section
variable (s : State) (n : Fin 6)

/-- A head that is off. -/
def HeadSt.isOff (h : HeadSt) : Prop := h.enabled = false ∧ h.blank = .none

/-- A head that starts from step 2 of R304, its link down. -/
def HeadSt.atStep2 (h : HeadSt) : Prop :=
  h.blank = .s2 ∧ h.beams = false ∧ h.dp.trained = false ∧ h.dp.needTrain = true ∧ h.sc.video = false

/-- Turning a head off, before the heads in step 3 go on. -/
def State.headOut (s : State) (n : Fin 6) : State :=
  let s := (((s.endVideo n).stopBeams n).emit (.aux n 0 0x600 [2])).dropOldPages n
  let s := (s.setF (F.TRUMP_STAT_FB n) 0).modHead n (fun h => { h with
    enabled := false, disabling := false, disableWrapped := false, blank := .none, noWrap := false
    coast := false, fb := false, fbEnter := false, fbLeave := false, early := false, queue := [] })
  (s.modDp n (fun d => { d with retryWait := false, trained := false })).endTraining n

theorem State.headOff_eq : s.headOff n = (s.headOut n).settleStep3.wakeStalled := rfl

theorem State.headOut_onlyHead : State.OnlyHead n s (s.headOut n) := by
  have hstop := (s.endVideo_onlyHead n).trans (State.stopBeams_onlyHead _ n)
  have hout := ((hstop.trans (.of_plant (State.emit_plant _ (.aux n 0 0x600 [2])) n)).trans
    (.of_plant (State.dropOldPages_plant _ n) n)).trans (.of_plant (State.setF_plant _ (F.TRUMP_STAT_FB n) 0) n)
  exact ((hout.trans (State.modHead_onlyHead _ n _)).trans (State.modDp_within _ n _).1).trans
    (State.endTraining_onlyHead _ n)

theorem State.headOut_isOff : ((s.headOut n).head n).isOff := by
  simp only [State.headOut, State.endTraining_head, State.modDp, State.head_modHead_self]
  exact ⟨rfl, rfl⟩

/-- What becomes of head `n` when a freeze ends. -/
def State.freezeHead (s : State) (n : Fin 6) : State :=
  if (s.head n).disabling then s.headOff n
  else
    let s := (s.endVideo n).stopBeams n
    let s := s.modDp n (fun d => { d with trained := false, retryWait := false, retries := 0, needTrain := true })
    (s.endTraining n).blankFromRelock n

theorem State.freezeHeads_eq : s.freezeHeads = s.enabledHeads.foldl State.freezeHead s := rfl

/-- A head after a freeze: off where it was being disabled, else in step 2 (R306, R459). -/
def HeadSt.Resumes (h h' : HeadSt) : Prop :=
  (h.disabling = false → h'.atStep2) ∧ (h.disabling = true → h'.isOff)

theorem HeadSt.Resumes.blank {h h' : HeadSt} (k : h.Resumes h') : h'.blank ≠ .s3 := by
  cases hd : h.disabling with
  | false => rw [(k.1 hd).1]; decide
  | true => rw [(k.2 hd).2]; decide

/-- One head resumes; another stays enabled or being disabled as it was, and moves only in step 3. -/
theorem State.freezeHead_resumes : (s.freezeHead n).hull = s.hull ∧ (s.head n).Resumes ((s.freezeHead n).head n) ∧
    ∀ m, m ≠ n → ((s.freezeHead n).head m).power = (s.head m).power ∧
      ((s.head m).blank ≠ .s3 → (s.freezeHead n).head m = s.head m) := by
  unfold State.freezeHead
  cases hd : (s.head n).disabling with
  | true =>
    obtain ⟨hh, hm⟩ := s.headOut_onlyHead n
    obtain ⟨kh, km⟩ := (s.headOut n).settleStep3_onlyStep3
    have hw := State.wakeStalled_plant (s.headOut n).settleStep3
    have hoff := s.headOut_isOff n
    simp only [if_true, s.headOff_eq n, State.head_of_plant hw, State.hull_of_plant hw]
    refine ⟨kh.trans hh, ⟨fun h => by simp [hd] at h, fun _ => ?_⟩, fun m e => ?_⟩
    · rwa [(km n).2 (by rw [hoff.2]; decide)]
    · rw [← hm m e]
      exact km m
  | false =>
    have ho : State.OnlyHead n s _ := (((s.endVideo_onlyHead n).trans (State.stopBeams_onlyHead _ n)).trans
      (State.modHead_onlyHead _ n fun h => { h with dp := { h.dp with
        trained := false, retryWait := false, retries := 0, needTrain := true } })).trans
      ((State.endTraining_onlyHead _ n).trans (State.blankFromRelock_onlyHead _ n))
    refine ⟨ho.1, ⟨fun _ => ?_, fun h => by simp [hd] at h⟩, fun m e => ?_⟩
    · simp only [Bool.false_eq_true, if_false, State.blankFromRelock_head, State.endTraining_head, State.modDp,
        State.head_modHead_self, State.stopBeams_head, State.endVideo_head]
      exact ⟨rfl, rfl, rfl, rfl, rfl⟩
    · have := ho.2 m e
      exact ⟨congrArg HeadSt.power this, fun _ => this⟩

end

theorem State.foldl_freezeHead : ∀ (l : List (Fin 6)) (s : State), l.Nodup →
    (l.foldl State.freezeHead s).hull = s.hull ∧
    ∀ n, (n ∉ l → (s.head n).blank ≠ .s3 → (l.foldl State.freezeHead s).head n = s.head n) ∧
      (n ∈ l → (s.head n).Resumes ((l.foldl State.freezeHead s).head n))
  | [], s, _ => ⟨rfl, fun _ => ⟨fun _ _ => rfl, by simp⟩⟩
  | m :: l, s, h => by
    obtain ⟨hm, hl⟩ := List.nodup_cons.1 h
    obtain ⟨hhull, hself, hother⟩ := s.freezeHead_resumes m
    obtain ⟨ihull, ih⟩ := State.foldl_freezeHead l (s.freezeHead m) hl
    refine ⟨ihull.trans hhull, fun n => ?_⟩
    obtain ⟨hout, hin⟩ := ih n
    by_cases e : n = m
    · subst e
      refine ⟨fun hn => absurd List.mem_cons_self hn, fun _ => ?_⟩
      rwa [List.foldl_cons, hout hm hself.blank]
    · obtain ⟨hp, hb⟩ := hother n e
      refine ⟨fun hn hs3 => ?_, fun hn => ?_⟩
      · have hn' : n ∉ l := fun k => hn (List.mem_cons_of_mem _ k)
        rw [List.foldl_cons, hout hn' (by rwa [hb hs3]), hb hs3]
      · have hd : ((s.freezeHead m).head n).disabling = (s.head n).disabling := congrArg Prod.snd hp
        have hr := hin ((List.mem_cons.1 hn).resolve_left e)
        simpa [HeadSt.Resumes, hd] using hr

/-- Every enabled head resumes, and nothing else of the device's state of operation changes. -/
theorem State.freezeHeads_resume (s : State) : s.freezeHeads.hull = s.hull ∧
    ∀ n, (s.head n).enabled = true → (s.head n).Resumes (s.freezeHeads.head n) := by
  have hall : ∀ k : Fin 6, k ∈ allHeads := by decide
  obtain ⟨hh, hn⟩ := State.foldl_freezeHead s.enabledHeads s (.filter _ (by decide))
  rw [s.freezeHeads_eq]
  exact ⟨hh, fun n he => (hn n).2 (List.mem_filter.2 ⟨hall n, he⟩)⟩

end Sys2Proof.Machine
end

section
/-!
PROOF. The restart after a freeze (O54), put together.
-/

set_option Elab.async false  -- the joined text is large: no thread per declaration

namespace Sys2Proof.Machine

/-- The modes after the restart: the one of R33, entered from FREEZE, with nothing left of the freeze. -/
def State.thawGlob (s : State) : Glob :=
  { s.glob with mode := thawMode s.glob.frozenFrom, prev := s.glob.mode, cause := 8, restarting := false
                hifResetPending := false, frzSeen := 0, flrPending := 0 }

theorem thawMode_ne_freeze (m : Mode) : thawMode m ≠ .freeze := by
  cases m <;> decide

theorem State.freezeSleep_plant (s : State) : s.freezeSleep.plant = { s with pwr := {} }.plant := by
  simp only [State.freezeSleep]
  split
  · split <;> rfl
  · split <;> rfl
  · rfl

theorem State.pinSwitch_plant (s s0 : State) (ps : List Nat) : (s.pinSwitch s0 ps).plant = s.plant := rfl

theorem State.fltFlush_plant (s : State) : s.fltFlush.plant = s.plant := rfl

theorem State.thawEnter_plant (s : State) : s.thawEnter.plant =
    { s with glob := { s.thawGlob with flrPending := s.glob.flrPending }, pwr := {} }.plant := by
  have hc := (s.setMode_counted (thawMode s.glob.frozenFrom) 8)
  simp only [State.thawEnter]
  rw [State.faultDev_plant, State.fltFlush_plant, State.pinSwitch_plant, State.freezeSleep_plant]
  simp only [State.plant, State.hull, hc.glob, hc.mem, hc.hif, hc.heads, State.thawGlob]

/-! ### The parts in turn -/

/-- The restart up to the descriptors: every one left is held. -/
def State.thawSlots (s : State) : State :=
  if s.glob.hifResetPending then s.thawEnter.flrDue.hifResetAll else s.thawEnter.flrDue.freezeSlots

/-- The restart up to the pools and rate domains. -/
def State.thawUnits (s : State) : State :=
  let t := s.thawSlots.freezeTricks.freezeHeads.seqFreeStart.audReview.audEmpty
  if s.thawsAsleep then t.pollRecords else t

theorem State.thaw_eq (s : State) : s.thaw =
    (if s.thawUnits.glob.mode = .bringUp then s.thawUnits else s.thawUnits.hostLossReview.hostLossAwake).storeNext := by
  unfold State.thaw State.thawUnits State.thawSlots
  cases s.glob.hifResetPending <;> rfl

/-- The state that a restart is measured against: the modes set, and nothing of a sleep left. -/
def State.thawBase (s : State) : State := { s with glob := s.thawGlob, pwr := {} }

theorem State.thawSlots_spares (s : State) : s.thawBase.Spares s.thawSlots ∧
    ∀ x ∈ s.thawSlots.hif.slots, x.st = .held := by
  have hp := s.thawEnter_plant
  have hg : s.thawEnter.glob = { s.thawGlob with flrPending := s.glob.flrPending } := congrArg (fun x => x.1.1) hp
  have hf : s.thawEnter.frozen = false := by
    simpa [State.frozen, hg, State.thawGlob] using thawMode_ne_freeze s.glob.frozenFrom
  have hbase : { s.thawEnter with glob := { s.thawEnter.glob with flrPending := 0 } }.plant = s.thawBase.plant := by
    simp only [State.plant, State.hull, Prod.mk.injEq] at hp ⊢
    simp [State.thawBase, State.thawGlob, hp]
  have hdue := (State.Spares.of_plant hbase).trans (State.flrDue_spares hf)
  unfold State.thawSlots
  split
  · obtain ⟨hs, hn⟩ := s.thawEnter.flrDue.hifResetAll_spares
    exact ⟨hdue.trans hs, by simp [hn]⟩
  · exact ⟨hdue.trans (State.freezeSlots_spares _), State.held_of_freezeSlots _⟩

theorem State.thawUnits_plant (s : State) : s.thawUnits.plant = s.thawSlots.freezeTricks.freezeHeads.plant := by
  have h : s.thawSlots.freezeTricks.freezeHeads.seqFreeStart.audReview.audEmpty.plant =
      s.thawSlots.freezeTricks.freezeHeads.plant := by
    rw [State.audEmpty_plant, State.audReview_plant, State.seqFreeStart_plant]
  unfold State.thawUnits
  dsimp only
  split
  · rw [State.pollRecords_plant, h]
  · exact h

/-- Where no expiry of the host's lease waits, none is judged. -/
theorem State.hostLoss_idle {s : State} (h : s.glob.hostLossHeld = false) (k : s.glob.hostLossWake = false) :
    s.hostLossReview.hostLossAwake = s := by
  simp [State.hostLossReview, State.hostLossAwake, h, k]

/-- The state of operation a thaw leaves: the mode of R33, no sleep under way, no descriptor running, and every
enabled head resumes (R459). -/
theorem State.thaw_restarts {s : State} (h : s.glob.hostLossHeld = false) (k : s.glob.hostLossWake = false) :
    s.thaw.glob = s.thawGlob ∧ s.thaw.pwr = {} ∧ (s.hif.slots = [] → s.thaw.mem = s.mem) ∧
    (∀ x ∈ s.thaw.hif.slots, x.st = .held) ∧
    ∀ n, (s.head n).enabled = true → (s.head n).Resumes (s.thaw.head n) := by
  obtain ⟨⟨hrail, hvac⟩, hheld⟩ := s.thawSlots_spares
  have htr : s.thawSlots.freezeTricks.plant = s.thawSlots.plant := State.discardTricks_plant _ _
  obtain ⟨hhull, hres⟩ := s.thawSlots.freezeTricks.freezeHeads_resume
  have hu := s.thawUnits_plant
  have hg : s.thawUnits.glob = s.thawGlob :=
    (congrArg (·.1) ((State.hull_of_plant hu).trans (hhull.trans (State.hull_of_plant htr)))).trans
      (congrArg (·.1) hrail)
  have ht : s.thaw.plant = s.thawUnits.plant := by
    rw [s.thaw_eq, State.storeNext_plant, State.hostLoss_idle (by rw [hg]; exact h) (by rw [hg]; exact k), ite_self]
  have hall : s.thaw.hull = s.thawSlots.hull := by
    rw [State.hull_of_plant ht, State.hull_of_plant hu, hhull, State.hull_of_plant htr]
  simp only [State.hull, Prod.mk.injEq] at hall
  obtain ⟨hglob, hpwr, hmem, hslots⟩ := hall
  refine ⟨hglob.trans (congrArg (·.1) hrail), hpwr.trans (congrArg (·.2.1) hrail), fun hs => ?_, ?_, fun n he => ?_⟩
  · exact hmem.trans (hvac hs).2
  · rwa [hslots]
  · have hn : s.thawSlots.freezeTricks.head n = s.head n :=
      (State.head_of_plant htr n).trans (State.head_of_heads (congrArg (·.2.2) hrail) n)
    rw [State.head_of_plant (ht.trans hu), ← hn]
    exact hres n (by rwa [hn])

end Sys2Proof.Machine
end

section
/-!
PROOF. The freeze latch, its sources, the entry to FREEZE and writes dropped there (O54).
-/

set_option Elab.async false  -- the joined text is large: no thread per declaration

namespace Sys2Proof.Machine

/-! ### Sources of the freeze (R402, R455) -/

/-- `t` is `s` but for what the record of the sources and the word to the Causeway change. -/
def State.Told (s t : State) : Prop :=
  t = { s with glob := { s.glob with frzCwy := t.glob.frzCwy, frzSeen := t.glob.frzSeen }
               cwy := { s.cwy with sending := t.cwy.sending, thawing := t.cwy.thawing }, out := t.out }

theorem State.Told.trans {s t u : State} (h : s.Told t) (k : t.Told u) : s.Told u := by
  unfold State.Told at *
  rw [k, h]

theorem State.sendTok_told (s : State) (p : Fin 5) (t : CwyTok) : s.Told (s.sendTok p t) := by
  unfold State.sendTok
  split <;> rfl

theorem State.sendFreeze_told (s : State) (b : Bool) : s.Told (s.sendFreeze b) := by
  simp only [State.sendFreeze]
  split
  · exact List.foldlRecOn (motive := fun t : State => s.Told t) downPorts _ rfl
      (fun t ht p _ => ht.trans (t.sendTok_told p _))
  · split
    · exact s.sendTok_told 0 _
    · rfl

theorem State.freezeReview_told (s : State) : s.Told s.freezeReview := by
  have hthaw : s.Told (if (s.modCwy (fun c => { c with sending := false, thawing := true })).dealer then
      { s.modCwy (fun c => { c with sending := false, thawing := true }) with
        glob := { s.glob with frzCwy := false } }
      else s.modCwy (fun c => { c with sending := false, thawing := true })) := by
    split <;> rfl
  have hsend : s.Told (s.modCwy (fun c => { c with sending := true, thawing := false })) := rfl
  unfold State.freezeReview
  extract_lets want
  split
  · exact hsend.trans (State.sendFreeze_told _ _)
  · split
    · exact hthaw.trans (State.sendFreeze_told _ _)
    · rfl

theorem State.frzChanged_told (s : State) : s.Told s.frzChanged := by
  have h : s.Told { s with glob := { s.glob with frzSeen := s.glob.frzSeen ||| s.frzSources } } := rfl
  exact h.trans (State.freezeReview_told _)

theorem State.noteWake_calm {s : State} (h : s.frozen = true ∨ s.sleeping = false) (src : Nat) :
    s.noteWake src = s := by
  rcases h with h | h
  · simp [State.noteWake, h]
  · simp only [State.sleeping, Bool.or_eq_false_iff, decide_eq_false_iff_not] at h
    simp [State.noteWake, h]

/-- A write of DBG_FRZ_CTL that is no wake event does what its key and its two bits say (R455). -/
theorem State.frzCtl_calm {s : State} (hl : s.linked = true) (h : s.frozen = true ∨ s.sleeping = false) (v : Word) :
    s.frzCtl v = if bits v 31 16 ≠ 0x6D1A then s
      else if bit v 0 then ({ s with glob := { s.glob with frzReg := true } }).frzChanged
      else if bit v 1 then ({ s with glob := { s.glob with frzReg := false } }).frzChanged
      else s := by
  simp [State.frzCtl, hl, State.noteWake_calm h]

theorem bits_upper_half (v : Word) : bits v 31 16 = v.toNat / 65536 := by
  have := v.isLt
  simp only [bits, Nat.shiftRight_eq_div_pow]
  omega

/-! ### Entry (R456) -/

theorem State.storeAbandon_eq (s : State) : s.storeAbandon =
    { s with regs := s.storeAbandon.regs, jrnl := s.storeAbandon.jrnl, oldPages := s.storeAbandon.oldPages } := by
  unfold State.storeAbandon
  split <;> rfl

theorem State.finishApplication_idle {s : State} (h : s.trk.queue = []) : s.finishApplication = s := by
  simp [State.finishApplication, h]

/-- The state in which an idle device changes to FREEZE: store and trump session are over, the entry is noted. -/
def State.freezeNoted (s : State) : State :=
  (s.storeAbandon.closeSession.setReg .DBG_FRZ_ENTRY 0 0 (s.head 0).frame).setReg .DBG_FRZ_DROPS 0 0 0

theorem State.freezeNoted_eq (s : State) : s.freezeNoted =
    { s with regs := s.freezeNoted.regs, trump := { s.trump with armed := false }, jrnl := s.freezeNoted.jrnl
             oldPages := s.freezeNoted.oldPages } := by
  have h := s.storeAbandon_eq
  unfold State.freezeNoted
  rw [h]
  rfl

theorem State.freezeStop_idle {s : State} (h : s.trk.queue = []) : s.freezeStop =
    { s.freezeNoted.setMode .freeze 7 with glob := { s.glob with
        mode := .freeze, prev := s.glob.mode, cause := 7, frozenFrom := s.glob.mode
        frzSeen := s.frzSources, frzClock := s.clock, restarting := false } } := by
  have hs := s.storeAbandon_eq
  have hhead : s.storeAbandon.closeSession.head 0 = s.head 0 := by rw [hs]; rfl
  have hnoted : (s.storeAbandon.closeSession.setReg .DBG_FRZ_ENTRY 0 0 (s.head 0).frame).setReg .DBG_FRZ_DROPS 0 0 0 =
      s.freezeNoted := rfl
  have hg : s.freezeNoted.glob = s.glob := by rw [s.freezeNoted_eq]
  have hg' : s.storeAbandon.closeSession.glob = s.glob := by rw [hs]; rfl
  have hc := s.freezeNoted.setMode_counted .freeze 7
  simp only [State.freezeStop, State.finishApplication_idle h, hhead, hnoted, hc.glob, hg, hg', hc.clock,
    State.frzSources]
  rw [s.freezeNoted_eq]

theorem State.freezeStop_regs {s : State} (h : s.trk.queue = []) :
    s.freezeStop.reg .DBG_FRZ_ENTRY 0 0 = (s.head 0).frame ∧ s.freezeStop.reg .DBG_FRZ_DROPS 0 0 = 0 := by
  have hc := s.freezeNoted.setMode_counted .freeze 7
  rw [s.freezeStop_idle h]
  refine ⟨(hc.reg (by decide)).trans ?_, (hc.reg (by decide)).trans ?_⟩
  · exact (State.reg_setReg_ne (s.storeAbandon.closeSession.setReg .DBG_FRZ_ENTRY 0 0 (s.head 0).frame)
      (r := .DBG_FRZ_DROPS) (i := 0) (j := 0) (by decide) 0).trans (State.reg_setReg_self _ _ _ _ _)
  · exact State.reg_setReg_self _ .DBG_FRZ_DROPS 0 0 0

theorem State.freezeStop_frame {s : State} (h : s.trk.queue = []) : s.freezeStop.trump.armed = false ∧
    s.freezeStop = { s with regs := s.freezeStop.regs, glob := s.freezeStop.glob, trump := s.freezeStop.trump
                            jrnl := s.freezeStop.jrnl, oldPages := s.freezeStop.oldPages, pba := s.freezeStop.pba
                            pmc := s.freezeStop.pmc, out := s.freezeStop.out } := by
  obtain ⟨hc, -, -⟩ := s.freezeNoted.setMode_counted .freeze 7
  rw [s.freezeStop_idle h, hc, s.freezeNoted_eq]
  exact ⟨rfl, rfl⟩

/-! ### Writes dropped (R457) -/

theorem satAdd_one_toNat (w : Word) : (satAdd w 1).toNat = min (w.toNat + 1) (2 ^ 32 - 1) := by
  have := w.isLt
  simp only [satAdd, BitVec.toNat_ofNat]
  omega

/-- A write of BAR0 dropped in FREEZE is counted, and the offset of the first one kept. -/
def State.dropWrite (s : State) (off : Nat) : State :=
  (if s.reg .DBG_FRZ_DROPS 0 0 = 0 then s.setReg .DBG_FRZ_DROP_FIRST 0 0 (BitVec.ofNat 32 off) else s).setReg
    .DBG_FRZ_DROPS 0 0 (satAdd (s.reg .DBG_FRZ_DROPS 0 0) 1)

theorem bits_whole (w : Word) : bits w 31 0 = w.toNat := by
  have := w.isLt
  simp only [bits, Nat.shiftRight_zero]
  omega

theorem State.barWrite_frozen {s : State} (hl : s.linked = true) (hf : s.frozen = true) (off : Nat)
    (f : State → State) : s.barWrite off f = s.dropWrite off := by
  have hlive : (s.glob.mode = .off || s.glob.heldInReset) = false := by
    simpa [State.linked] using hl
  have hzero : (s.reg .DBG_FRZ_DROPS 0 0).toNat = 0 ↔ s.reg .DBG_FRZ_DROPS 0 0 = 0 := BitVec.toNat_eq (y := 0#32).symm
  simp only [State.barWrite, hlive, hf, State.fld, bits_whole, hzero, if_true, Bool.false_eq_true, if_false,
    State.dropWrite]
  split
  · rw [State.reg_setReg_ne _ (by decide)]
  · rfl

theorem decodeReg_frzCtl : decodeReg (RegId.addr .DBG_FRZ_CTL 0 0) = some (.DBG_FRZ_CTL, 0, 0) := by decide +kernel

theorem decodeReg_rdAddr : decodeReg (RegId.addr .DBG_RD_ADDR 0 0) = some (.DBG_RD_ADDR, 0, 0) := by decide +kernel

theorem State.registerWrite_frozen {s : State} (hl : s.linked = true) (hf : s.frozen = true) {a : Nat} (w : Word)
    (hctl : decodeReg (a / 4 * 4) ≠ some (.DBG_FRZ_CTL, 0, 0))
    (haddr : decodeReg (a / 4 * 4) ≠ some (.DBG_RD_ADDR, 0, 0)) :
    s.registerWrite a w 15 = s.dropWrite (a / 4 * 4) := by
  have hc : a / 4 * 4 ≠ RegId.addr .DBG_FRZ_CTL 0 0 := fun e => hctl (e ▸ decodeReg_frzCtl)
  have ha : a / 4 * 4 ≠ RegId.addr .DBG_RD_ADDR 0 0 := fun e => haddr (e ▸ decodeReg_rdAddr)
  simp only [State.registerWrite, hc, ha, decide_false, Bool.or_self, Bool.and_false, Bool.false_and,
    Bool.false_eq_true, if_false]
  exact State.barWrite_frozen hl hf _ _

theorem State.dropWrite_kept (s : State) (off : Nat) :
    RegsKept [RegId.addr .DBG_FRZ_DROPS 0 0, RegId.addr .DBG_FRZ_DROP_FIRST 0 0] s (s.dropWrite off) := by
  refine RegsKept.trans ?_ (.setReg _ _ _ _ _ (by simp))
  split
  · exact .setReg _ _ _ _ _ (by simp)
  · exact .refl _ _

theorem State.dropWrite_eq (s : State) (off : Nat) : s.dropWrite off = { s with regs := (s.dropWrite off).regs } := by
  unfold State.dropWrite
  split <;> rfl

theorem State.dropWrite_drops (s : State) (off : Nat) :
    (s.dropWrite off).reg .DBG_FRZ_DROPS 0 0 = satAdd (s.reg .DBG_FRZ_DROPS 0 0) 1 := State.reg_setReg_self _ _ _ _ _

theorem State.dropWrite_first (s : State) (off : Nat) : (s.dropWrite off).reg .DBG_FRZ_DROP_FIRST 0 0 =
    if s.reg .DBG_FRZ_DROPS 0 0 = 0 then BitVec.ofNat 32 off else s.reg .DBG_FRZ_DROP_FIRST 0 0 := by
  rw [State.dropWrite, State.reg_setReg_ne _ (by decide)]
  split
  · exact State.reg_setReg_self _ _ _ _ _
  · rfl

/-! ### A sleep image that fails (R410) -/

theorem State.warmReset_glob_mode (s : State) : s.warmReset.glob.mode = .bringUp := by
  simp only [State.warmReset, apply_ite State.glob, State.raiseF_glob, State.setF_glob, State.setReg_glob, ite_self,
    State.bare]

/-- The error of a sleep image outlives a warm reset. -/
theorem State.warmReset_peatErr (s : State) :
    s.warmReset.fld F.PWR_STAT_PEAT_ERR = s.fld F.PWR_STAT_PEAT_ERR := by
  have hlt : s.fld F.PWR_STAT_PEAT_ERR < 2 := bits_lt _ 31 31
  have hself : ∀ t : State, (t.setF F.PWR_STAT_PEAT_ERR (s.fld F.PWR_STAT_PEAT_ERR)).fld F.PWR_STAT_PEAT_ERR =
      s.fld F.PWR_STAT_PEAT_ERR := fun t => (t.fld_setF_self _ (by decide) _).trans (Nat.mod_eq_of_lt hlt)
  have haon : ∀ t : State, (t.raiseF F.GLB_CLK_STATUS_AON_OK).fld F.PWR_STAT_PEAT_ERR = t.fld F.PWR_STAT_PEAT_ERR :=
    fun t => t.fld_setF_ne (by decide) 1
  have hhif : ∀ t : State, (t.raiseF F.GLB_RESET_CAUSE_HIF).fld F.PWR_STAT_PEAT_ERR = t.fld F.PWR_STAT_PEAT_ERR :=
    fun t => t.fld_setF_ne (by decide) 1
  simp only [State.warmReset]
  split
  · rw [hhif, haon, hself]
  · rw [haon, hself]

theorem State.fld_jrnl (s : State) (j : Journal) (f : Fld) : { s with jrnl := j }.fld f = s.fld f := rfl

theorem State.fld_gpio (s : State) (g : GpioSt) (f : Fld) : { s with gpio := g }.fld f = s.fld f := rfl

theorem State.sampleStraps_peatErr (s : State) (x : Straps) :
    (s.sampleStraps x).fld F.PWR_STAT_PEAT_ERR = s.fld F.PWR_STAT_PEAT_ERR := by
  rw [State.sampleStraps, State.fld_jrnl, State.fld_setF_ne _ (by decide), State.fld_setF_ne _ (by decide),
    State.fld_setF_ne _ (by decide), State.fld_setF_ne _ (by decide), State.fld_setF_ne _ (by decide),
    State.fld_setF_ne _ (by decide), State.fld_gpio]

theorem State.sampleStraps_glob (s : State) (x : Straps) : (s.sampleStraps x).glob = s.glob := by
  simp only [State.sampleStraps, State.setF_glob]

/-- A sleep image that fails its CRC leaves BRING-UP, as a warm reset does, and the error noted. -/
theorem State.peatFail_state (s : State) :
    s.peatFail.glob.mode = .bringUp ∧ s.peatFail.flag F.PWR_STAT_PEAT_ERR = true := by
  refine ⟨by rw [State.peatFail, State.sampleStraps_glob, State.warmReset_glob_mode], ?_⟩
  have hraised : ({ s with free := s.free + 1 }.raiseF F.PWR_STAT_PEAT_ERR).fld F.PWR_STAT_PEAT_ERR = 1 :=
    State.fld_setF_self _ _ (by decide) 1
  have hkept : s.peatFail.fld F.PWR_STAT_PEAT_ERR =
      ({ s with free := s.free + 1 }.raiseF F.PWR_STAT_PEAT_ERR).fld F.PWR_STAT_PEAT_ERR := by
    rw [State.peatFail, State.sampleStraps_peatErr, State.warmReset_peatErr]
    exact (State.faultDev_recorded _ _ _ _ _).fld (by decide)
  simp [State.flag, hkept, hraised]

/-- How a restart ends: in a warm reset where a sleep image fails its CRC, else in the thaw. -/
theorem State.freezeDone_cases {s : State} (hf : s.frozen = true) (hr : s.glob.restarting = true) :
    (s.thawsImage = true ∧ ∃ u : State, s.freezeDone = u.peatFail) ∨
    ∃ n, s.freezeDone = { s with free := n }.thaw := by
  simp only [State.freezeDone, hf, hr, Bool.not_true, Bool.or_self, Bool.false_eq_true, if_false]
  split
  · next hi =>
    split
    · exact .inl ⟨hi, _, rfl⟩
    · exact .inr ⟨_, rfl⟩
  · exact .inr ⟨s.free, rfl⟩

end Sys2Proof.Machine
end

section
/-!
PROOF. The readout paths of frozen state (O54).
-/

set_option Elab.async false  -- the joined text is large: no thread per declaration

namespace Sys2Proof.Machine

theorem bits_space (x : Word) : bits x 31 28 = x.toNat / 2 ^ 28 := by
  have := x.isLt
  simp only [bits, Nat.shiftRight_eq_div_pow]
  omega

theorem bits_page (x : Word) : bits x 31 24 = x.toNat / 2 ^ 24 := by
  have := x.isLt
  simp only [bits, Nat.shiftRight_eq_div_pow]
  omega

theorem bits_offset (x : Word) : bits x 23 0 = x.toNat % 2 ^ 24 := by
  simp only [bits, Nat.shiftRight_zero]

/-- `y` is the readout address `k` words after `x`, in the same space. -/
def Advanced (x y : Word) (k : Nat) : Prop :=
  y.toNat % 2 ^ 24 = (x.toNat % 2 ^ 24 + k) % 2 ^ 24 ∧ y.toNat / 2 ^ 24 = x.toNat / 2 ^ 24

theorem Advanced.refl (x : Word) : Advanced x x 0 := ⟨by omega, rfl⟩

theorem Advanced.trans {x y z : Word} {k l : Nat} (h : Advanced x y k) (g : Advanced y z l) :
    Advanced x z (k + l) := by
  obtain ⟨h1, h2⟩ := h
  obtain ⟨g1, g2⟩ := g
  exact ⟨by omega, g2.trans h2⟩

/-- A read moves its path on by one word (R458). -/
theorem nextSel_advanced (x : Word) : Advanced x (nextSel x) 1 := by
  unfold Advanced nextSel
  rw [← bits_offset, ← bits_offset, ← bits_page, ← bits_page, bits_putBits_self _ (by decide),
    bits_putBits_disjoint _ (by decide) (by decide)]
  exact ⟨rfl, rfl⟩

/-- The word `w` and its validity are what R458 gives at `x`: the program words of a sequencer, committed Tarn, and
nothing where there is no space. -/
def State.Holds (s : State) (x w : Word) (valid : Bool) : Prop :=
  (x.toNat / 2 ^ 28 = 3 → ∀ q : Fin 8, x.toNat % 2 ^ 24 / 16384 = q.val →
    valid = true ∧ w = (wordAt (s.seq q).bank.prog (x.toNat % 2 ^ 24 % 16384)).setWidth 32) ∧
  (x.toNat / 2 ^ 28 = 1 → 4 * (x.toNat % 2 ^ 24) < s.tarnTop →
    valid = true ∧ w = BitVec.ofNat 32 (ofLe (s.mem.readBytes (4 * (x.toNat % 2 ^ 24)) 4))) ∧
  (6 ≤ x.toNat / 2 ^ 28 → valid = false ∧ w = 0)

theorem find_seq_of_val {k : Nat} {q : Fin 8} (h : k = q.val) : allSeqs.find? (fun p => p.val = k) = some q := by
  subst h
  revert q
  decide

theorem State.readout_prog {s : State} (hf : s.frozen = true) {x : Word} (h : x.toNat / 2 ^ 28 = 3) {q : Fin 8}
    (hq : x.toNat % 2 ^ 24 / 16384 = q.val) : s.readout x =
      ((wordAt (s.seq q).bank.prog (x.toNat % 2 ^ 24 % 16384)).setWidth 32, true) := by
  simp only [State.readout, hf, bits_space, bits_offset, h, find_seq_of_val hq, Bool.not_true, Bool.false_eq_true,
    if_false]

theorem State.readout_tarn {s : State} (hf : s.frozen = true) {x : Word} (h : x.toNat / 2 ^ 28 = 1)
    (ht : 4 * (x.toNat % 2 ^ 24) < s.tarnTop) : s.readout x =
      (BitVec.ofNat 32 (ofLe (s.mem.readBytes (4 * (x.toNat % 2 ^ 24)) 4)), true) := by
  have hlt : x.toNat % 2 ^ 24 < 16777216 := Nat.mod_lt _ (by decide)
  simp only [State.readout, hf, bits_space, bits_offset, h, hlt, ht, if_true, Bool.not_true, Bool.false_eq_true,
    if_false]

theorem State.readout_none {s : State} (hf : s.frozen = true) {x : Word} (h : 6 ≤ x.toNat / 2 ^ 28) :
    s.readout x = (0, false) := by
  obtain ⟨k, hk⟩ : ∃ k, x.toNat / 2 ^ 28 = k + 6 := ⟨x.toNat / 2 ^ 28 - 6, by omega⟩
  simp only [State.readout, hf, bits_space, hk, Bool.not_true, Bool.false_eq_true, if_false]

theorem State.readout_holds {s : State} (hf : s.frozen = true) (x : Word) :
    s.Holds x (s.readout x).1 (s.readout x).2 := by
  refine ⟨fun h q hq => ?_, fun h ht => ?_, fun h => ?_⟩
  · simp [State.readout_prog hf h hq]
  · simp [State.readout_tarn hf h ht]
  · simp [State.readout_none hf h]

/-! ### SMBus (R458) -/

/-- The state after one word has gone out over SMBus. -/
def State.smbNext (s : State) : State :=
  { s with free := s.free + 1, dbg := { s.dbg with smbSel := nextSel s.dbg.smbSel } }

theorem State.smbWords_succ (s : State) (n : Nat) : s.smbWords (n + 1) =
    ((s.smbNext.smbWords n).1, leBytes 4 (s.readout s.dbg.smbSel).1.toNat ++ (s.smbNext.smbWords n).2) := rfl

/-- Words read over SMBus: only its address moves on, by as many. -/
theorem State.smbWords_moves : ∀ (n : Nat) (s : State),
    (s.smbWords n).1 = { s with dbg := { s.dbg with smbSel := (s.smbWords n).1.dbg.smbSel }
                                free := (s.smbWords n).1.free } ∧
    Advanced s.dbg.smbSel (s.smbWords n).1.dbg.smbSel n ∧ (s.smbWords n).2.length = 4 * n
  | 0, s => ⟨rfl, Advanced.refl _, rfl⟩
  | n + 1, s => by
    obtain ⟨he, hm, hl⟩ := State.smbWords_moves n s.smbNext
    rw [State.smbWords_succ]
    refine ⟨he, ?_, ?_⟩
    · have h := (nextSel_advanced s.dbg.smbSel).trans hm
      rwa [Nat.add_comm] at h
    · simp only [List.length_append, hl, leBytes, List.length_cons, List.length_nil]
      omega

/-- The first of them is the word at the address of the path. -/
theorem State.smbWords_first (s : State) {n : Nat} (h : 0 < n) :
    (s.smbWords n).2.take 4 = leBytes 4 (s.readout s.dbg.smbSel).1.toNat := by
  obtain ⟨m, rfl⟩ := Nat.exists_eq_add_of_lt h
  rw [Nat.zero_add, State.smbWords_succ]
  simp [leBytes]

end Sys2Proof.Machine
end

section
/-!
PROOF. The freeze latch, FREEZE, its release and the readout paths (O54).
-/

set_option Elab.async false  -- the joined text is large: no thread per declaration

namespace Sys2Proof.Machine

/-- What a restart leaves where no expiry of a lease waits: BRING-UP with the error of the sleep image noted, or the
mode of R33 with every descriptor held and every enabled head resumed. -/
theorem State.freezeDone_restarts {s : State} (hf : s.frozen = true) (hr : s.glob.restarting = true)
    (hheld : s.glob.hostLossHeld = false) (hwake : s.glob.hostLossWake = false) :
    (s.thawsImage = true ∧ s.freezeDone.glob.mode = .bringUp ∧ s.freezeDone.flag F.PWR_STAT_PEAT_ERR = true) ∨
    s.freezeDone.glob = s.thawGlob ∧ s.freezeDone.pwr = {} ∧ (s.hif.slots = [] → s.freezeDone.mem = s.mem) ∧
    (∀ x ∈ s.freezeDone.hif.slots, x.st = .held) ∧
    ∀ n, (s.head n).enabled = true → (s.head n).Resumes (s.freezeDone.head n) := by
  obtain ⟨hi, u, hu⟩ | ⟨k, hk⟩ := State.freezeDone_cases hf hr
  · rw [hu]
    exact .inl ⟨hi, u.peatFail_state⟩
  · rw [hk]
    exact .inr (State.thaw_restarts (s := { s with free := k }) hheld hwake)

theorem State.not_off_of_linked {s : State} (h : s.linked = true) :
    (s.glob.mode = .off || s.glob.heldInReset) = false := by
  simpa [State.linked] using h

/-! ### The commands of the latch -/

section
variable {s : State} (hl : s.linked = true)
include hl

theorem State.frzAssert_told {ns : Nat} (h : 50 ≤ ns) :
    { s with glob := { s.glob with frzPin := true } }.Told (s.frzAssert ns) := by
  rw [State.frzAssert, hl, if_pos (by simpa using h)]
  exact State.frzChanged_told _

theorem State.frzUnpin_told : { s with glob := { s.glob with frzPin := false } }.Told s.frzUnpin := by
  rw [State.frzUnpin, if_pos hl]
  exact State.frzChanged_told _

theorem State.frzCtl_set (hc : s.frozen = true ∨ s.sleeping = false) {v : Word} (hk : v.toNat / 65536 = 0x6D1A)
    (h : v.getLsbD 0 = true) : { s with glob := { s.glob with frzReg := true } }.Told (s.frzCtl v) := by
  rw [State.frzCtl_calm hl hc, if_neg (by rw [bits_upper_half, hk]; decide), bit_eq, if_pos h]
  exact State.frzChanged_told _

theorem State.frzCtl_clear (hc : s.frozen = true ∨ s.sleeping = false) {v : Word} (hk : v.toNat / 65536 = 0x6D1A)
    (h0 : v.getLsbD 0 = false) (h1 : v.getLsbD 1 = true) :
    { s with glob := { s.glob with frzReg := false } }.Told (s.frzCtl v) := by
  rw [State.frzCtl_calm hl hc, if_neg (by rw [bits_upper_half, hk]; decide), bit_eq, bit_eq, if_neg (by rw [h0]; decide),
    if_pos h1]
  exact State.frzChanged_told _

theorem State.frzCtl_noKey (hc : s.frozen = true ∨ s.sleeping = false) {v : Word} (hk : ¬ v.toNat / 65536 = 0x6D1A) :
    s.frzCtl v = s := by
  rw [State.frzCtl_calm hl hc, if_pos (by rwa [bits_upper_half])]

/-! ### The commands of the readout paths -/

theorem State.smbRun_calm (hc : s.frozen = true ∨ s.sleeping = false) (f : State → State) :
    s.smbRun true f = f s := by
  have ha : s.smbAlive = true := hl
  simp [State.smbRun, ha, State.noteWake_calm hc]

theorem State.smbRun_badPec (f : State → State) : s.smbRun false f =
    { s with trump := { s.trump with pecFails := min 255 (s.trump.pecFails + 1) } } := by
  have ha : s.smbAlive = true := hl
  simp [State.smbRun, ha]

theorem State.rdData_frozen (hf : s.frozen = true) : s.rdData =
    ({ s with free := s.free + 1 }.setReg .DBG_RD_ADDR 0 0 (nextSel (s.reg .DBG_RD_ADDR 0 0))).emit
      (.regData (s.readout (s.reg .DBG_RD_ADDR 0 0)).1) := by
  simp [State.rdData, State.not_off_of_linked hl, hf, State.readoutStep]

theorem State.rdData_awake (hf : s.frozen = false) (hs : s.sleeping = false) : s.rdData = s.emit (.regData 0) := by
  simp [State.rdData, State.not_off_of_linked hl, hf, State.noteWake_calm (.inr hs)]

theorem State.jtagData_frozen (hf : s.frozen = true) : s.jtagData =
    { s with free := s.free + 1, dbg := { s.dbg with jtagSel := nextSel s.dbg.jtagSel } }.emit
      (.jtag (BitVec.ofNat 33
        ((s.readout s.dbg.jtagSel).1.toNat + if (s.readout s.dbg.jtagSel).2 then 2 ^ 32 else 0))) := by
  have hb : b2n (s.readout s.dbg.jtagSel).2 * 2 ^ 32 = if (s.readout s.dbg.jtagSel).2 then 2 ^ 32 else 0 := by
    cases (s.readout s.dbg.jtagSel).2 <;> rfl
  rw [← hb]
  simp [State.jtagData, State.not_off_of_linked hl, hf, State.readoutStep]

/-- What a read over BAR0 changes: one word goes out, and its path moves on. -/
theorem State.rdData_moves (hf : s.frozen = true) : RegsKept [RegId.addr .DBG_RD_ADDR 0 0] s s.rdData ∧
    Advanced (s.reg .DBG_RD_ADDR 0 0) (s.rdData.reg .DBG_RD_ADDR 0 0) 1 := by
  rw [State.rdData_frozen hl hf]
  refine ⟨RegsKept.setReg { s with free := s.free + 1 } .DBG_RD_ADDR 0 0 _ (by simp), ?_⟩
  have hsel : ({ s with free := s.free + 1 }.setReg .DBG_RD_ADDR 0 0 (nextSel (s.reg .DBG_RD_ADDR 0 0))).reg
      .DBG_RD_ADDR 0 0 = nextSel (s.reg .DBG_RD_ADDR 0 0) := State.reg_setReg_self _ _ _ _ _
  have hstep := nextSel_advanced (s.reg .DBG_RD_ADDR 0 0)
  rwa [← hsel] at hstep

theorem State.jtagData_awake (hf : s.frozen = false) : s.jtagData = s.emit (.jtag 0) := by
  simp [State.jtagData, State.not_off_of_linked hl, hf]

theorem State.jtagSel_linked (v : Word) : s.jtagSel v = { s with dbg := { s.dbg with jtagSel := v } } := by
  simp [State.jtagSel, State.not_off_of_linked hl]

theorem State.smbRead_frozen (hf : s.frozen = true) (words : Nat) : s.smbRun true (fun s => s.smbRead words) =
    (s.smbWords (max 1 (min 8 words))).1.emit (.smb (s.smbWords (max 1 (min 8 words))).2) := by
  simp [State.smbRun_calm hl (.inl hf), State.smbRead, hf]

theorem State.smbRead_awake (hf : s.frozen = false) (hs : s.sleeping = false) (words : Nat) :
    s.smbRun true (fun s => s.smbRead words) = s.emit (.smb []) := by
  simp [State.smbRun_calm hl (.inr hs), State.smbRead, hf]

end

/-! ### The statement -/

/-- Settles O54: each command of the latch and of the readout by its own equation, the restart by what each of its
parts keeps. -/
theorem freezeAndReadout : Obligations.FreezeAndReadout := by
  unfold Obligations.FreezeAndReadout
  refine ⟨fun s v w ns a hl => ?_, fun s v words hl => ?_⟩
  · intro key source awake
    refine ⟨fun h => ⟨_, rfl, State.frzAssert_told hl h⟩, fun h => ?_, ⟨_, rfl, State.frzUnpin_told hl⟩,
      fun hc hk h => ⟨_, rfl, State.frzCtl_set hl hc hk h⟩,
      fun hc hk h0 h1 => ⟨_, rfl, State.frzCtl_clear hl hc hk h0 h1⟩,
      fun hc hk => ?_, fun ha hf hq => ?_, fun ha hf => ?_, fun ha => ?_, fun hf ha => ?_, fun ha => ?_,
      fun hf hctl haddr => ?_, fun hf hr hheld hwake => ?_⟩
    · show Host.Outcome.next (s.frzAssert ns) = _
      rw [State.frzAssert, if_neg (by simp; omega)]
    · have h := State.frzCtl_noKey hl hc hk
      exact ⟨congrArg Host.Outcome.next h, congrArg Host.Outcome.next h⟩
    · have he : exec .freezeEntry s = .next s.freezeStop := by
        show Host.Outcome.next s.freezeEntry = _
        simp [State.freezeEntry, hl, ha, hf]
      obtain ⟨hentry, hdrops⟩ := State.freezeStop_regs hq
      obtain ⟨harmed, hframe⟩ := State.freezeStop_frame hq
      exact ⟨_, he, by rw [State.freezeStop_idle hq], hentry, hdrops, harmed, hframe⟩
    · show Host.Outcome.next s.freezeEntry = _
      simp [State.freezeEntry, hl, ha, hf]
    · show Host.Outcome.next s.freezeEntry = _
      simp [State.freezeEntry, ha]
    · show Host.Outcome.next s.freezeReleased = _
      simp [State.freezeReleased, hf, ha]
    · show Host.Outcome.next s.freezeReleased = _
      simp [State.freezeReleased, ha]
    · refine ⟨s.dropWrite (a.toNat / 4 * 4), ?_, s.dropWrite_eq _, s.dropWrite_kept _, ?_, s.dropWrite_first _⟩
      · show Host.Outcome.next (s.registerWrite a.toNat w 15).follow = _
        rw [State.registerWrite_frozen hl hf w hctl haddr]
      · rw [State.dropWrite_drops, satAdd_one_toNat]
    · obtain ⟨hi, hmode, herr⟩ | ⟨hglob, hpwr, hmem, hslots, hheads⟩ :=
        State.freezeDone_restarts hf hr hheld hwake
      · exact ⟨_, rfl, .inl ⟨hi, hmode, herr⟩⟩
      · have hprev : s.glob.mode = .freeze := by simpa [State.frozen] using hf
        refine ⟨_, rfl, .inr ⟨by rw [hglob]; rfl, by rw [hglob]; rfl, by rw [hglob]; exact hprev, hpwr, hmem,
          fun _ _ => hslots, fun n he => ?_⟩⟩
        obtain ⟨hon, hoff⟩ := hheads n he
        exact ⟨hon, fun hd => (hoff hd).1⟩
  · intro space addr moved holds n calm counted
    have hgood : ∀ f, calm → (.next (s.smbRun true f) : Host.Outcome State Fault Refusal) = .next (f s) :=
      fun f hc => congrArg Host.Outcome.next (State.smbRun_calm hl hc f)
    have hbad : ∀ f, (.next (s.smbRun false f) : Host.Outcome State Fault Refusal) = .next counted :=
      fun f => congrArg Host.Outcome.next (State.smbRun_badPec hl f)
    refine ⟨fun hf => ?_, fun hf hs => congrArg Host.Outcome.next (State.rdData_awake hl hf hs), ?_, fun hf => ?_,
      fun hf => ?_, hgood _, fun hf => ?_, fun hf hs => ?_, hgood _, hbad _, hbad _, hbad _⟩
    · obtain ⟨hkept, hmoved⟩ := State.rdData_moves hl hf
      refine ⟨_, _, _, rfl, ?_, hkept, State.readout_holds hf _, hmoved⟩
      rw [State.rdData_frozen hl hf]
      rfl
    · exact congrArg Host.Outcome.next (State.jtagSel_linked hl v)
    · exact ⟨_, _, _, congrArg Host.Outcome.next (State.jtagData_frozen hl hf), rfl, State.readout_holds hf _,
        nextSel_advanced _⟩
    · exact congrArg Host.Outcome.next (State.jtagData_awake hl hf)
    · obtain ⟨hframe, hmoved, hlen⟩ := s.smbWords_moves (max 1 (min 8 words))
      refine ⟨_, _, congrArg Host.Outcome.next (State.smbRead_frozen hl hf words), hlen, ?_, hmoved, _, _,
        State.readout_holds hf _, s.smbWords_first (by omega)⟩
      rw [State.emit, hframe]
    · exact congrArg Host.Outcome.next (State.smbRead_awake hl hf hs words)

end Sys2Proof.Machine
end

section
/-!
PROOF. What the block has sent stays sent (for O43): counting, sound, Causeway, wall tricks and rings.
-/

set_option Elab.async false  -- the joined text is large: no thread per declaration

namespace Sys2Proof.Machine

/-- The block has sent the message `o`. -/
def Sent (o : Out) (s : State) : Prop := o ∈ s.out

/-! ### Steps of every kind -/

section
variable {o : Out} {s t : State}

theorem Sent.of_eq (h : Sent o s) (e : t.out = s.out) : Sent o t := by rwa [Sent, e]

theorem Counted.sent (c : Counted s t) (h : Sent o s) : Sent o t := c.2.2.1.subset h

theorem Recorded.sent (c : Recorded s t) (h : Sent o s) : Sent o t := c.2.2.1.subset h

theorem Sent.ite {c : Prop} [Decidable c] (h : Sent o s) (k : Sent o t) : Sent o (if c then s else t) := by
  split <;> [exact h; exact k]

theorem Sent.foldl {α : Type} {f : State → α → State} (hf : ∀ {s a}, Sent o s → Sent o (f s a)) {l : List α}
    (h : Sent o s) : Sent o (l.foldl f s) :=
  List.foldlRecOn (motive := Sent o) l f h fun _ ht _ _ => hf ht

end

section
variable {o : Out} {s : State} (h : Sent o s)
include h

/-! ### Updates that send nothing -/

theorem Sent.setReg {r i j w} : Sent o (s.setReg r i j w) := h
theorem Sent.setF {f v} : Sent o (s.setF f v) := h
theorem Sent.raiseF {f} : Sent o (s.raiseF f) := h
theorem Sent.incF {f n} : Sent o (s.incF f n) := h
theorem Sent.modHead {n f} : Sent o (s.modHead n f) := h
theorem Sent.modSc {n f} : Sent o (s.modSc n f) := h
theorem Sent.modDp {n f} : Sent o (s.modDp n f) := h
theorem Sent.modSk {n f} : Sent o (s.modSk n f) := h
theorem Sent.modSeq {q f} : Sent o (s.modSeq q f) := h
theorem Sent.modDom {d f} : Sent o (s.modDom d f) := h
theorem Sent.modPlay {p f} : Sent o (s.modPlay p f) := h
theorem Sent.modBridge {b f} : Sent o (s.modBridge b f) := h
theorem Sent.modSink {k f} : Sent o (s.modSink k f) := h
theorem Sent.modPort {p f} : Sent o (s.modPort p f) := h
theorem Sent.modCwy {f} : Sent o (s.modCwy f) := h
theorem Sent.modRx {id f} : Sent o (s.modRx id f) := h
theorem Sent.modJ {f} : Sent o (s.modJ f) := h
theorem Sent.modChan {c f} : Sent o (s.modChan c f) := h
theorem Sent.modBctx {c f} : Sent o (s.modBctx c f) := h
theorem Sent.modTimer {n f} : Sent o (s.modTimer n f) := h
theorem Sent.modTrick {k f} : Sent o (s.modTrick k f) := h
theorem Sent.modSlot {id f} : Sent o (s.modSlot id f) := h
theorem Sent.dropSlot {id} : Sent o (s.dropSlot id) := h
theorem Sent.modRing {f r g} : Sent o (s.modRing f r g) := h
theorem Sent.spoil {k st d} : Sent o (s.spoil k st d) := h
theorem Sent.stageSeq {k q d c i ws} : Sent o (s.stageSeq k q d c i ws) := h
theorem Sent.trk {x} : Sent o { s with trk := x } := h
theorem Sent.scramble {lo hi} : Sent o (s.scramble lo hi) := h

/-! ### Messages and counts -/

theorem Sent.emit {m} : Sent o (s.emit m) := List.mem_append_left _ h
theorem Sent.count {c i n a} : Sent o (s.count c i n a) := (s.count_counted c i n a).sent h
theorem Sent.sendVec {f v} : Sent o (s.sendVec f v) := (Counted.sendVec s f v).sent h
theorem Sent.signal {w} : Sent o (s.signal w) := (Counted.signal s w).sent h
theorem Sent.msixSend {f v} : Sent o (s.msixSend f v) := (Counted.msixSend s f v).sent h
theorem Sent.hostWrite {f a bs} : Sent o (s.hostWrite f a bs) := (Counted.hostWrite s f a bs).sent h
theorem Sent.faultDev {c u i d} : Sent o (s.faultDev c u i d) := (s.faultDev_recorded c u i d).sent h
theorem Sent.ltrFrom {old} : Sent o (s.ltrFrom old) := h.ite h.emit

theorem Sent.logEntry {f r t c d} : Sent o (s.logEntry f r t c d) := by
  simp only [State.logEntry]
  split
  · exact h.incF.setF.count.hostWrite.sendVec.ite h.incF.setF.count.hostWrite
  · exact h.incF.setF.count.incF

/-! ### Sound -/

theorem Sent.bridgesRefill {d} : Sent o (s.bridgesRefill d) := h.foldl fun h => h.modBridge.setF

theorem Sent.sinksFadeIn {d m n k} : Sent o (s.sinksFadeIn d m n k) := h.foldl fun h => h.modSink.ite h

theorem Sent.domRescale {d n k} : Sent o (s.domRescale d n k) := by
  simp only [State.domRescale]
  split <;> [exact h; (split <;> exact h)]

theorem Sent.domStart {d n k} : Sent o (s.domStart d n k) := h.domRescale.modDom.bridgesRefill.sinksFadeIn

theorem Sent.domChange {d n k} : Sent o (s.domChange d n k) := h.domRescale.modDom.bridgesRefill.sinksFadeIn

theorem Sent.domStop {d} : Sent o (s.domStop d) :=
  h.modDom.foldl fun h => by
    dsimp only
    split <;> [(split <;> [exact h.modBridge; exact h]); exact h]

theorem Sent.domReview : Sent o s.domReview :=
  h.foldl fun h => by
    split
    · exact h.domStop
    · exact h.domStart
    · exact h.ite h.domChange
    · exact h

theorem Sent.playReview : Sent o s.playReview := h.foldl fun h => h.raiseF.modPlay.ite h

theorem Sent.dpSinkReview : Sent o s.dpSinkReview :=
  h.foldl fun h => by split <;> [exact h.raiseF.ite h; exact h]

theorem Sent.audReview : Sent o s.audReview := h.ite h.domReview.playReview.dpSinkReview.ltrFrom

theorem Sent.audStage {k i} : Sent o (s.audStage k i) := by
  unfold State.audStage
  split <;> exact h

theorem Sent.audDiscard {k} : Sent o (s.audDiscard k) :=
  h.foldl fun h => by split <;> [exact h.modDom.ite h; exact h]

theorem Sent.playAbandon {p} : Sent o (s.playAbandon p) := h.foldl fun h => h.modPlay.ite h

/-! ### Causeway -/

theorem Sent.transmit {p k} : Sent o (s.transmit p k) := h.modPort.emit.count

theorem Sent.pushPkt {p k} : Sent o (s.pushPkt p k) := h.ite (.ite h.transmit h.modPort)

theorem Sent.cwyEvent {c p} : Sent o (s.cwyEvent c p) :=
  h.ite (.ite h.modCwy.faultDev.logEntry h.modCwy.faultDev.pushPkt)

theorem Sent.reportBenched {id r k} : Sent o (s.reportBenched id r k) := Sent.ite (h.of_eq rfl) h.pushPkt

theorem Sent.benchChild {p r} : Sent o (s.benchChild p r) := h.ite h.modPort.pushPkt.reportBenched.cwyEvent

theorem Sent.sendDown {p k} : Sent o (s.sendDown p k) := h.incF.cwyEvent.benchChild.ite h.pushPkt

theorem Sent.castAll {k} : Sent o (s.castAll k) := h.foldl fun h => h.sendDown.ite h

theorem Sent.castDown {k} : Sent o (s.castDown k) := h.foldl fun h => h.sendDown.ite h

theorem Sent.castWall {t k} : Sent o (s.castWall t k) := h.castAll.ite h.castDown

theorem Sent.sendWallInfo : Sent o s.sendWallInfo := h.castAll.ite h

theorem Sent.sendTok {p t} : Sent o (s.sendTok p t) := h.emit.ite h

theorem Sent.sendFreeze {b} : Sent o (s.sendFreeze b) :=
  Sent.ite (h.foldl fun h => h.sendTok) (h.sendTok.ite h)

/-! ### Wall tricks -/

theorem Sent.wallFlush {t} : Sent o (s.wallFlush t) := by
  simp only [State.wallFlush]
  split
  · exact h
  · exact h.ite (h.modCwy.foldl fun h => h.castWall)

theorem Sent.wallDropped {k} : Sent o (s.wallDropped k) := by
  simp only [State.wallDropped]
  split
  · exact h
  · exact h.ite (.ite ((h.castWall.ite h).modCwy.foldl fun h => h.modPort).modCwy (h.castWall.ite h).modCwy)

theorem Sent.dropTrick {k} : Sent o (s.dropTrick k) := by
  unfold State.dropTrick
  refine Sent.trk (h.audDiscard.foldl fun h => ?_)
  split <;> [exact h.modSeq.ite h; exact h]

theorem Sent.discardTrick {k} : Sent o (s.discardTrick k) := h.wallDropped.dropTrick

end

end Sys2Proof.Machine
end

section
/-!
PROOF. What the block has sent stays sent (for O43): rings, completions, staging and the starts of descriptors.
-/

set_option Elab.async false  -- the joined text is large: no thread per declaration

namespace Sys2Proof.Machine

section
variable {o : Out} {s : State} (h : Sent o s)
include h

/-! ### Rings and completions -/

theorem Sent.ringDrained {f r} : Sent o (s.ringDrained f r) := h.setF.modRing.ite h

theorem Sent.ringMsg {f r} : Sent o (s.ringMsg f r) := by
  simp only [State.ringMsg]
  have hm : Sent o (if bits (s.reg .HIF_RING_CTL f r) 21 16 < s.fld (F.HIF_FN_CTL_VEC_COUNT f) then
      ((s.emit (.msix f (bits (s.reg .HIF_RING_CTL f r) 21 16))).msixSend f
        (bits (s.reg .HIF_RING_CTL f r) 21 16)).count 0x09 0 1 { fn := some f.val } else s) :=
    h.emit.msixSend.count.ite h
  exact h.ite (h.modRing.ite (hm.ite hm.modRing))

theorem Sent.writeCpl {f r c} : Sent o (s.writeCpl f r c) :=
  h.hostWrite.modRing.count.ringMsg.ite h.hostWrite.modRing.count

omit h in
theorem Sent.writeHeld {f r} : ∀ {n : Nat} {s : State}, Sent o s → Sent o (s.writeHeld f r n)
  | 0, _, h => h
  | n + 1, s, h => by
    unfold State.writeHeld
    dsimp only
    split
    · exact h.modRing.ite h
    · exact (Sent.writeHeld h.modRing.writeCpl.dropSlot).ite h

theorem Sent.settleRings : Sent o s.settleRings := h.foldl fun h => (h.ite h.writeHeld).ringDrained

theorem Sent.spoilBy {x st d} : Sent o (s.spoilBy x st d) := by
  unfold State.spoilBy
  split <;> [exact h.spoil.ite h; exact h]

theorem Sent.endSlot {id f r c} : Sent o (s.endSlot id f r c) :=
  h.writeCpl.dropSlot.ite (h.dropSlot.ite h.modRing.modSlot)

theorem Sent.complete {id st d} : Sent o (s.complete id st d) := by
  cases hx : s.slot id with
  | none => rwa [State.complete_of_none hx]
  | some x => rw [State.complete_of_slot hx]; exact h.spoilBy.endSlot

theorem Sent.writeDevFlags {f r} : Sent o (s.writeDevFlags f r) := h.hostWrite

theorem Sent.violate {f r t c d} : Sent o (s.violate f r t c d) :=
  Sent.ite (h.logEntry.modRing.modRing.writeDevFlags.logEntry.ite h.logEntry.modRing) h.logEntry

theorem Sent.completeViol {id st c d} : Sent o (s.completeViol id st c d) := by
  unfold State.completeViol
  split <;> [exact h; exact h.violate.complete]

theorem Sent.endVerdict {id v} : Sent o (s.endVerdict id v) := by
  unfold State.endVerdict
  split
  · exact h.complete
  · exact h.completeViol
  · exact (h.of_eq rfl : Sent o s.freeDetail.1).completeViol

theorem Sent.readRecord {f r} : Sent o (s.readRecord f r) := h.ite h.emit.modRing.count

theorem Sent.ringStart {f r} : Sent o (s.ringStart f r) :=
  Sent.ite h.setF.modRing (Sent.readRecord (h.setF.modRing.writeDevFlags.ite h.setF.modRing))

/-! ### Tricks -/

theorem Sent.wallStaged {k} : Sent o (s.wallStaged k) := by
  unfold State.wallStaged
  split
  · exact h
  · refine h.ite (Sent.foldl (fun h => h.wallFlush.ite h) ?_)
    refine Sent.castWall (Sent.castWall (Sent.wallFlush (Sent.modTrick (Sent.ite ?_ h))))
    exact ((h.castDown.ite h).modCwy.foldl fun h => h.castAll).foldl fun h => h.modPort.ite h

theorem Sent.becomeStaged {k} : Sent o (s.becomeStaged k) := by
  unfold State.becomeStaged
  split <;> [exact h; exact (h.modTrick.trk).wallStaged]

theorem Sent.takePlace {k} : Sent o (s.takePlace k) := h.becomeStaged.ite h.modTrick

theorem Sent.endSpoiled {t st d} : Sent o (s.endSpoiled t st d) := by
  simp only [State.endSpoiled]
  split <;> [exact h.discardTrick.complete; exact h.discardTrick]

theorem Sent.settleTrick {k} : Sent o (s.settleTrick k) := by
  unfold State.settleTrick
  split
  · exact h
  · split
    · refine h.ite ?_
      split <;> [exact h.endSpoiled; exact h.endSpoiled.ite h.takePlace]
    · exact h.becomeStaged.ite h
    · exact h

theorem Sent.reanchor {k} : Sent o (s.reanchor k) := by
  unfold State.reanchor
  split <;> [exact h; exact h.modTrick.ite h]

theorem Sent.settleTricks : Sent o s.settleTricks :=
  (h.foldl fun h => h.settleTrick).foldl fun h => h.reanchor

theorem Sent.endShown {x} : Sent o (s.endShown x) := by
  simp only [State.endShown]
  split <;> [exact h.trk.complete.ite h.trk.complete; exact h.trk]

theorem Sent.settleShown : Sent o s.settleShown := h.trk.foldl fun h => h.endShown.ite h

theorem Sent.failCommit {x} : Sent o (s.failCommit x) := by
  unfold State.failCommit
  split <;> [(split <;> [exact h.discardTrick; exact h]); exact h]

theorem Sent.closeTrick {x} : Sent o (s.closeTrick x) := by
  unfold State.closeTrick
  split <;> [exact h; exact h.ite h.modTrick]

theorem Sent.joinTrick {x} : Sent o (s.joinTrick x).1 := by
  unfold State.joinTrick
  split <;> [(dsimp only; split <;> [exact h.modSlot; exact h.modSlot.closeTrick]); exact h]

theorem Sent.wallForward {k t d p b} : Sent o (s.wallForward k t d p b) := by
  unfold State.wallForward
  split
  · exact h
  · refine h.ite ?_
    dsimp only
    split <;> [exact h.modTrick.modCwy.wallFlush; exact h.modTrick.modCwy]

/-! ### Staging -/

theorem Sent.clashPage {k g} : Sent o (s.clashPage k g) := by
  unfold State.clashPage
  split <;> [exact h; exact h.ite h.incF.count.trk]

theorem Sent.takePages {k gs} : Sent o (s.takePages k gs) := h.foldl fun h => h.clashPage.modTrick.count

theorem Sent.stagePlan {k p mk} : Sent o (s.stagePlan k p mk) := by
  unfold State.stagePlan
  split
  · exact h
  · exact h.takePages.foldl fun h => by split <;> [exact h; exact h.modTrick]

theorem Sent.stageTarn {k p mk} : Sent o (s.stageTarn k p mk).1 := by
  unfold State.stageTarn
  split
  · exact h
  · split
    · exact h
    · split <;> [exact h.stagePlan; exact h; exact h]

theorem Sent.stageLoad {k q p d} : Sent o (s.stageLoad k q p d).1 := by
  unfold State.stageLoad
  split
  · exact h
  · split
    · exact h
    · split <;> [exact h.stageSeq; exact h; exact h]

theorem Sent.stageImage {k d} : Sent o (s.stageImage k d).1 := by
  simp only [State.stageImage]
  split
  · exact h
  · split
    · exact h
    · split
      · exact h
      · split <;> [exact h.ite h.audStage; exact h]

theorem Sent.stageSource {x k d} : Sent o (s.stageSource x k d).1 := by
  unfold State.stageSource
  split
  · split <;> [exact h.stageLoad; exact h]
  · exact h.stageImage
  · split <;> [exact h.stageTarn; exact h]

/-! ### Descriptors that start -/

theorem Sent.bltStart {id} : Sent o (s.bltStart id) := by
  unfold State.bltStart
  split
  · exact h
  · exact h.modSlot.ite (h.modBctx.modSlot.emit.ite h.modBctx.modSlot)

theorem Sent.playAsk {p} : Sent o (s.playAsk p) := by
  simp only [State.playAsk]
  refine h.ite ?_
  split <;> [exact h; (split <;> [exact h.modPlay.emit.count; exact h.modPlay.emit])]

theorem Sent.playStart {id} : Sent o (s.playStart id) := by
  unfold State.playStart
  split <;> [exact h; exact h.modSlot.ite h.modSlot.modPlay.playAsk]

theorem Sent.emitReads {a n} : Sent o (s.emitReads a n) := h.foldl fun h => h.emit

theorem Sent.sluRead {c} : Sent o (s.sluRead c) := by
  simp only [State.sluRead]
  split <;> [exact h.ite h.emitReads.modChan; exact h]

theorem Sent.chanStart {c id} : Sent o (s.chanStart c id) := by
  unfold State.chanStart
  split
  · exact h
  · exact Sent.ite h h.modChan.setF.setReg.modSlot.sluRead

theorem Sent.sluStart {id} : Sent o (s.sluStart id) := by
  unfold State.sluStart
  split
  · exact h
  · split <;> [exact h.chanStart; exact h.modSlot]

theorem Sent.openTrick {w id hs b} : Sent o (s.openTrick w id hs b).1 := h

theorem Sent.startBegin {x} : Sent o (s.startBegin x) := h.openTrick.wallForward.complete

theorem Sent.startFence {x} : Sent o (s.startFence x) := h

theorem Sent.readEffect {r i j} : Sent o (s.readEffect r i j) := by
  have hcap : ∀ n, Sent o (s.capRead n).1 := fun n => by
    unfold State.capRead
    split <;> exact h
  unfold State.readEffect
  refine h.ite ?_
  split
  · split <;> exact h
  · split <;> [exact hcap _; exact h]
  · split <;> exact h
  · exact h
  · exact h

theorem Sent.startQuery {x} : Sent o (s.startQuery x) := by
  simp only [State.startQuery]
  split
  · split <;> [exact h.readEffect.complete; exact h.complete]
  · exact h.complete
  · exact h.complete
  · exact h.complete
  · exact h.complete

theorem Sent.storeNext : Sent o s.storeNext := by
  unfold State.storeNext
  split <;> exact h

theorem Sent.storeAsk {i} : Sent o (s.storeAsk i) := h.ite h.modJ.storeNext

end

end Sys2Proof.Machine
end

section
/-!
PROOF. What the block has sent stays sent (for O43): register writes that take effect at once.
-/

set_option Elab.async false  -- the joined text is large: no thread per declaration

namespace Sys2Proof.Machine

section
variable {o : Out} {s : State} (h : Sent o s)
include h

/-! ### The device, the host interface, tricks and memory -/

theorem Sent.warmReset : Sent o s.warmReset :=
  Sent.ite (h.of_eq rfl) (h.of_eq rfl)

theorem Sent.sampleStraps {x} : Sent o (s.sampleStraps x) :=
  h.of_eq (by simp only [State.sampleStraps, State.setF_out])

theorem Sent.resetWrite {v x} : Sent o (s.resetWrite v x) := by
  have hr := fun {b : Bool} {t : State} {f : Fld} (k : Sent o t) => k.raiseF (f := f).ite (c := b) k
  exact Sent.ite (Sent.sampleStraps (hr (hr (hr h.warmReset.raiseF)))) h

theorem Sent.trump {x} : Sent o { s with trump := x } := h

theorem Sent.pwr {x} : Sent o { s with pwr := x } := h

theorem Sent.glob {x} : Sent o { s with glob := x } := h

theorem Sent.tmr {x} : Sent o { s with tmr := x } := h

theorem Sent.gpio {x} : Sent o { s with gpio := x } := h

theorem Sent.closeSession : Sent o s.closeSession := h

theorem Sent.checkKey {k v} : Sent o (s.checkKey k v).1 := by
  have hrec : Sent o { s with trump := { s.trump with lockRec := true } } := h
  simp only [State.checkKey]
  split
  · split <;> [exact h; exact hrec.faultDev]
  · split
    · exact h
    · split <;> [exact h.setF.faultDev.raiseF.trump; exact h.setF.faultDev]

theorem Sent.presentKey {k} : Sent o (s.presentKey k) := by
  simp only [State.presentKey]
  refine Sent.ite (h.of_eq rfl) ?_
  split <;> [exact h.checkKey.raiseF; exact h.checkKey.closeSession; exact h.checkKey]

theorem Sent.sessionWrite {v} : Sent o (s.sessionWrite v) := by
  have hc : Sent o (if bit v 29 then (s.setF F.GLB_TRUMP_SESSION_TIMEOUT (bits v 7 0)).closeSession
      else s.setF F.GLB_TRUMP_SESSION_TIMEOUT (bits v 7 0)) := h.setF.closeSession.ite h.setF
  exact Sent.ite (Sent.ite hc hc) hc

theorem Sent.quotaWrite {f w} : Sent o (s.quotaWrite f w) := by
  simp only [State.quotaWrite]
  split <;> exact h

theorem Sent.fnCtlWrite {f w} : Sent o (s.fnCtlWrite f w) := by
  simp only [State.fnCtlWrite]
  split <;> exact h

theorem Sent.limitWrite {f w} : Sent o (s.limitWrite f w) := by
  simp only [State.limitWrite]
  split <;> exact h

theorem Sent.poolWrite {u} : Sent o (s.poolWrite u) := h.raiseF.ite (h.setF.scramble.ite (.ite h h))

/-! Descriptors that end early (R83). -/

theorem Sent.bltAbort {id} : Sent o (s.bltAbort id) :=
  h.foldl fun h => Sent.ite (Sent.modBctx (h.foldl fun h => h.scramble)) h

theorem Sent.sluAbort {id} : Sent o (s.sluAbort id) :=
  h.foldl fun {s c} h => by
    have hspoil : ∀ x, Sent o (s.sluSpoilDst x) := fun x => h.scramble.ite h
    split <;> [(split <;> [exact hspoil _; exact h]); exact h]

theorem Sent.unitAbort {x} : Sent o (s.unitAbort x) := by
  unfold State.unitAbort
  split <;> [exact h.bltAbort; exact h.sluAbort; exact h.playAbandon; exact h; exact h]

theorem Sent.loseCommit {x} : Sent o (s.loseCommit x) := Sent.ite (h.foldl fun h => h.discardTrick) h

theorem Sent.endEarly {x st d} : Sent o (s.endEarly x st d).1 := by
  have hend : ∀ (t : State) {b : Bool} {f r c}, Sent o t →
      Sent o (if b then ((t.writeCpl f r c).dropSlot x.id, true) else (t.dropSlot x.id, false)).1 := by
    intro t b f r c ht
    split <;> [exact ht.writeCpl.dropSlot; exact ht.dropSlot]
  cases hx : x.trick with
  | none =>
    simp only [State.endEarly, hx]
    exact hend _ h.unitAbort.loseCommit
  | some k =>
    simp only [State.endEarly, hx]
    exact hend _ (h.unitAbort.ite h.unitAbort.spoil).loseCommit

theorem Sent.endSlots {xs st d} : Sent o (s.endSlots xs st d).1 :=
  List.foldlRecOn (motive := fun a : State × Nat × Nat => Sent o a.1) _ _ (h.foldl fun h => h.modRing)
    fun _ ha _ _ => ha.endEarly

theorem Sent.ringStop {f r} : Sent o (s.ringStop f r) := h.modRing.endSlots.ringDrained

theorem Sent.ringCtlWrite {f r v} : Sent o (s.ringCtlWrite f r v) :=
  Sent.ite (h.setReg.ringStart.ite h.setReg) (h.setReg.ringStop.ite h.setReg)

/-! ### Heads and sequencers -/

theorem Sent.wbHeld {n} : Sent o (s.wbHeld n) := by
  simp only [State.wbHeld]
  split <;> [exact h.modSk.incF.ite h; exact h]

theorem Sent.holdReg {n v} : Sent o (s.holdReg n v) := by
  unfold State.holdReg
  refine Sent.ite ?_ h.setF.wbHeld
  split <;> [exact h.setF.wbHeld; exact h]

theorem Sent.auxSend {n} : Sent o (s.auxSend n) := by
  unfold State.auxSend
  split <;> [exact h.ite h.emit; exact h]

theorem Sent.auxStart {n r l a} : Sent o (s.auxStart n r l a) :=
  have hend := fun {b c} => (h.setF.setF.setF.modDp : Sent o (s.auxEnd n b c))
  h.ite (.ite hend (.ite hend (.ite hend h.raiseF.modDp.auxSend)))

theorem Sent.endTraining {n} : Sent o (s.endTraining n) := h.modDp.auxSend.ite h

theorem Sent.startTraining {n} : Sent o (s.startTraining n) := by
  have hr : ∀ {r : Nat}, Sent o (if r = 0 then s else
      (s.raiseF (F.HEAD_STAT_TS_ERR n)).setF (F.HEAD_STAT_TS_REASON n) r) := h.ite h.raiseF.setF
  exact h.ite (.ite hr.modDp.endTraining hr.modDp.emit)

theorem Sent.retrainHead {n} : Sent o (s.retrainHead n) := h.modSc.modDp.modDp.startTraining

theorem Sent.trumpCmd {n v} : Sent o (s.trumpCmd n v) :=
  Sent.ite (Sent.modHead (h.setF.ite h)) (h.setF.ite h)

theorem Sent.dmgAdd {n a r} : Sent o (s.dmgAdd n a r) :=
  Sent.ite (Sent.modHead (h.modHead.ite h)) (h.modHead.ite h)

theorem Sent.cmdHalt {q} : Sent o (s.cmdHalt q) := by
  unfold State.cmdHalt
  split <;> exact h

theorem Sent.cmdRestart {q} : Sent o (s.cmdRestart q) := h

/-! ### Sound, timers, pins and counters -/

theorem Sent.rampSet {w} : Sent o (s.rampSet w) := by
  have he : ∀ d i t, Sent o (s.rampEvent d i t) := fun d i t => by
    unfold State.rampEvent
    split <;> exact h
  exact (he _ _ _).ite h

theorem Sent.coefSet {w} : Sent o (s.coefSet w) := by
  unfold State.coefSet
  split <;> [exact h.modDom.ite h; exact h]

theorem Sent.tmrReview : Sent o s.tmrReview := h.foldl fun h => h.raiseF.ite h

theorem Sent.tmrMsg : Sent o s.tmrMsg := h.tmr.signal.ite h.tmr

theorem Sent.tmrStart {w} : Sent o (s.tmrStart w) := h.foldl fun h => Sent.ite (h.ite h.raiseF.modTimer) h

theorem Sent.tmrStop {w} : Sent o (s.tmrStop w) := h.foldl fun h => h.setF.ite h

theorem Sent.tmrReset {w} : Sent o (s.tmrReset w) := h.foldl fun h => h.modTimer.modTimer.ite h

theorem Sent.gpioMsg : Sent o s.gpioMsg := h.gpio.signal.ite h.gpio

theorem Sent.gpioOut {f} : Sent o (s.gpioOut f) := by
  simp only [State.gpioOut]
  split <;> exact h

theorem Sent.gpioReview : Sent o s.gpioReview :=
  Sent.ite (Sent.raiseF (h.raiseF.ite h)) (h.raiseF.ite h)

theorem Sent.pmcRun {m v} : Sent o (s.pmcRun m v) := h.foldl fun h => h.setF.ite h

theorem Sent.pmcWrite {r i w} : Sent o (s.pmcWrite r i w) := h.setReg.signal.ite h.setReg

theorem Sent.pmcValue {k b v m} : Sent o (s.pmcValue k b v m) := h.ite h

/-! ### Causeway and the freeze latch -/

theorem Sent.loseWallLock : Sent o s.loseWallLock :=
  h.ite (h.foldl fun h => by split <;> [exact h.raiseF.modHead.ite h; exact h])

theorem Sent.stopTracking : Sent o s.stopTracking := h.ite (Sent.loseWallLock (h.of_eq rfl))

theorem Sent.handDiscard : Sent o s.handDiscard := Sent.modCwy (h.foldl fun h => h.dropTrick)

theorem Sent.benchBelow : Sent o s.benchBelow := h.foldl fun h => h.modPort.pushPkt.ite h

theorem Sent.standalone : Sent o s.standalone := by
  unfold State.standalone
  exact h.stopTracking.handDiscard.benchBelow.setF.modCwy

theorem Sent.childGone {p} : Sent o (s.childGone p) := h.benchChild.modCwy.ite h.benchChild

theorem Sent.portLeave {p} : Sent o (s.portLeave p) := by
  refine Sent.ite h.modPort (Sent.modPort ?_)
  refine Sent.ite (Sent.standalone ?_) (Sent.childGone ?_) <;>
    exact Sent.ite h.modPort.cwyEvent.incF.cwyEvent h.modPort.cwyEvent

theorem Sent.portStart {p} : Sent o (s.portStart p) := h.modPort.ite h

theorem Sent.portsReview {w} : Sent o (s.portsReview w) :=
  h.foldl fun h => h.portLeave.modPort.ite (h.portStart.ite h)

theorem Sent.admitChild {p} : Sent o (s.admitChild p) := by
  have hs := fun {b : Prop} [Decidable b] {f} => h.ite (c := b) (h.modPort (p := p) (f := f))
  simp only [State.admitChild]
  refine Sent.ite (Sent.sendWallInfo (hs.ite hs.modCwy)) (Sent.pushPkt ?_)
  split <;> [exact hs.pushPkt; exact hs]

theorem Sent.sendSetId {p id} : Sent o (s.sendSetId p id) := by
  simp only [State.sendSetId]
  refine h.ite ?_
  split
  · exact h
  · have hd : ∀ {p k}, Sent o (s.sendDown p k) := h.sendDown
    exact h.ite (hd.ite (.ite (hd.modPort.modCwy.ite hd.modPort) hd.modPort.admitChild))

theorem Sent.noteWake {x} : Sent o (s.noteWake x) :=
  h.ite (.ite (h.ite h.pwr.setF.count) (.ite h.pwr.setF.count h))

theorem Sent.freezeReview : Sent o s.freezeReview := by
  have hg : ∀ t : State, Sent o t →
      Sent o (if t.dealer then { t with glob := { t.glob with frzCwy := false } } else t) :=
    fun t ht => Sent.ite ht.glob ht
  unfold State.freezeReview
  extract_lets want
  split
  · exact h.modCwy.sendFreeze
  · split <;> [exact (hg _ h.modCwy).sendFreeze; exact h]

theorem Sent.frzChanged : Sent o s.frzChanged := h.glob.freezeReview

theorem Sent.frzCtl {v} : Sent o (s.frzCtl v) := by
  have hw : Sent o (if s.frozen then s else s.noteWake 0x02) := h.ite h.noteWake
  exact h.ite (hw.ite (.ite hw.glob.frzChanged (.ite hw.glob.frzChanged hw)))

end

end Sys2Proof.Machine
end

section
/-!
PROOF. What the block has sent stays sent (for O43): everything that follows a command.
-/

set_option Elab.async false  -- the joined text is large: no thread per declaration

namespace Sys2Proof.Machine

section
variable {o : Out} {s : State} (h : Sent o s)
include h

/-! ### Register writes -/

theorem Sent.onIdx {m i : Nat} {f : Fin m → State} (hf : ∀ k, Sent o (f k)) : Sent o (onIdx m i s f) := by
  unfold Machine.onIdx
  split <;> [exact hf _; exact h]

theorem Sent.writeA {r i j vm new t} (e : s.writeA r i j vm new = some t) : Sent o t := by
  unfold State.writeA at e
  split at e <;> cases e
  · exact h.resetWrite
  · exact h.trump
  · exact h.presentKey
  · exact h.sessionWrite
  · exact h.setReg
  · exact h.onIdx fun _ => h.quotaWrite
  · exact h.onIdx fun _ => h.fnCtlWrite
  · exact h.onIdx fun _ => h.onIdx fun _ => h.ringCtlWrite
  · exact h.onIdx fun _ => h.limitWrite
  · exact h.poolWrite

theorem Sent.writeB {r i j vm new t} (e : s.writeB r i j vm new = some t) : Sent o t := by
  unfold State.writeB at e
  split at e <;> cases e
  · exact h.onIdx fun _ => h.holdReg
  · exact h.onIdx fun _ => h.ite h.trumpCmd
  · exact h.onIdx fun _ => h.dmgAdd
  · exact h.onIdx fun _ => h.setReg.retrainHead.ite h.setReg
  · exact h.onIdx fun _ => h.auxStart.ite h
  · exact h.onIdx fun _ => Sent.ite (Sent.cmdRestart (h.cmdHalt.ite h)) (h.cmdHalt.ite h)
  · exact h.setReg

theorem Sent.writeC {r i j v mask new t} (e : s.writeC r i j v mask new = some t) : Sent o t := by
  unfold State.writeC at e
  split at e <;> cases e
  · exact h.rampSet
  · exact h.coefSet
  · exact h.onIdx fun _ => Sent.ite (h.setReg.ltrFrom.of_eq rfl) h.setReg.ltrFrom
  · exact h.setReg.portsReview
  · exact h.setReg.portsReview
  · exact (h.sendSetId).ite h
  · exact h.modCwy.ite h
  · exact h.onIdx fun _ => h.modTimer
  · exact h.setReg.tmrReview.tmrMsg
  · exact h.tmrStart
  · exact h.tmrStop
  · exact h.tmrReset
  · exact h.gpioOut
  · exact h.gpioOut
  · exact h.setReg.gpioReview
  · exact h.setReg.gpioMsg
  · exact h.pmcRun
  · exact h.pmcRun
  · exact h.pmcWrite
  · exact h.pmcWrite
  · exact h.onIdx fun _ => h.pmcValue
  · exact h.onIdx fun _ => h.pmcValue
  · exact h.frzCtl

theorem Sent.writeReg {r i j v mask} : Sent o (s.writeReg r i j v mask) := by
  simp only [State.writeReg]
  refine h.ite ?_
  split
  · next e => exact h.writeA e
  · split
    · next e => exact h.writeB e
    · split
      · next e => exact h.writeC e
      · exact h.setReg

theorem Sent.writePairs {x} : Sent o (s.writePairs x) :=
  h.foldl fun h => by split <;> [exact h.ite h.writeReg; exact h]

/-! ### Forwarded wall tricks -/

omit h in
theorem Sent.rxHeads {t d} : ∀ {ns : List (Fin 6)} {s : State}, Sent o s → Sent o (s.rxHeads t d ns).1
  | [], _, h => h
  | n :: ns, s, h => by
    have hs := h.stageSource (x := d.slot t n) (k := t.key) (d := d.data)
    unfold State.rxHeads
    dsimp only
    split
    · exact h
    · split
      · next e => rw [e] at hs; exact hs.rxHeads
      · exact hs

omit h in
theorem Sent.rxLoads {t d} : ∀ {qs : List (Fin 8 × Option (Fin 6))} {s : State}, Sent o s →
    Sent o (s.rxLoads t d qs).1
  | [], _, h => h
  | (q, n) :: qs, s, h => by
    have hs := h.stageLoad (k := t.key) (q := q) (p := d.payload) (d := d.data)
    unfold State.rxLoads
    split
    · next e =>
      rw [e] at hs
      refine Sent.rxLoads ?_
      split <;> exact hs
    · exact hs

theorem Sent.stageRegs {k ws t} (e : s.stageRegs k ws = some t) : Sent o t := by
  unfold State.stageRegs at e
  split at e
  · cases e; exact h
  · split at e <;> cases e
    exact h.modTrick

theorem Sent.rxRegs {t d} : Sent o (s.rxRegs t d).1 := by
  unfold State.rxRegs
  dsimp only
  split
  · exact h
  · next e => exact (h.stageRegs e).foldl fun h => h.writeReg

theorem Sent.rxStage {t d} : Sent o (s.rxStage t d).1 := by
  unfold State.rxStage
  split
  · exact h.rxRegs
  · exact h.rxHeads
  · exact h.rxHeads
  · exact h.rxHeads
  · split <;> [exact h; exact h.stageSource]
  · exact h.rxLoads
  · have hs := h.stageImage (k := t.key) (d := d.data)
    split
    · next e => rw [e] at hs; exact hs
    · exact hs
  · exact h

omit h in
theorem Sent.rxAdvance {id} : ∀ {n : Nat} {s : State}, Sent o s → Sent o (s.rxAdvance id n)
  | 0, _, h => h
  | n + 1, s, h => by
    unfold State.rxAdvance
    split
    · exact h
    · split
      · exact h
      · next t _ _ d _ =>
        have hs := h.rxStage (t := t) (d := d)
        refine h.ite ?_
        split
        · next e => rw [e] at hs; exact hs.modRx.rxAdvance
        · next e => rw [e] at hs; exact hs
        · next e => rw [e] at hs; exact hs.modRx

theorem Sent.rxReady {id} : Sent o (s.rxReady id) := by
  unfold State.rxReady
  split
  · exact h
  · have hp : ∀ {t : State} {n f}, Sent o t → Sent o (t.sendReady id n f) := fun ht => ht.pushPkt
    refine h.ite (.ite (hp h.modRx) (h.ite ?_))
    extract_lets u staged
    have hu : Sent o u := by
      unfold u
      split <;> [exact h.takePlace.ite h; exact h]
    exact Sent.ite (hp hu.modRx) hu

theorem Sent.rxSettle : Sent o s.rxSettle := h.foldl fun h => h.rxAdvance.rxReady

/-! ### Descriptors -/

theorem Sent.startRegs {x} : Sent o (s.startRegs x) := by
  simp only [State.startRegs]
  refine Sent.complete (Sent.writePairs ?_)
  split
  · refine Sent.wallForward ?_
    split <;> [exact h.ite h.modTrick; exact h]
  · split <;> [exact h.ite h.modTrick; exact h]

theorem Sent.tryStage {id} : Sent o (s.tryStage id) := by
  unfold State.tryStage
  split
  · exact h
  · dsimp only
    split
    · next x _ _ _ d key _ _ =>
      have hs := h.stageSource (x := x) (k := key) (d := d)
      refine h.ite ?_
      split
      · exact h.endVerdict
      · split
        · next e => rw [e] at hs; exact hs.wallForward.complete
        · next e => rw [e] at hs; exact hs
        · next e => rw [e] at hs; exact hs.endVerdict
    · exact h.complete
    · exact h

theorem Sent.startSource {x} : Sent o (s.startSource x) := h.emit.modSlot.ite h.modSlot.tryStage

theorem Sent.runSlot {x} : Sent o (s.runSlot x) := by
  unfold State.runSlot
  split
  · exact h.complete
  · exact h.startBegin
  · exact h.modSlot
  · exact h.startRegs
  · exact h.bltStart
  · exact h.sluStart
  · exact h.playStart
  · exact h.startFence
  · exact h.startQuery
  · exact h.setReg.complete
  · exact h.modSlot.storeAsk
  · exact h.startSource

theorem Sent.startSlot {id} : Sent o (s.startSlot id) := by
  unfold State.startSlot
  split
  · exact h
  · refine h.ite ?_
    dsimp only
    split
    · exact h.joinTrick.endVerdict.settleTricks
    · split
      · exact h.joinTrick.endVerdict.settleTricks
      · split
        · exact h.joinTrick.failCommit.endVerdict.settleTricks
        · exact h.joinTrick.runSlot.settleTricks

theorem Sent.tryFence {id} : Sent o (s.tryFence id) := by
  unfold State.tryFence
  split
  · exact h
  · split <;> [exact h.ite h.complete; exact h]

theorem Sent.tryUnit {id} : Sent o (s.tryUnit id) := by
  unfold State.tryUnit
  split
  · exact h
  · refine h.ite ?_
    split <;> [exact h.bltStart; exact h.playStart; exact h]

theorem Sent.settleRound : Sent o s.settleRound := by
  refine Sent.settleRings (Sent.settleShown (Sent.settleTricks ?_))
  refine Sent.foldl (fun h => h.tryFence) (Sent.foldl (fun h => h.tryStage) ?_)
  exact Sent.foldl (fun h => h.tryUnit) (h.settleTricks.foldl fun h => h.startSlot)

omit h in
theorem Sent.settleRounds : ∀ {n : Nat} {s : State}, Sent o s → Sent o (s.settleRounds n)
  | 0, _, h => h
  | n + 1, _, h => Sent.settleRounds (n := n) h.settleRound

theorem Sent.settle : Sent o s.settle := h.ite h.settleRounds

theorem Sent.settleAll : Sent o s.settleAll := h.settle.ite h.settle.rxSettle.settle

/-- What follows a command takes back nothing that was sent. -/
theorem Sent.follow : Sent o s.follow := h.settleAll.audReview

end

end Sys2Proof.Machine
end

section
/-!
PROOF. A port trains (O43): a state in which the newcomer with a taken ID is not told so.
-/

set_option Elab.async false  -- the joined text is large: no thread per declaration

namespace Sys2Proof.Machine

/-- A dealer whose port 1 has yet to send a HELLO that waits for room, while a hand elsewhere has joined with ID 5. -/
def helloWaits : State :=
  { State.reset.raiseF F.GLB_STRAPS_DEALER with
    cwy := { port := Vector.set (Vector.replicate 5 {}) 1 { run := .hello, fwd := [.hello true 0 0 0 1] }
             hands := [(5, 0, true)] } }

/-- `helloWaits` after the HELLO of a newcomer with ID 5 on port 1, before what follows it. -/
def helloWaitsTaken : State := helloWaits.receive 1 0 (fun s => s.hello 1 false 5 0 0)

/-- The message is a HELLO. -/
def Out.isHello : Out → Bool
  | .cwy _ (.pkt _ (.hello ..)) => true
  | _ => false

/-- The answer to the newcomer waits behind the HELLO that waits, so no HELLO goes out (R383). -/
theorem helloWaitsTaken_silent : helloWaitsTaken.out.all (fun o => !o.isHello) = true := by decide +kernel

theorem helloWaitsTaken_follow : helloWaitsTaken.follow = helloWaitsTaken :=
  State.follow_calm (by decide +kernel)

/-- Refutes O43: the clause on a newcomer whose ID another hand holds fails in `helloWaits`. The statement does not ask
that the port's forwarding buffer be empty; where a packet waits there, the answering HELLO is put behind it and
is not sent. Whatever state the command's outcome follows from has not sent it either, for what follows a command
takes nothing back (`Sent.follow`). -/
theorem not_portTraining : ¬ Obligations.PortTraining := by
  unfold Obligations.PortTraining
  intro h
  obtain ⟨-, -, -, -, taken, -⟩ := h helloWaits 1 true false 5 0 0 0 0 0 (by decide +kernel)
  obtain ⟨t, hexec, htold⟩ := taken (by decide +kernel) (by decide +kernel) (by decide) rfl (by decide +kernel)
  rw [if_pos ⟨by decide +kernel, by decide, (5, 0, true), by decide +kernel, by decide, rfl,
    by decide +kernel⟩] at htold
  obtain ⟨-, k, l, hout, hl⟩ := htold
  have hsent : Sent _ t := hout ▸ List.mem_append_right helloWaits.out hl
  have hsame : helloWaitsTaken.follow = t.follow := Host.Outcome.next.inj hexec
  have hheard := hsent.follow
  rw [← hsame, helloWaitsTaken_follow] at hheard
  have hsilent := List.all_eq_true.1 helloWaitsTaken_silent _ hheard
  simp [Out.isHello] at hsilent

end Sys2Proof.Machine
end

section
/-!
PROOF. Cold start, OFF and warm resets (O12): what starting afresh leaves, and that sampling the straps, flagging a
cause and keeping the always-on registers stay within it.
-/

set_option Elab.async false  -- the joined text is large: no thread per declaration

namespace Sys2Proof.Machine

/-! ### Registers that may differ from their Cold values -/

/-- BAR0 addresses of the registers that sampling the straps writes (R21, R60). -/
def strapRegs : List Nat := [RegId.addr .GLB_STRAPS 0 0, RegId.addr .GLB_CLK_STATUS 0 0]

/-- BAR0 addresses of the registers that a warm reset writes or keeps (R54, R408, R462). -/
def warmRegs : List Nat :=
  [RegId.addr .GLB_STRAPS 0 0, RegId.addr .GLB_CLK_STATUS 0 0, RegId.addr .GLB_RESET_CAUSE 0 0,
   RegId.addr .GLB_TEMP 0 0, RegId.addr .PWR_STAT 0 0, RegId.addr .DBG_FLT_NEXT 0 0, RegId.addr .DBG_FLT_PRIOR 0 0]

theorem strapRegs_sub_warmRegs : ∀ a ∈ strapRegs, a ∈ warmRegs := by decide

/-! ### Starting afresh -/

theorem State.flashAfter_idle {s : State} (h : s.jrnl.store = none) : s.flashAfter = { slots := s.jrnl.slots } := by
  simp only [State.flashAfter, Journal.cut, h]

theorem State.bare_restarted (s : State) (m : Mode) : Restarted s (s.bare m) [] :=
  ⟨fun _ _ _ _ => rfl, rfl, fun _ _ => rfl, fun h => by simp only [State.bare, s.flashAfter_idle h]⟩

theorem Restarted.mono {s t : State} {ex ey : List Nat} (h : Restarted s t ex) (hsub : ∀ a ∈ ex, a ∈ ey) :
    Restarted s t ey := by
  obtain ⟨hcold, hrest⟩ := h
  exact ⟨fun r i j ha => hcold r i j (fun m => ha (hsub _ m)), hrest⟩

section
variable {s t : State} {ex : List Nat} (h : Restarted s t ex)
include h

/-- Writing a register that may differ leaves a state started afresh so. -/
theorem Restarted.setReg {r : RegId} {i j : Nat} (ha : r.addr i j ∈ ex) (w : Word) :
    Restarted s (t.setReg r i j w) ex := by
  obtain ⟨hcold, heq, hrest⟩ := h
  refine ⟨fun q k l hq => ?_, ?_, hrest⟩
  · have hne : q.addr k l ≠ r.addr i j := fun e => hq (e ▸ ha)
    exact (t.reg_setReg_ne hne w).trans (hcold q k l hq)
  · exact congrArg (fun u : State => { u with regs := (t.setReg r i j w).regs }) heq

theorem Restarted.setF {f : Fld} (ha : f.id.addr f.i f.j ∈ ex) (v : Nat) : Restarted s (t.setF f v) ex :=
  h.setReg ha _

theorem Restarted.raiseIf {f : Fld} (ha : f.id.addr f.i f.j ∈ ex) (c : Prop) [Decidable c] :
    Restarted s (if c then t.raiseF f else t) ex := by
  split
  · exact h.setF ha 1
  · exact h

theorem Restarted.records (g : Glob) (d : Dbg) : Restarted s { t with glob := g, dbg := d } ex := by
  obtain ⟨hcold, heq, hrest⟩ := h
  exact ⟨hcold, congrArg (fun u : State => { u with glob := g, dbg := d }) heq, hrest⟩

theorem Restarted.skip (b : Bool) : Restarted s { t with jrnl := { t.jrnl with skip := b } } ex := by
  obtain ⟨hcold, heq, hrest⟩ := h
  exact ⟨hcold, congrArg (fun u : State => { u with jrnl := { u.jrnl with skip := b } }) heq, hrest⟩

/-- The pins of the straps take new levels, and no other pin does (R60). -/
theorem Restarted.strapLevels (v : Nat) :
    Restarted s { t with gpio := { t.gpio with pins := putBits t.gpio.pins 4 0 v } } ex := by
  obtain ⟨hcold, heq, hlevel, hflash⟩ := h
  refine ⟨hcold, congrArg (fun u : State => { u with gpio := { u.gpio with pins := putBits t.gpio.pins 4 0 v } }) heq,
    fun k hk => ?_, hflash⟩
  exact (bit_putBits t.gpio.pins (by decide) v k).trans ((if_neg (by omega)).trans (hlevel k hk))

end

/-! ### Sampling the straps -/

/-- The straps read as they were sampled, in GLB_STRAPS, at the pins and in the journal (R60). -/
def State.Sampled (s : State) (x : Straps) : Prop :=
  s.flag F.GLB_STRAPS_REFSEL = x.refsel ∧ s.flag F.GLB_STRAPS_DEALER = x.dealer ∧
  s.fld F.GLB_STRAPS_SMB_ADDR = x.smbAddr.toNat ∧ s.flag F.GLB_STRAPS_JRNL_SKIP = x.jrnlSkip ∧
  s.jrnl.skip = x.jrnlSkip ∧ bits s.gpio.pins 4 0 = strapPins x

theorem strapPins_lt (x : Straps) : strapPins x < 32 := by
  have hbit : ∀ b, b2n b ≤ 1 := by decide
  have := hbit x.refsel
  have := hbit x.dealer
  have := hbit x.jrnlSkip
  have := x.smbAddr.isLt
  simp only [strapPins]
  omega

/-- A one-bit field set from a Boolean reads as that Boolean. -/
theorem State.flag_setF_b2n (s : State) {f : Fld} (h : f.hi < 32) (hw : f.hi = f.lo) (b : Bool) :
    (s.setF f (b2n b)).flag f = b := by
  cases b <;> simp [State.flag, s.fld_setF_self f h, hw, b2n]

theorem State.flag_setF_apart (s : State) {f g : Fld} (h : f.Apart g) (v : Nat) : (s.setF f v).flag g = s.flag g :=
  State.flag_of_fld (s.fld_setF_apart h v)

theorem State.sampleStraps_sampled (s : State) (x : Straps) : (s.sampleStraps x).Sampled x := by
  refine ⟨?refsel, ?dealer, ?smb, ?skip, rfl, ?pins⟩
  case refsel =>
    rw [State.sampleStraps, State.flag_withJrnl, State.flag_setF_ne _ (by decide), State.flag_setF_ne _ (by decide),
      State.flag_setF_apart _ (by decide), State.flag_setF_apart _ (by decide), State.flag_setF_apart _ (by decide),
      State.flag_setF_b2n _ (by decide) rfl]
  case dealer =>
    rw [State.sampleStraps, State.flag_withJrnl, State.flag_setF_ne _ (by decide), State.flag_setF_ne _ (by decide),
      State.flag_setF_apart _ (by decide), State.flag_setF_apart _ (by decide),
      State.flag_setF_b2n _ (by decide) rfl]
  case smb =>
    rw [State.sampleStraps, State.fld_jrnl, State.fld_setF_ne _ (by decide), State.fld_setF_ne _ (by decide),
      State.fld_setF_apart _ (by decide), State.fld_setF_self _ _ (by decide)]
    exact Nat.mod_eq_of_lt x.smbAddr.isLt
  case skip =>
    rw [State.sampleStraps, State.flag_withJrnl, State.flag_setF_ne _ (by decide), State.flag_setF_ne _ (by decide),
      State.flag_setF_b2n _ (by decide) rfl]
  case pins =>
    exact (bits_putBits_self _ (by decide) _).trans (Nat.mod_eq_of_lt (strapPins_lt x))

/-- Sampling the straps leaves a state started afresh so, but for the registers that name them. -/
theorem Restarted.sampleStraps {s t : State} {ex : List Nat} (h : Restarted s t ex)
    (hsub : ∀ a ∈ strapRegs, a ∈ ex) (x : Straps) : Restarted s (t.sampleStraps x) ex := by
  have hstraps := hsub _ (show RegId.addr .GLB_STRAPS 0 0 ∈ strapRegs by decide)
  have hclock := hsub _ (show RegId.addr .GLB_CLK_STATUS 0 0 ∈ strapRegs by decide)
  rw [State.sampleStraps]
  exact .skip (.setF (.setF (.setF (.setF (.setF (.setF (.strapLevels h _) hstraps _) hstraps _) hstraps _) hstraps _)
    hclock _) hclock _) _

/-! ### Warm resets -/

/-- A warm reset starts the device afresh, but for the registers it writes or keeps. -/
theorem State.warmReset_restarted (s : State) : Restarted s s.warmReset warmRegs := by
  have hbare := (s.bare_restarted .bringUp).mono (ey := warmRegs) (by simp)
  rw [State.warmReset]
  exact .raiseIf (.setF (.setF (.setReg (.setReg (.setReg (.setF (.setF (.records hbare _ _) (by decide) _)
    (by decide) _) (by decide) _) (by decide) _) (by decide) _) (by decide) _) (by decide) _) (by decide) _

theorem State.raiseIf_glob (s : State) (c : Prop) [Decidable c] (f : Fld) :
    (if c then s.raiseF f else s).glob = s.glob := by split <;> rfl

theorem State.raiseIf_dbg (s : State) (c : Prop) [Decidable c] (f : Fld) :
    (if c then s.raiseF f else s).dbg = s.dbg := by split <;> rfl

theorem State.warmReset_glob (s : State) : s.warmReset.glob =
    { mode := .bringUp, prev := s.glob.mode, cause := 1, hostLossHeld := s.glob.hostLossHeld
      frzPin := s.glob.frzPin } := by
  rw [State.warmReset, State.raiseIf_glob]
  rfl

theorem State.warmReset_dbg (s : State) : s.warmReset.dbg = { ring := priorRing s.dbg.mirror } := by
  rw [State.warmReset, State.raiseIf_dbg]
  rfl

/-- The entries of the mirror, each marked PRIOR and with the number it had (R462). -/
theorem priorRing_entries (l : List Flt) : (priorRing l).map (fun e => (e.prior, e.orig, e.code, e.detail)) =
    l.map (fun e => (true, e.seq, e.code, e.detail)) := by
  conv_rhs => rw [← List.zipIdx_map_fst 0 l, List.map_map]
  rw [priorRing, List.map_map]
  rfl

theorem State.warmFrom_glob (s : State) (f : Fld) (x : Straps) : (s.warmFrom f x).glob = s.warmReset.glob := by
  simp only [State.warmFrom, State.sampleStraps_glob, State.raiseIf_glob, State.raiseF_glob]

theorem State.sampleStraps_dbg (s : State) (x : Straps) : (s.sampleStraps x).dbg = s.dbg := by
  simp only [State.sampleStraps, State.setF_dbg]

theorem State.warmFrom_dbg (s : State) (f : Fld) (x : Straps) : (s.warmFrom f x).dbg = s.warmReset.dbg := by
  simp only [State.warmFrom, State.sampleStraps_dbg, State.raiseIf_dbg, State.raiseF_dbg]

/-- What a warm reset leaves of `s` (R54, R408, R462). -/
def State.Warmed (s t : State) : Prop :=
  Restarted s t warmRegs ∧ t.glob.mode = .bringUp ∧ t.glob.prev = s.glob.mode ∧ t.glob.cause = 1 ∧
  t.dbg.ring.map (fun e => (e.prior, e.orig, e.code, e.detail)) =
    s.dbg.mirror.map (fun e => (true, e.seq, e.code, e.detail))

/-- The three sources of a warm reset that GLB_RESET_CAUSE names (R54, R55). -/
def warmCauses : List Fld := [F.GLB_RESET_CAUSE_PIN, F.GLB_RESET_CAUSE_SOFT, F.GLB_RESET_CAUSE_WDOG]

theorem State.warmFrom_warmed (s : State) {f : Fld} (hf : f ∈ warmCauses) (x : Straps) : s.Warmed (s.warmFrom f x) := by
  have hcause : f.id.addr f.i f.j ∈ warmRegs := by
    revert f
    decide
  refine ⟨?_, ?_, ?_, ?_, ?_⟩
  · rw [State.warmFrom]
    exact .sampleStraps (.raiseIf (.raiseIf (.raiseIf (.setF s.warmReset_restarted hcause _) (by decide) _) (by decide) _)
      (by decide) _) strapRegs_sub_warmRegs x
  · rw [s.warmFrom_glob, s.warmReset_glob]
  · rw [s.warmFrom_glob, s.warmReset_glob]
  · rw [s.warmFrom_glob, s.warmReset_glob]
  · rw [s.warmFrom_dbg, s.warmReset_dbg]
    exact priorRing_entries _

/-- A flag that is set stays set when it, or a field apart from it, is raised on a condition. -/
theorem State.flag_raiseIf_of_flag {s : State} {g : Fld} (h : s.flag g = true) (c : Prop) [Decidable c] {f : Fld}
    (hfg : (f = g ∧ f.hi < 32 ∧ f.hi = f.lo) ∨ f.Apart g) : (if c then s.raiseF f else s).flag g = true := by
  obtain ⟨rfl, hlt, hw⟩ | hapart := hfg
  · exact (s.flag_raiseIf_self c hlt hw).2 (.inl h)
  · exact (State.flag_of_fld (s.fld_raiseIf_apart c hapart)).trans h

/-- Sampling the straps changes no flag of a register other than the two that name them. -/
theorem State.sampleStraps_flag (s : State) (x : Straps) {f : Fld} (h : f.id.addr f.i f.j ∉ strapRegs) :
    (s.sampleStraps x).flag f = s.flag f := by
  have hstraps : f.id.addr f.i f.j ≠ RegId.addr .GLB_STRAPS 0 0 := fun e => h (e ▸ by decide)
  have hclock : f.id.addr f.i f.j ≠ RegId.addr .GLB_CLK_STATUS 0 0 := fun e => h (e ▸ by decide)
  rw [State.sampleStraps, State.flag_withJrnl, State.flag_setF_ne _ hclock, State.flag_setF_ne _ hclock,
    State.flag_setF_ne _ hstraps, State.flag_setF_ne _ hstraps, State.flag_setF_ne _ hstraps,
    State.flag_setF_ne _ hstraps]
  rfl

/-- The source of a warm reset is flagged, whichever sources coincided with it (R59). -/
theorem State.warmFrom_flag (s : State) {f : Fld} (hf : f ∈ warmCauses) (x : Straps) :
    (s.warmFrom f x).flag f = true := by
  have hplace : f.hi < 32 ∧ f.hi = f.lo ∧ f.id.addr f.i f.j ∉ strapRegs := by
    revert f
    decide
  have hapart : ∀ g ∈ warmCauses, (g = f ∧ g.hi < 32 ∧ g.hi = g.lo) ∨ g.Apart f := by
    revert f
    decide
  obtain ⟨hlt, hw, hstraps⟩ := hplace
  rw [State.warmFrom, State.sampleStraps_flag _ _ hstraps]
  have hraised := s.warmReset.flag_raiseF_self hlt hw
  exact State.flag_raiseIf_of_flag (State.flag_raiseIf_of_flag (State.flag_raiseIf_of_flag hraised _
    (hapart F.GLB_RESET_CAUSE_PIN (by decide))) _ (hapart F.GLB_RESET_CAUSE_SOFT (by decide))) _
    (hapart F.GLB_RESET_CAUSE_WDOG (by decide))

/-! ### The commands -/

/-- What PWR_OK rising with RESET_N low leaves: BRING-UP, held in reset (R55). -/
def State.heldUp (s : State) : State := { s.bare .bringUp with glob := { mode := .bringUp, heldInReset := true } }

/-- What a cold start leaves once RESET_N is high: BRING-UP, with the straps sampled (R50, R55, R60). -/
def State.coldStart (s : State) (x : Straps) : State := (s.bare .bringUp).sampleStraps x

theorem State.heldUp_restarted (s : State) : Restarted s s.heldUp [] := (s.bare_restarted .bringUp).records _ {}

theorem State.coldStart_restarted (s : State) (x : Straps) : Restarted s (s.coldStart x) strapRegs :=
  ((s.bare_restarted .bringUp).mono (by simp)).sampleStraps (fun _ h => h) x

theorem State.coldStart_glob (s : State) (x : Straps) : (s.coldStart x).glob = { mode := .bringUp } :=
  State.sampleStraps_glob _ x

theorem State.coldStart_dbg (s : State) (x : Straps) : (s.coldStart x).dbg = {} := State.sampleStraps_dbg _ x

theorem State.coldStart_mem (s : State) (x : Straps) : (s.coldStart x).mem = DevMem.unknown (s.free + 2) := by
  simp only [State.coldStart, State.sampleStraps, State.setF_mem, State.bare]

theorem State.powerUp_off {s : State} (h : s.glob.mode = .off) (x : Straps) (low : Bool) :
    s.powerUp x low = if low then s.heldUp else s.coldStart x := by
  simp only [State.powerUp, h, ne_eq, not_true_eq_false, if_false]
  rfl

/-- The rise of RESET_N ends the reset it held, however long it was low (R55). -/
theorem State.resetPulse_heldUp (s : State) (ns : Nat) (x : Straps) : s.heldUp.resetPulse ns x = s.coldStart x := by
  have hoff : ¬ s.heldUp.glob.mode = .off := nofun
  have hheld : s.heldUp.glob.heldInReset = true := rfl
  simp only [State.resetPulse, hoff, hheld, if_true, if_false]
  rfl

theorem State.resetPulse_linked {s : State} (h : s.linked = true) {ns : Nat} (hns : 100 ≤ ns ∨ ns < 20) (x : Straps) :
    s.resetPulse ns x = if 100 ≤ ns then s.warmFrom F.GLB_RESET_CAUSE_PIN x else s := by
  simp only [State.linked, Bool.and_eq_true, Bool.not_eq_true', decide_eq_false_iff_not] at h
  obtain ⟨hoff, hheld⟩ := h
  simp only [State.resetPulse, hoff, hheld, if_false, Bool.false_eq_true]
  split
  · rfl
  · next hlong => rw [if_pos (hns.resolve_left hlong)]

/-- A BAR write of the host reaches its register where the unit logic attends. -/
theorem State.barWrite_attends {s : State} (h : s.attends = true) (off : Nat) (f : State → State) :
    s.barWrite off f = f s := by
  have halive := State.alive_of_attends h
  have hlive := State.not_off_of_linked (State.linked_of_alive halive)
  have hfrozen : s.frozen = false := by
    simp only [State.alive, Bool.and_eq_true, Bool.not_eq_true'] at halive
    exact halive.2
  simp only [State.barWrite, hlive, hfrozen, Bool.false_eq_true, if_false, s.noteWake_attends h]

/-- GLB_RESET with its key and bit 0 is a warm reset, and without one of them nothing (R54). -/
theorem State.resetWrite_eq (s : State) (v : Word) (x : Straps) : s.resetWrite v x =
    if v.toNat / 65536 = 0xA5C3 ∧ v.getLsbD 0 = true then s.warmFrom F.GLB_RESET_CAUSE_SOFT x else s := by
  simp only [State.resetWrite, bits_upper_half, bit_eq, Bool.and_eq_true, decide_eq_true_eq]

theorem exec_pwrOkRise_off {s : State} (h : s.glob.mode = .off) (x : Straps) (low : Bool) :
    exec (.pwrOkRise x low) s = .next (if low then s.heldUp else s.coldStart x) :=
  congrArg Host.Outcome.next (State.powerUp_off h x low)

theorem exec_resetNPulse_heldUp (s : State) (ns : Nat) (x : Straps) :
    exec (.resetNPulse ns x) s.heldUp = .next (s.coldStart x) :=
  congrArg Host.Outcome.next (s.resetPulse_heldUp ns x)

theorem exec_pwrOkFall_on {s : State} (h : s.glob.mode ≠ .off) : exec .pwrOkFall s = .next (s.bare .off) :=
  congrArg Host.Outcome.next (if_neg h)

theorem exec_resetNPulse_linked {s : State} (h : s.linked = true) {ns : Nat} (hns : 100 ≤ ns ∨ ns < 20) (x : Straps) :
    exec (.resetNPulse ns x) s = .next (if 100 ≤ ns then s.warmFrom F.GLB_RESET_CAUSE_PIN x else s) :=
  congrArg Host.Outcome.next (State.resetPulse_linked h hns x)

theorem exec_watchdogExpiry_linked {s : State} (h : s.linked = true) (x : Straps) :
    exec (.watchdogExpiry x) s = .next (s.warmFrom F.GLB_RESET_CAUSE_WDOG x) :=
  congrArg Host.Outcome.next (if_pos h)

theorem exec_glbResetWarm_attends {s : State} (h : s.attends = true) (v : Word) (x : Straps) :
    exec (.glbResetWarm v x) s = .next
      (if v.toNat / 65536 = 0xA5C3 ∧ v.getLsbD 0 = true then s.warmFrom F.GLB_RESET_CAUSE_SOFT x else s) :=
  congrArg Host.Outcome.next ((State.barWrite_attends h _ _).trans (s.resetWrite_eq v x))

/-- Settles O12: PWR_OK rising and RESET_N rising come to `coldStart`, PWR_OK falling to the bare state, and each
source of a warm reset to `warmFrom` of its cause; a short pulse and a write without the key leave the state. -/
theorem powerAndWarmResets : Obligations.PowerAndWarmResets := by
  unfold Obligations.PowerAndWarmResets
  refine ⟨fun s x ns => ⟨fun hoff => ?rise, fun hoff => ?heldRise, fun hon => ?fall⟩, fun s x v ns hatt => ?warm⟩
  case rise =>
    exact ⟨s.coldStart x, exec_pwrOkRise_off hoff x false, s.coldStart_restarted x, s.coldStart_glob x,
      s.coldStart_dbg x, s.coldStart_mem x, State.sampleStraps_sampled _ x⟩
  case heldRise =>
    exact ⟨s.heldUp, s.coldStart x, exec_pwrOkRise_off hoff x true, s.heldUp_restarted, rfl,
      exec_resetNPulse_heldUp s ns x, s.coldStart_glob x, s.coldStart_restarted x, State.sampleStraps_sampled _ x⟩
  case fall =>
    exact ⟨s.bare .off, exec_pwrOkFall_on hon, s.bare_restarted .off, rfl⟩
  case warm =>
    have hlink := State.linked_of_alive (State.alive_of_attends hatt)
    refine ⟨fun hlong => ?_, ?_, fun hkey hbit => ?_, fun hshort => ?_, fun hno => ?_⟩
    · exact ⟨_, (exec_resetNPulse_linked hlink (.inl hlong) x).trans (congrArg _ (if_pos hlong)),
        s.warmFrom_warmed (by decide) x, s.warmFrom_flag (by decide) x⟩
    · exact ⟨_, exec_watchdogExpiry_linked hlink x, s.warmFrom_warmed (by decide) x, s.warmFrom_flag (by decide) x⟩
    · exact ⟨_, (exec_glbResetWarm_attends hatt v x).trans (congrArg _ (if_pos ⟨hkey, hbit⟩)),
        s.warmFrom_warmed (by decide) x, s.warmFrom_flag (by decide) x⟩
    · exact (exec_resetNPulse_linked hlink (.inr hshort) x).trans (congrArg _ (if_neg (by omega)))
    · refine (exec_glbResetWarm_attends hatt v x).trans (congrArg _ (if_neg ?_))
      rintro ⟨hkey, hbit⟩
      exact hno.elim (fun h => h hkey) (fun h => Bool.false_ne_true (h.symm.trans hbit))

end Sys2Proof.Machine
end

section
/-!
TrickDescriptors (O21) and SourceData (O22), refuted: a TRICK_COMMIT NEXT whose anchor's beams stand takes the target
two frames on, and a failed read spoils no trick that its descriptor joined after the fetch (R92).
-/

set_option Elab.async false  -- the joined text is large: no thread per declaration

namespace Sys2Proof.Machine

/-! ### The target of a commit while the anchor's beams stand -/

/-- `rdy` with the beams of its enabled head stopped, outside a commit window. -/
def beamsStand : State := rdy.modHead 1 (fun h => { h with beams := false, inWindow := false })

theorem beamsStand_takes : beamsStand.takes 0x02 (hd 7 1) (pl [(8, 0)]) := by
  unfold State.takes State.still
  and_intros <;> decide +kernel

theorem exec_trickCommitNext_mode {h : Hdr} {p : BitVec 448} (hp : pay p 8 1 = 0) (s : State) :
    exec (.trickCommitNext h p) s = .next (s.fetchIf true 0x02 h p) :=
  congrArg (fun fits => Host.Outcome.next (s.fetchIf fits 0x02 h p)) (by simp [hp])

theorem pay_pl_commitNext : pay (pl [(8, 0)]) 8 1 = 0 := by decide +kernel

/-- The anchor shows frame 5, and the commit waits for frame 7, not for the next one. -/
theorem beamsStand_target : beamsStand.anchorOf trick1 = some 1 ∧ (beamsStand.head 1).frame = 5 ∧
    ((beamsStand.fetchIf true 0x02 (hd 7 1) (pl [(8, 0)])).trick 0).map (·.target) = some 7 := by
  decide +kernel

/-- Refutes O21: its clause of TRICK_COMMIT NEXT gives the anchor's frame plus one as the target of every trick, and
in `beamsStand`, where the anchor's beams stand, the model gives the frame plus two. An anchor that starts afresh
reaches no cutoff of its first frame (R304). -/
theorem not_trickDescriptors : ¬ Obligations.TrickDescriptors := by
  unfold Obligations.TrickDescriptors
  intro h
  obtain ⟨-, next, -⟩ := h beamsStand (hd 7 1) (pl [(8, 0)]) trick1
  obtain ⟨t, hexec, -, -, -, hmine, -⟩ :=
    next beamsStand_takes (by decide +kernel) (by decide +kernel) pay_pl_commitNext
  obtain ⟨hanchor, hframe, htarget⟩ := beamsStand_target
  rw [exec_trickCommitNext_mode pay_pl_commitNext] at hexec
  have ht : beamsStand.fetchIf true 0x02 (hd 7 1) (pl [(8, 0)]) = t := Host.Outcome.next.inj hexec
  rw [ht, show (0 : Nat) = trick1.key from rfl, hmine, hanchor] at htarget
  simp only [Option.map_some, hframe] at htarget
  exact absurd htarget (by decide)

/-! ### A failed read of a descriptor that joined its trick -/

/-- A PATTERN_LOAD that waits for its source data, and whose trick opened after its fetch. -/
def joinedSlot : Slot := { srcOf 0x06 7 [(16, 0x10000), (24, 64)] with joined := true }

theorem joinedSlot_still : (withSlot joinedSlot).still [joinedSlot] := by
  unfold State.still
  decide +kernel

theorem joinedSlot_unspoiled :
    (((withSlot joinedSlot).hostReadDone (.slot joinedSlot.id) (.busError 0)).follow.trick 0).map (·.spoil) = some none := by
  decide +kernel

/-- Refutes O22: its last clause has every failed read spoil the descriptor's trick, and the model lets no failure of
a descriptor that joined its trick after the fetch spoil it (R92): `joinedSlot` is one. -/
theorem not_sourceData : ¬ Obligations.SourceData := by
  unfold Obligations.SourceData
  intro h
  obtain ⟨-, -, -, -, -, failed⟩ := h.2 (withSlot joinedSlot) joinedSlot trick1 [] joinedSlot_still rfl (by decide +kernel)
    (by decide +kernel) rfl rfl (by decide +kernel)
  obtain ⟨t, hexec, -, -, hspoil, -⟩ := failed 0
  have ht : ((withSlot joinedSlot).hostReadDone (.slot joinedSlot.id) (.busError 0)).follow = t :=
    Host.Outcome.next.inj hexec
  have hkept := joinedSlot_unspoiled
  rw [ht, show (0 : Nat) = trick1.key from rfl, hspoil] at hkept
  exact absurd hkept (by decide)

end Sys2Proof.Machine
end

section
/-!
PROOF. Writes of QUOTA, VEC_COUNT, LIMIT and MEM_POOL (O16): the word a register takes from a whole write, a share of a
sum taken or refused, and what memory reads where the pool's border moves.
-/

set_option Elab.async false  -- the joined text is large: no thread per declaration

namespace Sys2Proof.Machine

/-! ### Registers below the heads' windows are present on every part (R9) -/

theorem windowHead_low {a : Nat} (h : a < 0x100000) : windowHead a = none := by
  refine List.find?_eq_none.2 fun n _ => ?_
  have hwin : headWin n.val ≤ a → False := by simp only [headWin]; omega
  simp only [inHeadWin, Bool.and_eq_true, decide_eq_true_eq]
  exact fun hin => hwin hin.1

theorem State.absentWindow_low (s : State) {a : Nat} (h : a < 0x100000) : s.absentWindow a = false := by
  have hblt : ¬ 0x240000 ≤ a := by omega
  have haud : ¬ 0x266000 ≤ a := by omega
  simp [State.absentWindow, windowHead_low h, hblt, haud]

theorem fnRegs_low (f : Fin 16) : RegId.addr .HIF_FN_SLOTS f 0 < 0x100000 ∧ RegId.addr .HIF_FN_CTL f 0 < 0x100000 ∧
    RegId.addr .TRK_FN_OPEN f 0 < 0x100000 := by
  revert f; decide +kernel

/-- A register below the heads' windows that is no head's is present. -/
theorem State.regPresent_low (s : State) {r : RegId} {i j : Nat} (h : r.addr i j < 0x100000)
    (hhead : regHead r i j = windowHead (r.addr i j))
    (hport : r ∉ [RegId.CWY_PORT_CTL, .CWY_PORT_STAT, .CWY_PORT_LAT, .CWY_PORT_ERR]) : s.regPresent r i j = true := by
  unfold State.regPresent
  rw [hhead, windowHead_low h]
  split
  · simp_all
  · split
    · simp at hport
    · simp at hport
    · simp at hport
    · simp at hport
    · rw [s.absentWindow_low h]; rfl

/-! ### The word a whole write leaves (R14) -/

/-- A field whose bits a write sets reads as written. -/
theorem bits_writtenWord {w : RegRow} {hi lo : Nat} (hlt : hi < 32) (hclear : w.w1c = 0)
    (hset : ∀ k < hi + 1, lo ≤ k → w.rw.getLsbD k = true) (old v : Word) :
    bits (writtenWord w old v 0xFFFFFFFF) hi lo = bits v hi lo := by
  apply Nat.eq_of_testBit_eq
  intro i
  rw [bits_testBit, bits_testBit]
  by_cases hi' : i < hi + 1 - lo
  · have hrw := hset (lo + i) (by omega) (by omega)
    have hmask : (0xFFFFFFFF : Word).getLsbD (lo + i) = true := by
      rw [show (0xFFFFFFFF : Word) = BitVec.allOnes 32 by decide, BitVec.getLsbD_allOnes]
      simp; omega
    simp only [writtenWord, hclear, BitVec.getLsbD_and, BitVec.getLsbD_or, BitVec.getLsbD_not, hrw, hmask]
    simp [show lo + i < 32 by omega]
  · simp [hi']

/-- A one-bit field is not 0 where its bit is set. -/
theorem decide_bits_ne_zero (v : Word) (k : Nat) : decide (bits v k k ≠ 0) = v.getLsbD k := by
  have hwidth : k + 1 - k = 1 := by omega
  rw [← bit_eq, bit, Nat.testBit_eq_decide_div_mod_eq, bits, Nat.shiftRight_eq_div_pow, hwidth, pow_one,
    decide_eq_decide]
  omega

theorem bits_setWidth {n hi : Nat} (h : n = hi + 1) (hlt : hi < 32) (q : BitVec n) :
    bits (q.setWidth 32) hi 0 = q.toNat := by
  have hq : q.toNat < 2 ^ (hi + 1) := h ▸ q.isLt
  have hpow : 2 ^ (hi + 1) ≤ 2 ^ 32 := Nat.pow_le_pow_right (by decide) (by omega)
  simp only [bits, BitVec.toNat_setWidth, Nat.shiftRight_zero, Nat.sub_zero]
  rw [Nat.mod_eq_of_lt (hq.trans_le hpow), Nat.mod_eq_of_lt hq]

/-! ### A share of a sum over the functions (R78, R138) -/

/-- The sum of a field over all functions, with a new value for function `f`. -/
def State.shareSum (s : State) (fld : Fin 16 → Fld) (f : Fin 16) (new : Nat) : Nat :=
  ((List.finRange 16).map (fun g => if g = f then new else s.fld (fld g))).sum

/-- From `s` to `t` function `f` took `new` as its share, or was refused with the error flag. -/
def ShareWritten (s t : State) (f : Fin 16) (fld : Fin 16 → Fld) (max new : Nat) (err : Fld) : Prop :=
  t = { s with regs := t.regs } ∧ RegsKept [(fld f).id.addr f 0, err.id.addr 0 0] s t ∧
  (s.shareSum fld f new ≤ max → t.fld (fld f) = new ∧ t.flag err = s.flag err) ∧
  (max < s.shareSum fld f new → t.fld (fld f) = s.fld (fld f) ∧ t.flag err = true)

section
variable {s : State} {f : Fin 16} {fld : Fin 16 → Fld} {max new : Nat} {err : Fld}
  (hi : (fld f).i = f) (hj : (fld f).j = 0) (hei : err.i = 0) (hej : err.j = 0)
  (hne : (fld f).id.addr f 0 ≠ err.id.addr 0 0)
include hi hj hei hej hne

/-- A share that fits is written with its register. -/
theorem ShareWritten.taken {w : Word} (hw : bits w (fld f).hi (fld f).lo = new) (h : s.shareSum fld f new ≤ max) :
    ShareWritten s (s.setReg (fld f).id f 0 w) f fld max new err := by
  refine ⟨rfl, .setReg s _ _ _ _ (by simp), fun _ => ⟨?_, State.flag_of_fld (s.fld_setReg_ne ?_ w)⟩,
    fun hgt => absurd h (by omega)⟩
  · simp only [State.fld, hi, hj, State.reg_setReg_self, hw]
  · rw [hei, hej]; exact hne.symm

/-- A share that does not fit leaves its field and raises the error flag, whatever else of the register is written. -/
theorem ShareWritten.refused {u : State} (hlt : err.hi < 32) (hbit : err.hi = err.lo)
    (hu : u = s ∨ ∃ w, bits w (fld f).hi (fld f).lo = s.fld (fld f) ∧ u = s.setReg (fld f).id f 0 w)
    (h : max < s.shareSum fld f new) : ShareWritten s (u.raiseF err) f fld max new err := by
  have hkept : u = { s with regs := u.regs } ∧ RegsKept [(fld f).id.addr f 0, err.id.addr 0 0] s u ∧
      u.fld (fld f) = s.fld (fld f) := by
    rcases hu with rfl | ⟨w, hw, rfl⟩
    · exact ⟨rfl, .refl _ _, rfl⟩
    · refine ⟨rfl, .setReg s _ _ _ _ (by simp), ?_⟩
      rw [← hw]
      simp only [State.fld, hi, hj, State.reg_setReg_self]
  obtain ⟨hframe, hregs, hfld⟩ := hkept
  refine ⟨?_, hregs.trans (.setReg u _ _ _ _ (by simp [hei, hej])), fun hle => absurd h (by omega), fun _ => ⟨?_, ?_⟩⟩
  · rw [hframe]; rfl
  · rw [State.raiseF, State.fld_setF_ne, hfld]
    rw [hi, hj, hei, hej]; exact hne
  · exact u.flag_raiseF_self hlt hbit

end

theorem allFns_eq : allFns = List.finRange 16 := by decide

/-! ### The three registers that hold a share -/

theorem State.quotaWrite_eq (s : State) (f : Fin 16) (new : Word) : s.quotaWrite f new =
    if 4096 < s.shareSum (fun g => F.HIF_FN_SLOTS_QUOTA g) f (bits new 12 0) then s.raiseF F.HIF_STATUS_QUOTA_ERR
    else s.setReg .HIF_FN_SLOTS f 0 new := by
  rw [State.quotaWrite, allFns_eq]; rfl

theorem State.limitWrite_eq (s : State) (f : Fin 16) (new : Word) : s.limitWrite f new =
    if 64 < s.shareSum (fun g => F.TRK_FN_OPEN_LIMIT g) f (bits new 6 0) then s.raiseF F.TRK_STATUS_LIMIT_ERR
    else s.setReg .TRK_FN_OPEN f 0 new := by
  rw [State.limitWrite, allFns_eq]; rfl

theorem State.fnCtlWrite_eq (s : State) (f : Fin 16) (new : Word) : s.fnCtlWrite f new =
    if 512 < s.shareSum (fun g => F.HIF_FN_CTL_VEC_COUNT g) f (bits new 6 0) then
      (s.setReg .HIF_FN_CTL f 0 (putBits new 6 0 (s.fld (F.HIF_FN_CTL_VEC_COUNT f)))).raiseF F.HIF_STATUS_QUOTA_ERR
    else s.setReg .HIF_FN_CTL f 0 new := by
  rw [State.fnCtlWrite, allFns_eq]; rfl

theorem fnSlots_ne_err (f : Fin 16) : RegId.addr .HIF_FN_SLOTS f 0 ≠ RegId.addr .HIF_STATUS 0 0 := by
  revert f; decide +kernel

theorem fnOpen_ne_err (f : Fin 16) : RegId.addr .TRK_FN_OPEN f 0 ≠ RegId.addr .TRK_STATUS 0 0 := by
  revert f; decide +kernel

theorem fnCtl_ne_err (f : Fin 16) : RegId.addr .HIF_FN_CTL f 0 ≠ RegId.addr .HIF_STATUS 0 0 := by
  revert f; decide +kernel

theorem State.quotaWrite_written (s : State) (f : Fin 16) (new : Word) :
    ShareWritten s (s.quotaWrite f new) f (fun g => F.HIF_FN_SLOTS_QUOTA g) 4096 (bits new 12 0)
      F.HIF_STATUS_QUOTA_ERR := by
  rw [State.quotaWrite_eq]
  split
  · next h => exact .refused rfl rfl rfl rfl (fnSlots_ne_err f) (by decide) rfl (.inl rfl) h
  · next h => exact .taken rfl rfl rfl rfl (fnSlots_ne_err f) rfl (Nat.le_of_not_lt h)

theorem State.limitWrite_written (s : State) (f : Fin 16) (new : Word) :
    ShareWritten s (s.limitWrite f new) f (fun g => F.TRK_FN_OPEN_LIMIT g) 64 (bits new 6 0)
      F.TRK_STATUS_LIMIT_ERR := by
  rw [State.limitWrite_eq]
  split
  · next h => exact .refused rfl rfl rfl rfl (fnOpen_ne_err f) (by decide) rfl (.inl rfl) h
  · next h => exact .taken rfl rfl rfl rfl (fnOpen_ne_err f) rfl (Nat.le_of_not_lt h)

/-- The field that a refused VEC_COUNT keeps. -/
theorem State.bits_keptVecCount (s : State) (f : Fin 16) (new : Word) :
    bits (putBits new 6 0 (s.fld (F.HIF_FN_CTL_VEC_COUNT f))) 6 0 = s.fld (F.HIF_FN_CTL_VEC_COUNT f) := by
  rw [bits_putBits_self _ (by decide)]
  exact Nat.mod_eq_of_lt (bits_lt _ 6 0)

theorem State.fnCtlWrite_written (s : State) (f : Fin 16) (new : Word) :
    ShareWritten s (s.fnCtlWrite f new) f (fun g => F.HIF_FN_CTL_VEC_COUNT g) 512 (bits new 6 0)
      F.HIF_STATUS_QUOTA_ERR := by
  rw [State.fnCtlWrite_eq]
  split
  · next h =>
    exact .refused rfl rfl rfl rfl (fnCtl_ne_err f) (by decide) rfl (.inr ⟨_, s.bits_keptVecCount f new, rfl⟩) h
  · next h => exact .taken rfl rfl rfl rfl (fnCtl_ne_err f) rfl (Nat.le_of_not_lt h)

/-- The fields of HIF_FN_CTL above VEC_COUNT are written, whether VEC_COUNT is taken or refused (R78). -/
theorem State.fnCtlWrite_others (s : State) (f : Fin 16) (new : Word) {hi lo : Nat} (hlo : 6 < lo) :
    bits ((s.fnCtlWrite f new).reg .HIF_FN_CTL f 0) hi lo = bits new hi lo := by
  rw [State.fnCtlWrite_eq]
  split
  · rw [State.raiseF, State.reg_setF_ne _ (fnCtl_ne_err f), State.reg_setReg_self,
      bits_putBits_disjoint _ (by decide) (.inr hlo)]
  · rw [State.reg_setReg_self]

theorem State.writeReg_fnSlots (s : State) (f : Fin 16) (v : Word) : s.writeReg .HIF_FN_SLOTS f 0 v 0xFFFFFFFF =
    s.quotaWrite f (writtenWord RegId.HIF_FN_SLOTS.row (s.reg .HIF_FN_SLOTS f 0) v 0xFFFFFFFF) := by
  rw [State.writeReg, s.regPresent_low (fnRegs_low f).1 rfl (by decide)]
  exact dif_pos f.isLt

theorem State.writeReg_fnOpen (s : State) (f : Fin 16) (v : Word) : s.writeReg .TRK_FN_OPEN f 0 v 0xFFFFFFFF =
    s.limitWrite f (writtenWord RegId.TRK_FN_OPEN.row (s.reg .TRK_FN_OPEN f 0) v 0xFFFFFFFF) := by
  rw [State.writeReg, s.regPresent_low (fnRegs_low f).2.2 rfl (by decide)]
  exact dif_pos f.isLt

theorem State.writeReg_fnCtl (s : State) (f : Fin 16) (v : Word) : s.writeReg .HIF_FN_CTL f 0 v 0xFFFFFFFF =
    s.fnCtlWrite f (writtenWord RegId.HIF_FN_CTL.row (s.reg .HIF_FN_CTL f 0) v 0xFFFFFFFF) := by
  rw [State.writeReg, s.regPresent_low (fnRegs_low f).2.1 rfl (by decide)]
  exact dif_pos f.isLt

/-! ### The pool (R150, R468) -/

theorem State.writeReg_memPool (s : State) (v : Word) : s.writeReg .MEM_POOL 0 0 v 0xFFFFFFFF =
    s.poolWrite (bits (writtenWord RegId.MEM_POOL.row (s.reg .MEM_POOL 0 0) v 0xFFFFFFFF) 9 0) := by
  rw [State.writeReg, s.regPresent_low (by decide +kernel) (by decide +kernel) (by decide +kernel)]
  rfl

/-- Outside a filled run memory reads as before. -/
theorem DevMem.read_fill_outside {m : DevMem} (h : m.wf = true) {lo hi a : Nat} (ha : a < lo ∨ hi ≤ a) (f : Fill) :
    (m.fill lo hi f).read a = m.read a := by
  obtain ⟨hrise, -⟩ := m.wf_iff.1 h
  have hcell : cellFind (m.fill lo hi f).cells a = cellFind m.cells a :=
    cellFind_congr (hrise.filter _) hrise a (fun v => by
      simp only [List.mem_filter, Bool.or_eq_true, decide_eq_true_eq, and_iff_left_iff_imp]
      exact fun _ => ha)
  have hbg : (m.fill lo hi f).unlisted a = m.unlisted a := by
    simp only [DevMem.unlisted, DevMem.fill, regionAt_cons]
    rw [if_neg (by omega)]
  rw [DevMem.read, hcell, hbg, DevMem.read]

/-- A run filled with zeros reads 0. -/
theorem DevMem.read_fill_zero {m : DevMem} (h : m.wf = true) {lo hi a : Nat} (ha : lo ≤ a ∧ a < hi) :
    (m.fill lo hi .zero).read a = 0 := by
  obtain ⟨hrise, -⟩ := m.wf_iff.1 h
  have hcell : cellFind (m.fill lo hi .zero).cells a = none :=
    (cellFind_eq_none (hrise.filter _) a).2 (fun c hc => by
      have := (List.mem_filter.1 hc).2
      simp only [Bool.or_eq_true, decide_eq_true_eq] at this
      omega)
  rw [DevMem.read, hcell]
  simp only [DevMem.unlisted, DevMem.fill, regionAt_cons, if_pos ha, Option.getD_none]

/-- Nothing stands against a pool that starts at `top`. -/
def State.poolClear (s : State) (top : Nat) : Prop :=
  s.openTricks = 0 ∧ s.stagedCount = 0 ∧ (∀ o ∈ s.oldPages, o.heads = 0) ∧
    ∀ n : Fin 6, overlaps (top, 0x4000000) (s.trumpRegion n) = false

theorem State.poolClear_iff (s : State) (top : Nat) : s.poolClear top ↔
    (s.openTricks = 0 && s.stagedCount = 0 && !s.pagesWait &&
      !(List.range 6).any (fun n => overlaps (top, 0x4000000) (s.trumpRegion n))) = true := by
  have hrange : (∀ n : Fin 6, overlaps (top, 0x4000000) (s.trumpRegion n) = false) ↔
      ∀ n < 6, overlaps (top, 0x4000000) (s.trumpRegion n) = false :=
    ⟨fun h n hn => h ⟨n, hn⟩, fun h n => h n n.isLt⟩
  simp only [State.poolClear, hrange, State.pagesWait, Bool.and_eq_true, decide_eq_true_eq, Bool.not_eq_true',
    List.any_eq_false, List.mem_range, Bool.not_eq_true, and_assoc, ne_eq, decide_not, decide_eq_false_iff_not,
    Decidable.not_not]

/-- A pool of `u` units is taken: MEM_POOL says so, and the offsets between the old border and the new have no known
content where they join the pool and read 0 where they leave it. -/
theorem State.poolWrite_clear {s : State} (hm : s.mem.wf = true) {units u top : Nat} (hu : u = min 512 (max 16 units))
    (htop : top = 0x4000000 - u * 0x10000) (h : s.poolClear top) {t : State} (ht : t = s.poolWrite units) :
    t = { s with regs := t.regs, mem := t.mem, free := t.free } ∧ t.poolUnits = u ∧
    RegsKept [RegId.addr .MEM_POOL 0 0] s t ∧
    (∀ a, s.tarnTop ≤ a → a < top → t.mem.read a = 0) ∧
    ∀ a, a < min top s.tarnTop ∨ max top s.tarnTop ≤ a → t.mem.read a = s.mem.read a := by
  have hset : (s.setF F.MEM_POOL_UNITS u).poolUnits = u := by
    rw [State.poolUnits, State.fld_setF_self _ _ (by decide)]
    exact Nat.mod_eq_of_lt (show u < 1024 by omega)
  have hkept : RegsKept [RegId.addr .MEM_POOL 0 0] s (s.setF F.MEM_POOL_UNITS u) :=
    .setReg s _ _ _ _ (by simp)
  subst hu htop
  simp only [State.poolWrite, (s.poolClear_iff _).1 h, Bool.not_true, Bool.false_eq_true, if_false] at ht
  split at ht <;> subst ht
  · next hjoin =>
    exact ⟨rfl, hset, hkept, fun a _ _ => by omega, fun a ha => DevMem.read_fill_outside hm (by omega) _⟩
  · split
    · exact ⟨rfl, hset, hkept, fun a h1 h2 => DevMem.read_fill_zero hm ⟨h1, h2⟩,
        fun a ha => DevMem.read_fill_outside hm (by omega) _⟩
    · exact ⟨rfl, hset, hkept, fun a _ _ => by omega, fun a _ => rfl⟩

theorem State.poolWrite_refused {s : State} {units : Nat}
    (h : ¬ s.poolClear (0x4000000 - min 512 (max 16 units) * 0x10000)) :
    s.poolWrite units = s.raiseF F.MEM_POOL_STATUS_CFG_ERR := by
  rw [State.poolClear_iff, Bool.not_eq_true] at h
  simp only [State.poolWrite, h, Bool.not_false, if_true]

/-! ### The statement -/

/-- Settles O16: QUOTA, LIMIT and VEC_COUNT are shares written as `ShareWritten` says, and MEM_POOL is taken where
`poolClear` holds and refused where it does not. -/
theorem shareAndPoolWrites : Obligations.ShareAndPoolWrites := by
  unfold Obligations.ShareAndPoolWrites
  refine ⟨fun s f q v n hatt => ⟨?quota, ?limit, ?vec⟩, fun s units hatt hm => ?pool⟩
  case quota =>
    refine ⟨_, congrArg (fun t : State => Host.Outcome.next t.follow) (State.barWrite_attends hatt _ _), ?_⟩
    have hnew : bits (writtenWord RegId.HIF_FN_SLOTS.row (s.reg .HIF_FN_SLOTS f 0) (q.setWidth 32) 0xFFFFFFFF) 12 0 =
        q.toNat := by
      rw [bits_writtenWord (by decide) rfl (by decide), bits_setWidth rfl (by decide)]
    rw [State.writeReg_fnSlots, ← hnew]
    exact s.quotaWrite_written f _
  case limit =>
    refine ⟨_, congrArg (fun t : State => Host.Outcome.next t.follow) (State.barWrite_attends hatt _ _), ?_⟩
    have hnew : bits (writtenWord RegId.TRK_FN_OPEN.row (s.reg .TRK_FN_OPEN f 0) (n.setWidth 32) 0xFFFFFFFF) 6 0 =
        n.toNat := by
      rw [bits_writtenWord (by decide) rfl (by decide), bits_setWidth rfl (by decide)]
    rw [State.writeReg_fnOpen, ← hnew]
    exact s.limitWrite_written f _
  case vec =>
    refine ⟨_, congrArg (fun t : State => Host.Outcome.next t.follow) (State.barWrite_attends hatt _ _), ?_⟩
    have hnew : ∀ {hi lo : Nat}, hi < 32 → (∀ k < hi + 1, lo ≤ k → RegId.HIF_FN_CTL.row.rw.getLsbD k = true) →
        bits (writtenWord RegId.HIF_FN_CTL.row (s.reg .HIF_FN_CTL f 0) v 0xFFFFFFFF) hi lo = bits v hi lo :=
      fun hlt hset => bits_writtenWord hlt rfl hset _ _
    rw [State.writeReg_fnCtl]
    refine ⟨?_, ?_, ?_⟩
    · have hcount : bits v 6 0 = v.toNat % 128 := rfl
      rw [← hcount, ← hnew (by decide) (by decide)]
      exact s.fnCtlWrite_written f _
    · refine Eq.trans ?_ (decide_bits_ne_zero v 31)
      show decide (bits ((s.fnCtlWrite f _).reg .HIF_FN_CTL f 0) 31 31 ≠ 0) = _
      rw [State.fnCtlWrite_others _ _ _ (by decide), hnew (by decide) (by decide +kernel)]
    · simp only [State.fld]
      rw [State.fnCtlWrite_others _ _ _ (by decide), hnew (by decide) (by decide), bits, Nat.shiftRight_eq_div_pow]
      rfl
  case pool =>
    refine ⟨_, congrArg (fun t : State => Host.Outcome.next t.follow) (State.barWrite_attends hatt _ _), ?_⟩
    have hnew : bits (writtenWord RegId.MEM_POOL.row (s.reg .MEM_POOL 0 0) (units.setWidth 32) 0xFFFFFFFF) 9 0 =
        units.toNat := by
      rw [bits_writtenWord (by decide) rfl (by decide), bits_setWidth rfl (by decide)]
    rw [State.writeReg_memPool, hnew]
    exact ⟨fun h => State.poolWrite_clear hm rfl rfl h rfl, fun h => State.poolWrite_refused h⟩

end Sys2Proof.Machine
end

section
/-!
PROOF. Rules for rings and messages: what one ring's change, a record read, a violation and a completion's message leave
as it was (R84, R99, R104).
-/

set_option Elab.async false  -- the joined text is large: no thread per declaration

namespace Sys2Proof.Machine

/-! ### Messages sent -/

theorem Sends.emit (s : State) (o : Out) : Sends s (s.emit o) o := ⟨[o], rfl, List.mem_singleton_self o⟩

theorem Sends.before {s t u : State} {o : Out} (k : s.out <+: t.out) (h : Sends t u o) : Sends s u o := by
  obtain ⟨l, hl⟩ := k
  obtain ⟨m, hm, ho⟩ := h
  exact ⟨l ++ m, by rw [hm, ← hl, List.append_assoc], List.mem_append_right l ho⟩

theorem Sends.after {s t u : State} {o : Out} (h : Sends s t o) (k : t.out <+: u.out) : Sends s u o := by
  obtain ⟨l, hl, ho⟩ := h
  obtain ⟨m, hm⟩ := k
  exact ⟨l ++ m, by rw [← hm, hl, List.append_assoc], List.mem_append_left m ho⟩

/-- Only what was sent counts: a state with the same messages may stand for either end. -/
theorem Sends.congr {s t s' t' : State} {o : Out} (h : Sends s t o) (hs : s'.out = s.out) (ht : t'.out = t.out) :
    Sends s' t' o := by
  unfold Sends
  rw [hs, ht]
  exact h

/-! ### One ring changed -/

theorem ringPut_ringPut (l : List (Nat × RingSt)) (a : Nat) (x y : RingSt) :
    ringPut (ringPut l a x) a y = ringPut l a y := by
  induction l with
  | nil => simp [ringPut]
  | cons e l ih =>
    obtain ⟨b, v⟩ := e
    simp only [ringPut]
    split
    · simp [ringPut]
    · split
      · simp [ringPut]
      · next h1 h2 => simp [ringPut, h1, h2, ih]

theorem State.modRing_modRing (s : State) (f : Fin 16) (r : Fin 64) (g h : RingSt → RingSt) :
    (s.modRing f r g).modRing f r h = s.modRing f r (fun x => h (g x)) := by
  conv_lhs => rw [State.modRing, State.ring_modRing_self]
  simp only [State.modRing, ringPut_ringPut]

theorem Counted.modRing {s t : State} (h : Counted s t) (f : Fin 16) (r : Fin 64) (g : RingSt → RingSt) :
    Counted (s.modRing f r g) (t.modRing f r g) := by
  obtain ⟨heq, hregs, hsig⟩ := h
  refine ⟨?_, hregs, hsig⟩
  have hring : t.ring f r = s.ring f r := by rw [heq]; rfl
  rw [State.modRing, hring, heq]
  rfl

/-- From `s` to `t` only one ring, the registers of `ex`, counts and messages changed. -/
def RingOnly (ex : List Nat) (s t : State) (f : Fin 16) (r : Fin 64) : Prop :=
  t = { s with regs := t.regs, pba := t.pba, pmc := t.pmc, out := t.out, hif := { s.hif with rings := t.hif.rings } } ∧
  RegsKept ex s t ∧ Signalled s t ∧ ∀ g q, ¬ (g = f ∧ q = r) → t.ring g q = s.ring g q

section
variable {ex : List Nat} {s t u : State} {f : Fin 16} {r : Fin 64}

theorem RingOnly.refl : RingOnly ex s s f r := ⟨rfl, .refl _ _, .refl _, fun _ _ _ => rfl⟩

theorem RingOnly.trans (h : RingOnly ex s t f r) (k : RingOnly ex t u f r) : RingOnly ex s u f r := by
  obtain ⟨h1, h2, h3, h4⟩ := h
  obtain ⟨k1, k2, k3, k4⟩ := k
  exact ⟨by rw [k1, h1], h2.trans k2, h3.trans k3, fun g q hg => (k4 g q hg).trans (h4 g q hg)⟩

theorem RingOnly.modRing (s : State) (g : RingSt → RingSt) : RingOnly ex s (s.modRing f r g) f r :=
  ⟨rfl, fun _ _ => rfl, .refl _, fun _ _ hg => s.ring_modRing_ne hg g⟩

theorem CountedBut.ringOnly (h : CountedBut ex s t) (f : Fin 16) (r : Fin 64) : RingOnly ex s t f r :=
  ⟨by rw [h.1], h.2.1, h.2.2, fun g q _ => h.ring g q⟩

theorem Counted.ringOnly (h : Counted s t) (k : RegId.addr .PMC_OVF 0 0 ∈ ex) (f : Fin 16) (r : Fin 64) :
    RingOnly ex s t f r := (h.but k).ringOnly f r

theorem RingOnly.mono {ey : List Nat} (h : RingOnly ex s t f r) (k : ∀ a ∈ ex, a ∈ ey) : RingOnly ey s t f r :=
  ⟨h.1, h.2.1.mono k, h.2.2⟩

theorem RingOnly.out (h : RingOnly ex s t f r) : s.out <+: t.out := h.2.2.1.1

theorem RingOnly.others (h : RingOnly ex s t f r) : ∀ g q, ¬ (g = f ∧ q = r) → t.ring g q = s.ring g q := h.2.2.2

theorem RingOnly.fld (h : RingOnly ex s t f r) {x : Fld} (hx : x.id.addr x.i x.j ∉ ex) : t.fld x = s.fld x := by
  simp only [State.fld, h.2.1.reg (by rw [h.1]) hx]

theorem RingOnly.fenced (h : RingOnly ex s t f r) (g : Fin 16) : t.fenced g = s.fenced g := by rw [h.1]; rfl

end

/-! ### Reading a ring's record (R84, R86) -/

/-- A record read asks the host for the record and waits for it. -/
theorem State.readRecord_idle {s : State} {f : Fin 16} {r : Fin 64} (h : (s.ring f r).reading = false) :
    Counted ((s.emit (.hostRead (s.ring f r).db 16)).modRing f r (fun g => { g with reading := true }))
      (s.readRecord f r) := by
  simp only [State.readRecord, h, Bool.false_eq_true, if_false]
  exact State.count_counted _ _ _ _ _

theorem State.readRecord_busy {s : State} {f : Fin 16} {r : Fin 64} (h : (s.ring f r).reading = true) :
    s.readRecord f r = s := by
  simp only [State.readRecord, h, if_true]

theorem State.readRecord_only (s : State) (f : Fin 16) (r : Fin 64) :
    RingOnly [RegId.addr .PMC_OVF 0 0] s (s.readRecord f r) f r := by
  by_cases h : (s.ring f r).reading = true
  · rw [State.readRecord_busy h]; exact .refl
  · rw [Bool.not_eq_true] at h
    exact (((Counted.emit s _).ringOnly (by simp) f r).trans (.modRing _ _)).trans
      ((State.readRecord_idle h).ringOnly (by simp) f r)

/-- The record is being read afterwards, whether a read was outstanding or not. -/
theorem State.readRecord_ring (s : State) (f : Fin 16) (r : Fin 64) :
    (s.readRecord f r).ring f r = { s.ring f r with reading := true } := by
  by_cases h : (s.ring f r).reading = true
  · rw [State.readRecord_busy h, ← h]
  · rw [Bool.not_eq_true] at h
    rw [(State.readRecord_idle h).ring, State.ring_modRing_self]
    rfl

theorem State.readRecord_sends {s : State} {f : Fin 16} {r : Fin 64} (h : (s.ring f r).reading = false) :
    Sends s (s.readRecord f r) (.hostRead (s.ring f r).db 16) :=
  ((Sends.emit s _).congr rfl rfl).after (State.readRecord_idle h).2.2.1

/-! ### Violations (R104 to R106) -/

/-- BAR0 addresses of what violations of function `f` change. -/
def violRegs (f : Fin 16) : List Nat := RegId.addr .VLG_TOTAL f 0 :: logRegs f

theorem State.logEntry_only (s : State) (f : Fin 16) (r : Fin 64) (ring tag code detail : Nat) :
    RingOnly (violRegs f) s (s.logEntry f ring tag code detail) f r :=
  (s.logEntry_frame f ring tag code detail).ringOnly f r

theorem State.writeDevFlags_counted (s : State) (f : Fin 16) (r : Fin 64) : Counted s (s.writeDevFlags f r) :=
  .hostWrite s _ _ _

/-- A violation quarantines its ring: the ring is not quarantined yet, and its count comes to the limit. -/
def State.quarDue (s : State) (f : Fin 16) (r : Fin 64) : Bool :=
  !(s.ring f r).quar && max 1 (s.fld F.VLG_QUARANTINE_COUNT_COUNT) ≤ min 255 ((s.ring f r).vcount + 1)

theorem vlgQuarantine_notMem_violRegs (f : Fin 16) : RegId.addr .VLG_QUARANTINE_COUNT 0 0 ∉ violRegs f := by
  revert f; decide +kernel

theorem State.violate_uncounted (s : State) (f : Fin 16) (r : Fin 64) (tag detail : Nat) {code : Nat}
    (hc : violCounts code = false) : s.violate f r tag code detail = s.logEntry f r tag code detail := by
  simp only [State.violate, hc, Bool.false_eq_true, if_false]

/-- A violation that counts is logged and counted; where it quarantines its ring, that is written to the ring's record and
logged too. -/
theorem State.violate_counted (s : State) (f : Fin 16) (r : Fin 64) (tag detail : Nat) {code : Nat}
    (hc : violCounts code = true) : s.violate f r tag code detail =
    let t := (s.logEntry f r tag code detail).modRing f r (fun g => { g with vcount := min 255 (g.vcount + 1) })
    if s.quarDue f r then ((t.modRing f r (fun g => { g with quar := true })).writeDevFlags f r).logEntry f r 0 0x11 0
    else t := by
  have hlog := s.logEntry_only f r r tag code detail
  have hring : (s.logEntry f r tag code detail).ring f r = s.ring f r := (s.logEntry_frame f r tag code detail).ring f r
  have hquar : (s.logEntry f r tag code detail).fld F.VLG_QUARANTINE_COUNT_COUNT = s.fld F.VLG_QUARANTINE_COUNT_COUNT :=
    hlog.fld (vlgQuarantine_notMem_violRegs f)
  simp only [State.violate, hc, if_true, State.ring_modRing_self, State.fld_modRing, hring, hquar, State.quarDue]
  rfl

theorem State.violate_only (s : State) (f : Fin 16) (r : Fin 64) (tag code detail : Nat) :
    RingOnly (violRegs f) s (s.violate f r tag code detail) f r := by
  by_cases hc : violCounts code = true
  · rw [s.violate_counted f r tag detail hc]
    have hfirst := (s.logEntry_only f r r tag code detail).trans
      (.modRing _ (fun g => { g with vcount := min 255 (g.vcount + 1) }))
    dsimp only
    split
    · exact ((hfirst.trans (.modRing _ _)).trans ((State.writeDevFlags_counted _ f r).ringOnly
        (by simp [violRegs, logRegs]) f r)).trans (State.logEntry_only _ _ _ _ _ _ _)
    · exact hfirst
  · rw [s.violate_uncounted f r tag detail (by simpa using hc)]
    exact s.logEntry_only f r r tag code detail

/-- A violation that counts adds one to its ring's count, and may quarantine the ring. -/
theorem State.violate_ringSt (s : State) (f : Fin 16) (r : Fin 64) (tag detail : Nat) {code : Nat}
    (hc : violCounts code = true) : (s.violate f r tag code detail).ring f r =
    { s.ring f r with vcount := min 255 ((s.ring f r).vcount + 1), quar := (s.ring f r).quar || s.quarDue f r } := by
  have hring : (s.logEntry f r tag code detail).ring f r = s.ring f r := (s.logEntry_frame f r tag code detail).ring f r
  rw [s.violate_counted f r tag detail hc]
  dsimp only
  split
  · next hq =>
    rw [(State.logEntry_frame _ _ _ _ _ _).ring, (State.writeDevFlags_counted _ _ _).ring, State.ring_modRing_self,
      State.ring_modRing_self, hring, hq, Bool.or_true]
  · next hq =>
    rw [State.ring_modRing_self, hring, Bool.eq_false_iff.2 hq, Bool.or_false]

/-- VLG_TOTAL after a violation that counts: one more, or two where the ring is quarantined, up to its limit (R106). -/
theorem State.violate_total (s : State) (f : Fin 16) (r : Fin 64) (tag detail : Nat) {code : Nat}
    (hc : violCounts code = true) : (s.violate f r tag code detail).fld (F.VLG_TOTAL_COUNT f) =
    min (s.fld (F.VLG_TOTAL_COUNT f) + if s.quarDue f r then 2 else 1) (2 ^ 32 - 1) := by
  rw [s.violate_counted f r tag detail hc]
  dsimp only
  split
  · rw [State.logEntry_total, (State.writeDevFlags_counted _ _ _).fld (vlgTotal_ne_pmcOvf f), State.fld_modRing,
      State.fld_modRing, State.logEntry_total]
    omega
  · rw [State.fld_modRing, State.logEntry_total]

/-- What logging violations may change of a ring (R104). -/
def RingSt.Logged (g g' : RingSt) : Prop :=
  g' = { g with vcount := g'.vcount, quar := g'.quar, lastLog := g'.lastLog }

theorem State.violate_logged (s : State) (f : Fin 16) (r : Fin 64) (tag code detail : Nat) :
    (s.ring f r).Logged ((s.violate f r tag code detail).ring f r) := by
  by_cases hc : violCounts code = true
  · rw [s.violate_ringSt f r tag detail hc]; rfl
  · rw [s.violate_uncounted f r tag detail (by simpa using hc), (s.logEntry_frame f r tag code detail).ring]
    rfl

theorem State.violateOnce_only (s : State) (f : Fin 16) (r : Fin 64) (code detail : Nat) :
    RingOnly (violRegs f) s (s.violateOnce f r code detail) f r := by
  simp only [State.violateOnce]
  split
  · exact .refl
  · exact (RingOnly.modRing s _).trans (State.violate_only _ _ _ _ _ _)

theorem State.violateOnce_logged (s : State) (f : Fin 16) (r : Fin 64) (code detail : Nat) :
    (s.ring f r).Logged ((s.violateOnce f r code detail).ring f r) := by
  simp only [State.violateOnce]
  split
  · rfl
  · have h := State.violate_logged (s.modRing f r (fun g =>
      { g with lastLog := (code, s.clock) :: g.lastLog.filter (fun e => e.1 ≠ code) })) f r 0 code detail
    rw [State.ring_modRing_self] at h
    rw [RingSt.Logged, h]

/-! ### A ring's message (R99) -/

/-- A ring's message changes its holdoff at most. -/
theorem State.ringMsg_only (s : State) (f : Fin 16) (r : Fin 64) :
    RingOnly [RegId.addr .PMC_OVF 0 0] s (s.ringMsg f r) f r ∧
    (s.ringMsg f r).ring f r = { s.ring f r with
      holdoff := ((s.ringMsg f r).ring f r).holdoff, holdoffDue := ((s.ringMsg f r).ring f r).holdoffDue } := by
  have hsent : ∀ v, Counted s (((s.emit (.msix f v)).msixSend f v).count 0x09 0 1 { fn := some f.val }) := fun v =>
    ((Counted.emit s _).trans (.msixSend _ _ _)).trans (State.count_counted _ _ _ _ _)
  have hmsg : ∀ c : Prop, [Decidable c] → ∀ v, Counted s
      (if c then ((s.emit (.msix f v)).msixSend f v).count 0x09 0 1 { fn := some f.val } else s) := fun c _ v => by
    split
    · exact hsent v
    · exact .refl s
  simp only [State.ringMsg]
  split
  · exact ⟨.refl, rfl⟩
  · split
    · exact ⟨.modRing _ _, by rw [State.ring_modRing_self]⟩
    · split
      · exact ⟨(hmsg _ _).ringOnly (by simp) f r, by rw [(hmsg _ _).ring]⟩
      · exact ⟨((hmsg _ _).ringOnly (by simp) f r).trans (.modRing _ _),
          by rw [State.ring_modRing_self, (hmsg _ _).ring]⟩

end Sys2Proof.Machine
end

section
/-!
PROOF. Knocks, doorbell records, polls, storms, full queues and holdoffs (O19).
-/

set_option Elab.async false  -- the joined text is large: no thread per declaration

namespace Sys2Proof.Machine

/-! ### The poll (R86) -/

/-- What a poll makes of a ring that is served. -/
def RingSt.polled (g : RingSt) : RingSt := { g with knockWaiting := false, reading := true }

/-- The poll of one ring. -/
def State.pollRing (s : State) (k : Fin 16 × Fin 64) : State :=
  if (s.ring k.1 k.2).phase = .on && s.fnExists k.1 then
    (s.modRing k.1 k.2 (fun g => { g with knockWaiting := false })).readRecord k.1 k.2
  else s

theorem State.pollRecords_eq (s : State) :
    s.pollRecords = (s.hif.rings.map (fun e => ringOfKey e.1)).foldl State.pollRing s := by
  rw [List.foldl_map]; rfl

theorem State.pollRing_only (s : State) (k : Fin 16 × Fin 64) :
    RingOnly [RegId.addr .PMC_OVF 0 0] s (s.pollRing k) k.1 k.2 := by
  unfold State.pollRing
  split
  · exact (RingOnly.modRing s _).trans (State.readRecord_only _ _ _)
  · exact .refl

theorem State.pollRing_fnExists (s : State) (k : Fin 16 × Fin 64) (h : Fin 16) :
    (s.pollRing k).fnExists h = s.fnExists h := by
  rw [(s.pollRing_only k).1]; rfl

theorem State.pollRing_ring (s : State) (k : Fin 16 × Fin 64) (h : Fin 16) (q : Fin 64) : (s.pollRing k).ring h q =
    if (h, q) = k ∧ (s.ring h q).phase = .on ∧ s.fnExists h = true then (s.ring h q).polled else s.ring h q := by
  by_cases hk : (h, q) = k
  · subst hk
    unfold State.pollRing
    by_cases hc : (s.ring h q).phase = .on ∧ s.fnExists h = true
    · rw [if_pos (by simpa using hc), if_pos ⟨rfl, hc⟩, State.readRecord_ring, State.ring_modRing_self]
      rfl
    · rw [if_neg (by simpa using hc), if_neg (fun h => hc h.2)]
  · rw [if_neg (fun h => hk h.1)]
    exact (s.pollRing_only k).others h q (fun e => hk (Prod.ext e.1 e.2))

theorem State.foldl_pollRing_ring (h : Fin 16) (q : Fin 64) : ∀ (l : List (Fin 16 × Fin 64)) (s : State),
    (l.foldl State.pollRing s).ring h q = if (h, q) ∈ l ∧ (s.ring h q).phase = .on ∧ s.fnExists h = true
      then (s.ring h q).polled else s.ring h q
  | [], s => by simp
  | k :: l, s => by
    rw [List.foldl_cons, State.foldl_pollRing_ring h q l, State.pollRing_fnExists, State.pollRing_ring]
    by_cases hon : (s.ring h q).phase = .on ∧ s.fnExists h = true
    · by_cases hk : (h, q) = k
      · simp [hon, hk, RingSt.polled]
      · simp [hon, hk]
    · have hno : ∀ p : Prop, ¬ (p ∧ (s.ring h q).phase = .on ∧ s.fnExists h = true) := fun p h => hon h.2
      rw [if_neg (hno _), if_neg (hno _), if_neg (hno _)]

theorem ringFind_of_unlisted {l : List (Nat × RingSt)} {a : Nat} (h : ∀ e ∈ l, e.1 ≠ a) : ringFind l a = {} := by
  induction l with
  | nil => rfl
  | cons e l ih =>
    obtain ⟨b, v⟩ := e
    have hne : a ≠ b := fun hab => h (b, v) (by simp) hab.symm
    rw [ringFind, if_neg hne]
    exact ih fun e he => h e (by simp [he])

theorem ringOfKey_ringKey (f : Fin 16) (r : Fin 64) : ringOfKey (ringKey f r) = (f, r) := by
  refine Prod.ext (Fin.ext ?_) (Fin.ext ?_)
  · simp only [ringOfKey, ringKey]; omega
  · simp only [ringOfKey, ringKey]; omega

/-- A ring that is on is listed. -/
theorem State.listed_of_on {s : State} {f : Fin 16} {r : Fin 64} (h : (s.ring f r).phase = .on) :
    (f, r) ∈ s.hif.rings.map (fun e => ringOfKey e.1) := by
  by_contra hno
  have hkey : ∀ e ∈ s.hif.rings, e.1 ≠ ringKey f r := fun e he hk =>
    hno (List.mem_map.2 ⟨e, he, by rw [hk, ringOfKey_ringKey]⟩)
  rw [State.ring, ringFind_of_unlisted hkey] at h
  cases h

theorem State.pollRecords_ring (s : State) (h : Fin 16) (q : Fin 64) :
    if (s.ring h q).phase = .on ∧ s.fnExists h = true
      then s.pollRecords.ring h q = (s.ring h q).polled else s.pollRecords.ring h q = s.ring h q := by
  rw [State.pollRecords_eq, State.foldl_pollRing_ring]
  split
  · next hon => rw [if_pos ⟨State.listed_of_on hon.1, hon⟩]
  · next hon => rw [if_neg (fun h => hon h.2)]

/-! ### Knocks (R86, R104, R105) -/

/-- The word of a knock: KSEQ in its upper half and the ring in its low bits. -/
theorem knockWord_fields (k : BitVec 16) (r : Fin 64) :
    bits (BitVec.ofNat 32 (k.toNat * 65536 + r.val)) 5 0 = r.val ∧
    BitVec.ofNat 16 (bits (BitVec.ofNat 32 (k.toNat * 65536 + r.val)) 31 16) = k := by
  have hk : k.toNat < 65536 := k.isLt
  have hr := r.isLt
  have hw : (BitVec.ofNat 32 (k.toNat * 65536 + r.val)).toNat = k.toNat * 65536 + r.val := by
    rw [BitVec.toNat_ofNat]; omega
  refine ⟨?_, ?_⟩
  · rw [bits, hw, Nat.shiftRight_zero]; omega
  · rw [bits, hw, Nat.shiftRight_eq_div_pow, show (k.toNat * 65536 + r.val) / 2 ^ 16 % 2 ^ (31 + 1 - 16) = k.toNat by omega,
      BitVec.ofNat_toNat, BitVec.setWidth_eq]

/-- A knock of an existing function is counted, and comes to its ring. -/
theorem State.knock_word {s : State} (ha : s.alive = true) {f : Fin 16} (hf : s.fnExists f = true)
    (hfence : s.fenced f = false) (k : BitVec 16) (r : Fin 64) : ∃ t, Counted s t ∧
    s.knock f (BitVec.ofNat 32 (k.toNat * 65536 + r.val)) =
      if (s.ring f r).phase ≠ .on then t.violateFree f r 0 0x07
      else if (s.ring f r).quar || (s.ring f r).stormIgnore then t else t.knockRing f r k := by
  have hcount := s.count_counted 0x03 0 1 { fn := some f.val }
  obtain ⟨hring, hseq⟩ := knockWord_fields k r
  have hr : (⟨r.val % 64, Nat.mod_lt _ (by decide)⟩ : Fin 64) = r := Fin.ext (Nat.mod_eq_of_lt r.isLt)
  have hfenced : (s.count 0x03 0 1 { fn := some f.val }).fenced f = false := by
    rw [State.fenced, hcount.hif]; exact hfence
  refine ⟨_, hcount, ?_⟩
  simp only [State.knock, ha, hf, Bool.not_true, Bool.or_false, Bool.false_eq_true, if_false, hfenced, hring, hseq, hr,
    hcount.ring]

theorem State.violateFree_unlogged (s : State) (f : Fin 16) (r : Fin 64) :
    s.violateFree f r 0 0x07 = s.freeDetail.1.logEntry f r 0 0x07 s.freeDetail.2 :=
  State.violate_uncounted s.freeDetail.1 f r 0 s.freeDetail.2 (code := 0x07) (by decide)

/-- The times of the latest knocks with one KSEQ, after a knock with `k` (R104). -/
def State.knockTimes (s : State) (f : Fin 16) (r : Fin 64) (k : BitVec 16) : List Nat :=
  if (s.ring f r).stormSeq = k
  then s.clock :: (s.ring f r).stormTimes.filter (fun t => s.clock ≤ t + 10 * perUs) else [s.clock]

theorem State.length_knockTimes (s : State) (f : Fin 16) (r : Fin 64) (k : BitVec 16) :
    (s.knockTimes f r k).length ≤ (s.ring f r).stormTimes.length + 1 := by
  have := (s.ring f r).stormTimes.length_filter_le (fun t => s.clock ≤ t + 10 * perUs)
  unfold State.knockTimes
  split
  · rw [List.length_cons]; omega
  · simp

/-- A knock that makes no storm has its ring's record read. -/
theorem State.knockRing_reads {s : State} (hs : s.serving = true) {f : Fin 16} {r : Fin 64}
    (hlen : (s.ring f r).stormTimes.length < 256) (k : BitVec 16) : s.knockRing f r k =
    (s.modRing f r (fun g => { g with
      stormSeq := k, stormTimes := s.knockTimes f r k, knocked := some k, rereads := 4 })).readRecord f r := by
  have hstorm : ¬ 256 < (s.knockTimes f r k).length := by
    have := s.length_knockTimes f r k
    omega
  have hserve : ∀ g h, ((s.modRing f r g).modRing f r h).serving = true := fun _ _ => hs
  exact (if_neg hstorm).trans ((if_pos (hserve _ _)).trans
    (congrArg (fun t : State => t.readRecord f r) (s.modRing_modRing f r _ _)))

/-! ### Record reads (R84, R87, R104) -/

/-- A record in range that is not behind its knock is taken. -/
theorem State.takeRecord_taken {s : State} {f : Fin 16} {r : Fin 64} {d : DbRec}
    (hp : d.prod.toNat < 2 ^ (s.ring f r).log2n) (hq : d.cqCons.toNat < 2 ^ (s.ring f r).log2n)
    (hk : ∀ k, (s.ring f r).knocked = some k →
      ¬ (1 ≤ (k - d.kseq.setWidth 16).toNat ∧ (k - d.kseq.setWidth 16).toNat ≤ 32767) ∨ (s.ring f r).rereads = 0) :
    s.takeRecord f r d = s.modRing f r (fun g => { g with
      indexBad := false, knocked := none, prod := d.prod.toNat, cqCons := d.cqCons.toNat, kseq := d.kseq
      noIrq := d.hostFlags.getLsbD 0, pause := d.hostFlags.getLsbD 1 }) := by
  have hrange : ¬ (2 ^ (s.ring f r).log2n ≤ d.prod.toNat ∨ 2 ^ (s.ring f r).log2n ≤ d.cqCons.toNat) := by omega
  simp only [State.takeRecord, Bool.or_eq_true, decide_eq_true_eq, if_neg hrange]
  refine if_neg ?_
  rw [Bool.and_eq_true, decide_eq_true_eq]
  rintro ⟨hstale, hleft⟩
  cases hkn : (s.ring f r).knocked with
  | none => simp [hkn] at hstale
  | some k =>
    rw [hkn] at hstale
    exact (hk k hkn).elim (fun h => h (of_decide_eq_true hstale)) (fun h => by omega)

theorem State.recordRead_ok {s : State} (ha : s.alive = true) {f : Fin 16} {r : Fin 64} {d : DbRec}
    (hon : (s.ring f r).phase = .on) (hread : (s.ring f r).reading = true)
    (hp : d.prod.toNat < 2 ^ (s.ring f r).log2n) (hq : d.cqCons.toNat < 2 ^ (s.ring f r).log2n)
    (hk : ∀ k, (s.ring f r).knocked = some k →
      ¬ (1 ≤ (k - d.kseq.setWidth 16).toNat ∧ (k - d.kseq.setWidth 16).toNat ≤ 32767) ∨ (s.ring f r).rereads = 0) :
    Counted (s.modRing f r (fun g => { g with
      reading := false, unreadable := false, indexBad := false, knocked := none
      prod := d.prod.toNat, cqCons := d.cqCons.toNat, kseq := d.kseq
      noIrq := d.hostFlags.getLsbD 0, pause := d.hostFlags.getLsbD 1 })) (s.recordRead f r (.ok d)) := by
  have hcount := (s.modRing f r (fun g => { g with reading := false })).count_counted 0x07 0 16 { fn := some f.val }
  have hring := hcount.ring f r
  rw [State.ring_modRing_self] at hring
  have h := ((hcount.modRing f r (fun g => { g with unreadable := false })).modRing f r (fun g => { g with
    indexBad := false, knocked := none, prod := d.prod.toNat, cqCons := d.cqCons.toNat, kseq := d.kseq
    noIrq := d.hostFlags.getLsbD 0, pause := d.hostFlags.getLsbD 1 }))
  simp only [State.recordRead, ha, hread, hon, Bool.not_true, ne_eq, not_true_eq_false, decide_false, Bool.or_self,
    Bool.false_eq_true, if_false]
  rw [State.takeRecord_taken (by simpa [hring] using hp) (by simpa [hring] using hq) (by simpa [hring] using hk)]
  simpa only [State.modRing_modRing] using h

/-- A record that cannot be read leaves its ring unreadable, and is reported and logged. -/
theorem State.recordRead_failed {s : State} (ha : s.alive = true) {f : Fin 16} {r : Fin 64}
    (hon : (s.ring f r).phase = .on) (hread : (s.ring f r).reading = true) : ∃ u,
    RingOnly (violRegs f) s u f r ∧ (u.ring f r).reading = false ∧ s.recordRead f r .failed =
      (u.modRing f r (fun g => { g with unreadable := true, knocked := none })).emit .aer := by
  simp only [State.recordRead, ha, hread, hon, Bool.not_true, ne_eq, not_true_eq_false, decide_false, Bool.or_self,
    Bool.false_eq_true, if_false]
  have hidle : ((s.modRing f r (fun g => { g with reading := false })).ring f r).reading = false := by
    rw [State.ring_modRing_self]
  refine ⟨_, ?_, ?_, rfl⟩
  · split
    · exact .modRing s _
    · exact (RingOnly.modRing s _).trans (State.violateOnce_only _ _ _ _ _)
  · split
    · exact hidle
    · rw [State.violateOnce_logged _ f r 0x04 _]
      exact hidle

/-! ### Full queues and holdoffs (R99, R104) -/

/-- A hold of 1 ms is logged once for the hold. -/
theorem State.cqFull_logs {s : State} (ha : s.alive = true) {f : Fin 16} {r : Fin 64}
    (hheld : (s.ring f r).held ≠ []) (hfull : (s.ring f r).cqFullLogged = false) : ∃ u,
    RingOnly (violRegs f) s.freeDetail.1 u f r ∧ (u.ring f r).held = (s.ring f r).held ∧
    s.cqFull f r = u.modRing f r (fun g => { g with cqFullLogged := true }) := by
  have hlogged := s.freeDetail.1.violateOnce_logged f r 0x05 s.freeDetail.2
  refine ⟨s.freeDetail.1.violateOnce f r 0x05 s.freeDetail.2, State.violateOnce_only _ _ _ _ _, ?_, ?_⟩
  · rw [hlogged]; rfl
  · have hne : (s.ring f r).held.isEmpty = false := by simpa using hheld
    simp only [State.cqFull, ha, hne, hfull, Bool.not_false, Bool.and_self, if_true]

/-- A ring that is to send its message and holds none off sends it where its function has the vector, and may start a
holdoff. -/
theorem State.ringMsg_due {s : State} {f : Fin 16} {r : Fin 64} (hirq : (s.ring f r).noIrq = false)
    (hoff : (s.ring f r).holdoff = false) : ∃ t, Counted s t ∧
    (bits (s.reg .HIF_RING_CTL f r) 21 16 < s.fld (F.HIF_FN_CTL_VEC_COUNT f) →
      Sends s t (.msix f (bits (s.reg .HIF_RING_CTL f r) 21 16))) ∧
    (s.ringMsg f r = t ∨ s.ringMsg f r = t.modRing f r (fun g => { g with holdoff := true })) := by
  simp only [State.ringMsg, hirq, hoff, Bool.false_eq_true, if_false]
  by_cases hvec : bits (s.reg .HIF_RING_CTL f r) 21 16 < s.fld (F.HIF_FN_CTL_VEC_COUNT f)
  · have hmsix := Counted.msixSend (s.emit (.msix f (bits (s.reg .HIF_RING_CTL f r) 21 16))) f
      (bits (s.reg .HIF_RING_CTL f r) 21 16)
    have hcount := hmsix.trans (State.count_counted _ 0x09 0 1 { fn := some f.val })
    refine ⟨_, (Counted.emit s _).trans hcount, fun _ => (Sends.emit s _).after hcount.2.2.1, ?_⟩
    rw [if_pos hvec]
    split
    · exact .inl rfl
    · exact .inr rfl
  · refine ⟨s, .refl s, fun h => absurd h hvec, ?_⟩
    rw [if_neg hvec]
    split
    · exact .inl rfl
    · exact .inr rfl

theorem State.ringMsg_holdoffDue {s : State} {f : Fin 16} {r : Fin 64} (hoff : (s.ring f r).holdoff = false) :
    ((s.ringMsg f r).ring f r).holdoffDue = (s.ring f r).holdoffDue := by
  by_cases hirq : (s.ring f r).noIrq = true
  · simp only [State.ringMsg, hirq, if_true]
  · obtain ⟨t, ht, -, e | e⟩ := State.ringMsg_due (by simpa using hirq) hoff
    · rw [e, ht.ring]
    · rw [e, State.ring_modRing_self, ht.ring]

/-- The end of a holdoff, its message apart. -/
theorem State.holdoffEnd_eq {s : State} (ha : s.alive = true) {f : Fin 16} {r : Fin 64}
    (hoff : (s.ring f r).holdoff = true) : s.holdoffEnd f r =
    let t := s.modRing f r (fun g => { g with holdoff := false, holdoffDue := false })
    if (s.ring f r).holdoffDue then t.ringMsg f r else t := by
  simp only [State.holdoffEnd, ha, hoff, Bool.and_self, if_true]

/-! ### The statement -/

/-- Settles O19: each clause by the lemma above of its command. -/
theorem doorbells : Obligations.Doorbells := by
  unfold Obligations.Doorbells
  intro s f r k d hatt hserve g knock behind others
  have ha := State.alive_of_attends hatt
  refine ⟨?knock, ?disabled, ?storm, ?poll, ?record, ?failed, ?stale, ?full, ?holdoff⟩
  case knock =>
    intro hf hon hquar hign hfence hlen hread
    obtain ⟨t, ht, hk⟩ := State.knock_word ha hf hfence k r
    have hring := ht.ring f r
    have hserving : t.serving = true := by rw [ht.1]; exact hserve
    refine ⟨(t.modRing f r (fun g => { g with
        stormSeq := k, stormTimes := t.knockTimes f r k, knocked := some k, rereads := 4 })).readRecord f r,
      congrArg Host.Outcome.next (hk.trans ?_), ?_, ?_, ?_⟩
    · rw [if_neg (by simpa using hon), if_neg (by
        simp [show (s.ring f r).quar = false from hquar, show (s.ring f r).stormIgnore = false from hign])]
      exact State.knockRing_reads hserving (by rw [hring]; exact hlen) k
    · exact ((ht.ringOnly (by simp) f r).trans ((RingOnly.modRing t _).trans (State.readRecord_only _ _ _))).others
    · rw [State.readRecord_ring, State.ring_modRing_self, hring]
    · have hsend := State.readRecord_sends (s := t.modRing f r (fun g => { g with
        stormSeq := k, stormTimes := t.knockTimes f r k, knocked := some k, rereads := 4 })) (f := f) (r := r)
        (by rw [State.ring_modRing_self, hring]; exact hread)
      rw [State.ring_modRing_self, hring] at hsend
      exact Sends.before ht.2.2.1 (hsend.congr rfl rfl)
  case disabled =>
    intro hf hfence hoff
    obtain ⟨t, ht, hk⟩ := State.knock_word ha hf hfence k r
    have hlog := t.freeDetail.1.logEntry_frame f r 0 0x07 t.freeDetail.2
    have hring : ∀ h q, (t.freeDetail.1.logEntry f r 0 0x07 t.freeDetail.2).ring h q = s.ring h q := fun h q =>
      (hlog.ring h q).trans (ht.ring h q)
    refine ⟨_, congrArg Host.Outcome.next (hk.trans ((if_pos hoff).trans (t.violateFree_unlogged f r))),
      fun h q _ => hring h q, hring f r, ?_⟩
    rw [State.logEntry_total]
    exact congrArg (fun n => min (n + 1) _) (ht.fld (vlgTotal_ne_pmcOvf f))
  case storm =>
    intro hign
    exact congrArg Host.Outcome.next (by simp [State.knockStormEnd, ha, hign, g])
  case poll =>
    exact ⟨_, congrArg Host.Outcome.next (if_pos hserve), s.pollRecords_ring⟩
  case record =>
    exact fun hon hread hp hq hk => ⟨_, rfl, State.recordRead_ok ha hon hread hp hq hk⟩
  case failed =>
    intro hon hread
    obtain ⟨u, hu, hidle, he⟩ := State.recordRead_failed ha hon hread
    refine ⟨_, rfl, ?_⟩
    rw [he]
    have hring : ((u.modRing f r (fun g => { g with unreadable := true, knocked := none })).emit .aer).ring f r =
        { u.ring f r with unreadable := true, knocked := none } :=
      State.ring_modRing_self u f r (fun g => { g with unreadable := true, knocked := none })
    exact ⟨by rw [hring], by rw [hring]; exact hidle, Sends.before hu.out ((Sends.emit u _).congr rfl rfl),
      (hu.trans (.modRing u (fun g => { g with unreadable := true, knocked := none }))).others⟩
  case stale =>
    intro hon hknock hread hleft
    have hdo : (s.alive && g.phase = .on && g.knocked.isSome && !g.reading && decide (0 < g.rereads)) = true := by
      simp [ha, hon, hknock, hread, hleft]
    refine ⟨_, congrArg Host.Outcome.next (if_pos hdo), ?_⟩
    have h := State.readRecord_idle (s := s.modRing f r (fun g => { g with rereads := g.rereads - 1 })) (f := f) (r := r)
      (by rw [State.ring_modRing_self]; exact hread)
    rw [State.ring_modRing_self] at h
    have he : ∀ o, (s.modRing f r (fun g => { g with rereads := g.rereads - 1 })).emit o =
        (s.emit o).modRing f r (fun g => { g with rereads := g.rereads - 1 }) := fun _ => rfl
    rwa [he, State.modRing_modRing] at h
  case full =>
    intro hheld hfull
    obtain ⟨u, hu, hkept, he⟩ := State.cqFull_logs ha hheld hfull
    refine ⟨_, congrArg Host.Outcome.next he, fun h q hne => ?_, ?_, ?_⟩
    · exact (hu.trans (.modRing u _)).others h q hne
    · rw [State.ring_modRing_self]
    · rw [State.ring_modRing_self]; exact hkept
  case holdoff =>
    intro hoff
    have hidle := s.ring_modRing_self f r (fun g => { g with holdoff := false, holdoffDue := false })
    refine ⟨_, congrArg Host.Outcome.next (State.holdoffEnd_eq ha hoff), ?_⟩
    dsimp only
    split
    · next hdue =>
      have hmsg := State.ringMsg_only (s.modRing f r (fun g => { g with holdoff := false, holdoffDue := false })) f r
      refine ⟨((RingOnly.modRing s _).trans hmsg.1).others, ?_, fun h => absurd hdue (by simp [g] at h; simp [h]), ?_⟩
      · rw [State.ringMsg_holdoffDue (by rw [hidle]), hidle]
      · intro _ hirq hvec
        obtain ⟨t, ht, hsend, he⟩ := State.ringMsg_due (s := s.modRing f r (fun g => { g with
          holdoff := false, holdoffDue := false })) (f := f) (r := r) (by rw [hidle]; exact hirq) (by rw [hidle])
        refine (hsend hvec).congr rfl ?_
        rcases he with e | e
        · rw [e]
        · rw [e]; rfl
    · next hdue =>
      exact ⟨(RingOnly.modRing (ex := []) s _).others, by rw [hidle], fun _ => ⟨by rw [hidle], rfl⟩,
        fun h => absurd h hdue⟩

end Sys2Proof.Machine
end

section
/-!
PROOF. Rings that start and stop, re-registration and the expiry of a lease (O18).
-/

set_option Elab.async false  -- the joined text is large: no thread per declaration

namespace Sys2Proof.Machine

/-! ### The registers of a ring (R80) -/

theorem addr_ringCtl (i j : Nat) : RegId.addr .HIF_RING_CTL i j = 0x18018 + i * 0x800 + j * 0x20 := rfl

/-- The registers a ring's start samples: its bases, its own control word and its function's. -/
def ringInputs (f : Fin 16) (r : Fin 64) : List Nat :=
  [RegId.addr .HIF_RING_SQ_LO f r, RegId.addr .HIF_RING_SQ_HI f r, RegId.addr .HIF_RING_CQ_LO f r,
   RegId.addr .HIF_RING_CQ_HI f r, RegId.addr .HIF_RING_DB_LO f r, RegId.addr .HIF_RING_DB_HI f r,
   RegId.addr .HIF_FN_CTL f 0]

theorem ringInputs_eq (f : Fin 16) (r : Fin 64) : ringInputs f r =
    [0x18000 + f.val * 0x800 + r.val * 0x20, 0x18004 + f.val * 0x800 + r.val * 0x20, 0x18008 + f.val * 0x800 + r.val * 0x20,
     0x1800C + f.val * 0x800 + r.val * 0x20, 0x18010 + f.val * 0x800 + r.val * 0x20, 0x18014 + f.val * 0x800 + r.val * 0x20,
     0x11000 + f.val * 0x20 + 0 * 0] := rfl

theorem ringCtl_notMem_ringInputs (f : Fin 16) (r q : Fin 64) : RegId.addr .HIF_RING_CTL f q ∉ ringInputs f r := by
  simp only [ringInputs_eq, addr_ringCtl, List.mem_cons, List.not_mem_nil, or_false]
  omega

theorem pmcOvf_notMem_ringInputs (f : Fin 16) (r : Fin 64) : RegId.addr .PMC_OVF 0 0 ∉ ringInputs f r := by
  simp only [ringInputs_eq, show RegId.addr .PMC_OVF 0 0 = 0x2C0008 from rfl, List.mem_cons, List.not_mem_nil, or_false]
  omega

theorem ringCtl_ne_pmcOvf (f : Fin 16) (r : Fin 64) : RegId.addr .HIF_RING_CTL f r ≠ RegId.addr .PMC_OVF 0 0 := by
  rw [addr_ringCtl, show RegId.addr .PMC_OVF 0 0 = 0x2C0008 from rfl]
  omega

theorem ringCtl_inj (f : Fin 16) {r q : Fin 64} (h : r ≠ q) : RegId.addr .HIF_RING_CTL f r ≠ RegId.addr .HIF_RING_CTL f q := by
  rw [addr_ringCtl, addr_ringCtl]
  have : r.val ≠ q.val := fun e => h (Fin.ext e)
  omega

/-- What starting or stopping a ring writes. -/
def ringRegs (f : Fin 16) (r : Fin 64) : List Nat := [RegId.addr .HIF_RING_CTL f r, RegId.addr .PMC_OVF 0 0]

theorem notMem_ringRegs_of_input {f : Fin 16} {r q : Fin 64} {a : Nat} (h : a ∈ ringInputs f r) : a ∉ ringRegs f q := by
  simp only [ringRegs, List.mem_cons, List.not_mem_nil, or_false, not_or]
  exact ⟨fun e => ringCtl_notMem_ringInputs f r q (e ▸ h), fun e => pmcOvf_notMem_ringInputs f r (e ▸ h)⟩

/-! ### A ring starts (R82) -/

/-- The ring as a start makes it: its registers are sampled, its indices are 0 and its record is being read. -/
def State.freshRing (s : State) (f : Fin 16) (r : Fin 64) : RingSt :=
  { phase := .on, log2n := s.fld (F.HIF_RING_CTL_LOG2N f r), lastLog := (s.ring f r).lastLog, reading := true
    sq := s.ringBase .HIF_RING_SQ_LO .HIF_RING_SQ_HI f r
    cq := s.ringBase .HIF_RING_CQ_LO .HIF_RING_CQ_HI f r
    db := s.ringBase .HIF_RING_DB_LO .HIF_RING_DB_HI f r }

theorem RingOnly.setReg {ex : List Nat} {f : Fin 16} {r : Fin 64} (s : State) {q : RegId} {i j : Nat} (w : Word)
    (h : q.addr i j ∈ ex) : RingOnly ex s (s.setReg q i j w) f r :=
  ⟨rfl, .setReg s q i j w h, .refl _, fun _ _ _ => rfl⟩

section
variable {s t : State} {f : Fin 16} {r : Fin 64}

/-- Writing a ring's EN changes no field a start samples. -/
theorem State.freshRing_setEn (s : State) (f : Fin 16) (r : Fin 64) (v : Nat) :
    (s.setF (F.HIF_RING_CTL_EN f r) v).freshRing f r = s.freshRing f r := by
  have hin : ∀ {a : Nat}, a ∈ ringInputs f r → a ≠ RegId.addr .HIF_RING_CTL f r :=
    fun ha e => ringCtl_notMem_ringInputs f r r (e ▸ ha)
  simp only [State.freshRing, State.ringBase, State.fld_setF_disjoint s (F.HIF_RING_CTL_EN f r)
    (F.HIF_RING_CTL_LOG2N f r) (by simp) rfl rfl rfl (.inl (by simp)) v]
  simp only [ringInputs, List.mem_cons, forall_eq_or_imp] at hin
  obtain ⟨h1, h2, h3, h4, h5, h6, -⟩ := hin
  rw [State.reg_setF_ne s h1, State.reg_setF_ne s h2, State.reg_setF_ne s h3, State.reg_setF_ne s h4,
    State.reg_setF_ne s h5, State.reg_setF_ne s h6]
  rfl

/-- A refused enable: EN reads 0, and the ring is off with CFG_ERR. -/
theorem State.ringStart_bad (h : s.ringBad f r = true) : RingOnly (ringRegs f r) s (s.ringStart f r) f r ∧
    ((s.ringStart f r).ring f r).phase = .off ∧ ((s.ringStart f r).ring f r).cfgErr = true ∧
    (s.ringStart f r).flag (F.HIF_RING_CTL_EN f r) = false := by
  simp only [State.ringStart, h, if_true]
  refine ⟨(RingOnly.setReg s _ (by simp [ringRegs])).trans (.modRing _ _), ?_, ?_, ?_⟩
  · rw [State.ring_modRing_self]
  · rw [State.ring_modRing_self]
  · rw [State.flag, State.fld_modRing, State.fld_setF_self _ _ (by simp)]; rfl

/-- A ring started: beside the record read, its flags may be written for a quarantine that ends. -/
theorem State.ringStart_good (h : s.ringBad f r = false) : ∃ t : State,
    t = (s.setF (F.HIF_RING_CTL_EN f r) 1).modRing f r (fun _ => { s.freshRing f r with reading := false }) ∧
    (s.ringStart f r = t.readRecord f r ∨ s.ringStart f r = (t.writeDevFlags f r).readRecord f r) := by
  have hfresh := s.freshRing_setEn f r 1
  refine ⟨_, rfl, ?_⟩
  simp only [State.ringStart, h, Bool.false_eq_true, if_false]
  split
  · exact .inr rfl
  · exact .inl rfl

theorem State.ringStart_fresh (h : s.ringBad f r = false) : RingOnly (ringRegs f r) s (s.ringStart f r) f r ∧
    (s.ringStart f r).ring f r = s.freshRing f r ∧ (s.ringStart f r).flag (F.HIF_RING_CTL_EN f r) = true ∧
    Sends s (s.ringStart f r) (.hostRead (s.freshRing f r).db 16) := by
  obtain ⟨t, ht, he⟩ := State.ringStart_good h
  have hring : t.ring f r = { s.freshRing f r with reading := false } := by rw [ht, State.ring_modRing_self]
  have hflag : t.flag (F.HIF_RING_CTL_EN f r) = true := by
    rw [ht, State.flag, State.fld_modRing, State.fld_setF_self _ _ (by simp)]; rfl
  have honly : RingOnly (ringRegs f r) s t f r := by
    rw [ht]; exact (RingOnly.setReg s _ (by simp [ringRegs])).trans (.modRing _ _)
  have hread : ∀ u : State, Counted t u → RingOnly (ringRegs f r) s (u.readRecord f r) f r ∧
      (u.readRecord f r).ring f r = s.freshRing f r ∧ (u.readRecord f r).flag (F.HIF_RING_CTL_EN f r) = true ∧
      Sends s (u.readRecord f r) (.hostRead (s.freshRing f r).db 16) := fun u hu => by
    have hu' : u.ring f r = { s.freshRing f r with reading := false } := (hu.ring f r).trans hring
    have hto := honly.trans (hu.ringOnly (by simp [ringRegs]) f r)
    have hrec := u.readRecord_only f r
    refine ⟨hto.trans (hrec.mono (by simp [ringRegs])), ?_, ?_, ?_⟩
    · rw [State.readRecord_ring, hu']; rfl
    · rw [State.flag, hrec.fld (by simpa using ringCtl_ne_pmcOvf f r), hu.fld (ringCtl_ne_pmcOvf f r)]
      exact hflag
    · have hsend := State.readRecord_sends (s := u) (f := f) (r := r) (by rw [hu'])
      rw [hu'] at hsend
      exact Sends.before hto.out hsend
  rcases he with e | e
  · rw [e]; exact hread t (.refl t)
  · rw [e]; exact hread _ (t.writeDevFlags_counted f r)

theorem State.ringStart_only (s : State) (f : Fin 16) (r : Fin 64) :
    RingOnly (ringRegs f r) s (s.ringStart f r) f r := by
  cases h : s.ringBad f r with
  | true => exact (State.ringStart_bad h).1
  | false => exact (State.ringStart_fresh h).1

end

/-! ### Writes of HIF_RING_CTL (R82, R83) -/

/-- A field that a mask lets through whole. -/
theorem bits_and_mask {hi lo : Nat} {m : Word} (h : ∀ i, lo ≤ i → i < hi + 1 → m.getLsbD i = true) (v : Word) :
    bits (v &&& m) hi lo = bits v hi lo := by
  apply Nat.eq_of_testBit_eq
  intro i
  rw [bits_testBit, bits_testBit, BitVec.getLsbD_and]
  by_cases hi' : i < hi + 1 - lo
  · rw [h (lo + i) (by omega) (by omega), Bool.and_true]
  · simp [hi']

/-- The bits of HIF_RING_CTL that a write reaches. -/
abbrev ringCtlMask : Word := 0x9FFFFF00

theorem bits_ringCtlMask {hi lo : Nat} (h : ∀ i : Fin 32, lo ≤ i.val → i.val < hi + 1 → ringCtlMask.getLsbD i.val = true)
    (hhi : hi < 32) (v : Word) : bits (v &&& ringCtlMask) hi lo = bits v hi lo :=
  bits_and_mask (fun i hl hu => h ⟨i, by omega⟩ hl hu) v

theorem bits_log2n_ringCtlMask (v : Word) : bits (v &&& ringCtlMask) 28 24 = bits v 28 24 :=
  bits_ringCtlMask (by decide) (by decide) v

theorem bits_vector_ringCtlMask (v : Word) : bits (v &&& ringCtlMask) 21 16 = bits v 21 16 :=
  bits_ringCtlMask (by decide) (by decide) v

theorem State.ringBad_setCtl (s : State) (f : Fin 16) (r : Fin 64) (v : Word) :
    (s.setReg .HIF_RING_CTL f r (v &&& ringCtlMask)).ringBad f r = false ↔
    4 ≤ bits v 28 24 ∧ bits v 28 24 ≤ 16 ∧ bits v 21 16 < s.fld (F.HIF_FN_CTL_VEC_COUNT f) := by
  have hvec : (s.setReg .HIF_RING_CTL f r (v &&& ringCtlMask)).fld (F.HIF_FN_CTL_VEC_COUNT f) =
      s.fld (F.HIF_FN_CTL_VEC_COUNT f) :=
    State.fld_setReg_ne s (fun e => ringCtl_notMem_ringInputs f r r (e ▸ by simp [ringInputs])) _
  have hlog : (s.setReg .HIF_RING_CTL f r (v &&& ringCtlMask)).fld (F.HIF_RING_CTL_LOG2N f r) = bits v 28 24 := by
    rw [State.fld, State.reg_setReg_self]; exact bits_log2n_ringCtlMask v
  have hvector : (s.setReg .HIF_RING_CTL f r (v &&& ringCtlMask)).fld (F.HIF_RING_CTL_VECTOR f r) = bits v 21 16 := by
    rw [State.fld, State.reg_setReg_self]; exact bits_vector_ringCtlMask v
  simp only [State.ringBad, hvec, hlog, hvector]
  simp
  omega

theorem State.freshRing_setCtl (s : State) (f : Fin 16) (r : Fin 64) (v : Word) :
    (s.setReg .HIF_RING_CTL f r (v &&& ringCtlMask)).freshRing f r =
    { s.freshRing f r with log2n := bits v 28 24 } := by
  have hin : ∀ {a : Nat}, a ∈ ringInputs f r → a ≠ RegId.addr .HIF_RING_CTL f r :=
    fun ha e => ringCtl_notMem_ringInputs f r r (e ▸ ha)
  have hlog : (s.setReg .HIF_RING_CTL f r (v &&& ringCtlMask)).fld (F.HIF_RING_CTL_LOG2N f r) = bits v 28 24 := by
    rw [State.fld, State.reg_setReg_self]; exact bits_log2n_ringCtlMask v
  simp only [ringInputs, List.mem_cons, forall_eq_or_imp] at hin
  obtain ⟨h1, h2, h3, h4, h5, h6, -⟩ := hin
  simp only [State.freshRing, State.ringBase, hlog, State.reg_setReg_ne s h1, State.reg_setReg_ne s h2,
    State.reg_setReg_ne s h3, State.reg_setReg_ne s h4, State.reg_setReg_ne s h5, State.reg_setReg_ne s h6]
  rfl

theorem getLsbD_ringCtlMask (v : Word) : (v &&& ringCtlMask).getLsbD 31 = v.getLsbD 31 := by
  rw [BitVec.getLsbD_and, show ringCtlMask.getLsbD 31 = true by decide, Bool.and_true]

/-- Setting EN in a ring that is off writes the register and starts the ring. -/
theorem State.ringEnable_off {s : State} {f : Fin 16} {r : Fin 64} {v : Word} (ha : s.alive = true)
    (hen : v.getLsbD 31 = true) (hoff : (s.ring f r).phase = .off) :
    s.ringEnable f r v = (s.setReg .HIF_RING_CTL f r (v &&& ringCtlMask)).ringStart f r := by
  have hbit : bit (v &&& ringCtlMask) 31 = true := (getLsbD_ringCtlMask v).trans hen
  simp only [State.ringEnable, ha, bit_eq v, hen, Bool.and_self, if_true, State.ringCtlWrite, hoff, hbit]

/-- Ending no slot changes nothing. -/
theorem State.endSlots_nil (s : State) (st : Nat) (d : Word) : s.endSlots [] st d = (s, 0, 0) := rfl

/-- Disabling a ring without descriptors turns it off. -/
theorem State.ringStop_empty {s : State} {f : Fin 16} {r : Fin 64} (hempty : s.ringSlots f r = []) :
    s.ringStop f r = (s.setF (F.HIF_RING_CTL_EN f r) 0).modRing f r
      (fun g => { g with phase := .off, knockWaiting := false, knocked := none }) := by
  have hslots : ∀ g : RingSt → RingSt, (s.modRing f r g).ringSlots f r = [] := fun _ => hempty
  simp only [State.ringStop]
  rw [hslots, State.endSlots_nil]
  simp only [State.ringDrained, State.ring_modRing_self, hslots, List.isEmpty_nil, Bool.and_true, decide_true, if_true]
  exact State.modRing_modRing (s.setF (F.HIF_RING_CTL_EN f r) 0) f r
    (fun g => { g with phase := .draining, knockWaiting := false, knocked := none }) (fun g => { g with phase := .off })

/-- Clearing EN in an enabled ring disables it; the register keeps EN until the ring is drained. -/
theorem State.ringDisable_on {s : State} {f : Fin 16} {r : Fin 64} {v : Word} (ha : s.alive = true)
    (hen : v.getLsbD 31 = false) (hon : (s.ring f r).phase = .on) :
    s.ringDisable f r v = (s.setReg .HIF_RING_CTL f r (v &&& ringCtlMask ||| 0x80000000)).ringStop f r := by
  have hbit : bit (v &&& ringCtlMask) 31 = false := (getLsbD_ringCtlMask v).trans hen
  simp only [State.ringDisable, ha, bit_eq v, hen, Bool.not_false, Bool.and_self, if_true, State.ringCtlWrite, hon, hbit,
    reduceCtorEq, if_false, Bool.false_eq_true]

/-! ### Re-registration (R103) -/

/-- A ring starts afresh at its function's re-registration; the fence that ends is written to its flags. -/
def State.restart (fenced : Bool) (f : Fin 16) (s : State) (r : Fin 64) : State :=
  if fenced && !(s.ring f r).quar then (s.ringStart f r).writeDevFlags f r else s.ringStart f r

/-- A re-registration without the rings: the function's fences end. -/
def State.unfence (s : State) (f : Fin 16) : State :=
  { s with hif := { s.hif with fenced := s.hif.fenced &&& ~~~BitVec.ofNat 16 (2 ^ f.val) }
           mv := { s.mv with sluFenced := s.mv.sluFenced &&& ~~~BitVec.ofNat 16 (2 ^ f.val) } }

theorem State.rereg_eq (s : State) (f : Fin 16) : s.rereg f =
    (allRings.filter (fun r => (s.ring f r).phase = .on)).foldl (State.restart (s.fenced f) f) (s.unfence f) := rfl

section
variable {s t : State} {f : Fin 16} {r : Fin 64}

theorem fnMask_bit (f g : Fin 16) : (~~~BitVec.ofNat 16 (2 ^ f.val)).getLsbD g.val = Decidable.decide (g ≠ f) := by
  revert f g; decide

theorem State.fenced_unfence (s : State) (f g : Fin 16) :
    (s.unfence f).fenced g = (s.fenced g && Decidable.decide (g ≠ f)) := by
  rw [State.fenced, State.unfence, BitVec.getLsbD_and, fnMask_bit, State.fenced]

theorem State.restart_only (fenced : Bool) (s : State) (f : Fin 16) (r : Fin 64) :
    RingOnly (ringRegs f r) s (s.restart fenced f r) f r := by
  rw [State.restart]
  split
  · exact (s.ringStart_only f r).trans ((State.writeDevFlags_counted _ f r).ringOnly (by simp [ringRegs]) f r)
  · exact s.ringStart_only f r

theorem State.restart_ring (fenced : Bool) (h : s.ringBad f r = false) :
    (s.restart fenced f r).ring f r = s.freshRing f r := by
  have hfresh := (State.ringStart_fresh h).2.1
  rw [State.restart]
  split
  · rw [(State.writeDevFlags_counted _ f r).ring, hfresh]
  · exact hfresh

/-- What a start of ring `r` depends on stands: its state and its registers. -/
def SameRing (f : Fin 16) (r : Fin 64) (s t : State) : Prop :=
  t.ring f r = s.ring f r ∧ t.freshRing f r = s.freshRing f r ∧ t.ringBad f r = s.ringBad f r

theorem SameRing.trans {u : State} (h : SameRing f r s t) (k : SameRing f r t u) : SameRing f r s u := by
  obtain ⟨h1, h2, h3⟩ := h
  obtain ⟨k1, k2, k3⟩ := k
  exact ⟨k1.trans h1, k2.trans h2, k3.trans h3⟩

/-- A ring of the same function that starts leaves the others as they are. -/
theorem RingOnly.sameRing {q : Fin 64} (h : RingOnly (ringRegs f q) s t f q) (hne : r ≠ q) : SameRing f r s t := by
  have hpart : t.part = s.part := by rw [h.1]
  have hin : ∀ {x : RegId} {i j : Nat}, x.addr i j ∈ ringInputs f r → t.reg x i j = s.reg x i j :=
    fun ha => h.2.1.reg hpart (notMem_ringRegs_of_input ha)
  have hctl : t.reg .HIF_RING_CTL f r = s.reg .HIF_RING_CTL f r := h.2.1.reg hpart (by
    simp only [ringRegs, List.mem_cons, List.not_mem_nil, or_false, not_or]
    exact ⟨ringCtl_inj f hne, ringCtl_ne_pmcOvf f r⟩)
  have hring := h.others f r (fun e => hne e.2)
  refine ⟨hring, ?_, ?_⟩
  · have hin' : ∀ x ∈ [RegId.HIF_RING_SQ_LO, .HIF_RING_SQ_HI, .HIF_RING_CQ_LO, .HIF_RING_CQ_HI, .HIF_RING_DB_LO,
        .HIF_RING_DB_HI], t.reg x f r = s.reg x f r := fun x hx => hin (by
      simp only [List.mem_cons, List.not_mem_nil, or_false] at hx
      rcases hx with rfl | rfl | rfl | rfl | rfl | rfl <;> simp [ringInputs])
    simp only [List.mem_cons, List.not_mem_nil, or_false, forall_eq_or_imp, forall_eq] at hin'
    obtain ⟨h1, h2, h3, h4, h5, h6⟩ := hin'
    simp only [State.freshRing, State.ringBase, State.fld, hring, hctl, h1, h2, h3, h4, h5, h6]
  · simp only [State.ringBad, State.fld, hctl]
    rw [hin (x := .HIF_FN_CTL) (by simp [ringInputs])]
    rfl

theorem State.restarts_sameRing (fenced : Bool) (l : List (Fin 64)) (h : r ∉ l) :
    ∀ s, SameRing f r s (l.foldl (State.restart fenced f) s) := by
  induction l with
  | nil => exact fun s => ⟨rfl, rfl, rfl⟩
  | cons q l ih =>
    rw [List.mem_cons, not_or] at h
    exact fun s => ((s.restart_only fenced f q).sameRing h.1).trans (ih h.2 _)

/-- Each ring of a list of rings, each in it once, starts as it stood at first. -/
theorem State.restarts_ring (fenced : Bool) (l : List (Fin 64)) (hnd : l.Nodup) (hmem : r ∈ l)
    (hok : s.ringBad f r = false) : (l.foldl (State.restart fenced f) s).ring f r = s.freshRing f r := by
  obtain ⟨a, b, rfl⟩ := List.append_of_mem hmem
  have hout := (List.nodup_middle.1 hnd).notMem
  rw [List.mem_append, not_or] at hout
  obtain ⟨-, hfresh, hbad⟩ := State.restarts_sameRing (f := f) fenced a hout.1 s
  rw [List.foldl_append, List.foldl_cons, (State.restarts_sameRing fenced b hout.2 _).1,
    State.restart_ring fenced (hbad.trans hok), hfresh]

theorem State.restarts_others (fenced : Bool) (l : List (Fin 64)) (s : State) {g : Fin 16} (h : g ≠ f) (q : Fin 64) :
    (l.foldl (State.restart fenced f) s).ring g q = s.ring g q :=
  List.foldlRecOn (motive := fun t : State => t.ring g q = s.ring g q) l _ rfl
    fun t ht r _ => ((t.restart_only fenced f r).others g q (fun e => h e.1)).trans ht

theorem State.restarts_fenced (fenced : Bool) (l : List (Fin 64)) (s : State) (g : Fin 16) :
    (l.foldl (State.restart fenced f) s).fenced g = s.fenced g :=
  List.foldlRecOn (motive := fun t : State => t.fenced g = s.fenced g) l _ rfl
    fun t ht r _ => ((t.restart_only fenced f r).fenced g).trans ht

/-- FN_REREG with its key re-registers a fenced function. -/
theorem State.fnRereg_page {v : Word} (ha : s.alive = true) (hf : s.fnExists f = true) (hkey : v.toNat / 65536 = 0xB0C5)
    (hen : v.getLsbD 0 = true) (hfenced : s.fenced f = true) : s.pageWrite f 0x008 v 0xF = s.rereg f := by
  have hfrozen : s.frozen = false := by
    simp only [State.alive, Bool.and_eq_true, Bool.not_eq_true'] at ha
    exact ha.2
  simp [State.pageWrite, State.linked_of_alive ha, hf, hfrozen, State.fnRereg, ha, bits_upper_half, hkey, bit_eq, hen,
    hfenced]

end

/-! ### The expiry of a lease (R101, R102) -/

/-- The part and the state of the host interface, which tricks that end leave as they are. -/
def State.host (s : State) := (s.part, s.hif)

theorem State.host_eq {s t : State} (h : t.host = s.host) : t.part = s.part ∧ t.hif = s.hif :=
  ⟨congrArg Prod.fst h, congrArg Prod.snd h⟩

section
variable (s : State)

theorem State.host_foldl {α : Type} {f : State → α → State} (h : ∀ s a, (f s a).host = s.host) (l : List α) (s : State) :
    (l.foldl f s).host = s.host :=
  List.foldlRecOn (motive := fun t : State => t.host = s.host) l f rfl fun t ht a _ => (h t a).trans ht

theorem Counted.host {s t : State} (h : Counted s t) : t.host = s.host := by rw [h.1]; rfl

@[simp] theorem State.setReg_host (r : RegId) (i j : Nat) (w : Word) : (s.setReg r i j w).host = s.host := rfl
@[simp] theorem State.setF_host (f : Fld) (v : Nat) : (s.setF f v).host = s.host := rfl
@[simp] theorem State.incF_host (f : Fld) (n : Nat) : (s.incF f n).host = s.host := rfl
@[simp] theorem State.emit_host (o : Out) : (s.emit o).host = s.host := rfl
@[simp] theorem State.modSeq_host (q : Fin 8) (f : SeqSt → SeqSt) : (s.modSeq q f).host = s.host := rfl
@[simp] theorem State.count_host (c i n : Nat) (a : Attr) : (s.count c i n a).host = s.host :=
  (s.count_counted c i n a).host
@[simp] theorem State.modCwy_host (f : Cwy → Cwy) : (s.modCwy f).host = s.host := rfl
@[simp] theorem State.modPort_host (p : Fin 5) (f : CwyPort → CwyPort) : (s.modPort p f).host = s.host := rfl
@[simp] theorem State.modDom_host (d : Fin 3) (f : AudDom → AudDom) : (s.modDom d f).host = s.host := rfl
@[simp] theorem State.sendVec_host (f v : Nat) : (s.sendVec f v).host = s.host := (Counted.sendVec s f v).host

@[simp] theorem State.faultDev_host (c u i d : Nat) : (s.faultDev c u i d).host = s.host := by
  rw [(s.faultDev_recorded c u i d).1]; rfl

@[simp] theorem State.logEntry_host (f : Fin 16) (r t c d : Nat) : (s.logEntry f r t c d).host = s.host := by
  rw [(s.logEntry_frame f r t c d).1]; rfl

@[simp] theorem State.transmit_host (p : Fin 5) (k : Pkt) : (s.transmit p k).host = s.host := by
  simp [State.transmit]

@[simp] theorem State.pushPkt_host (p : Fin 5) (k : Pkt) : (s.pushPkt p k).host = s.host := by
  simp only [State.pushPkt]
  split
  · rfl
  · split <;> simp

@[simp] theorem State.cwyEvent_host (c p : Nat) : (s.cwyEvent c p).host = s.host := by
  simp only [State.cwyEvent]
  split
  · rfl
  · split <;> simp

@[simp] theorem State.reportBenched_host (id r k : Nat) : (s.reportBenched id r k).host = s.host := by
  simp only [State.reportBenched]
  split <;> simp [State.benchRecord, State.wrapF]

@[simp] theorem State.benchChild_host (p : Fin 5) (r : Nat) : (s.benchChild p r).host = s.host := by
  simp only [State.benchChild]
  split <;> simp

@[simp] theorem State.sendDown_host (p : Fin 5) (k : Pkt) : (s.sendDown p k).host = s.host := by
  simp only [State.sendDown]
  split <;> simp

@[simp] theorem State.castWall_host (t : Trick) (k : Pkt) : (s.castWall t k).host = s.host := by
  simp only [State.castWall, State.castAll, State.castDown]
  split <;> exact State.host_foldl (fun s p => by split <;> simp) _ s

@[simp] theorem State.wallDropped_host (k : Nat) : (s.wallDropped k).host = s.host := by
  have hrejoin : ∀ (t : Trick) (s : State), (downPorts.foldl (fun s p => s.modPort p (fun c =>
      { c with rejoin := if c.rejoin = some t.id then none else c.rejoin })) s).host = s.host :=
    fun t s => State.host_foldl (fun s p => s.modPort_host p _) _ s
  have hcast : ∀ (b : Bool) (t : Trick), (if b then s.castWall t (.discard t.id) else s).host = s.host :=
    fun b t => by split <;> simp
  simp only [State.wallDropped]
  split
  · rfl
  · split
    · rfl
    · split <;> simp only [State.modCwy_host, hrejoin, hcast]

@[simp] theorem State.audDiscard_host (k : Nat) : (s.audDiscard k).host = s.host :=
  State.host_foldl (fun s d => by split <;> [split <;> simp; rfl]) _ s

theorem State.host_trk (x : Trk) : { s with trk := x }.host = s.host := rfl

@[simp] theorem State.dropTrick_host (k : Nat) : (s.dropTrick k).host = s.host := by
  unfold State.dropTrick
  refine (State.host_trk _ _).trans ((State.host_foldl (fun s q => ?_) allSeqs _).trans (s.audDiscard_host k))
  split <;> [split <;> simp; rfl]

@[simp] theorem State.discardTrick_host (k : Nat) : (s.discardTrick k).host = s.host := by
  simp [State.discardTrick]

end

/-- What the expiry of a lease is judged by: the mode, the fences and the descriptors. -/
def State.tenure (s : State) := (s.glob, s.hif.fenced, s.hif.slots)

theorem State.tenure_foldl {α : Type} {f : State → α → State} (h : ∀ s a, (f s a).tenure = s.tenure) (l : List α)
    (s : State) : (l.foldl f s).tenure = s.tenure :=
  List.foldlRecOn (motive := fun t : State => t.tenure = s.tenure) l f rfl fun t ht a _ => (h t a).trans ht

section
variable {s t : State}

theorem RingOnly.tenure {ex : List Nat} {f : Fin 16} {r : Fin 64} (h : RingOnly ex s t f r) : t.tenure = s.tenure := by
  rw [h.1]; rfl

theorem Counted.tenure (h : Counted s t) : t.tenure = s.tenure := by rw [h.1]; rfl

theorem State.unitAbort_tenure (s : State) (x : Slot) : (s.unitAbort x).tenure = s.tenure := by
  have h := s.unitAbort_site x
  simp only [State.site, State.rail, Prod.mk.injEq] at h
  obtain ⟨⟨hglob, -⟩, hhif⟩ := h
  simp only [State.tenure, hglob, hhif]

theorem State.discardTrick_tenure (s : State) (k : Nat) : (s.discardTrick k).tenure = s.tenure := by
  have h := s.discardTrick_plant k
  simp only [State.plant, State.hull, Prod.mk.injEq] at h
  obtain ⟨⟨hglob, -⟩, -⟩ := h
  have hhif := (State.host_eq (s.discardTrick_host k)).2
  simp only [State.tenure, hglob, hhif]

theorem State.loseCommit_tenure (s : State) (x : Slot) : (s.loseCommit x).tenure = s.tenure := by
  rw [State.loseCommit]
  split
  · exact State.tenure_foldl (fun s t => by exact s.discardTrick_tenure _) _ s
  · rfl

theorem State.writeCpl_only (s : State) (f : Fin 16) (r : Fin 64) (c : Cpl) :
    RingOnly [RegId.addr .PMC_OVF 0 0] s (s.writeCpl f r c) f r := by
  have hhost : ∀ (a : Nat) (bs : List Byte), RingOnly [RegId.addr .PMC_OVF 0 0] s (s.hostWrite f a bs) f r :=
    fun a bs => (Counted.hostWrite s f a bs).ringOnly (by simp) f r
  simp only [State.writeCpl]
  split
  · exact (((hhost _ _).trans (.modRing _ _)).trans ((State.count_counted _ _ _ _ _).ringOnly (by simp) f r)).trans
      (State.ringMsg_only _ f r).1
  · exact ((hhost _ _).trans (.modRing _ _)).trans ((State.count_counted _ _ _ _ _).ringOnly (by simp) f r)

/-- The last step of a slot that ends early: its entry is written while there is room. -/
def State.endNow (s : State) (x : Slot) (st : Nat) (d : Word) : State × Bool :=
  if x.st ≠ .held && (s.ring x.hdr.fn x.hdr.ring).held.isEmpty && (s.ring x.hdr.fn x.hdr.ring).hasRoom then
    ((s.writeCpl x.hdr.fn x.hdr.ring (s.cplOf x.hdr st d)).dropSlot x.id, true)
  else (s.dropSlot x.id, false)

theorem State.endEarly_eq (s : State) (x : Slot) (st : Nat) (d : Word) :
    ∃ u : State, u.tenure = s.tenure ∧ s.endEarly x st d = u.endNow x st d := by
  have hunit := s.unitAbort_tenure x
  cases hx : x.trick with
  | none => exact ⟨_, ((s.unitAbort x).loseCommit_tenure x).trans hunit, by simp only [State.endEarly, hx]; rfl⟩
  | some k =>
    cases hj : x.joined with
    | true => exact ⟨_, ((s.unitAbort x).loseCommit_tenure x).trans hunit,
        by simp only [State.endEarly, hx, hj, if_true]; rfl⟩
    | false => exact ⟨_, (((s.unitAbort x).spoil k st d).loseCommit_tenure x).trans hunit,
        by simp only [State.endEarly, hx, hj, Bool.false_eq_true, if_false]; rfl⟩

/-- A descriptor that ends early takes its slot with it, whether its entry is written or discarded. -/
theorem State.endEarly_tenure (s : State) (x : Slot) (st : Nat) (d : Word) :
    (s.endEarly x st d).1.tenure = (s.dropSlot x.id).tenure := by
  have hdrop : ∀ u : State, u.tenure = s.tenure → (u.dropSlot x.id).tenure = (s.dropSlot x.id).tenure := by
    intro u hu
    simp only [State.tenure, Prod.mk.injEq] at hu
    obtain ⟨hglob, hfenced, hslots⟩ := hu
    simp only [State.tenure, State.dropSlot, hglob, hfenced, hslots]
  obtain ⟨u, hu, he⟩ := s.endEarly_eq x st d
  rw [he, State.endNow]
  split
  · exact hdrop _ ((u.writeCpl_only x.hdr.fn x.hdr.ring _).tenure.trans hu)
  · exact hdrop _ hu

/-- Ending slots one by one leaves of the slots those with other numbers. -/
theorem State.foldl_endEarly_tenure (xs : List Slot) (st : Nat) (d : Word) : ∀ a : State × Nat × Nat,
    (xs.foldl (fun (a : State × Nat × Nat) x =>
      let e := a.1.endEarly x st d
      (e.1, a.2.1 + 1, a.2.2 + (if e.2 then 0 else 1))) a).1.tenure =
    (a.1.glob, a.1.hif.fenced, a.1.hif.slots.filter (fun y => xs.all (fun x => y.id ≠ x.id))) := by
  induction xs with
  | nil => simp [State.tenure]
  | cons x xs ih =>
    intro a
    have h := a.1.endEarly_tenure x st d
    simp only [State.tenure, State.dropSlot, Prod.mk.injEq] at h
    obtain ⟨hglob, hfenced, hslots⟩ := h
    rw [List.foldl_cons, ih]
    simp only [hglob, hfenced, hslots, List.filter_filter, List.all_cons, Bool.and_comm]

theorem State.endSlots_tenure {s : State} {xs : List Slot} (h : ∀ x ∈ xs, s.exempt x = false) (st : Nat) (d : Word) :
    (s.endSlots xs st d).1.tenure =
    (s.glob, s.hif.fenced, s.hif.slots.filter (fun y => xs.all (fun x => y.id ≠ x.id))) := by
  have hall : xs.filter (fun x => !s.exempt x) = xs := List.filter_eq_self.2 (fun x hx => by simp [h x hx])
  have hheld := State.tenure_foldl (f := fun s (x : Slot) => s.modRing x.hdr.fn x.hdr.ring (fun g => { g with held := [] }))
    (fun _ _ => rfl) xs s
  simp only [State.tenure, Prod.mk.injEq] at hheld
  obtain ⟨hglob, hfenced, hslots⟩ := hheld
  simp only [State.endSlots, hall]
  rw [State.foldl_endEarly_tenure]
  simp only [hglob, hfenced, hslots]

end

/-- The fence of function `f`, on its own. -/
def State.fence (s : State) (f : Fin 16) : State :=
  { s with hif := { s.hif with fenced := s.hif.fenced ||| BitVec.ofNat 16 (2 ^ f.val) } }

/-- A fence is written to the flags of its function's rings. -/
def State.fenceOff (s : State) (f : Fin 16) : State :=
  ((s.fence f).ringsOf f).foldl (fun s r => s.writeDevFlags f r) (s.fence f)

theorem State.fenceOff_counted (s : State) (f : Fin 16) : Counted (s.fence f) (s.fenceOff f) :=
  Counted.foldl (fun s r => s.writeDevFlags f r) (fun s r => s.writeDevFlags_counted f r) _ _

theorem State.fenced_fence (s : State) (f g : Fin 16) : (s.fence f).fenced g = (s.fenced g || Decidable.decide (g = f)) := by
  have hbit : (BitVec.ofNat 16 (2 ^ f.val)).getLsbD g.val = Decidable.decide (g = f) := by
    revert f g; decide
  rw [State.fenced, State.fence, BitVec.getLsbD_or, hbit, State.fenced]

theorem State.exempt_of_trk {s t : State} (h : t.trk = s.trk) (x : Slot) : t.exempt x = s.exempt x := by
  simp only [State.exempt, State.trick, h]

/-- The function and its descriptors as its lease expires, before its tricks are spoiled and the log takes its entry. -/
def State.revoked (s : State) (f : Fin 16) : State :=
  ((s.fenceOff f).endSlots ((s.fenceOff f).hif.slots.filter (fun x => x.hdr.fn = f)) stRevoked
    (BitVec.ofNat 32 ((s.fenceOff f).fld (F.VLG_SEQ_COUNT f)))).1

theorem State.revoked_tenure {s : State} {f : Fin 16} (h : ∀ x ∈ s.hif.slots, x.hdr.fn = f → s.exempt x = false) :
    (s.revoked f).tenure = (s.glob, (s.fence f).hif.fenced,
      s.hif.slots.filter (fun y => (s.hif.slots.filter (fun x => x.hdr.fn = f)).all (fun x => y.id ≠ x.id))) := by
  have hc := s.fenceOff_counted f
  have hslots : (s.fenceOff f).hif.slots = s.hif.slots := by rw [hc.hif]; rfl
  have hglob : (s.fenceOff f).glob = s.glob := hc.glob
  rw [State.revoked, State.endSlots_tenure, hslots, hglob, hc.hif]
  intro x hx
  rw [hslots, List.mem_filter, decide_eq_true_eq] at hx
  rw [State.exempt_of_trk (s := s) hc.trk]
  exact h x hx.1 hx.2

theorem State.leaseExpired_tenure {s : State} {f : Fin 16} (ha : s.alive = true) (hf : s.fenced f = false)
    (hb : s.blockedOnFn f = true) : (s.leaseExpired f).tenure = (s.revoked f).tenure := by
  simp only [State.leaseExpired, ha, hf, hb, Bool.not_true, Bool.or_self, Bool.false_eq_true, if_false]
  refine (RingOnly.tenure (State.logEntry_only _ f 0 _ _ _ _)).trans ?_
  exact State.tenure_foldl (fun _ _ => by rfl) _ _

/-- Settles O18: a ring's start and stop by what they write, a re-registration ring by ring, and the expiry of a lease by
the descriptors that end, one by one. -/
theorem ringsAndLeases : Obligations.RingsAndLeases := by
  unfold Obligations.RingsAndLeases
  refine ⟨fun s f r v hatt => ?_, fun s f ha hf hb hexempt hnd => ?_⟩
  · have ha := State.alive_of_attends hatt
    dsimp only
    refine ⟨fun hen hoff => ?enable, fun hen hon hempty => ?disable, fun hkey hen hfn hfenced hon hbad => ?rereg⟩
    case enable =>
      have hset : RingOnly (ringRegs f r) s (s.setReg .HIF_RING_CTL f r (v &&& ringCtlMask)) f r :=
        .setReg s _ (by simp [ringRegs])
      have hstart := hset.trans (State.ringStart_only _ f r)
      refine ⟨_, congrArg (fun t : State => Host.Outcome.next t.follow) ((s.barWrite_attends hatt _ _).trans
        (State.ringEnable_off ha hen hoff)), ⟨hstart.1, hstart.2.1, hstart.others⟩, fun hok => ?_, fun hbad => ?_⟩
      · obtain ⟨-, hring, hflag, hsend⟩ := State.ringStart_fresh ((s.ringBad_setCtl f r v).2 hok)
        rw [s.freshRing_setCtl f r v] at hring hsend
        exact ⟨hring, hflag, hsend.congr rfl rfl⟩
      · obtain ⟨-, hphase, herr, hflag⟩ := State.ringStart_bad (s := s.setReg .HIF_RING_CTL f r (v &&& ringCtlMask))
          (f := f) (r := r) (by simpa using fun h => hbad ((s.ringBad_setCtl f r v).1 h))
        exact ⟨hphase, herr, hflag⟩
    case disable =>
      have hset : RingOnly (ringRegs f r) s (((s.setReg .HIF_RING_CTL f r (v &&& ringCtlMask ||| 0x80000000)).setF
          (F.HIF_RING_CTL_EN f r) 0).modRing f r (fun g => { g with phase := .off, knockWaiting := false, knocked := none }))
          f r :=
        ((RingOnly.setReg s _ (by simp [ringRegs])).trans (.setReg _ _ (by simp [ringRegs]))).trans (.modRing _ _)
      refine ⟨_, congrArg (fun t : State => Host.Outcome.next t.follow) ((s.barWrite_attends hatt _ _).trans
        ((State.ringDisable_on ha hen hon).trans (State.ringStop_empty hempty))), ⟨hset.1, hset.2.1, hset.others⟩, ?_, ?_⟩
      · rw [State.ring_modRing_self]; rfl
      · rw [State.flag, State.fld_modRing, State.fld_setF_self _ _ (by simp)]; rfl
    case rereg =>
      refine ⟨_, congrArg (fun t : State => Host.Outcome.next t.follow)
        ((State.fnRereg_page ha hfn hkey hen hfenced).trans (s.rereg_eq f)), ?_, ?_, fun g q hne => ⟨?_, ?_⟩⟩
      · rw [State.restarts_fenced, s.fenced_unfence]; simp
      · exact State.restarts_ring (s := s.unfence f) _ _ ((List.nodup_finRange 64).filter _)
          (by simp [allRings, hon]) hbad
      · exact State.restarts_others _ _ (s.unfence f) hne q
      · rw [State.restarts_fenced, s.fenced_unfence]; simp [hne]
  · have ht := (State.leaseExpired_tenure ha hf hb).trans (State.revoked_tenure hexempt)
    simp only [State.tenure, Prod.mk.injEq] at ht
    obtain ⟨hglob, hfenced, hslots⟩ := ht
    have hfence : ∀ g, (s.leaseExpired f).fenced g = (s.fence f).fenced g := fun g => by
      rw [State.fenced, hfenced, State.fenced]
    refine ⟨_, rfl, ?_, fun x hx => ?_, fun x hx hne _ => ⟨x, ?_, rfl, rfl⟩, fun g hne => ?_, hglob⟩
    · rw [hfence, s.fenced_fence]; simp
    · rw [hslots, List.mem_filter, List.all_eq_true] at hx
      intro e
      simpa using hx.2 x (by simp [hx.1, e])
    · rw [hslots, List.mem_filter, List.all_eq_true]
      refine ⟨hx, fun y hy => ?_⟩
      simp only [List.mem_filter, decide_eq_true_eq] at hy ⊢
      intro e
      have hxy : x = y := List.inj_on_of_nodup_map hnd hx hy.1 e
      exact hne (hxy ▸ hy.2)
    · rw [hfence, s.fenced_fence]; simp [hne]

end Sys2Proof.Machine
end

section
/-!
PROOF. A descriptor that arrives alone (O20): its fetch, what it is checked against, its start and its completion.
-/

set_option Elab.async false  -- the joined text is large: no thread per declaration

namespace Sys2Proof.Machine

/-! ### What serving one ring changes -/

/-- Serving ring `r` of function `f` changes that ring, the slots, the turns, counts, messages and the registers of
`ex`. -/
def DescOnly (ex : List Nat) (s t : State) (f : Fin 16) (r : Fin 64) : Prop :=
  HostOnly s t ∧ RegsKept ex s t ∧ s.out <+: t.out ∧ ∀ g q, ¬ (g = f ∧ q = r) → t.ring g q = s.ring g q

section
variable {ex : List Nat} {s t u : State} {f : Fin 16} {r : Fin 64}

theorem DescOnly.trans (h : DescOnly ex s t f r) (k : DescOnly ex t u f r) : DescOnly ex s u f r := by
  obtain ⟨h1, h2, h3, h4⟩ := h
  obtain ⟨k1, k2, k3, k4⟩ := k
  refine ⟨?_, h2.trans k2, h3.trans k3, fun g q hg => (k4 g q hg).trans (h4 g q hg)⟩
  rw [HostOnly] at h1 k1 ⊢
  rw [k1, h1]

theorem RingOnly.desc (h : RingOnly ex s t f r) : DescOnly ex s t f r :=
  ⟨by rw [HostOnly, h.1], h.2.1, h.out, h.others⟩

theorem DescOnly.mono {ey : List Nat} (h : DescOnly ex s t f r) (k : ∀ a ∈ ex, a ∈ ey) : DescOnly ey s t f r :=
  ⟨h.1, h.2.1.mono k, h.2.2⟩

theorem DescOnly.slots (s : State) (n : Nat) (l : List Slot) :
    DescOnly ex s { s with hif := { s.hif with slots := l, nextSlot := n } } f r :=
  ⟨rfl, .refl _ _, List.prefix_refl _, fun _ _ _ => rfl⟩

theorem DescOnly.dropSlot (s : State) (id : Nat) : DescOnly ex s (s.dropSlot id) f r :=
  ⟨rfl, .refl _ _, List.prefix_refl _, fun _ _ _ => rfl⟩

theorem DescOnly.modSlot (s : State) (id : Nat) (g : Slot → Slot) : DescOnly ex s (s.modSlot id g) f r :=
  ⟨rfl, .refl _ _, List.prefix_refl _, fun _ _ _ => rfl⟩

theorem DescOnly.setReg (s : State) {q : RegId} {i j : Nat} (w : Word) (h : q.addr i j ∈ ex) :
    DescOnly ex s (s.setReg q i j w) f r :=
  ⟨rfl, .setReg s q i j w h, List.prefix_refl _, fun _ _ _ => rfl⟩

theorem DescOnly.part (h : DescOnly ex s t f r) : t.part = s.part := by rw [h.1]
theorem DescOnly.glob (h : DescOnly ex s t f r) : t.glob = s.glob := by rw [h.1]
theorem DescOnly.heads (h : DescOnly ex s t f r) : t.heads = s.heads := by rw [h.1]
theorem DescOnly.trk (h : DescOnly ex s t f r) : t.trk = s.trk := by rw [h.1]
theorem DescOnly.cwy (h : DescOnly ex s t f r) : t.cwy = s.cwy := by rw [h.1]
theorem DescOnly.aud (h : DescOnly ex s t f r) : t.aud = s.aud := by rw [h.1]
theorem DescOnly.fenced (h : DescOnly ex s t f r) (g : Fin 16) : t.fenced g = s.fenced g := by rw [h.1]; rfl

theorem DescOnly.reg (h : DescOnly ex s t f r) {q : RegId} {i j : Nat} (hq : q.addr i j ∉ ex) :
    t.reg q i j = s.reg q i j := h.2.1.reg h.part hq

theorem DescOnly.fld (h : DescOnly ex s t f r) {x : Fld} (hx : x.id.addr x.i x.j ∉ ex) : t.fld x = s.fld x := by
  rw [State.fld, h.reg hx, State.fld]

theorem DescOnly.alive (h : DescOnly ex s t f r) : t.alive = s.alive := by
  simp only [State.alive, State.frozen, h.glob]

/-- A completion names the head's place, which serving a ring does not change. -/
theorem DescOnly.cplOf (h : DescOnly ex s t f r) (x : Hdr) (st : Nat) (d : Word) : t.cplOf x st d = s.cplOf x st d := by
  simp only [State.cplOf, State.head, State.headPresent, h.heads, h.part]
  rfl

end

/-! ### Nothing moves on by itself -/

/-- No descriptor is in flight, every trick is open, no ring holds anything back or drains, and nothing sounds. -/
def State.Idle (s : State) : Prop :=
  s.hif.slots = [] ∧ (∀ k ∈ s.trk.tricks, k.phase = .opened) ∧ s.trk.shown = [] ∧
  (∀ f r, (s.ring f r).held = [] ∧ (s.ring f r).cqFullLogged = false ∧ (s.ring f r).phase ≠ .draining) ∧
  s.cwy.rx = [] ∧ s.mute = true

section
variable {s : State}

/-- Open tricks wait for their descriptors. -/
theorem State.settleTricks_opened (h : ∀ k ∈ s.trk.tricks, k.phase = .opened) : s.settleTricks = s := by
  have hopen : ∀ {key : Nat} {t : Trick}, s.trick key = some t → t.phase = .opened :=
    fun ht => h _ (List.mem_of_find?_eq_some ht)
  have hsettle : ∀ key, s.settleTrick key = s := fun key => by
    unfold State.settleTrick
    split
    · rfl
    · next t ht => simp only [hopen ht]
  have hanchor : ∀ key, s.reanchor key = s := fun key => by
    unfold State.reanchor
    split
    · rfl
    · next t ht => simp [hopen ht]
  have hfirst : s.trk.tricks.foldl (fun s t => s.settleTrick t.key) s = s :=
    foldl_same _ s _ (fun t _ => hsettle t.key)
  simp only [State.settleTricks, hfirst]
  exact foldl_same _ s _ (fun t _ => hanchor t.key)

theorem State.settleShown_nil (h : s.trk.shown = []) : s.settleShown = s := by
  have he : s.settleShown = { s with trk := { s.trk with shown := [] } } := by simp [State.settleShown, h]
  exact he.trans (congrArg (fun l => { s with trk := { s.trk with shown := l } }) h.symm)

theorem State.settleRings_calm (h : ∀ f r, (s.ring f r).held = [] ∧ (s.ring f r).cqFullLogged = false ∧
    (s.ring f r).phase ≠ .draining) : s.settleRings = s :=
  foldl_same _ s _ (fun e _ => by
    obtain ⟨hheld, hfull, hphase⟩ := h (ringOfKey e.1).1 (ringOfKey e.1).2
    simp [hheld, hfull, State.ringDrained, hphase])

theorem State.settleRound_idle (h : s.Idle) : s.settleRound = s := by
  obtain ⟨hslots, htricks, hshown, hrings, -⟩ := h
  simp [State.settleRound, hslots, State.settleTricks_opened htricks, State.settleShown_nil hshown,
    State.settleRings_calm hrings]

theorem State.settleRounds_idle (h : s.Idle) : ∀ n, s.settleRounds n = s
  | 0 => rfl
  | n + 1 => by rw [State.settleRounds, State.settleRound_idle h, State.settleRounds_idle h n]

theorem State.settle_idle (h : s.Idle) : s.settle = s := by
  unfold State.settle
  split
  · rfl
  · exact State.settleRounds_idle h _

theorem State.follow_idle (h : s.Idle) : s.follow = s := by
  obtain ⟨-, -, -, -, hrx, hmute⟩ := id h
  have hall : s.settleAll = s := by simp [State.settleAll, State.settle_idle h, hrx]
  rw [State.follow, hall, State.audReview_mute hmute]

theorem ringFind_cases (k : Nat) : ∀ l : List (Nat × RingSt), ringFind l k = {} ∨ ∃ e ∈ l, ringFind l k = e.2
  | [] => .inl rfl
  | (a, v) :: l => by
    simp only [ringFind]
    split
    · exact .inr ⟨(a, v), List.mem_cons_self .., rfl⟩
    · rcases ringFind_cases k l with h | ⟨e, he, h⟩
      · exact .inl h
      · exact .inr ⟨e, List.mem_cons_of_mem _ he, h⟩

/-- A ring is listed, or as it is before anything of it is. -/
theorem State.ring_cases (s : State) (f : Fin 16) (r : Fin 64) :
    s.ring f r = {} ∨ ∃ e ∈ s.hif.rings, s.ring f r = e.2 := ringFind_cases _ _

theorem State.rings_still {l : List Slot} (h : s.still l) (f : Fin 16) (r : Fin 64) :
    (s.ring f r).held = [] ∧ (s.ring f r).cqFullLogged = false ∧ (s.ring f r).phase ≠ .draining := by
  obtain ⟨-, -, -, -, hrings, -⟩ := h
  rcases s.ring_cases f r with he | ⟨e, he, hr⟩
  · rw [he]; exact ⟨rfl, rfl, by decide⟩
  · rw [hr]; exact hrings e he

end

/-- Registers that serving a descriptor of function `f` may change. -/
def descRegs (f : Fin 16) : List Nat := RegId.addr .PMC_OVF 0 0 :: RegId.addr .HIF_FN_LAT f 0 :: violRegs f

theorem audDomCtl_notMem_descRegs (f : Fin 16) (d : Fin 3) : RegId.addr .AUD_DOM_CTL d 0 ∉ descRegs f := by
  revert f d; decide +kernel

theorem playCtl_notMem_descRegs (f p : Fin 16) : RegId.addr .PLAY_CTL p 0 ∉ descRegs f := by
  revert f p; decide +kernel

/-- Once the descriptors of a still device are done, nothing moves on. -/
theorem DescOnly.idle {s t : State} {l : List Slot} {f : Fin 16} {r : Fin 64} (h : DescOnly (descRegs f) s t f r)
    (hs : s.still l) (hslots : t.hif.slots = []) (hheld : (t.ring f r).held = [])
    (hfull : (t.ring f r).cqFullLogged = (s.ring f r).cqFullLogged) (hphase : (t.ring f r).phase = (s.ring f r).phase) :
    t.Idle := by
  have hrings := State.rings_still hs
  obtain ⟨-, -, htricks, hshown, -, hrx, hmute⟩ := hs
  refine ⟨hslots, by rwa [h.trk], by rwa [h.trk], fun g q => ?_, by rwa [h.cwy], ?_⟩
  · by_cases hg : g = f ∧ q = r
    · obtain ⟨rfl, rfl⟩ := hg
      exact ⟨hheld, hfull.trans (hrings g q).2.1, by rw [hphase]; exact (hrings g q).2.2⟩
    · rw [h.2.2.2 g q hg]; exact hrings g q
  · exact State.mute_of hmute h.aud (fun d => h.reg (audDomCtl_notMem_descRegs f d))
      (fun p => h.reg (playCtl_notMem_descRegs f p)) (fun n => by simp only [State.head, h.heads])

/-! ### The fetch (R79, R85) -/

section
variable {s t : State} {f : Fin 16} {r : Fin 64}

theorem DescOnly.tookTurn {ex : List Nat} (s : State) (f : Fin 16) (r : Fin 64) : DescOnly ex s (s.tookTurn f r) f r :=
  ⟨rfl, .refl _ _, List.prefix_refl _, fun _ _ _ => rfl⟩

theorem State.hostWrite_sends (s : State) (fn a : Nat) (bs : List Byte) : Sends s (s.hostWrite fn a bs) (.hostWrite a bs) :=
  (Sends.emit s _).after (State.count_counted _ _ _ _ _).2.2.1

/-- A fetch reads the descriptor and writes the ring's index back. -/
theorem State.takeFetch_desc (s : State) (f : Fin 16) (r : Fin 64) :
    DescOnly [RegId.addr .PMC_OVF 0 0] s (s.takeFetch f r) f r ∧ (s.takeFetch f r).ring f r = (s.ring f r).fetched ∧
    (s.takeFetch f r).hif.slots = s.hif.slots ∧ (s.takeFetch f r).hif.nextSlot = s.hif.nextSlot ∧
    Sends s (s.takeFetch f r) (.hostRead ((s.ring f r).sq + 64 * (s.ring f r).cons) 64) ∧
    Sends s (s.takeFetch f r) (.hostWrite ((s.ring f r).db + 8) (leBytes 2 (s.ring f r).fetched.cons)) := by
  simp only [State.takeFetch]
  generalize hu : ((s.tookTurn f r).emit (.hostRead ((s.ring f r).sq + 64 * (s.ring f r).cons) 64)).count 0x01 0 1
    { fn := some f.val } = u
  have hc : Counted ((s.tookTurn f r).emit (.hostRead ((s.ring f r).sq + 64 * (s.ring f r).cons) 64)) u :=
    hu ▸ State.count_counted _ _ _ _ _
  have htook : DescOnly [RegId.addr .PMC_OVF 0 0] s u f r :=
    ((DescOnly.tookTurn s f r).trans ((Counted.emit _ _).ringOnly (by simp) f r).desc).trans (hc.ringOnly (by simp) f r).desc
  have hring : u.ring f r = s.ring f r := hc.ring f r
  have hread : Sends s u (.hostRead ((s.ring f r).sq + 64 * (s.ring f r).cons) 64) :=
    ((Sends.emit s _).congr rfl rfl : Sends s ((s.tookTurn f r).emit _) _).after hc.2.2.1
  generalize hv : u.modRing f r (fun g => { g with cons := ((s.ring f r).cons + 1) % 2 ^ (s.ring f r).log2n }) = v
  have hmod : DescOnly [RegId.addr .PMC_OVF 0 0] u v f r := hv ▸ (RingOnly.modRing u _).desc
  have hvring : v.ring f r = (s.ring f r).fetched := by rw [← hv, State.ring_modRing_self, hring]; rfl
  have hw := Counted.hostWrite v f ((s.ring f r).db + 8) (leBytes 2 (s.ring f r).fetched.cons)
  have hslots : v.hif.slots = s.hif.slots ∧ v.hif.nextSlot = s.hif.nextSlot := by
    rw [← hv]
    exact ⟨congrArg (·.slots) hc.hif, congrArg (·.nextSlot) hc.hif⟩
  refine ⟨(htook.trans hmod).trans (hw.ringOnly (by simp) f r).desc, ?_, ?_, ?_, ?_, ?_⟩
  · exact (hw.ring f r).trans hvring
  · exact (congrArg (·.slots) hw.hif).trans hslots.1
  · exact (congrArg (·.nextSlot) hw.hif).trans hslots.2
  · exact hread.after (hmod.2.2.1.trans hw.2.2.1)
  · exact Sends.before (htook.2.2.1.trans hmod.2.2.1) (v.hostWrite_sends _ _ _)

/-- The fetch with its bytes counted, before the descriptor has a slot. -/
def State.readDesc (s : State) (f : Fin 16) (r : Fin 64) : State :=
  (s.takeFetch f r).count 0x07 0 64 { fn := some f.val }

theorem State.readDesc_counted (s : State) (f : Fin 16) (r : Fin 64) : Counted (s.takeFetch f r) (s.readDesc f r) :=
  State.count_counted _ _ _ _ _

theorem State.readDesc_desc (s : State) (f : Fin 16) (r : Fin 64) :
    DescOnly [RegId.addr .PMC_OVF 0 0] s (s.readDesc f r) f r ∧ (s.readDesc f r).hif.nextSlot = s.hif.nextSlot ∧
    (s.readDesc f r).hif.slots = s.hif.slots := by
  obtain ⟨hdesc, -, hslots, hnext, -⟩ := s.takeFetch_desc f r
  have hc := s.readDesc_counted f r
  exact ⟨hdesc.trans (hc.ringOnly (by simp) f r).desc, (congrArg (·.nextSlot) hc.hif).trans hnext,
    (congrArg (·.slots) hc.hif).trans hslots⟩

/-- The state in which a descriptor fetched now stands in its slot. -/
def State.arrived (s : State) (type : Nat) (h : Hdr) (p : BitVec 448) : State :=
  ((s.readDesc h.fn h.ring).newSlot type h p).1

/-- A function's own registers, which its descriptors are checked against. -/
theorem fnRegs_notMem (f : Fin 16) : ∀ q ∈ [RegId.HIF_FN_CTL, .HIF_FN_TARN, .HIF_FN_DRAM, .HIF_FN_TYPES, .HIF_FN_SLOTS,
    .HIF_FN_LAT], q.addr f 0 ∉ [RegId.addr .PMC_OVF 0 0] := by
  revert f; decide

theorem pmap_notMem (f : Fin 16) (e : Fin 128) : RegId.addr .HIF_PMAP_RANGE f e ∉ [RegId.addr .PMC_OVF 0 0] ∧
    RegId.addr .HIF_PMAP_MASK f e ∉ [RegId.addr .PMC_OVF 0 0] := by
  simp only [show ∀ i j, RegId.addr .HIF_PMAP_RANGE i j = 0x14000 + i * 0x400 + j * 0x8 from fun _ _ => rfl,
    show ∀ i j, RegId.addr .HIF_PMAP_MASK i j = 0x14004 + i * 0x400 + j * 0x8 from fun _ _ => rfl,
    show RegId.addr .PMC_OVF 0 0 = 0x2C0008 from rfl, List.mem_singleton]
  omega

section
variable (h : DescOnly [RegId.addr .PMC_OVF 0 0] s t f r)
include h

theorem DescOnly.pmapMask (g : Fin 16) (a : Nat) : t.pmapMask g a = s.pmapMask g a := by
  refine List.foldl_ext _ _ _ (fun m e he => ?_)
  obtain ⟨hrange, hmask⟩ := pmap_notMem g ⟨e, List.mem_range.1 he⟩
  simp only [State.pmapHit, h.reg hrange, h.reg hmask]
  rfl

theorem DescOnly.masksOf (type : Nat) (g : Fin 16) (p : BitVec 448) : t.masksOf type g p = s.masksOf type g p := by
  have hwrite : ∀ a, t.writeMask g a = s.writeMask g a := fun a => by
    simp only [State.writeMask, h.pmapMask]
  have hquery : ∀ a, t.queryMask g a = s.queryMask g a := fun a => by
    simp only [State.queryMask, h.pmapMask]
  simp only [State.masksOf, hwrite, hquery]

theorem DescOnly.trickAt (x : Hdr) : t.trickAt x = s.trickAt x := by
  simp only [State.trickAt, State.trickOf, h.trk]

/-- The slot a descriptor takes does not depend on what its fetch changed; those of types 9 and 10 note channels too. -/
theorem DescOnly.slotOf (hnext : t.hif.nextSlot = s.hif.nextSlot) {type : Nat} (hblt : type ≠ 0x09) (hslu : type ≠ 0x0A)
    (x : Hdr) (p : BitVec 448) : t.slotOf type x p = s.slotOf type x p := by
  have hctl := h.reg (fnRegs_notMem x.fn .HIF_FN_CTL (by simp))
  have htarn := h.reg (fnRegs_notMem x.fn .HIF_FN_TARN (by simp))
  have hdram := h.reg (fnRegs_notMem x.fn .HIF_FN_DRAM (by simp))
  simp only [State.slotOf, State.newSlot, hnext, h.trickAt, h.masksOf, hctl, htarn, hdram, hblt, hslu, if_false]

/-- Checks 1 to 6 read nothing that a fetch changes. -/
theorem DescOnly.checkEarly (x : Slot) : t.checkEarly x = s.checkEarly x := by
  have htypes := h.reg (fnRegs_notMem x.hdr.fn .HIF_FN_TYPES (by simp))
  have hsession : t.flag F.GLB_TRUMP_SESSION_OPEN = s.flag F.GLB_TRUMP_SESSION_OPEN := by
    rw [State.flag, h.fld (by decide), State.flag]
  have hexcl : ∀ n : Fin 6, t.flag (F.TRUMP_CTL_SMB_EXCL n) = s.flag (F.TRUMP_CTL_SMB_EXCL n) := fun n => by
    rw [State.flag, h.fld (by revert n; decide +kernel), State.flag]
  have htrump : t.trumpOk x.hdr = s.trumpOk x.hdr := by
    simp only [State.trumpOk, hsession, hexcl]
  have hunits : t.unitsPresent x.type x.hdr = s.unitsPresent x.type x.hdr := by
    simp only [State.unitsPresent, State.headPresent, h.part]
  have hload : t.loadHead x.payload = s.loadHead x.payload := by
    simp only [State.loadHead, State.headPresent, h.part]
    rfl
  have hheads : t.headsAllowed x = s.headsAllowed x := by
    simp only [State.headsAllowed, hload]
  simp only [State.checkEarly, htypes, htrump, hunits, hheads, h.part]

end

/-- The device as a descriptor has arrived: its slot alone is in flight. -/
structure Arrived (s u : State) (type : Nat) (h : Hdr) (p : BitVec 448) : Prop where
  desc : DescOnly [RegId.addr .PMC_OVF 0 0] s u h.fn h.ring
  ring : u.ring h.fn h.ring = (s.ring h.fn h.ring).fetched
  slots : u.hif.slots = [s.slotOf type h p]
  next : u.hif.nextSlot = s.hif.nextSlot + 1
  reads : Sends s u (.hostRead ((s.ring h.fn h.ring).sq + 64 * (s.ring h.fn h.ring).cons) 64)
  writes : Sends s u (.hostWrite ((s.ring h.fn h.ring).db + 8) (leBytes 2 (s.ring h.fn h.ring).fetched.cons))

theorem State.readDesc_slot {type : Nat} (hblt : type ≠ 0x09) (hslu : type ≠ 0x0A) (s : State) (h : Hdr) (p : BitVec 448) :
    ((s.readDesc h.fn h.ring).newSlot type h p).2 = s.slotOf type h p := by
  obtain ⟨hdesc, hnext, -⟩ := s.readDesc_desc h.fn h.ring
  exact hdesc.slotOf hnext hblt hslu h p

theorem State.arrived_spec {type : Nat} {h : Hdr} {p : BitVec 448} (hslots : s.hif.slots = []) (hblt : type ≠ 0x09)
    (hslu : type ≠ 0x0A) : Arrived s (s.arrived type h p) type h p := by
  obtain ⟨-, hring, -, -, hread, hwrite⟩ := s.takeFetch_desc h.fn h.ring
  obtain ⟨hto, hunext, huslots⟩ := s.readDesc_desc h.fn h.ring
  have hc := s.readDesc_counted h.fn h.ring
  have hslot := State.readDesc_slot hblt hslu s h p
  have harr : s.arrived type h p = { s.readDesc h.fn h.ring with hif := { (s.readDesc h.fn h.ring).hif with
      slots := [s.slotOf type h p], nextSlot := s.hif.nextSlot + 1 } } := by
    rw [← hslot, ← hunext, State.arrived]
    simp only [State.newSlot, huslots, hslots, List.nil_append]
  generalize s.readDesc h.fn h.ring = u at *
  have hin : DescOnly [RegId.addr .PMC_OVF 0 0] u (s.arrived type h p) h.fn h.ring := by
    rw [harr]; exact DescOnly.slots u _ _
  refine ⟨hto.trans hin, ?_, by rw [harr], by rw [harr], hread.after (hc.2.2.1.trans hin.2.2.1),
    hwrite.after (hc.2.2.1.trans hin.2.2.1)⟩
  rw [harr]
  exact (hc.ring h.fn h.ring).trans hring

end

/-! ### The only descriptor in flight starts (R91, R93) -/

section
variable {s u v w : State} {x : Slot}

theorem State.slot_sole (hslots : u.hif.slots = [x]) : u.slot x.id = some x := by
  simp [State.slot, hslots]

theorem State.slot_none (hslots : u.hif.slots = []) (id : Nat) : u.slot id = none := by
  simp [State.slot, hslots]

theorem State.mayStart_sole (hslots : u.hif.slots = [x]) (hst : x.st.unstarted = true) : u.mayStart x = true := by
  simp [State.mayStart, State.ringSlots, hslots, hst]

/-- A descriptor without a trick meets no check of one. -/
theorem State.checkTrick_none (htrick : x.trick = none) (hwant : x.wantsTrick = false) : u.checkTrick x = none := by
  simp [State.checkTrick, State.wallLimits, htrick, hwant, need, firstOf]

theorem State.startSlot_sole (hslots : u.hif.slots = [x]) (hst : x.st = .waitStart) (htrick : x.trick = none)
    (hwant : x.wantsTrick = false) (hlate : u.checkLate x = none) :
    u.startSlot x.id = (u.runSlot x).settleTricks := by
  have hmay := State.mayStart_sole hslots (by rw [hst]; rfl)
  have hjoin : u.joinTrick x = (u, x) := by simp [State.joinTrick, hwant]
  simp only [State.startSlot, State.slot_sole hslots, hmay, hjoin, hst, State.checkTrick_none htrick hwant, hlate,
    Bool.not_true, Bool.false_eq_true, if_false]

/-- A round over a descriptor that is alone: its start, then what it may wait for. -/
theorem State.settleRound_sole (hslots : u.hif.slots = [x]) (hopen : ∀ k ∈ u.trk.tricks, k.phase = .opened)
    (hstart : u.startSlot x.id = w) (hunit : w.tryUnit x.id = w) (hstage : w.tryStage x.id = w)
    (hfence : w.tryFence x.id = v) (hidle : v.Idle) : u.settleRound = v := by
  obtain ⟨-, htricks, hshown, hrings, -⟩ := hidle
  simp only [State.settleRound, hslots, List.map_cons, List.map_nil, List.foldl_cons, List.foldl_nil,
    State.settleTricks_opened hopen, hstart, hunit, hstage, hfence, State.settleTricks_opened htricks,
    State.settleShown_nil hshown, State.settleRings_calm hrings]

theorem State.settle_sole (ha : u.alive = true) (hslots : u.hif.slots = [x]) (hround : u.settleRound = v)
    (hidle : v.Idle) : u.settle = v := by
  have hquiet : u.quiet = false := by simp [State.quiet, hslots]
  simp only [State.settle, hquiet, ha, Bool.not_true, Bool.or_self, Bool.false_eq_true, if_false, State.settleRounds,
    hround, State.settleRounds_idle hidle]

/-- A descriptor that has ended waits for nothing. -/
theorem State.settleRound_ended (hslots : u.hif.slots = [x]) (hopen : ∀ k ∈ u.trk.tricks, k.phase = .opened)
    (hstart : u.startSlot x.id = v) (hidle : v.Idle) : u.settleRound = v := by
  have hnone := State.slot_none hidle.1 x.id
  exact State.settleRound_sole hslots hopen hstart (by simp only [State.tryUnit, hnone])
    (by simp only [State.tryStage, hnone]) (by simp only [State.tryFence, hnone]) hidle

end

/-! ### The completion (R81, R97) -/

/-- A completion entry written: its bytes, and the place of the next. -/
theorem State.writeCpl_entry (s : State) (f : Fin 16) (r : Fin 64) (c : Cpl) :
    Sends s (s.writeCpl f r c) (.hostWrite ((s.ring f r).cq + (s.ring f r).cqProd * 16) (cplBytes (s.ring f r).cqPhase c)) ∧
    (s.writeCpl f r c).ring f r = { s.ring f r with
      cqProd := ((s.ring f r).cqProd + 1) % 2 ^ (s.ring f r).log2n
      cqPhase := if (s.ring f r).cqProd + 1 = 2 ^ (s.ring f r).log2n then !(s.ring f r).cqPhase else (s.ring f r).cqPhase
      holdoff := ((s.writeCpl f r c).ring f r).holdoff, holdoffDue := ((s.writeCpl f r c).ring f r).holdoffDue } := by
  have hw := Counted.hostWrite s f ((s.ring f r).cq + (s.ring f r).cqProd * 16) (cplBytes (s.ring f r).cqPhase c)
  have hsend := s.hostWrite_sends f ((s.ring f r).cq + (s.ring f r).cqProd * 16) (cplBytes (s.ring f r).cqPhase c)
  simp only [State.writeCpl]
  generalize hu : ((s.hostWrite f ((s.ring f r).cq + (s.ring f r).cqProd * 16) (cplBytes (s.ring f r).cqPhase c)).modRing
    f r (fun g => { g with
      cqProd := (g.cqProd + 1) % 2 ^ (s.ring f r).log2n
      cqPhase := if g.cqProd + 1 = 2 ^ (s.ring f r).log2n then !g.cqPhase else g.cqPhase })).count 0x02 0 1
    { fn := some f.val } = u
  have hc : Counted _ u := hu ▸ State.count_counted _ _ _ _ _
  have hring := hc.ring f r
  rw [State.ring_modRing_self, hw.ring] at hring
  have hsent : Sends s u _ := (hsend.congr rfl rfl : Sends s (State.modRing _ f r _) _).after hc.2.2.1
  have hbytes : (leBytes 2 c.tag.toNat ++ leBytes 1 c.status ++ leBytes 1 (b2n (s.ring f r).cqPhase) ++
      leBytes 4 c.frame.toNat ++ leBytes 2 c.line ++ leBytes 2 c.pixel ++ leBytes 4 c.detail.toNat) =
      cplBytes (s.ring f r).cqPhase c := rfl
  simp only [hbytes, hu]
  split
  · obtain ⟨honly, hmsg⟩ := u.ringMsg_only f r
    refine ⟨hsent.after honly.out, hmsg.trans ?_⟩
    rw [hring]
  · exact ⟨hsent, by rw [hring]⟩

section
variable {s u w : State} {type : Nat} {h : Hdr} {p : BitVec 448} {y : Slot} {ex : List Nat}

/-- A descriptor whose ring has room leaves with its entry written. -/
theorem State.endSlot_room {f : Fin 16} {r : Fin 64} (hheld : (w.ring f r).held = []) (hroom : (w.ring f r).hasRoom = true)
    (id : Nat) (c : Cpl) : w.endSlot id f r c = (w.writeCpl f r c).dropSlot id := by
  simp [State.endSlot, hheld, hroom]

theorem State.complete_room (hslots : w.hif.slots = [y]) (htrick : y.trick = none)
    (hheld : (w.ring y.hdr.fn y.hdr.ring).held = []) (hroom : (w.ring y.hdr.fn y.hdr.ring).hasRoom = true)
    (st : Nat) (d : Word) : w.complete y.id st d =
    (w.writeCpl y.hdr.fn y.hdr.ring (w.cplOf y.hdr st d)).dropSlot y.id := by
  have hspoil : w.spoilBy y st d = w := by simp only [State.spoilBy, htrick]
  rw [State.complete_of_slot (State.slot_sole hslots), hspoil, State.endSlot_room hheld hroom]

/-- The entry of the only descriptor in flight is written and its slot is free: nothing is left in flight. -/
theorem State.entry_last {f : Fin 16} {r : Fin 64} (hslots : w.hif.slots = [y]) (c : Cpl) :
    DescOnly [RegId.addr .PMC_OVF 0 0] w ((w.writeCpl f r c).dropSlot y.id) f r ∧
    ((w.writeCpl f r c).dropSlot y.id).hif.slots = [] ∧
    ((w.writeCpl f r c).dropSlot y.id).hif.nextSlot = w.hif.nextSlot := by
  have hslots' : (w.writeCpl f r c).hif.slots = [y] := (State.slots_of_plant (w.writeCpl_plant f r c)).trans hslots
  refine ⟨(w.writeCpl_only f r c).desc.trans (.dropSlot _ _), ?_, ?_⟩
  · simp [State.dropSlot, hslots']
  · have honly := (w.writeCpl_only f r c).1
    have : (w.writeCpl f r c).hif.nextSlot = w.hif.nextSlot := by rw [honly]
    exact this

/-- The only descriptor in flight answers and is gone; the device is as it was before the fetch but for what serving it
changes and the registers of `ex`. -/
theorem Arrived.answers (ha : Arrived s u type h p) (hs : s.still []) (hroom : (s.ring h.fn h.ring).hasRoom = true)
    (hw : DescOnly (RegId.addr .PMC_OVF 0 0 :: ex) u w h.fn h.ring) (hex : ∀ a ∈ ex, a ∈ descRegs h.fn)
    (hring : w.ring h.fn h.ring = u.ring h.fn h.ring) (hnext : w.hif.nextSlot = u.hif.nextSlot)
    (hslots : w.hif.slots = [y]) (hy : y.hdr = h) (htrick : y.trick = none) (st : Nat) (d : Word) :
    HostOnly s (w.complete y.id st d) ∧ Answers s (w.complete y.id st d) h ex st d ∧ (w.complete y.id st d).Idle ∧
    DescOnly [RegId.addr .PMC_OVF 0 0] w (w.complete y.id st d) h.fn h.ring := by
  subst hy
  have hwring := hring.trans ha.ring
  have hcalm := State.rings_still hs y.hdr.fn y.hdr.ring
  rw [State.complete_room hslots htrick (by rw [hwring]; exact hcalm.1) (by rw [hwring]; exact hroom)]
  have hto : DescOnly (RegId.addr .PMC_OVF 0 0 :: ex) s w y.hdr.fn y.hdr.ring := (ha.desc.mono (by simp)).trans hw
  obtain ⟨hlast, hnone, hkept⟩ := State.entry_last (f := y.hdr.fn) (r := y.hdr.ring) hslots (w.cplOf y.hdr st d)
  obtain ⟨hsend, hentry⟩ := w.writeCpl_entry y.hdr.fn y.hdr.ring (w.cplOf y.hdr st d)
  rw [hwring] at hsend
  have hcpl := hto.cplOf y.hdr st d
  generalize hc : w.cplOf y.hdr st d = c at *
  have hall := hto.trans (hlast.mono (by simp))
  have hend : w.out <+: ((w.writeCpl y.hdr.fn y.hdr.ring c).dropSlot y.id).out := hlast.2.2.1
  have hvring : ((w.writeCpl y.hdr.fn y.hdr.ring c).dropSlot y.id).ring y.hdr.fn y.hdr.ring =
    (w.writeCpl y.hdr.fn y.hdr.ring c).ring y.hdr.fn y.hdr.ring := rfl
  rw [hwring] at hentry
  refine ⟨hall.1, ⟨⟨?_, ?_, ?_, hall.2.2.2⟩, ⟨?_, ?_⟩, hnone, hall.2.1⟩, ?_, hlast⟩
  · exact ha.reads.after (hw.2.2.1.trans hend)
  · exact ha.writes.after (hw.2.2.1.trans hend)
  · rw [hkept, hnext, ha.next]
  · rw [← hcpl]; exact Sends.before hto.2.2.1 (hsend.congr rfl rfl)
  · exact hvring.trans hentry
  · refine (hall.mono ?_).idle hs hnone ?_ ?_ ?_
    · intro a hmem
      rcases List.mem_cons.1 hmem with rfl | hmem
      · simp [descRegs]
      · exact hex a hmem
    · rw [hvring, hentry]; exact hcalm.1
    · rw [hvring, hentry]; rfl
    · rw [hvring, hentry]; rfl

end

/-! ### A descriptor without a trick and without source data -/

section
variable {s v : State} {type : Nat} {h : Hdr} {p : BitVec 448}

/-- Types without a trick, source data or a unit: NOP, FENCE, QUERY and LAT_TOL. -/
def plainType (type : Nat) : Bool := type = 0x00 || type = 0x0D || type = 0x0E || type = 0x0F

theorem plainType_cases (hplain : plainType type = true) : type = 0x00 ∨ type = 0x0D ∨ type = 0x0E ∨ type = 0x0F := by
  simpa [plainType, or_assoc] using hplain

/-- Checks 8 to 10 of these types read nothing but the descriptor. -/
theorem State.checkLate_plain {x : Slot} (hplain : plainType x.type = true) (s t : State) :
    s.checkLate x = t.checkLate x := by
  rcases plainType_cases hplain with h | h | h | h <;>
    simp [State.checkLate, State.check8, State.check9, State.check10, State.devRanges, h]

theorem need_none {b : Bool} {v : Verdict} (h : need b (some v) = none) : b = true := by
  cases b
  · simp [need] at h
  · rfl

theorem firstOf_none {l : List (Option Verdict)} (h : firstOf l = none) : ∀ o ∈ l, o = none := by
  induction l with
  | nil => simp
  | cons o l ih =>
    cases o with
    | some v => simp [firstOf] at h
    | none => simpa using ih (by simpa [firstOf] using h)

/-- The header of a type without a trick has passed check 2: TRICK is 0. -/
theorem State.trick_zero (hplain : plainType type = true) (hearly : s.checkEarly (s.slotOf type h p) = none) :
    h.trick = 0 := by
  have hfield := need_none (firstOf_none hearly _ (List.mem_cons_of_mem _ (List.mem_cons_self ..)))
  have hneed : trickNeed type = 0 := by rcases plainType_cases hplain with rfl | rfl | rfl | rfl <;> rfl
  simp only [State.slotOf, State.newSlot, headerOk, hneed, Bool.and_eq_true] at hfield
  obtain ⟨⟨-, htrick⟩, -⟩ := hfield
  exact of_decide_eq_true htrick

theorem State.takes_arrived (hplain : plainType type = true) (ht : s.takes type h p) :
    Arrived s (s.arrived type h p) type h p ∧ (s.slotOf type h p).trick = none ∧ (s.slotOf type h p).wantsTrick = false ∧
    (s.arrived type h p).alive = true ∧ (∀ k ∈ (s.arrived type h p).trk.tricks, k.phase = .opened) ∧
    s.fetch type h p = (s.arrived type h p).settle := by
  obtain ⟨hs, hcan, hroom, hearly, -, -⟩ := ht
  have hzero := State.trick_zero hplain hearly
  have hne : type ≠ 0x09 ∧ type ≠ 0x0A ∧ type ≠ 0x02 := by
    refine ⟨?_, ?_, ?_⟩ <;> (rintro rfl; revert hplain; decide)
  obtain ⟨hblt, hslu, hcommit⟩ := hne
  have ha := State.arrived_spec (type := type) (h := h) (p := p) hs.2.1 hblt hslu
  have htrick : (s.slotOf type h p).trick = none := by
    simp [State.slotOf, State.newSlot, State.trickAt, hzero]
  refine ⟨ha, htrick, by simp [Slot.wantsTrick, State.slotOf, State.newSlot, hzero], by rw [ha.desc.alive]; exact hs.1,
    by rw [ha.desc.trk]; exact hs.2.2.1, ?_⟩
  have hcheck : (s.arrived type h p).checkEarly (s.slotOf type h p) = none := (ha.desc.checkEarly _).trans hearly
  have hclose : ∀ t : State, t.closeTrick (s.slotOf type h p) = t := fun t => by
    simp only [State.closeTrick, htrick]
  rw [State.arrived] at hcheck ⊢
  rw [← State.readDesc_slot hblt hslu s h p] at hcheck hclose
  rw [State.readDesc] at *
  simp only [State.fetch, hcan, Bool.not_true, Bool.false_eq_true, if_false, hcheck, hclose]

/-- What starts at once and ends at once leaves the device as its end does. -/
theorem State.takes_runs (hplain : plainType type = true) (ht : s.takes type h p)
    (hrun : (s.arrived type h p).runSlot (s.slotOf type h p) = v) (hidle : v.Idle) : (s.fetch type h p).follow = v := by
  obtain ⟨ha, htrick, hwant, halive, hopen, hfetch⟩ := State.takes_arrived hplain ht
  have hlate : (s.arrived type h p).checkLate (s.slotOf type h p) = none :=
    (State.checkLate_plain (x := s.slotOf type h p) hplain _ s).trans ht.2.2.2.2.2
  have hstart := State.startSlot_sole ha.slots rfl htrick hwant hlate
  rw [hrun, State.settleTricks_opened hidle.2.1] at hstart
  rw [hfetch, State.settle_sole halive ha.slots (State.settleRound_ended ha.slots hopen hstart hidle) hidle,
    State.follow_idle hidle]

theorem DescOnly.refl {ex : List Nat} {f : Fin 16} {r : Fin 64} : DescOnly ex s s f r :=
  ⟨rfl, .refl _ _, List.prefix_refl _, fun _ _ _ => rfl⟩

/-- A descriptor that only completes answers with what it completes with. -/
theorem State.takes_completes (hplain : plainType type = true) (ht : s.takes type h p) {d : Word}
    (hrun : (s.arrived type h p).runSlot (s.slotOf type h p) =
      (s.arrived type h p).complete (s.slotOf type h p).id stDone d) :
    HostOnly s (s.fetch type h p).follow ∧ Answers s (s.fetch type h p).follow h [] stDone d := by
  obtain ⟨ha, htrick, -⟩ := State.takes_arrived hplain ht
  obtain ⟨hhost, hans, hidle, -⟩ := ha.answers (ex := []) ht.1 ht.2.2.1 .refl (by simp) rfl rfl ha.slots rfl htrick stDone d
  rw [State.takes_runs hplain ht hrun hidle]
  exact ⟨hhost, hans⟩

theorem State.runSlot_latTol {x : Slot} (htype : x.type = 0x0F) (u : State) : u.runSlot x =
    (u.setReg .HIF_FN_LAT x.hdr.fn 0 (BitVec.ofNat 32 (pay x.payload 8 4))).complete x.id stDone 0 := by
  simp only [State.runSlot, htype]

theorem State.takes_latTol (ht : s.takes 0x0F h p) : HostOnly s (s.fetch 0x0F h p).follow ∧
    Answers s (s.fetch 0x0F h p).follow h [RegId.addr .HIF_FN_LAT h.fn 0] stDone 0 ∧
    (s.fetch 0x0F h p).follow.reg .HIF_FN_LAT h.fn 0 = BitVec.ofNat 32 (pay p 8 4) := by
  obtain ⟨ha, htrick, -⟩ := State.takes_arrived rfl ht
  have hset : DescOnly (RegId.addr .PMC_OVF 0 0 :: [RegId.addr .HIF_FN_LAT h.fn 0]) (s.arrived 0x0F h p)
      ((s.arrived 0x0F h p).setReg .HIF_FN_LAT h.fn 0 (BitVec.ofNat 32 (pay p 8 4))) h.fn h.ring := .setReg _ _ (by simp)
  obtain ⟨hhost, hans, hidle, hlast⟩ := ha.answers ht.1 ht.2.2.1 hset (by simp [descRegs])
    (by simp only [State.ring, State.setReg_hif]) (by rw [State.setReg_hif]) (by rw [State.setReg_hif]; exact ha.slots) rfl
    htrick stDone 0
  rw [State.takes_runs rfl ht (State.runSlot_latTol rfl _) hidle]
  exact ⟨hhost, hans, (hlast.reg (fnRegs_notMem h.fn .HIF_FN_LAT (by simp))).trans (State.reg_setReg_self _ _ _ _ _)⟩

/-- A FENCE completes when nothing is before it and its frame has come. -/
theorem State.tryFence_sole {w : State} {y : Slot} (hslots : w.hif.slots = [y]) (hst : y.st = .fence [])
    (hframe : ∀ n, y.hdr.headFin = some n → pay y.payload 9 1 = 1 →
      ((w.head n).frame - BitVec.ofNat 32 (pay y.payload 12 4)).toNat < 2 ^ 31) :
    w.tryFence y.id = w.complete y.id stDone 0 := by
  simp only [State.tryFence, State.slot_sole hslots, hst]
  cases hn : y.hdr.headFin with
  | none => simp
  | some n =>
    have hlate : pay y.payload 9 1 = 1 → ¬ 2 ^ 31 ≤ ((w.head n).frame - BitVec.ofNat 32 (pay y.payload 12 4)).toNat :=
      fun h1 => Nat.not_le.2 (hframe n hn h1)
    refine if_neg ?_
    simp only [hslots, List.contains_nil, Bool.false_and, List.any_cons, List.any_nil, Bool.false_or, Bool.and_eq_true,
      decide_eq_true_eq, not_and]
    exact hlate

/-- A FENCE with nothing before it waits for its frame alone. -/
theorem State.takes_fence (ht : s.takes 0x0D h p) (hframe : ∀ n, h.headFin = some n → pay p 9 1 = 1 →
    ((s.head n).frame - BitVec.ofNat 32 (pay p 12 4)).toNat < 2 ^ 31) :
    HostOnly s (s.fetch 0x0D h p).follow ∧ Answers s (s.fetch 0x0D h p).follow h [] stDone 0 := by
  obtain ⟨ha, htrick, hwant, halive, hopen, hfetch⟩ := State.takes_arrived rfl ht
  have hlate : (s.arrived 0x0D h p).checkLate (s.slotOf 0x0D h p) = none :=
    (State.checkLate_plain (x := s.slotOf 0x0D h p) rfl _ s).trans ht.2.2.2.2.2
  have hhdr : (s.slotOf 0x0D h p).hdr = h := rfl
  have hpay : (s.slotOf 0x0D h p).payload = p := rfl
  have hst : (s.slotOf 0x0D h p).st = .waitStart := rfl
  have htype : (s.slotOf 0x0D h p).type = 0x0D := rfl
  have hslots := ha.slots
  generalize hy : ({ s.slotOf 0x0D h p with st := .fence [] } : Slot) = y
  generalize s.slotOf 0x0D h p = x at *
  generalize s.arrived 0x0D h p = u at *
  generalize hw : u.modSlot x.id (fun y => { y with st := .fence [] }) = w
  have hwslots : w.hif.slots = [y] := by rw [← hw, ← hy]; simp [State.modSlot, hslots]
  have hid : y.id = x.id := by rw [← hy]
  have hyst : y.st = .fence [] := by rw [← hy]
  have hdesc : DescOnly (RegId.addr .PMC_OVF 0 0 :: []) u w h.fn h.ring := hw ▸ .modSlot _ _ _
  have hrun : u.runSlot x = w := by
    simp [State.runSlot, htype, State.startFence, hslots, ← hw]
  have hstart := State.startSlot_sole hslots hst htrick hwant hlate
  rw [hrun, State.settleTricks_opened (by rw [hdesc.trk]; exact hopen)] at hstart
  obtain ⟨hhost, hans, hidle, -⟩ := ha.answers ht.1 ht.2.2.1 hdesc (by simp) (by rw [← hw]; rfl) (by rw [← hw]; rfl) hwslots
    (by rw [← hy]; exact hhdr) (by rw [← hy]; exact htrick) stDone 0
  have hslot := State.slot_sole hwslots
  rw [hid] at hslot
  have hfence : w.tryFence x.id = w.complete y.id stDone 0 := by
    rw [← hid]
    refine State.tryFence_sole hwslots hyst (fun n hn h1 => ?_)
    rw [← hy] at hn h1 ⊢
    have hhead : w.head n = s.head n := by simp only [State.head, hdesc.heads, ha.desc.heads]
    rw [hhead]
    exact (hpay ▸ hframe) n (hhdr ▸ hn) h1
  have hround := State.settleRound_sole hslots hopen hstart (by simp [State.tryUnit, hslot, hyst])
    (by simp [State.tryStage, hslot, hyst]) hfence hidle
  rw [hfetch, State.settle_sole halive hslots hround hidle, State.follow_idle hidle]
  exact ⟨hhost, hans⟩

end

/-! ### What a QUERY reads (R76, R469) -/

/-- Registers of which a unit gives a field, or whose read has an effect. -/
def unitRegs : List RegId :=
  [.GLB_MODE, .HIF_STATUS, .HIF_FN_SLOTS, .HIF_FN_CTL, .HIF_RING_STATUS, .TRK_STATUS, .TRK_FN_OPEN, .MEM_POOL_STATUS,
   .MEM_FN_POOL, .HEAD_STAT, .FRAME, .BEAM_COMP, .BEAM_SCAN, .TRUMP_STAT, .PACE_STAT, .DP_STAT, .SEQ_STAT, .SEQ_TAG, .SEQ_G,
   .BLT_STATUS, .SLU_STATUS, .SLU_STAGE, .SLU_FENCED, .SLU_STAT, .AUD_STAT, .AUD_DOM_STAT, .AUD_RAMP, .VOICE_STAT,
   .PLAY_STAT, .ASINK_STAT, .TMR_COUNT, .TMR_CAP, .TMR_STAT, .GPIO_IN, .GPIO_STAT, .GPIO_PM_STAT, .CWY_CTL, .CWY_ID,
   .CWY_STAT, .CWY_WALL_FRAME, .CWY_TREE, .CWY_MAX_PATH, .CWY_PORT_STAT, .PWR_STAT, .PWR_TOL, .PMC_LO, .PMC_HI,
   .DBG_FRZ_STAT]

/-- A register of a trick or line class: no unit gives a field of it, its read has no effect, no bit of it is write-only,
and it lies outside the blocks of counters and debug, the fault ring among them. -/
theorem stagedRow_spec : ∀ r ∈ allRegs, r.row.cls = .trick ∨ r.row.cls = .line →
    r ∉ unitRegs ∧ r.row.wo = 0 ∧ (r.row.base + r.row.n1 * r.row.s1 + r.row.n2 * r.row.s2 < 0x2C0000 ∨
      0x2E0000 ≤ r.row.base) := by
  decide +kernel

theorem decodeIn_spec (a : Nat) : ∀ (l : List RegId) {r : RegId} {i j : Nat}, decodeIn a l = some (r, i, j) →
    r ∈ l ∧ a = r.addr i j ∧ i < r.row.n1 ∧ j < r.row.n2
  | [], _, _, _, h => by simp [decodeIn] at h
  | q :: l, r, i, j, h => by
    have hlater : decodeIn a l = some (r, i, j) → r ∈ q :: l ∧ a = r.addr i j ∧ i < r.row.n1 ∧ j < r.row.n2 := fun h => by
      obtain ⟨hmem, hin⟩ := decodeIn_spec a l h
      exact ⟨List.mem_cons_of_mem _ hmem, hin⟩
    have hdiv : ∀ d s : Nat, d = (if s = 0 then 0 else d / s) * s + if s = 0 then d else d % s := fun d s => by
      by_cases h0 : s = 0
      · simp [h0]
      · simpa [h0] using (Nat.div_add_mod' d s).symm
    have h1 := hdiv (a - q.row.base) q.row.s1
    have h2 := hdiv (if q.row.s1 = 0 then a - q.row.base else (a - q.row.base) % q.row.s1) q.row.s2
    rw [decodeIn] at h
    by_cases hbase : a < q.row.base
    · rw [if_pos hbase] at h
      exact hlater h
    · rw [if_neg hbase] at h
      dsimp only at h
      generalize (if q.row.s1 = 0 then 0 else (a - q.row.base) / q.row.s1) = i' at h h1
      generalize (if q.row.s1 = 0 then a - q.row.base else (a - q.row.base) % q.row.s1) = d at h h1 h2
      generalize (if q.row.s2 = 0 then 0 else d / q.row.s2) = j' at h h2
      generalize (if q.row.s2 = 0 then d else d % q.row.s2) = e at h h2
      split at h
      · next hfit =>
        obtain ⟨hi, hj, hrest⟩ := hfit
        simp only [Option.some.injEq, Prod.mk.injEq] at h
        obtain ⟨rfl, rfl, rfl⟩ := h
        exact ⟨List.mem_cons_self .., by rw [RegId.addr]; omega, hi, hj⟩
      · exact hlater h

section
variable {r : RegId} (h : r ∉ unitRegs)
include h

theorem State.derivedA_other (s : State) (i j : Nat) (w : Word) : s.derivedA r i j w = w := by
  unfold State.derivedA
  split <;> simp_all [unitRegs]

theorem State.derivedB_other (s : State) (i j : Nat) (w : Word) : s.derivedB r i j w = w := by
  unfold State.derivedB
  split <;> simp_all [unitRegs]

theorem State.derivedC_other (s : State) (i j : Nat) (w : Word) : s.derivedC r i j w = w := by
  unfold State.derivedC
  split <;> simp_all [unitRegs]

theorem State.readEffect_other (s : State) (i j : Nat) : s.readEffect r i j = s := by
  unfold State.readEffect
  split
  · rfl
  · split <;> simp_all [unitRegs]

end

section
variable {s t : State}

theorem decodeReg_staged {a i j : Nat} {r : RegId} (hdec : decodeReg a = some (r, i, j))
    (hcls : r.row.cls = .trick ∨ r.row.cls = .line) : a = r.addr i j ∧ (a < 0x2C0000 ∨ 0x2E0000 ≤ a) := by
  obtain ⟨hmem, haddr, hi, hj⟩ := decodeIn_spec a allRegs hdec
  obtain ⟨-, -, hrange⟩ := stagedRow_spec r hmem hcls
  have h1 := Nat.mul_le_mul_right r.row.s1 hi.le
  have h2 := Nat.mul_le_mul_right r.row.s2 hj.le
  refine ⟨haddr, ?_⟩
  rw [haddr, RegId.addr]
  omega

/-- Reading a present register of a trick or line class gives its committed value and does nothing. -/
theorem State.bar0_staged {a i j : Nat} {r : RegId} (hdec : decodeReg a = some (r, i, j)) (hpres : s.regPresent r i j = true)
    (hcls : r.row.cls = .trick ∨ r.row.cls = .line) : s.bar0 a = s.reg r i j ∧ s.readEffect r i j = s := by
  obtain ⟨hunit, hwo, -⟩ := stagedRow_spec r (decodeIn_spec a allRegs hdec).1 hcls
  have hout : ¬ (fltBase ≤ a ∧ a < fltBase + 32768) := by
    have hrange := (decodeReg_staged hdec hcls).2
    rw [show fltBase = 0x2D8000 from rfl]
    omega
  refine ⟨?_, State.readEffect_other hunit s i j⟩
  simp only [State.bar0, if_neg hout, hdec, State.readReg, hpres, State.derivedA_other hunit, State.derivedB_other hunit,
    State.derivedC_other hunit, hwo, Bool.not_true, Bool.false_eq_true, if_false]
  exact BitVec.and_allOnes

/-- GLB_MODE is given by the modes of the device and its heads. -/
theorem State.readReg_glbMode (hglob : t.glob = s.glob) (hheads : t.heads = s.heads) :
    t.readReg .GLB_MODE 0 0 = s.readReg .GLB_MODE 0 0 := by
  have hpres : ∀ u : State, u.regPresent .GLB_MODE 0 0 = true := fun u =>
    u.regPresent_low (by decide) (by decide) (by decide)
  simp only [State.readReg, hpres, State.derivedA, State.derivedB, State.derivedC, State.head, hglob, hheads]

theorem State.readReg_fnSlots (s : State) (f : Fin 16) : s.readReg .HIF_FN_SLOTS f 0 =
    putBits (s.reg .HIF_FN_SLOTS f 0) 28 16 (s.slotsOf f) := by
  have hpres : s.regPresent .HIF_FN_SLOTS f 0 = true :=
    s.regPresent_low (by revert f; decide) (by revert f; decide) (by decide)
  simp only [State.readReg, hpres, State.derivedA, State.derivedB, State.derivedC, atIdx, f.isLt, dif_pos, putF,
    show (RegId.HIF_FN_SLOTS.row).wo = 0 from rfl, Bool.not_true, Bool.false_eq_true, if_false]
  exact BitVec.and_allOnes

end

section
variable {s : State} {h : Hdr} {p : BitVec 448}

/-- A QUERY answers with a value that no fetch changes. -/
theorem State.takes_query (ht : s.takes 0x0E h p) {d : Word} (hrun : (s.arrived 0x0E h p).startQuery (s.slotOf 0x0E h p) =
      (s.arrived 0x0E h p).complete (s.slotOf 0x0E h p).id stDone d) :
    HostOnly s (s.fetch 0x0E h p).follow ∧ Answers s (s.fetch 0x0E h p).follow h [] stDone d := by
  have htype : (s.slotOf 0x0E h p).type = 0x0E := rfl
  refine State.takes_completes rfl ht (Eq.trans ?_ hrun)
  simp only [State.runSlot, htype]

theorem State.queryMode (ht : s.takes 0x0E h p) (hitem : pay p 8 1 = 1) : HostOnly s (s.fetch 0x0E h p).follow ∧
    Answers s (s.fetch 0x0E h p).follow h [] stDone (s.readReg .GLB_MODE 0 0) := by
  have ha := (State.takes_arrived rfl ht).1
  have hpay : (s.slotOf 0x0E h p).payload = p := rfl
  refine State.takes_query ht ?_
  simp only [State.startQuery, hpay, hitem, State.readReg_glbMode ha.desc.glob ha.desc.heads]

/-- The only slot a function holds is counted for it. -/
theorem Arrived.slotsOf {u : State} {type : Nat} (ha : Arrived s u type h p) : u.slotsOf h.fn = 1 := by
  have hfn : (s.slotOf type h p).hdr.fn = h.fn := rfl
  simp [State.slotsOf, ha.slots, hfn]

theorem State.querySlots (ht : s.takes 0x0E h p) (hitem : pay p 8 1 = 2) : HostOnly s (s.fetch 0x0E h p).follow ∧
    Answers s (s.fetch 0x0E h p).follow h [] stDone (putBits (s.reg .HIF_FN_SLOTS h.fn 0) 28 16 1) := by
  have ha := (State.takes_arrived rfl ht).1
  have hpay : (s.slotOf 0x0E h p).payload = p := rfl
  have hfn : (s.slotOf 0x0E h p).hdr.fn = h.fn := rfl
  have hreg := ha.desc.reg (fnRegs_notMem h.fn .HIF_FN_SLOTS (by simp))
  refine State.takes_query ht ?_
  simp only [State.startQuery, hpay, hfn, hitem, State.readReg_fnSlots, ha.slotsOf, hreg]

/-- A ring that is fetched from belongs to a function that is enabled and not fenced, and is not quarantined. -/
theorem State.canFetch_spec {f : Fin 16} {r : Fin 64} (hcan : s.canFetch f r = true) :
    s.flag (F.HIF_FN_CTL_EN f) = true ∧ s.fenced f = false ∧ (s.ring f r).quar = false := by
  simp only [State.canFetch, State.ringReady, State.fnEnabled, Bool.and_eq_true, Bool.not_eq_true'] at hcan
  obtain ⟨⟨⟨⟨⟨⟨⟨⟨⟨⟨-, hquar⟩, -⟩, -⟩, -⟩, -⟩, ⟨hen, -⟩⟩, hfenced⟩, -⟩, -⟩, -⟩ := hcan
  exact ⟨hen, hfenced, hquar⟩

theorem State.queryFnStatus (ht : s.takes 0x0E h p) (hitem : pay p 8 1 = 3) : HostOnly s (s.fetch 0x0E h p).follow ∧
    Answers s (s.fetch 0x0E h p).follow h [] stDone
      (BitVec.ofNat 32 (2 ^ 30 + 2 ^ 16 + s.fld (F.HIF_FN_SLOTS_QUOTA h.fn))) := by
  have ha := (State.takes_arrived rfl ht).1
  obtain ⟨hen, hfenced, -⟩ := State.canFetch_spec ht.2.1
  have hpay : (s.slotOf 0x0E h p).payload = p := rfl
  have hfn : (s.slotOf 0x0E h p).hdr.fn = h.fn := rfl
  have hquota := ha.desc.fld (x := F.HIF_FN_SLOTS_QUOTA h.fn) (fnRegs_notMem h.fn .HIF_FN_SLOTS (by simp))
  have hflag : (s.arrived 0x0E h p).flag (F.HIF_FN_CTL_EN h.fn) = true := by
    rw [State.flag, ha.desc.fld (x := F.HIF_FN_CTL_EN h.fn) (fnRegs_notMem h.fn .HIF_FN_CTL (by simp))]
    exact hen
  refine State.takes_query ht ?_
  simp only [State.startQuery, hpay, hfn, hitem, State.fnStatus, ha.slotsOf, hquota, hflag, ha.desc.fenced, hfenced, b2n,
    Bool.false_eq_true, if_false, if_true, Nat.zero_mul, Nat.one_mul, Nat.zero_add]

theorem State.queryLastTrick (ht : s.takes 0x0E h p) (hitem : pay p 8 1 = 4) : HostOnly s (s.fetch 0x0E h p).follow ∧
    Answers s (s.fetch 0x0E h p).follow h [] stDone (s.reg .TRK_HD_LAST_ID h.head 0) := by
  have ha := (State.takes_arrived rfl ht).1
  have hpay : (s.slotOf 0x0E h p).payload = p := rfl
  have hhead : (s.slotOf 0x0E h p).hdr.head = h.head := rfl
  have hreg := ha.desc.reg (q := .TRK_HD_LAST_ID) (i := h.head) (j := 0) (by
    have hlt : h.head < 8 := Nat.mod_lt _ (by decide)
    generalize h.head = n at hlt
    interval_cases n <;> decide)
  refine State.takes_query ht ?_
  simp only [State.startQuery, hpay, hhead, hitem, hreg]

theorem State.queryRegister (ht : s.takes 0x0E h p) (hitem : pay p 8 1 = 0) {r : RegId} {i j : Nat}
    (hdec : decodeReg (pay p 12 4) = some (r, i, j)) (hpres : s.regPresent r i j = true)
    (hcls : r.row.cls = .trick ∨ r.row.cls = .line) : HostOnly s (s.fetch 0x0E h p).follow ∧
    Answers s (s.fetch 0x0E h p).follow h [] stDone (s.reg r i j) := by
  have ha := (State.takes_arrived rfl ht).1
  have hpay : (s.slotOf 0x0E h p).payload = p := rfl
  have hpres' : (s.arrived 0x0E h p).regPresent r i j = true := by
    refine Eq.trans ?_ hpres
    simp only [State.regPresent, State.absentWindow, State.headPresent, ha.desc.part]
  obtain ⟨hval, heffect⟩ := State.bar0_staged hdec hpres' hcls
  have hreg : (s.arrived 0x0E h p).reg r i j = s.reg r i j := ha.desc.reg (by
    obtain ⟨haddr, hrange⟩ := decodeReg_staged hdec hcls
    rw [← haddr, List.mem_singleton, show RegId.addr .PMC_OVF 0 0 = 0x2C0008 from rfl]
    omega)
  refine State.takes_query ht ?_
  simp only [State.startQuery, hpay, hitem, hdec, hval, heffect, hreg]

end

/-! ### A descriptor of an unknown type (R91, R98, R104) -/

section
variable {s t u w : State} {f : Fin 16} {r : Fin 64} {ex : List Nat}

/-- The device with other free words drawn and other tricks. -/
def State.withTricks (s : State) (n : Nat) (k : Trk) : State := { s with free := n, trk := k }

/-- Serving a ring does not depend on what words were drawn and which tricks there are. -/
theorem DescOnly.withTricks (h : DescOnly ex s t f r) (n : Nat) (k : Trk) :
    DescOnly ex (s.withTricks n k) (t.withTricks n k) f r := by
  obtain ⟨hhost, hregs, hout, hothers⟩ := h
  refine ⟨?_, hregs, hout, hothers⟩
  rw [HostOnly] at hhost ⊢
  rw [hhost]
  rfl

/-- A descriptor that fails spoils its trick at most, which stays open. -/
theorem State.spoilBy_spec (s : State) (x : Slot) (st : Nat) (d : Word) : ∃ k : Trk,
    s.spoilBy x st d = { s with trk := k } ∧ k.shown = s.trk.shown ∧
    ((∀ t ∈ s.trk.tricks, t.phase = .opened) → ∀ t ∈ k.tricks, t.phase = .opened) := by
  have hsame : ∃ k : Trk, s = { s with trk := k } ∧ k.shown = s.trk.shown ∧
      ((∀ t ∈ s.trk.tricks, t.phase = .opened) → ∀ t ∈ k.tricks, t.phase = .opened) := ⟨s.trk, rfl, rfl, id⟩
  unfold State.spoilBy
  split
  · split
    · refine ⟨_, rfl, rfl, fun hopen t ht => ?_⟩
      obtain ⟨t', ht', rfl⟩ := List.mem_map.1 ht
      dsimp only
      split
      · split <;> exact hopen t' ht'
      · exact hopen t' ht'
    · exact hsame
  · exact hsame

/-- A descriptor that names a trick opened since its fetch joins it; it stays the only slot, with its header. -/
theorem State.joinTrick_failing {y : Slot} {v : Verdict} (hslots : u.hif.slots = [y]) (hst : y.st = .failing v) :
    ∃ z z' : Slot, u.joinTrick y = ({ u with hif := { u.hif with slots := [z] } }, z') ∧ z.id = y.id ∧ z.hdr = y.hdr ∧
    z'.st = .failing v := by
  unfold State.joinTrick
  split
  · refine ⟨{ y with trick := u.trickAt y.hdr, joined := true }, { y with trick := u.trickAt y.hdr }, ?_, rfl, rfl, hst⟩
    simp only [hst, State.modSlot, hslots, List.map_cons, List.map_nil, if_true]
  · exact ⟨y, y, by rw [← hslots], rfl, rfl, hst⟩

theorem State.startSlot_failing {y : Slot} {v : Verdict} (hslots : u.hif.slots = [y]) (hst : y.st = .failing v) :
    ∃ z : Slot, z.id = y.id ∧ z.hdr = y.hdr ∧
    u.startSlot y.id = (({ u with hif := { u.hif with slots := [z] } } : State).endVerdict y.id v).settleTricks := by
  obtain ⟨z, z', hjoin, hid, hhdr, hz'⟩ := State.joinTrick_failing hslots hst
  have hmay := State.mayStart_sole hslots (by rw [hst]; rfl)
  refine ⟨z, hid, hhdr, ?_⟩
  simp only [State.startSlot, State.slot_sole hslots, hmay, hjoin, hz', Bool.not_true, Bool.false_eq_true, if_false]

/-- Registers that a violation's entry is logged in. -/
theorem vlgSeq_ne_pmcOvf (f : Fin 16) : RegId.addr .VLG_SEQ f 0 ∉ [RegId.addr .PMC_OVF 0 0] := by
  revert f; decide +kernel

theorem vlgQuarantine_notMem_pmcOvf : RegId.addr .VLG_QUARANTINE_COUNT 0 0 ∉ [RegId.addr .PMC_OVF 0 0] := by
  decide +kernel

/-- The only descriptor in flight ends with a violation that counts: it is logged, the entry names it, and nothing is left
in flight. -/
theorem State.endViolation {x : Slot} {code : Nat} (hcode : violCounts code = true) (hslots : u.hif.slots = [x])
    (hheld : (u.ring x.hdr.fn x.hdr.ring).held = []) (hroom : (u.ring x.hdr.fn x.hdr.ring).hasRoom = true)
    (hopen : ∀ k ∈ u.trk.tricks, k.phase = .opened) :
    ∃ (w : State) (n : Nat) (k : Trk), k.shown = u.trk.shown ∧ (∀ t ∈ k.tricks, t.phase = .opened) ∧
    DescOnly (descRegs x.hdr.fn) (u.withTricks n k) w x.hdr.fn x.hdr.ring ∧ w.hif.slots = [x] ∧
    w.hif.nextSlot = u.hif.nextSlot ∧
    w.ring x.hdr.fn x.hdr.ring = { u.ring x.hdr.fn x.hdr.ring with
      vcount := min 255 ((u.ring x.hdr.fn x.hdr.ring).vcount + 1)
      quar := (u.ring x.hdr.fn x.hdr.ring).quar || u.quarDue x.hdr.fn x.hdr.ring } ∧
    w.fld (F.VLG_TOTAL_COUNT x.hdr.fn) = min (u.fld (F.VLG_TOTAL_COUNT x.hdr.fn) +
      if u.quarDue x.hdr.fn x.hdr.ring then 2 else 1) (2 ^ 32 - 1) ∧
    u.endVerdict x.id (.viol stViolation code none) = (w.writeCpl x.hdr.fn x.hdr.ring (w.cplOf x.hdr stViolation
      (BitVec.ofNat 32 (code + 256 * (u.fld (F.VLG_SEQ_COUNT x.hdr.fn) % 2 ^ 24))))).dropSlot x.id := by
  have hslot : u.freeDetail.1.slot x.id = some x := State.slot_sole hslots
  have hend : u.endVerdict x.id (.viol stViolation code none) =
      (u.freeDetail.1.violate x.hdr.fn x.hdr.ring x.hdr.tag.toNat code u.freeDetail.2).complete x.id stViolation
        (BitVec.ofNat 32 (code + 256 * (u.fld (F.VLG_SEQ_COUNT x.hdr.fn) % 2 ^ 24))) := by
    simp only [State.endVerdict, State.completeViol, hslot]
    rfl
  have honly := u.freeDetail.1.violate_only x.hdr.fn x.hdr.ring x.hdr.tag.toNat code u.freeDetail.2
  have hring := u.freeDetail.1.violate_ringSt x.hdr.fn x.hdr.ring x.hdr.tag.toNat u.freeDetail.2 hcode
  have htotal := u.freeDetail.1.violate_total x.hdr.fn x.hdr.ring x.hdr.tag.toNat u.freeDetail.2 hcode
  generalize u.freeDetail.1.violate x.hdr.fn x.hdr.ring x.hdr.tag.toNat code u.freeDetail.2 = t at *
  have hfree : t.free = u.free + 2 := by rw [honly.1]; rfl
  have htrk : t.trk = u.trk := by rw [honly.1]; rfl
  have htslots : t.hif.slots = [x] := by rw [honly.1]; exact hslots
  have htnext : t.hif.nextSlot = u.hif.nextSlot := by rw [honly.1]; rfl
  rw [hend, State.complete_of_slot (State.slot_sole htslots)]
  obtain ⟨k, hk, hshown, hphase⟩ := t.spoilBy_spec x stViolation
    (BitVec.ofNat 32 (code + 256 * (u.fld (F.VLG_SEQ_COUNT x.hdr.fn) % 2 ^ 24)))
  rw [hk]
  have hw : ({ t with trk := k } : State) = t.withTricks (u.free + 2) k := by rw [State.withTricks, ← hfree]
  rw [hw]
  have hwring : (t.withTricks (u.free + 2) k).ring x.hdr.fn x.hdr.ring = t.ring x.hdr.fn x.hdr.ring := rfl
  have hdesc := (honly.desc.mono (ey := descRegs x.hdr.fn) (fun a ha =>
    List.mem_cons_of_mem _ (List.mem_cons_of_mem _ ha))).withTricks (u.free + 2) k
  refine ⟨t.withTricks (u.free + 2) k, u.free + 2, k, by rw [hshown, htrk], hphase (by rw [htrk]; exact hopen), hdesc,
    htslots, htnext, hring, htotal, State.endSlot_room ?_ ?_ _ _⟩
  · rw [hwring, hring]; exact hheld
  · rw [hwring, hring]; exact hroom

/-- A still device stays still as open tricks are spoiled. -/
theorem State.still_withTricks {l : List Slot} (hs : s.still l) {k : Trk} (hshown : k.shown = s.trk.shown)
    (hopen : ∀ t ∈ k.tricks, t.phase = .opened) (n : Nat) : (s.withTricks n k).still l := by
  obtain ⟨ha, hslots, -, hsh, hrings, hrx, hmute⟩ := hs
  exact ⟨ha, hslots, hopen, hshown.trans hsh, hrings, hrx, hmute⟩

/-- A descriptor of an unknown type is fetched with the verdict of check 1, and ends with it as it starts. -/
theorem State.fetch_unknown {ty : Nat} {h : Hdr} {p : BitVec 448} (hty : 0x10 < ty) (hs : s.still [])
    (hcan : s.canFetch h.fn h.ring = true) (hroom : (s.ring h.fn h.ring).hasRoom = true) :
    let g := (s.ring h.fn h.ring).fetched
    let v := min 255 (g.vcount + 1)
    let quar := Decidable.decide (max 1 (s.fld F.VLG_QUARANTINE_COUNT_COUNT) ≤ v)
    DescFetched s (s.fetch ty h p).follow h ∧ (s.fetch ty h p).follow.hif.slots = [] ∧
    EntryWritten s (s.fetch ty h p).follow h { g with vcount := v, quar := quar } 0x08
      (BitVec.ofNat 32 (1 + 256 * (s.fld (F.VLG_SEQ_COUNT h.fn) % 2 ^ 24))) ∧
    (s.fetch ty h p).follow.fld (F.VLG_TOTAL_COUNT h.fn) =
      min (s.fld (F.VLG_TOTAL_COUNT h.fn) + if quar then 2 else 1) (2 ^ 32 - 1) := by
  intro g v quar
  have hblt : ty ≠ 0x09 := by omega
  have hslu : ty ≠ 0x0A := by omega
  have ha := State.arrived_spec (type := ty) (h := h) (p := p) hs.2.1 hblt hslu
  have hcheck : (s.arrived ty h p).checkEarly (s.slotOf ty h p) = some (.viol stViolation 0x01 none) := by
    have htype : (s.slotOf ty h p).type = ty := rfl
    have hno : ¬ ty ≤ 0x10 := by omega
    simp [State.checkEarly, htype, hno, need, firstOf]
  -- the fetch: the slot stands with its verdict
  have hfetch : s.fetch ty h p = ((s.arrived ty h p).modSlot (s.slotOf ty h p).id
      (fun y => { y with st := .failing (.viol stViolation 0x01 none) })).settle := by
    rw [State.arrived] at hcheck ⊢
    rw [← State.readDesc_slot hblt hslu s h p] at hcheck ⊢
    rw [State.readDesc] at *
    simp only [State.fetch, hcan, Bool.not_true, Bool.false_eq_true, if_false, hcheck]
  have hxhdr : (s.slotOf ty h p).hdr = h := rfl
  have haslots := ha.slots
  generalize s.slotOf ty h p = x at *
  generalize s.arrived ty h p = q at *
  generalize hy : ({ x with st := .failing (.viol stViolation 0x01 none) } : Slot) = y
  have hyst : y.st = .failing (.viol stViolation 0x01 none) := by rw [← hy]
  have hyid : x.id = y.id := by rw [← hy]
  have hyhdr : y.hdr = h := by rw [← hy]; exact hxhdr
  generalize hu : q.modSlot x.id (fun y => { y with st := .failing (.viol stViolation 0x01 none) }) = u at hfetch
  have huslots : u.hif.slots = [y] := by rw [← hu, ← hy]; simp [State.modSlot, haslots]
  have hudesc : DescOnly [RegId.addr .PMC_OVF 0 0] q u h.fn h.ring := hu ▸ .modSlot _ _ _
  have huring : u.ring h.fn h.ring = g := by rw [← hu]; exact ha.ring
  have hunext : u.hif.nextSlot = s.hif.nextSlot + 1 := by rw [← hu]; exact ha.next
  -- the start: it ends with its verdict
  obtain ⟨z, hzid, hzhdr, hstart⟩ := State.startSlot_failing huslots hyst
  have hz : z.hdr = h := hzhdr.trans hyhdr
  generalize ht : ({ u with hif := { u.hif with slots := [z] } } : State) = t at hstart
  have htslots : t.hif.slots = [z] := by rw [← ht]
  have htdesc : DescOnly [RegId.addr .PMC_OVF 0 0] s t h.fn h.ring :=
    (ha.desc.trans hudesc).trans (ht ▸ DescOnly.slots u u.hif.nextSlot [z])
  have htring : t.ring h.fn h.ring = g := by rw [← ht]; exact huring
  have htnext : t.hif.nextSlot = s.hif.nextSlot + 1 := by rw [← ht]; exact hunext
  have hcalm := State.rings_still hs h.fn h.ring
  have hoff : g.quar = false := (State.canFetch_spec hcan).2.2
  have hquar : t.quarDue h.fn h.ring = quar := by
    rw [State.quarDue, htring, hoff, htdesc.fld (x := F.VLG_QUARANTINE_COUNT_COUNT) vlgQuarantine_notMem_pmcOvf]
    rfl
  have hopen : ∀ k ∈ t.trk.tricks, k.phase = .opened := by rw [htdesc.trk]; exact hs.2.2.1
  obtain ⟨w, n, k, hshown, hphase, hw, hwslots, hwnext, hwring, htotal, hend⟩ := State.endViolation (code := 0x01) rfl
    htslots (by rw [hz, htring]; exact hcalm.1) (by rw [hz, htring]; exact hroom) hopen
  have hseq := htdesc.fld (x := F.VLG_SEQ_COUNT h.fn) (vlgSeq_ne_pmcOvf h.fn)
  have hlog := htdesc.fld (x := F.VLG_TOTAL_COUNT h.fn) (by simpa using vlgTotal_ne_pmcOvf h.fn)
  rw [hz] at hw hwring htotal hend
  rw [htring, hoff, hquar, Bool.false_or] at hwring
  rw [hlog, hquar] at htotal
  rw [hseq, hzid] at hend
  generalize BitVec.ofNat 32 (1 + 256 * (s.fld (F.VLG_SEQ_COUNT h.fn) % 2 ^ 24)) = d at hend ⊢
  -- the end: the entry is written, and nothing is left in flight
  have hall : DescOnly (descRegs h.fn) (s.withTricks n k) w h.fn h.ring :=
    ((htdesc.mono (by simp [descRegs])).withTricks n k).trans hw
  rw [show w.cplOf h stViolation d = s.cplOf h stViolation d from hall.cplOf h stViolation d, ← hzid] at hend
  obtain ⟨hlast, hnone, hkept⟩ := State.entry_last (f := h.fn) (r := h.ring) hwslots (s.cplOf h stViolation d)
  obtain ⟨hsend, hentry⟩ := w.writeCpl_entry h.fn h.ring (s.cplOf h stViolation d)
  have hvring : ((w.writeCpl h.fn h.ring (s.cplOf h stViolation d)).dropSlot z.id).ring h.fn h.ring =
    (w.writeCpl h.fn h.ring (s.cplOf h stViolation d)).ring h.fn h.ring := rfl
  have hvfld := hlast.fld (x := F.VLG_TOTAL_COUNT h.fn) (by simpa using vlgTotal_ne_pmcOvf h.fn)
  rw [hwring] at hsend hentry
  rw [← hvring] at hentry
  replace hsend : Sends w ((w.writeCpl h.fn h.ring (s.cplOf h stViolation d)).dropSlot z.id) _ := hsend.congr rfl rfl
  generalize (w.writeCpl h.fn h.ring (s.cplOf h stViolation d)).dropSlot z.id = e at *
  have hdone := hall.trans (hlast.mono (by simp [descRegs]))
  have hidle : e.Idle := hdone.idle (State.still_withTricks hs (by rw [hshown, htdesc.trk]) hphase n) hnone
    (by rw [hentry]; exact hcalm.1) (by rw [hentry]; rfl) (by rw [hentry]; rfl)
  rw [← hzid, hend, State.settleTricks_opened hidle.2.1, hzid] at hstart
  have halive : u.alive = true := by rw [hudesc.alive, ha.desc.alive]; exact hs.1
  have hround := State.settleRound_ended huslots (by rw [hudesc.trk, ha.desc.trk]; exact hs.2.2.1) hstart hidle
  rw [hfetch, State.settle_sole halive huslots hround hidle, State.follow_idle hidle]
  have hout : q.out <+: e.out :=
    (hudesc.2.2.1.trans (ht ▸ List.prefix_refl _ : u.out <+: t.out)).trans (hw.2.2.1.trans hlast.2.2.1)
  refine ⟨⟨ha.reads.after hout, ha.writes.after hout, by rw [hkept, hwnext, htnext], hdone.2.2.2⟩, hnone,
    ⟨?_, hentry⟩, hvfld.trans htotal⟩
  exact Sends.before hall.2.2.1 hsend

/-- Settles O20: a descriptor that arrives alone starts and ends in the round after its fetch, and leaves nothing that
moves on. -/
theorem descriptorsWithoutData : Obligations.DescriptorsWithoutData := by
  unfold Obligations.DescriptorsWithoutData
  refine ⟨fun s h p => ?_, fun s ty h p hty hs hcan hroom => ?_⟩
  · have hitem : ∀ n, pay p 8 1 = n → s.fetchIf (pay p 8 1 = n) 0x0E h p = (s.fetch 0x0E h p).follow :=
      fun n hn => if_pos (decide_eq_true hn)
    refine ⟨fun ht => ⟨_, rfl, State.takes_completes rfl ht rfl⟩, fun ht => ⟨_, rfl, ?latTol⟩,
      fun ht hframe => ⟨_, rfl, State.takes_fence ht hframe⟩,
      fun ht h1 => ⟨_, congrArg Host.Outcome.next (hitem 1 h1), State.queryMode ht h1⟩,
      fun ht h2 => ⟨_, _, congrArg Host.Outcome.next (hitem 2 h2), State.querySlots ht h2, ?inUse, ?quota⟩,
      fun ht h3 => ⟨_, congrArg Host.Outcome.next (hitem 3 h3), State.queryFnStatus ht h3⟩,
      fun ht h4 => ⟨_, congrArg Host.Outcome.next (hitem 4 h4), State.queryLastTrick ht h4⟩,
      fun ht h0 r i j hdec hpres hcls => ⟨_, congrArg Host.Outcome.next (if_pos ?register),
        State.queryRegister ht h0 hdec hpres hcls⟩⟩
    case latTol =>
      obtain ⟨hhost, hans, hreg⟩ := State.takes_latTol ht
      exact ⟨⟨hhost, hans⟩, hreg⟩
    case inUse => exact bits_putBits_self _ (by decide) 1
    case quota => exact bits_putBits_disjoint _ (by decide) (.inl (by decide)) 1
    case register => simp [h0]
  · obtain ⟨hdesc, hslots, hentry, htotal⟩ := State.fetch_unknown (h := h) (p := p) hty hs hcan hroom
    exact ⟨_, congrArg Host.Outcome.next (if_pos (decide_eq_true hty)), hdesc, hslots, hentry, htotal⟩

end

end Sys2Proof.Machine
end

section
/-!
PROOF. Resets of the host interface and of functions (O14).
-/

set_option Elab.async false  -- the joined text is large: no thread per declaration

namespace Sys2Proof.Machine

/-! ### Registers returned to their Cold values -/

theorem SMap.find_filter (p : Nat → Bool) (a : Nat) : ∀ m : SMap,
    SMap.find (m.filter (fun e => p e.1)) a = if p a then SMap.find m a else none
  | [] => by simp [SMap.find]
  | (b, v) :: m => by
    have ih := SMap.find_filter p a m
    rw [List.filter_cons]
    by_cases hb : a = b
    · subst hb
      cases hp : p a <;> simp [SMap.find, ih, hp]
    · cases hp : p b <;> simp [SMap.find, ih, hb]

/-- The registers outside the HIF and VLG blocks. -/
def besideHif (a : Nat) : Bool := !(0x10000 ≤ a && a < 0x20000) && !(0x2E0000 ≤ a && a < 0x2F0000)

theorem besideHif_iff (a : Nat) : besideHif a = true ↔ ¬ inHif a := by
  simp [besideHif, inHif, imp_iff_not_or]

theorem State.hifRegs_find (s : State) (a : Nat) :
    SMap.find s.hifRegs.regs a = if besideHif a then SMap.find s.regs a else none :=
  SMap.find_filter besideHif a s.regs

/-! ### Steps of a reset that leave the host interface alone -/

/-- From `s` to `t` the part, the host interface and its registers, BAR2 and pending bits stay. -/
def Beside (s t : State) : Prop :=
  t.host = s.host ∧ t.msix = s.msix ∧ t.pba = s.pba ∧ ∀ a, inHif a → SMap.find t.regs a = SMap.find s.regs a

section
variable {s t u : State}

theorem Beside.refl : Beside s s := ⟨rfl, rfl, rfl, fun _ _ => rfl⟩

theorem Beside.trans (h : Beside s t) (k : Beside t u) : Beside s u := by
  obtain ⟨h1, h2, h3, h4⟩ := h
  obtain ⟨k1, k2, k3, k4⟩ := k
  exact ⟨k1.trans h1, k2.trans h2, k3.trans h3, fun a ha => (k4 a ha).trans (h4 a ha)⟩

theorem Beside.foldl {α : Type} {f : State → α → State} {l : List α} (h : ∀ s, ∀ a ∈ l, Beside s (f s a)) (s : State) :
    Beside s (l.foldl f s) :=
  List.foldlRecOn (motive := fun t : State => Beside s t) l f .refl fun t ht a ha => ht.trans (h t a ha)

theorem Beside.setF (s : State) (x : Fld) (v : Nat) (h : ¬ inHif (x.id.addr x.i x.j)) : Beside s (s.setF x v) :=
  ⟨rfl, rfl, rfl, fun _ ha => s.find_setReg_ne _ _ _ _ (fun e => h (e ▸ ha))⟩

theorem Beside.modPlay (s : State) (p : Fin 16) (f : PlaySt → PlaySt) : Beside s (s.modPlay p f) := .refl

theorem brStat_notInHif (b : Fin 16) : ¬ inHif (RegId.addr .BR_STAT b 0) := by
  rw [← besideHif_iff]; revert b; decide +kernel

theorem capCtl_notInHif (k : Fin 8) : ¬ inHif (RegId.addr .CAP_CTL k 0) := by
  rw [← besideHif_iff]; revert k; decide +kernel

theorem Beside.playQuit (s : State) (mine : Fin 16 → Bool) : Beside s (s.playQuit mine) :=
  Beside.foldl (fun s p _ => by split <;> exact .refl) s

theorem Beside.audLoseFlight (s : State) : Beside s s.audLoseFlight := by
  have hrefill : ∀ (s : State) (d : Fin 3), Beside s (s.bridgesRefill d) := fun s d =>
    Beside.foldl (fun s b _ => (Beside.refl : Beside s (s.modBridge b _)).trans (.setF _ _ _ (brStat_notInHif b))) s
  have hfade : ∀ (s : State) (d : Fin 3) (m n k : Nat), Beside s (s.sinksFadeIn d m n k) := fun s d m n k =>
    Beside.foldl (fun s b _ => by split <;> exact .refl) s
  refine (Beside.refl : Beside s { s with aud := _ }).trans (Beside.foldl (fun s d _ => ?_) _)
  dsimp only
  split
  · exact ((Beside.refl : Beside s (s.modDom d _)).trans (hrefill _ d)).trans (hfade _ d _ _ _)
  · exact .refl

/-- Capture stops in every channel. -/
def State.capturesOff (s : State) : State := (List.range 8).foldl (fun s r => s.setF (F.CAP_CTL_EN r) 0) s

theorem Beside.capturesOff (s : State) : Beside s s.capturesOff :=
  Beside.foldl (fun s r hr => .setF s _ _ (capCtl_notInHif ⟨r, List.mem_range.1 hr⟩)) s

theorem Beside.ltrFrom (s old : State) : Beside s (s.ltrFrom old) := by
  unfold State.ltrFrom
  split <;> exact .refl

/-- What follows the host interface's own reset: the trump session, host-fed audio, captures and the cause flag. -/
theorem Beside.hifResetAll (s : State) : Beside s.hifReset s.hifResetAll := by
  have hsession : Beside s.hifReset s.hifReset.closeSession :=
    (Beside.setF _ F.GLB_TRUMP_SESSION_OPEN 0 (by rw [← besideHif_iff]; decide)).trans .refl
  have hcause : ∀ t : State, Beside t (t.raiseF F.GLB_RESET_CAUSE_HIF) := fun t =>
    .setF _ _ _ (by rw [← besideHif_iff]; decide)
  exact ((((hsession.trans (.playQuit _ _)).trans (.audLoseFlight _)).trans (.capturesOff _)).trans (hcause _)).trans
    (.ltrFrom _ _)

end

/-! ### The reset of the host interface (R107) -/

section
variable (s : State)

theorem State.part_foldl {α : Type} {f : State → α → State} (h : ∀ s a, (f s a).part = s.part) (l : List α) (s : State) :
    (l.foldl f s).part = s.part :=
  List.foldlRecOn (motive := fun t : State => t.part = s.part) l f rfl fun t ht a _ => (h t a).trans ht

theorem State.bltAbort_part (id : Nat) : (s.bltAbort id).part = s.part := by
  unfold State.bltAbort
  refine State.part_foldl (fun s c => ?_) _ s
  dsimp only
  split
  · exact State.part_foldl (fun s cmd => by simp) _ s
  · rfl

theorem State.sluAbort_part (id : Nat) : (s.sluAbort id).part = s.part := by
  have hspoil : ∀ (s : State) (x : Slot), (s.sluSpoilDst x).part = s.part := fun s x => by
    unfold State.sluSpoilDst
    split <;> rfl
  exact State.part_foldl (fun s c => by split <;> [(split <;> [exact hspoil s _; rfl]); rfl]) _ s

theorem State.playAbandon_part (p : Slot → Bool) : (s.playAbandon p).part = s.part :=
  State.part_foldl (fun s p => by dsimp only; split <;> rfl) _ s

theorem State.unitAbort_part (x : Slot) : (s.unitAbort x).part = s.part := by
  unfold State.unitAbort
  split
  · exact s.bltAbort_part x.id
  · exact s.sluAbort_part x.id
  · exact s.playAbandon_part _
  · rfl
  · rfl

theorem State.abandonSlots_part (p : Slot → Bool) : (s.abandonSlots p).part = s.part :=
  State.part_foldl (fun s x => by exact s.unitAbort_part x) _ s

theorem State.discardTricks_part (p : Trick → Bool) : (s.discardTricks p).part = s.part :=
  State.part_foldl (fun s t => by exact (State.host_eq (s.discardTrick_host t.key)).1) _ s

theorem State.hifReset_part : s.hifReset.part = s.part :=
  (State.discardTricks_part _ _).trans (s.abandonSlots_part _)

theorem State.hifReset_find {a : Nat} (h : inHif a) : SMap.find s.hifReset.regs a = none := by
  have hb : besideHif a = false := by simpa [← Bool.not_eq_true, besideHif_iff] using h
  exact (State.hifRegs_find _ a).trans (by rw [hb]; rfl)

/-- No domain runs. -/
def State.domsStand (s : State) : Prop := ∀ d, (s.dm d).run = false

/-- Abandoning no descriptors changes nothing. -/
theorem State.abandonSlots_none {s : State} {p : Slot → Bool} (h : s.hif.slots.filter p = []) : s.abandonSlots p = s := by
  have hmap : ∀ {α : Type} (l : List α) (f : α → α), (∀ x, f x = x) → l.map f = l := fun l f hf => by
    rw [show f = id from funext hf, List.map_id]
  simp only [State.abandonSlots, h]
  refine congrArg₂ (fun a b => ({ s with trk := { s.trk with shown := a, tricks := b } } : State))
    (hmap _ _ (fun y => ?_)) (hmap _ _ (fun t => ?_))
  · cases hc : y.commitSlot <;> simp
  · cases hc : t.commitSlot <;> simp

theorem State.discardTricks_none {s : State} {p : Trick → Bool} (h : ∀ t ∈ s.trk.tricks, p t = false) :
    s.discardTricks p = s := by
  have hnone : s.trk.tricks.filter (fun t => p t && s.trk.queue.head? ≠ some t.key) = [] :=
    List.filter_eq_nil_iff.2 (fun t ht => by simp [h t ht])
  rw [State.discardTricks, hnone]
  rfl

/-- With nothing in flight the host interface's own reset changes nothing else. -/
theorem State.hifReset_quiet {s : State} (hslots : s.hif.slots = []) (htricks : s.trk.tricks = []) : s.hifReset =
    { s with regs := s.hifRegs.regs, msix := [], pba := 0
             hif := { s.hif with vfEnable := false, d3hot := 0, fenced := 0, rings := [], fnTurn := 15, ringTurn := [] }
             mv := { s.mv with sluFenced := 0 }, pmc := { s.pmc with userLatch := [] } } := by
  have habandon : s.abandonSlots (fun _ => true) = s := State.abandonSlots_none (by rw [hslots]; rfl)
  have hdiscard : ∀ p, s.discardTricks p = s := fun p => State.discardTricks_none (by simp [htricks])
  simp only [State.hifReset, habandon, hdiscard, State.hifRegs, ← hslots]

/-- From `s` to `t` only registers, messages and the samples in flight change, and of the registers none but those of
`ex`. -/
def FlightOnly (ex : List Nat) (s t : State) : Prop :=
  t = { s with regs := t.regs, out := t.out
               aud := { s.aud with dom := t.aud.dom, play := t.aud.play, sink := t.aud.sink } } ∧
  RegsKept ex s t

theorem FlightOnly.refl {ex : List Nat} {s : State} : FlightOnly ex s s := ⟨rfl, .refl _ _⟩

theorem FlightOnly.trans {ex : List Nat} {s t u : State} (h : FlightOnly ex s t) (k : FlightOnly ex t u) :
    FlightOnly ex s u := by
  obtain ⟨h1, h2⟩ := h
  obtain ⟨k1, k2⟩ := k
  exact ⟨by rw [k1, h1], h2.trans k2⟩

theorem FlightOnly.setF {ex : List Nat} (s : State) (x : Fld) (v : Nat) (h : x.id.addr x.i x.j ∈ ex) :
    FlightOnly ex s (s.setF x v) := ⟨rfl, .setReg s _ _ _ _ h⟩

/-- A player modified: it alone changes. -/
theorem State.play_modPlay (s : State) (p q : Fin 16) (f : PlaySt → PlaySt) :
    (s.modPlay p f).play q = if p = q then f (s.play p) else s.play q := by
  simp [State.play, State.modPlay, Vector.getElem_set, Fin.ext_iff]

theorem State.dm_modDom (s : State) (d e : Fin 3) (f : AudDom → AudDom) :
    (s.modDom d f).dm e = if d = e then f (s.dm d) else s.dm e := by
  simp [State.dm, State.modDom, Vector.getElem_set, Fin.ext_iff]

/-- A player that quits has no buffers, and none comes back. -/
theorem State.foldl_quit_bufs {mine : Fin 16 → Bool} {q : Fin 16} (hq : mine q = true) : ∀ (l : List (Fin 16)) (s : State),
    q ∈ l ∨ (s.play q).bufs = [] → ((l.foldl (fun s (p : Fin 16) =>
      if mine p then s.modPlay p (fun x => { x with bufs := [], ending := x.run ≠ .idle }) else s) s).play q).bufs = []
  | [], s, h => by simpa using h
  | p :: l, s, h => by
    rw [List.foldl_cons]
    refine State.foldl_quit_bufs hq l _ ?_
    by_cases hp : p = q
    · subst hp
      exact .inr (by rw [if_pos hq, State.play_modPlay, if_pos rfl])
    · refine h.imp (fun hmem => (List.mem_cons.1 hmem).resolve_left (fun e => hp e.symm)) (fun hb => ?_)
      split
      · rwa [State.play_modPlay, if_neg hp]
      · exact hb

theorem mem_allPlayers : ∀ q, q ∈ allPlayers := by decide

theorem State.playQuit_flight (s : State) (mine : Fin 16 → Bool) : FlightOnly [] s (s.playQuit mine) ∧
    ∀ q, if mine q then ((s.playQuit mine).play q).bufs = [] else (s.playQuit mine).play q = s.play q := by
  refine ⟨List.foldlRecOn (motive := fun t : State => FlightOnly [] s t) allPlayers _ .refl fun t ht p _ => ?_, fun q => ?_⟩
  · split
    · exact ht.trans ⟨rfl, .refl _ _⟩
    · exact ht
  · split
    · next hq => exact State.foldl_quit_bufs hq allPlayers s (.inl (mem_allPlayers q))
    · next hq =>
      refine List.foldlRecOn (motive := fun t : State => t.play q = s.play q) allPlayers _ rfl fun t ht p _ => ?_
      split
      · next hp => rw [State.play_modPlay, if_neg (fun e : p = q => hq (e ▸ hp)), ht]
      · exact ht

theorem FlightOnly.modDom {ex : List Nat} (s : State) (d : Fin 3) (f : AudDom → AudDom) : FlightOnly ex s (s.modDom d f) :=
  ⟨rfl, .refl _ _⟩

theorem State.play_modDom (s : State) (d : Fin 3) (f : AudDom → AudDom) (q : Fin 16) : (s.modDom d f).play q = s.play q :=
  rfl

/-- A domain's samples in flight are lost; what it runs is not. -/
theorem State.domsStand_modDom {s : State} (h : s.domsStand) (d : Fin 3) {f : AudDom → AudDom}
    (hf : ∀ m, (f m).run = m.run) : (s.modDom d f).domsStand := fun e => by
  rw [State.dm_modDom]
  split
  · rw [hf]; exact h d
  · exact h e

/-- The samples in flight in sinks and players are lost. -/
def State.flightLost (s : State) : State :=
  { s with aud := { s.aud with
    sink := s.aud.sink.map (fun x => { x with lim := x.lim.empty, last := [] })
    play := s.aud.play.map (fun x => { x with frame := x.frame.map (fun _ => 0) }) } }

/-- Those in flight in a domain are lost; a domain that runs refills its bridges and fades its sinks in. -/
def State.domLost (s : State) (d : Fin 3) : State :=
  let s := s.modDom d (fun m => { m with lims := m.lims.map LimSt.empty })
  if (s.dm d).run then (s.bridgesRefill d).sinksFadeIn d 0 (s.dm d).num (s.dm d).den else s

theorem State.audLoseFlight_eq (s : State) : s.audLoseFlight = allDoms.foldl State.domLost s.flightLost := rfl

theorem State.flightLost_flight (s : State) : FlightOnly [] s s.flightLost ∧ ∀ q, (s.flightLost.play q).bufs = (s.play q).bufs :=
  ⟨⟨rfl, .refl _ _⟩, fun q => by simp [State.flightLost, State.play]⟩

theorem State.domLost_stand {s : State} (h : s.domsStand) (d : Fin 3) : FlightOnly [] s (s.domLost d) ∧
    (s.domLost d).domsStand ∧ ∀ q, (s.domLost d).play q = s.play q := by
  have hstand := State.domsStand_modDom h d (f := fun m => { m with lims := m.lims.map LimSt.empty }) (fun _ => rfl)
  have he : s.domLost d = s.modDom d (fun m => { m with lims := m.lims.map LimSt.empty }) :=
    if_neg (by rw [hstand d]; decide)
  rw [he]
  exact ⟨.modDom s d _, hstand, s.play_modDom d _⟩

/-- Where no domain runs, the loss of the samples in flight keeps the queues. -/
theorem State.audLoseFlight_flight {s : State} (h : s.domsStand) : FlightOnly [] s s.audLoseFlight ∧
    ∀ q, (s.audLoseFlight.play q).bufs = (s.play q).bufs := by
  obtain ⟨hlost, hbufs⟩ := s.flightLost_flight
  have hall : ∀ (l : List (Fin 3)) (t : State), t.domsStand → FlightOnly [] t (l.foldl State.domLost t) ∧
      ∀ q, (l.foldl State.domLost t).play q = t.play q := by
    intro l
    induction l with
    | nil => exact fun t _ => ⟨.refl, fun _ => rfl⟩
    | cons d l ih =>
      intro t ht
      obtain ⟨hd, hstand, hplay⟩ := State.domLost_stand ht d
      obtain ⟨hl, hplays⟩ := ih _ hstand
      exact ⟨hd.trans hl, fun q => (hplays q).trans (hplay q)⟩
  obtain ⟨hdoms, hplay⟩ := hall allDoms s.flightLost h
  rw [s.audLoseFlight_eq]
  exact ⟨hlost.trans hdoms, fun q => (congrArg (·.bufs) (hplay q)).trans (hbufs q)⟩

theorem State.playQuit_dm (s : State) (mine : Fin 16 → Bool) (d : Fin 3) : (s.playQuit mine).dm d = s.dm d :=
  List.foldlRecOn (motive := fun t : State => t.dm d = s.dm d) allPlayers _ rfl fun t ht p _ => by
    split
    · exact ht
    · exact ht

/-- What the reset writes beside the host interface and the trump session. -/
def resetRegs : List Nat := RegId.addr .GLB_RESET_CAUSE 0 0 :: (List.range 8).map (fun k => RegId.addr .CAP_CTL k 0)

theorem State.capturesOff_flight (s : State) : FlightOnly resetRegs s s.capturesOff ∧
    ∀ q, s.capturesOff.play q = s.play q :=
  List.foldlRecOn (motive := fun t : State => FlightOnly resetRegs s t ∧ ∀ q, t.play q = s.play q) (List.range 8) _
    ⟨.refl, fun _ => rfl⟩ fun t ht _ hr => ⟨ht.1.trans (.setF t _ 0 (List.mem_cons_of_mem _
      (List.mem_map_of_mem (f := fun k => RegId.addr .CAP_CTL k 0) hr))), ht.2⟩

theorem State.ltrFrom_flight {ex : List Nat} (s old : State) : FlightOnly ex s (s.ltrFrom old) ∧
    ∀ q, (s.ltrFrom old).play q = s.play q := by
  unfold State.ltrFrom
  split
  · exact ⟨.refl, fun _ => rfl⟩
  · exact ⟨⟨rfl, .refl _ _⟩, fun _ => rfl⟩

theorem FlightOnly.mono {ex ey : List Nat} {s t : State} (h : FlightOnly ex s t) (k : ∀ a ∈ ex, a ∈ ey) :
    FlightOnly ey s t := ⟨h.1, h.2.mono k⟩

theorem State.raiseF_flight {ex : List Nat} (s : State) (x : Fld) (h : x.id.addr x.i x.j ∈ ex) :
    FlightOnly ex s (s.raiseF x) ∧ ∀ q, (s.raiseF x).play q = s.play q := ⟨.setF s x 1 h, fun _ => rfl⟩

/-- What follows the end of the trump session: host-fed audio, captures, the cause flag and the tolerance reported. -/
def State.afterSession (s old : State) : State :=
  ((s.playQuit (fun _ => true)).audLoseFlight.capturesOff.raiseF F.GLB_RESET_CAUSE_HIF).ltrFrom old

theorem State.hifResetAll_eq (s : State) : s.hifResetAll = s.hifReset.closeSession.afterSession s := rfl

/-- With no domain running, what follows the session's end changes the captures, the cause flag, the samples in flight and
the tolerance reported. -/
theorem State.afterSession_flight {s : State} (h : s.domsStand) (old : State) :
    FlightOnly resetRegs s (s.afterSession old) ∧ ∀ q, ((s.afterSession old).play q).bufs = [] := by
  unfold State.afterSession
  obtain ⟨hquit, hnone⟩ := s.playQuit_flight (fun _ => true)
  have hstand : (s.playQuit (fun _ => true)).domsStand := fun d => by rw [State.playQuit_dm]; exact h d
  generalize s.playQuit (fun _ => true) = t at *
  obtain ⟨hlost, hkept⟩ := State.audLoseFlight_flight hstand
  generalize t.audLoseFlight = u at *
  obtain ⟨hcap, hcapPlay⟩ := u.capturesOff_flight
  generalize u.capturesOff = v at *
  obtain ⟨hcause, hcausePlay⟩ := v.raiseF_flight (ex := resetRegs) F.GLB_RESET_CAUSE_HIF (List.mem_cons_self ..)
  obtain ⟨hltr, hltrPlay⟩ := State.ltrFrom_flight (ex := resetRegs) (v.raiseF F.GLB_RESET_CAUSE_HIF) old
  have hall := (hquit.mono (by simp)).trans (hlost.mono (ey := resetRegs) (by simp))
  refine ⟨((hall.trans hcap).trans hcause).trans hltr, fun q => ?_⟩
  have hq := hnone q
  rw [if_pos rfl] at hq
  rw [hltrPlay, hcausePlay, hcapPlay, hkept, hq]

/-- What a reset of the host interface leaves of it: Cold registers, no ring, no descriptor, no page, and its cause. -/
theorem State.hifResetAll_gone (s : State) :
    (∀ r i j, inHif (r.addr i j) → s.hifResetAll.reg r i j = coldOf s.part r i j) ∧
    s.hifResetAll.hif.rings = [] ∧ s.hifResetAll.hif.slots = [] ∧ s.hifResetAll.hif.vfEnable = false ∧
    s.hifResetAll.hif.fenced = 0 ∧ s.hifResetAll.hif.d3hot = 0 ∧ s.hifResetAll.msix = [] ∧ s.hifResetAll.pba = 0 ∧
    s.hifResetAll.flag F.GLB_RESET_CAUSE_HIF = true := by
  obtain ⟨hhost, hmsix, hpba, hregs⟩ := Beside.hifResetAll s
  obtain ⟨hpart, hhif⟩ := State.host_eq hhost
  refine ⟨fun r i j ha => ?_, by rw [hhif]; rfl, by rw [hhif]; rfl, by rw [hhif]; rfl, by rw [hhif]; rfl,
    by rw [hhif]; rfl, by rw [hmsix]; rfl, by rw [hpba]; rfl, ?_⟩
  · rw [State.reg, hregs _ ha, s.hifReset_find ha, hpart, s.hifReset_part]
    rfl
  · have hflag : ∀ t old : State, ((t.raiseF F.GLB_RESET_CAUSE_HIF).ltrFrom old).flag F.GLB_RESET_CAUSE_HIF = true :=
      fun t old => by
        unfold State.ltrFrom
        split
        · exact t.flag_raiseF_self (by decide) rfl
        · exact t.flag_raiseF_self (by decide) rfl
    exact hflag _ _

/-- With nothing in flight and no domain running, a reset of the host interface changes beside it only the trump session,
the captures, the samples in flight and the cause flag. -/
theorem State.hifResetAll_frame {s : State} (hslots : s.hif.slots = []) (htricks : s.trk.tricks = [])
    (hstand : s.domsStand) :
    s.hifResetAll = { s with regs := s.hifResetAll.regs, msix := [], pba := 0, out := s.hifResetAll.out
                             hif := { s.hif with vfEnable := false, d3hot := 0, fenced := 0, rings := [],
                                                 fnTurn := 15, ringTurn := [] }
                             trump := { s.trump with armed := false }
                             aud := { s.aud with dom := s.hifResetAll.aud.dom, play := s.hifResetAll.aud.play
                                                 sink := s.hifResetAll.aud.sink }
                             mv := { s.mv with sluFenced := 0 }, pmc := { s.pmc with userLatch := [] } } ∧
    (∀ p, (s.hifResetAll.play p).bufs = []) ∧
    ∀ a, ¬ inHif a → a ≠ RegId.addr .GLB_TRUMP_SESSION 0 0 → a ≠ RegId.addr .GLB_RESET_CAUSE 0 0 →
      (∀ k : Fin 8, a ≠ RegId.addr .CAP_CTL k 0) → SMap.find s.hifResetAll.regs a = SMap.find s.regs a := by
  have hquiet := State.hifReset_quiet hslots htricks
  have hsession : s.hifReset.closeSession.domsStand := by rw [hquiet]; exact hstand
  obtain ⟨⟨heq, hregs⟩, hbufs⟩ := State.afterSession_flight hsession s
  rw [← s.hifResetAll_eq] at heq hregs hbufs
  generalize s.hifResetAll = t at *
  have hfind : ∀ a, a ≠ RegId.addr .GLB_TRUMP_SESSION 0 0 →
      SMap.find s.hifReset.closeSession.regs a = SMap.find s.hifReset.regs a := fun a ha =>
    s.hifReset.find_setReg_ne .GLB_TRUMP_SESSION 0 0 _ ha
  rw [hquiet] at heq hregs hfind
  refine ⟨heq, hbufs, fun a hout hsession hcause hcap => ?_⟩
  rw [hregs a ?_, hfind a hsession]
  · refine (s.hifRegs_find a).trans ?_
    rw [if_pos ((besideHif_iff a).2 hout)]
  · simp only [resetRegs, List.mem_cons, List.mem_map, List.mem_range, not_or, not_exists, not_and]
    exact ⟨hcause, fun k hk e => hcap ⟨k, hk⟩ e.symm⟩

/-- Out of FREEZE a cause of reset acts at once. -/
theorem State.hifCause_alive {s : State} (h : s.alive = true) : s.hifCause = s.hifResetAll := by
  have hfrozen : s.frozen = false := by
    simp only [State.alive, Bool.and_eq_true, Bool.not_eq_true'] at h
    exact h.2
  simp only [State.hifCause, State.linked_of_alive h, hfrozen, Bool.not_true, Bool.false_eq_true, if_false]

/-- In FREEZE it waits. -/
theorem State.hifCause_frozen {s : State} (hmode : s.glob.mode = .freeze) (hheld : s.glob.heldInReset = false) :
    s.hifCause.follow = { s with glob := { s.glob with hifResetPending := true } } := by
  have hlinked : s.linked = true := by simp [State.linked, hmode, hheld]
  have hfrozen : s.frozen = true := by simp [State.frozen, hmode]
  have he : s.hifCause = { s with glob := { s.glob with hifResetPending := true } } := by
    simp only [State.hifCause, hlinked, hfrozen, Bool.not_true, Bool.false_eq_true, if_false, if_true]
  rw [he, State.follow_dead]
  simp [State.alive, State.frozen, hmode]

end

/-! ### The reset of a virtual function (R108) -/

section
variable {s : State} {f : Fin 16}

theorem ringFind_filter (p : Nat → Bool) (a : Nat) : ∀ l : List (Nat × RingSt),
    ringFind (l.filter (fun e => p e.1)) a = if p a then ringFind l a else {}
  | [] => by simp [ringFind]
  | (b, v) :: l => by
    have ih := ringFind_filter p a l
    rw [List.filter_cons]
    by_cases hb : a = b
    · subst hb
      cases hp : p a <;> simp [ringFind, ih, hp]
    · cases hp : p b <;> simp [ringFind, ih, hb]

theorem State.ring_dropRings (s : State) (f g : Fin 16) (r : Fin 64) :
    (s.dropRings (fun k => k / 64 = f.val)).ring g r = if g = f then {} else s.ring g r := by
  have hkey : (!Decidable.decide (ringKey g r / 64 = f.val)) = !Decidable.decide (g = f) := by
    have : ringKey g r / 64 = g.val := by simp only [ringKey]; omega
    simp [this, Fin.ext_iff]
  refine (ringFind_filter (fun k => !Decidable.decide (k / 64 = f.val)) (ringKey g r) s.hif.rings).trans ?_
  rw [hkey]
  by_cases hg : g = f <;> simp [hg, State.ring]

/-- EN of every ring of a function is cleared. -/
def State.ringsOff (s : State) (f : Fin 16) : State :=
  allRings.foldl (fun s (r : Fin 64) => s.setF (F.HIF_RING_CTL_EN f r) 0) s

def ringCtls (f : Fin 16) : List Nat := allRings.map (fun (r : Fin 64) => RegId.addr .HIF_RING_CTL f r)

theorem State.setF_regsOnly (s : State) (x : Fld) (v : Nat) (regs : SMap) :
    ({ s.setF x v with regs := regs } : State) = { s with regs := regs } := rfl

theorem State.foldl_setF_regsOnly {α : Type} (x : α → Fld) (v : Nat) : ∀ (l : List α) (s : State),
    l.foldl (fun s a => s.setF (x a) v) s = { s with regs := (l.foldl (fun s a => s.setF (x a) v) s).regs }
  | [], _ => rfl
  | a :: l, s => (State.foldl_setF_regsOnly x v l (s.setF (x a) v)).trans (s.setF_regsOnly (x a) v _)

theorem State.ringsOff_frame (s : State) (f : Fin 16) : s.ringsOff f = { s with regs := (s.ringsOff f).regs } :=
  State.foldl_setF_regsOnly (fun r : Fin 64 => F.HIF_RING_CTL_EN f r) 0 allRings s

theorem State.ringsOff_regs (s : State) (f : Fin 16) : RegsKept (ringCtls f) s (s.ringsOff f) :=
  List.foldlRecOn (motive := fun t : State => RegsKept (ringCtls f) s t) allRings _ (.refl _ _)
    fun t ht _ hr => ht.trans (.setReg t _ _ _ _ (List.mem_map_of_mem hr))

/-- A ring's EN that is cleared, or that is 0, is 0 after others are cleared. -/
theorem State.foldl_en_off {r : Fin 64} : ∀ (l : List (Fin 64)) (s : State),
    r ∈ l ∨ s.flag (F.HIF_RING_CTL_EN f r) = false →
    (l.foldl (fun s (r : Fin 64) => s.setF (F.HIF_RING_CTL_EN f r) 0) s).flag (F.HIF_RING_CTL_EN f r) = false
  | [], s, h => by simpa using h
  | q :: l, s, h => by
    refine State.foldl_en_off l _ ?_
    by_cases hq : r = q
    · subst hq
      exact .inr (by rw [State.flag, State.fld_setF_self _ _ (by simp)]; rfl)
    · refine h.imp (fun hmem => (List.mem_cons.1 hmem).resolve_left hq) (fun hoff => ?_)
      rwa [State.flag_setF_ne s (ringCtl_inj f hq)]

theorem State.ringsOff_flag (s : State) (f : Fin 16) (r : Fin 64) :
    (s.ringsOff f).flag (F.HIF_RING_CTL_EN f r) = false :=
  State.foldl_en_off allRings s (.inl (List.mem_finRange r))

theorem State.rereg_off (h : ∀ r, (s.ring f r).phase ≠ .on) : s.rereg f = s.unfence f := by
  have hnone : allRings.filter (fun r => (s.ring f r).phase = .on) = [] :=
    List.filter_eq_nil_iff.2 (fun r _ => by simpa using h r)
  rw [s.rereg_eq, hnone]
  rfl

/-- The reset of a virtual function with nothing in flight, up to the end of its fence. -/
def State.fnReset (s : State) (f : Fin 16) : State :=
  (((s.pageReset f).ringsOff f).dropRings (fun k => k / 64 = f.val)).unfence f

/-- All of it: the tolerance that says nothing was asked for, and the quit of the players it owns. -/
def State.fnFlr (s : State) (f : Fin 16) : State :=
  ((s.fnReset f).setReg .HIF_FN_LAT f 0 0xFFFFFFFF).playQuit
    (fun p => Decidable.decide ((s.fnReset f).fld (F.PLAY_CTL_OWNER p) = f.val))

theorem State.vfFlr_quiet (ha : s.alive = true) (hf : f ≠ 0) (hvf : s.hif.vfEnable = true) (hnum : f.val ≤ s.hif.numVfs)
    (hslots : ∀ x ∈ s.hif.slots, x.hdr.fn ≠ f) (htricks : ∀ x ∈ s.trk.tricks, x.owner ≠ .fn f) :
    s.vfFlr f = s.fnFlr f := by
  have hexists : s.fnExists f = true := by simp [State.fnExists, hvf, hnum]
  have hfrozen : s.frozen = false := by
    simp only [State.alive, Bool.and_eq_true, Bool.not_eq_true'] at ha
    exact ha.2
  have habandon : (s.pageReset f).abandonSlots (fun x => x.hdr.fn = f) = s.pageReset f :=
    State.abandonSlots_none (List.filter_eq_nil_iff.2 (fun x hx => by simpa using hslots x hx))
  have hdiscard : (s.pageReset f).discardTricks (fun t => t.ofFn f) = s.pageReset f :=
    State.discardTricks_none (fun t ht => by simpa [Trick.ofFn] using htricks t ht)
  have hrereg : (((s.pageReset f).ringsOff f).dropRings (fun k => k / 64 = f.val)).rereg f = s.fnReset f :=
    State.rereg_off (fun r => by rw [State.ring_dropRings, if_pos rfl]; decide)
  unfold State.ringsOff at hrereg
  simp only [State.vfFlr, hexists, hfrozen, ha, habandon, hdiscard, hrereg, hf, Bool.not_true, Bool.or_self, decide_false,
    Bool.false_eq_true, if_false]
  rfl

theorem State.fnReset_eq (s : State) (f : Fin 16) : s.fnReset f =
    { s with regs := ((s.pageReset f).ringsOff f).regs, msix := (s.pageReset f).msix, pba := (s.pageReset f).pba
             hif := { s.hif with rings := (s.dropRings (fun k => k / 64 = f.val)).hif.rings
                                 fenced := (s.unfence f).hif.fenced, d3hot := (s.pageReset f).hif.d3hot }
             mv := (s.unfence f).mv } := by
  have hframe := (s.pageReset f).ringsOff_frame f
  rw [State.fnReset]
  generalize (s.pageReset f).ringsOff f = t at *
  rw [hframe]
  rfl

/-- From `s` to `t` only registers and players change. -/
def PlaysOnly (s t : State) : Prop := t = { s with regs := t.regs, aud := { s.aud with play := t.aud.play } }

theorem PlaysOnly.trans {t u : State} (h : PlaysOnly s t) (k : PlaysOnly t u) : PlaysOnly s u := by
  rw [PlaysOnly] at *
  rw [k, h]

theorem PlaysOnly.setReg (s : State) (r : RegId) (i j : Nat) (w : Word) : PlaysOnly s (s.setReg r i j w) := rfl

theorem PlaysOnly.playQuit (s : State) (mine : Fin 16 → Bool) : PlaysOnly s (s.playQuit mine) :=
  List.foldlRecOn (motive := fun t : State => PlaysOnly s t) allPlayers _ rfl fun t ht p _ => by
    split
    · exact ht.trans rfl
    · exact ht

theorem State.playQuit_regs (s : State) (mine : Fin 16 → Bool) : (s.playQuit mine).regs = s.regs :=
  List.foldlRecOn (motive := fun t : State => t.regs = s.regs) allPlayers _ rfl fun t ht p _ => by
    split
    · exact ht
    · exact ht

theorem State.fnFlr_eq (s : State) (f : Fin 16) : s.fnFlr f =
    { s with regs := (s.fnFlr f).regs, msix := (s.pageReset f).msix, pba := (s.pageReset f).pba
             hif := { s.hif with rings := (s.dropRings (fun k => k / 64 = f.val)).hif.rings
                                 fenced := (s.unfence f).hif.fenced, d3hot := (s.pageReset f).hif.d3hot }
             aud := { s.aud with play := (s.fnFlr f).aud.play }, mv := (s.unfence f).mv } := by
  have hplays : PlaysOnly (s.fnReset f) (s.fnFlr f) := (PlaysOnly.setReg _ _ _ _ _).trans (.playQuit _ _)
  generalize s.fnFlr f = t at *
  rw [PlaysOnly] at hplays
  rw [hplays, s.fnReset_eq f]

/-- A register after it, but for EN of the function's rings and for its tolerance as before. -/
theorem State.fnFlr_reg (s : State) (f : Fin 16) (r : RegId) (i j : Nat) :
    (s.fnFlr f).reg r i j = ((s.fnReset f).setReg .HIF_FN_LAT f 0 0xFFFFFFFF).reg r i j := by
  have hpart : (s.fnFlr f).part = ((s.fnReset f).setReg .HIF_FN_LAT f 0 0xFFFFFFFF).part := by
    rw [s.fnFlr_eq f, State.setReg_part, s.fnReset_eq f]
  rw [State.reg, State.reg, hpart, State.fnFlr, State.playQuit_regs]

theorem State.fnReset_reg (s : State) (f : Fin 16) (r : RegId) (i j : Nat) :
    (s.fnReset f).reg r i j = ((s.pageReset f).ringsOff f).reg r i j := by
  have hpart : ((s.pageReset f).ringsOff f).part = s.part := by
    rw [State.ringsOff_frame]
    rfl
  rw [State.reg, State.reg, s.fnReset_eq f, hpart]

theorem addr_fnLat (i j : Nat) : RegId.addr .HIF_FN_LAT i j = 0x1100C + i * 0x20 + j * 0 := rfl

theorem ringCtl_ne_fnLat (f : Fin 16) (r : Fin 64) : RegId.addr .HIF_RING_CTL f r ≠ RegId.addr .HIF_FN_LAT f 0 := by
  rw [addr_ringCtl, addr_fnLat]
  omega

theorem State.fnFlr_flag (s : State) (f : Fin 16) (r : Fin 64) : (s.fnFlr f).flag (F.HIF_RING_CTL_EN f r) = false := by
  have h : (s.fnFlr f).flag (F.HIF_RING_CTL_EN f r) = ((s.pageReset f).ringsOff f).flag (F.HIF_RING_CTL_EN f r) := by
    rw [State.flag, State.flag, State.fld, State.fld, s.fnFlr_reg f, State.reg_setReg_ne _ (ringCtl_ne_fnLat f r),
      State.fnReset_reg]
  rw [h, State.ringsOff_flag]

theorem State.fnFlr_lat (s : State) (f : Fin 16) : (s.fnFlr f).reg .HIF_FN_LAT f 0 = 0xFFFFFFFF := by
  rw [s.fnFlr_reg f, State.reg_setReg_self]

theorem playCtl_notMem_ringCtls (f p : Fin 16) : RegId.addr .PLAY_CTL p 0 ∉ ringCtls f := by
  simp only [ringCtls, List.mem_map, not_exists, not_and, addr_ringCtl,
    show RegId.addr .PLAY_CTL p 0 = 0x263000 + p.val * 0x20 + 0 * 1 from rfl]
  omega

theorem State.fnReset_owner (s : State) (f p : Fin 16) :
    (s.fnReset f).fld (F.PLAY_CTL_OWNER p) = s.fld (F.PLAY_CTL_OWNER p) := by
  have hreg : (s.fnReset f).reg .PLAY_CTL p 0 = s.reg .PLAY_CTL p 0 := by
    rw [State.reg, s.fnReset_eq f]
    show (SMap.find ((s.pageReset f).ringsOff f).regs _).getD _ = _
    rw [(s.pageReset f).ringsOff_regs f _ (playCtl_notMem_ringCtls f p)]
    rfl
  rw [State.fld, State.fld, hreg]

theorem State.fnFlr_players (s : State) (f p : Fin 16) : if s.fld (F.PLAY_CTL_OWNER p) = f.val
    then ((s.fnFlr f).play p).bufs = [] else (s.fnFlr f).play p = s.play p := by
  have hplay := (((s.fnReset f).setReg .HIF_FN_LAT f 0 0xFFFFFFFF).playQuit_flight
    (fun p => Decidable.decide ((s.fnReset f).fld (F.PLAY_CTL_OWNER p) = f.val))).2 p
  rw [← State.fnFlr, s.fnReset_owner f p] at hplay
  have hsame : ((s.fnReset f).setReg .HIF_FN_LAT f 0 0xFFFFFFFF).play p = s.play p := by
    rw [s.fnReset_eq f]
    rfl
  rw [hsame] at hplay
  split
  · next h => simpa [h] using hplay
  · next h => simpa [h] using hplay

theorem State.msixWord_pageReset (s : State) (f g : Fin 16) {o : Nat} (ho : o < 1024) :
    (s.pageReset f).msixWord g o = if g = f then (if o % 16 = 12 then 1 else 0) else s.msixWord g o := by
  have hkey : (g.val * 1024 + o) / 1024 = g.val := by omega
  have hfind := SMap.find_filter (fun a => Decidable.decide (a / 1024 ≠ f.val)) (g.val * 1024 + o) s.msix
  rw [hkey] at hfind
  refine (congrArg (fun w => w.getD (if o % 16 = 12 then 1 else 0)) hfind).trans ?_
  by_cases hg : g = f
  · simp [hg]
  · have : g.val ≠ f.val := fun e => hg (Fin.ext e)
    simp [hg, this, State.msixWord]

/-- The mask of a function's 64 pending bits. -/
theorem pbaMask_bit (f g : Fin 16) {v : Nat} (hv : v < 64) :
    (~~~BitVec.ofNat 1024 ((2 ^ 64 - 1) * 2 ^ (f.val * 64))).getLsbD (g.val * 64 + v) = Decidable.decide (g ≠ f) := by
  have hlt : g.val * 64 + v < 1024 := by omega
  rw [BitVec.getLsbD_not, BitVec.getLsbD_ofNat, ← Nat.shiftLeft_eq, Nat.testBit_shiftLeft, Nat.testBit_two_pow_sub_one]
  by_cases hg : g = f
  · subst hg
    simp [hlt, hv]
  · have hne : g.val ≠ f.val := fun e => hg (Fin.ext e)
    have : g.val * 64 + v < f.val * 64 ∨ 64 ≤ g.val * 64 + v - f.val * 64 := by omega
    simpa [hlt, hg] using this

theorem State.d3hot_pageReset (s : State) (f g : Fin 16) : (s.pageReset f).hif.d3hot.getLsbD g.val =
    (s.hif.d3hot.getLsbD g.val && Decidable.decide (g ≠ f)) := by
  rw [State.pageReset, BitVec.getLsbD_and, fnMask_bit]

theorem State.pba_pageReset (s : State) (f g : Fin 16) {v : Nat} (hv : v < 64) :
    (s.pageReset f).pba.getLsbD (g.val * 64 + v) = (Decidable.decide (g ≠ f) && s.pba.getLsbD (g.val * 64 + v)) := by
  rw [State.pageReset, BitVec.getLsbD_and, pbaMask_bit f g hv, Bool.and_comm]

/-- In FREEZE the reset of a function that exists waits. -/
theorem State.vfFlr_frozen (hmode : s.glob.mode = .freeze) (hf : f ≠ 0) (hexists : s.fnExists f = true) :
    (s.vfFlr f).follow = { s with glob := { s.glob with
      flrPending := s.glob.flrPending ||| BitVec.ofNat 16 (2 ^ f.val) } } := by
  have hfrozen : s.frozen = true := by simp [State.frozen, hmode]
  have he : s.vfFlr f = { s with glob := { s.glob with
      flrPending := s.glob.flrPending ||| BitVec.ofNat 16 (2 ^ f.val) } } := by
    simp only [State.vfFlr, hexists, hfrozen, hf, decide_false, Bool.not_true, Bool.or_self, Bool.false_eq_true, if_false,
      if_true]
  rw [he, State.follow_dead]
  simp [State.alive, State.frozen, hmode]

theorem State.fnFlr_ring (s : State) (f g : Fin 16) (r : Fin 64) :
    (s.fnFlr f).ring g r = if g = f then {} else s.ring g r := by
  rw [← s.ring_dropRings f g r, State.ring, s.fnFlr_eq f]
  rfl

theorem State.fnFlr_fenced (s : State) (f g : Fin 16) :
    (s.fnFlr f).fenced g = (s.fenced g && Decidable.decide (g ≠ f)) := by
  rw [← s.fenced_unfence f g, State.fenced, s.fnFlr_eq f]
  rfl

theorem State.fnFlr_msixWord (s : State) (f g : Fin 16) {o : Nat} (ho : o < 1024) :
    (s.fnFlr f).msixWord g o = if g = f then (if o % 16 = 12 then 1 else 0) else s.msixWord g o := by
  rw [← s.msixWord_pageReset f g ho, State.msixWord, s.fnFlr_eq f]
  rfl

theorem State.fnFlr_pba (s : State) (f : Fin 16) : (s.fnFlr f).pba = (s.pageReset f).pba := by
  rw [s.fnFlr_eq f]

theorem State.fnFlr_d3hot (s : State) (f : Fin 16) : (s.fnFlr f).hif.d3hot = (s.pageReset f).hif.d3hot := by
  rw [s.fnFlr_eq f]

end

/-! ### The statement -/

/-- The outcome of a step: what follows is settled at once. -/
def State.goOn (s : State) : Host.Outcome State Fault Refusal := .next s.follow

/-- Settles O14: a cause resets the host interface, or waits in FREEZE; a function's reset drops what is its own. -/
theorem hostInterfaceResets : Obligations.HostInterfaceResets := by
  unfold Obligations.HostInterfaceResets
  intro s f gone perst down wait
  have hreset : ∀ h : Hif, h.slots = s.hif.slots → s.alive = true →
      ∃ t : State, ({ s with hif := h } : State).hifCause.goOn = .next t.follow ∧ gone { s with hif := h } t := by
    intro h hsame ha
    have hcause := congrArg State.goOn (State.hifCause_alive (s := { s with hif := h }) ha)
    obtain ⟨hcold, hrings, hslots, hvf, hfenced, hd3hot, hmsix, hpba, hflag⟩ :=
      State.hifResetAll_gone { s with hif := h }
    have hframe := State.hifResetAll_frame (s := { s with hif := h })
    generalize ({ s with hif := h } : State).hifResetAll = t at *
    exact ⟨t, hcause, hcold, hrings, hslots, hvf, hfenced, hd3hot, hmsix, hpba, hflag,
      fun hnone => hframe (hsame.trans hnone)⟩
  refine ⟨fun ha => ⟨hreset s.hif rfl ha, hreset perst.hif rfl ha, hreset down.hif rfl ha⟩,
    fun hmode hheld => ⟨?_, ?_, ?_⟩, fun hmode hheld hf hexists => ?_,
    fun ha hf hvf hnum hslots htricks => ⟨s.fnFlr f, ?_⟩⟩
  · exact congrArg Host.Outcome.next (State.hifCause_frozen (s := s) hmode hheld)
  · exact congrArg Host.Outcome.next (State.hifCause_frozen (s := perst) hmode hheld)
  · exact congrArg Host.Outcome.next (State.hifCause_frozen (s := down) hmode hheld)
  · exact congrArg Host.Outcome.next (State.vfFlr_frozen hmode hf hexists)
  · refine ⟨congrArg State.goOn (State.vfFlr_quiet ha hf hvf hnum hslots htricks), ?_⟩
    refine ⟨fun r => by rw [s.fnFlr_ring, if_pos rfl], by simp [s.fnFlr_fenced], fun g r hg => ?_, s.fnFlr_flag f,
      s.fnFlr_lat f, fun g o ho => s.fnFlr_msixWord f g ho, fun g v hv => ?_, ?_, fun g hg => ?_, s.fnFlr_players f, ?_⟩
    · exact ⟨by rw [s.fnFlr_ring, if_neg hg], by simp [s.fnFlr_fenced, hg]⟩
    · rw [s.fnFlr_pba, s.pba_pageReset f g hv]
    · rw [s.fnFlr_d3hot, s.d3hot_pageReset, decide_eq_false (not_not.2 rfl), Bool.and_false]
    · rw [s.fnFlr_d3hot, s.d3hot_pageReset, decide_eq_true hg, Bool.and_true]
    · have heq := s.fnFlr_eq f
      generalize s.fnFlr f = t at *
      rw [heq]
      rfl

end Sys2Proof.Machine
end

section
/-!
PROOF. The commit of a trick (O29): what follows its pages and its writes leaves the scene as they made it.
Counting, records, Causeway, sound, timers, pins and sequencers.
-/

set_option Elab.async false  -- the joined text is large: no thread per declaration

namespace Sys2Proof.Machine

/-- The address of a trick-class or line-class register: one that tricks commit (R110, R121). -/
def sceneAddr (a : Nat) : Bool :=
  match decodeReg a with
  | some (r, _, _) => r.row.cls = .trick || r.row.cls = .line
  | none => false

theorem sceneAddr_of_decode {r : RegId} {i j : Nat} (h : decodeReg (r.addr i j) = some (r, i, j))
    (hc : r.row.cls = .trick ∨ r.row.cls = .line) : sceneAddr (r.addr i j) = true := by
  simpa [sceneAddr, h] using hc

/-! ### Registers that are not of the scene -/

theorem sceneAddr_faultRegs : ∀ a ∈ faultRegs, sceneAddr a = false := by decide +kernel

theorem sceneAddr_logRegs : ∀ f : Fin 16, ∀ a ∈ RegId.addr .VLG_TOTAL f 0 :: logRegs f, sceneAddr a = false := by
  decide +kernel

/-- Status registers of a head that an application can write. -/
def headStatus : List RegId :=
  [.HEAD_STAT, .TRUMP_STAT, .SINK_STAT, .SINK_WB_STATUS, .TRK_HD_LAST_ID, .TRK_HD_LAST_INFO]

theorem sceneAddr_headStatus : ∀ r ∈ headStatus, ∀ n : Fin 6, sceneAddr (r.addr n 0) = false := by decide +kernel

/-- Status registers of the device that a cutoff or an application can write. -/
def deviceStatus : List RegId :=
  [.MEM_POOL_STATUS, .GPIO_STAT, .CWY_WALL_SEQ, .CWY_BENCH_NEXT, .CWY_LATE, .TRK_MISSED]

theorem sceneAddr_deviceStatus : ∀ r ∈ deviceStatus, sceneAddr (r.addr 0 0) = false := by decide +kernel

theorem sceneAddr_tmrStat : ∀ n : Fin 16, sceneAddr (RegId.addr .TMR_STAT n 0) = false := by decide +kernel

theorem sceneAddr_portErr : ∀ p : Fin 5, sceneAddr (RegId.addr .CWY_PORT_ERR p 0) = false := by decide +kernel

theorem sceneAddr_benchRec : ∀ k : Fin 64, sceneAddr (RegId.addr .CWY_BENCH_REC0 k 0) = false ∧
    sceneAddr (RegId.addr .CWY_BENCH_REC1 k 0) = false := by decide +kernel

/-! ### The relation -/

/-- The part, memory, and the tricks that stand with the queue of those under application. -/
def State.ledger (s : State) := (s.part, s.mem, s.trk.tricks, s.trk.queue)

/-- From `s` to `t` memory, the tricks and every register they commit stay, and no wrap begins to wait. -/
structure KeepsScene (s t : State) : Prop where
  ledger : t.ledger = s.ledger
  waits : ∀ n, (s.head n).wrapWait = false → (t.head n).wrapWait = false
  regs : ∀ a, sceneAddr a = true → SMap.find t.regs a = SMap.find s.regs a

section
variable {s t u : State}

theorem KeepsScene.refl : KeepsScene s s := ⟨rfl, fun _ h => h, fun _ _ => rfl⟩

theorem KeepsScene.trans (h : KeepsScene s t) (k : KeepsScene t u) : KeepsScene s u :=
  ⟨k.ledger.trans h.ledger, fun n hn => k.waits n (h.waits n hn), fun a ha => (k.regs a ha).trans (h.regs a ha)⟩

theorem KeepsScene.ite {c : Prop} [Decidable c] (h : KeepsScene s t) (k : KeepsScene s u) :
    KeepsScene s (if c then t else u) := by
  split <;> [exact h; exact k]

theorem KeepsScene.foldl {α : Type} {f : State → α → State} (hf : ∀ {t a}, KeepsScene s t → KeepsScene s (f t a))
    {l : List α} (h : KeepsScene s t) : KeepsScene s (l.foldl f t) :=
  List.foldlRecOn (motive := KeepsScene s) l f h fun _ ht _ _ => hf ht

/-- A step that changes nothing a scene is judged by. -/
theorem KeepsScene.same (h : KeepsScene s t) (hl : u.ledger = t.ledger) (hh : u.heads = t.heads)
    (hr : u.regs = t.regs) : KeepsScene s u :=
  h.trans ⟨hl, fun n hn => by rwa [State.head_of_heads hh], fun a _ => by rw [hr]⟩

/-- A step that changes only registers of `ex` and what no scene is judged by. -/
theorem KeepsScene.step {ex : List Nat} (h : KeepsScene s t) (hl : u.ledger = t.ledger) (hh : u.heads = t.heads)
    (hr : RegsKept ex t u) (hex : ∀ a ∈ ex, sceneAddr a = false) : KeepsScene s u := by
  refine h.trans ⟨hl, fun n hn => by rwa [State.head_of_heads hh], fun a ha => hr a fun hm => ?_⟩
  simp [hex a hm] at ha

theorem KeepsScene.recorded (h : KeepsScene s t) (c : Recorded t u) : KeepsScene s u :=
  h.step (by rw [c.1]; rfl) c.heads c.2.1 sceneAddr_faultRegs

theorem KeepsScene.counted (h : KeepsScene s t) (c : Counted t u) : KeepsScene s u := h.recorded c.recorded

/-- A register that tricks commit reads what it read. -/
theorem KeepsScene.reg (h : KeepsScene s t) {r : RegId} {i j : Nat} (ha : sceneAddr (r.addr i j) = true) :
    t.reg r i j = s.reg r i j := by
  have hpart : t.part = s.part := congrArg Prod.fst h.ledger
  rw [State.reg, State.reg, h.regs _ ha, hpart]

end

section
variable {s t : State} (h : KeepsScene s t)
include h

theorem KeepsScene.setReg (r : RegId) (i j : Nat) {w} (hr : sceneAddr (r.addr i j) = false) :
    KeepsScene s (t.setReg r i j w) :=
  h.step (ex := [r.addr i j]) rfl rfl (.setReg t _ _ _ _ (by simp)) (by simpa using hr)

theorem KeepsScene.setF (f : Fld) {v} (hf : sceneAddr (f.id.addr f.i f.j) = false) :
    KeepsScene s (t.setF f v) := h.setReg _ _ _ hf

theorem KeepsScene.raiseF (f : Fld) (hf : sceneAddr (f.id.addr f.i f.j) = false) :
    KeepsScene s (t.raiseF f) := h.setReg _ _ _ hf

theorem KeepsScene.incF (f : Fld) {n} (hf : sceneAddr (f.id.addr f.i f.j) = false) :
    KeepsScene s (t.incF f n) := h.setReg _ _ _ hf

/-- A head changes, and its wrap does not begin to wait. -/
theorem KeepsScene.modHead {n f} (hf : ∀ x : HeadSt, x.wrapWait = false → (f x).wrapWait = false := by
    exact fun _ k => k) : KeepsScene s (t.modHead n f) := by
  refine h.trans ⟨rfl, fun m hm => ?_, fun _ _ => rfl⟩
  by_cases e : m = n
  · subst e
    rw [State.head_modHead_self]
    exact hf _ hm
  · rwa [State.head_modHead_ne _ e]

theorem KeepsScene.modSc {n f} : KeepsScene s (t.modSc n f) := h.modHead
theorem KeepsScene.modSk {n f} : KeepsScene s (t.modSk n f) := h.modHead
theorem KeepsScene.modDp {n f} : KeepsScene s (t.modDp n f) := h.modHead
theorem KeepsScene.modEv {n f} : KeepsScene s (t.modEv n f) := h.modHead
theorem KeepsScene.emit {o} : KeepsScene s (t.emit o) := h.same rfl rfl rfl
theorem KeepsScene.modSeq {q f} : KeepsScene s (t.modSeq q f) := h.same rfl rfl rfl
theorem KeepsScene.modDom {d f} : KeepsScene s (t.modDom d f) := h.same rfl rfl rfl
theorem KeepsScene.modTimer {n f} : KeepsScene s (t.modTimer n f) := h.same rfl rfl rfl
theorem KeepsScene.modCwy {f} : KeepsScene s (t.modCwy f) := h.same rfl rfl rfl
theorem KeepsScene.modPort {p f} : KeepsScene s (t.modPort p f) := h.same rfl rfl rfl
theorem KeepsScene.shown {l} : KeepsScene s { t with trk := { t.trk with shown := l } } := h.same rfl rfl rfl

theorem KeepsScene.count {c i n a} : KeepsScene s (t.count c i n a) := h.counted (t.count_counted _ _ _ _)
theorem KeepsScene.signal {w} : KeepsScene s (t.signal w) := h.counted (.signal t w)
theorem KeepsScene.fault {c u i f l p d} : KeepsScene s (t.fault c u i f l p d) :=
  h.recorded (t.fault_recorded _ _ _ _ _ _ _)
theorem KeepsScene.faultDev {c u i d} : KeepsScene s (t.faultDev c u i d) := h.fault

theorem KeepsScene.logEntry {f r g c d} : KeepsScene s (t.logEntry f r g c d) := by
  obtain ⟨heq, hregs, -⟩ := t.logEntry_frame f r g c d
  exact h.step (by rw [heq]; rfl) (by rw [heq]) hregs (sceneAddr_logRegs f)

/-! ### Causeway -/

theorem KeepsScene.transmit {p k} : KeepsScene s (t.transmit p k) := h.modPort.emit.count

theorem KeepsScene.pushPkt {p k} : KeepsScene s (t.pushPkt p k) := h.ite (.ite h.transmit h.modPort)

theorem KeepsScene.cwyEvent {c p} : KeepsScene s (t.cwyEvent c p) :=
  h.ite (.ite h.modCwy.faultDev.logEntry h.modCwy.faultDev.pushPkt)

theorem KeepsScene.benchRecord {i r f} : KeepsScene s (t.benchRecord i r f) := by
  obtain ⟨hrec0, hrec1⟩ := sceneAddr_benchRec ⟨t.fld F.CWY_BENCH_NEXT_INDEX, bits_lt _ _ _⟩
  have hindex := sceneAddr_deviceStatus .CWY_BENCH_NEXT (by decide)
  exact (((h.setF (F.CWY_BENCH_REC0_REASON _) hrec0).setF (F.CWY_BENCH_REC0_ID _) hrec0).setReg .CWY_BENCH_REC1 _ 0
    hrec1).setF F.CWY_BENCH_NEXT_INDEX hindex

theorem KeepsScene.reportBenched {id r k} : KeepsScene s (t.reportBenched id r k) := h.benchRecord.modCwy.ite h.pushPkt

theorem KeepsScene.benchChild {p r} : KeepsScene s (t.benchChild p r) :=
  h.ite h.modPort.pushPkt.reportBenched.cwyEvent

theorem KeepsScene.sendDown {p k} : KeepsScene s (t.sendDown p k) :=
  (h.incF (F.CWY_PORT_ERR_OVERFLOW p) (sceneAddr_portErr p)).cwyEvent.benchChild.ite h.pushPkt

theorem KeepsScene.sendWallInfo : KeepsScene s t.sendWallInfo :=
  (h.foldl fun h => h.sendDown.ite h).ite h

/-! ### Sequencers, sound, timers and pins -/

theorem KeepsScene.seqIdleFor {n} : KeepsScene s (t.seqIdleFor n) :=
  h.foldl fun h => by
    split
    · split <;> exact h.same rfl rfl rfl
    · exact h

theorem KeepsScene.wakeStalled : KeepsScene s t.wakeStalled := h.foldl fun h => h.modSeq.ite h

theorem KeepsScene.oweStart {q f b} : KeepsScene s (t.oweStart q f b) := h.same rfl rfl rfl

theorem KeepsScene.applySeq {k q e b} : KeepsScene s (t.applySeq k q e b) := by
  unfold State.applySeq
  extract_lets x loaded u en frame v
  have hu : KeepsScene s u := by
    unfold u
    split <;> [exact h.modSeq.ite h; exact h]
  have hv : KeepsScene s v := hu.modSeq.ite (hu.modSeq.ite hu)
  exact hv.oweStart.ite hv

theorem KeepsScene.audApply {k} : KeepsScene s (t.audApply k) :=
  h.foldl fun h => by split <;> [exact h.modDom.ite h; exact h]

theorem KeepsScene.tmrReview : KeepsScene s t.tmrReview :=
  h.foldl fun {_} {n : Fin 16} h => (h.raiseF (F.TMR_STAT_CFG n) (sceneAddr_tmrStat n)).ite h

theorem KeepsScene.gpioReview : KeepsScene s t.gpioReview := by
  have hstat := sceneAddr_deviceStatus .GPIO_STAT (by decide)
  unfold State.gpioReview
  extract_lets bad two u
  have hu : KeepsScene s u := (h.raiseF F.GPIO_STAT_CFG hstat).ite h
  exact (hu.raiseF F.GPIO_STAT_CONFLICT hstat).ite hu

theorem KeepsScene.tmrMsg : KeepsScene s t.tmrMsg :=
  have hirq : ∀ b, KeepsScene s { t with tmr := { t.tmr with irq := b } } := fun _ => h.same rfl rfl rfl
  (hirq _).signal.ite (hirq _)

theorem KeepsScene.gpioMsg : KeepsScene s t.gpioMsg :=
  have hirq : ∀ b, KeepsScene s { t with gpio := { t.gpio with irq := b } } := fun _ => h.same rfl rfl rfl
  (hirq _).signal.ite (hirq _)

theorem KeepsScene.tmrApply {w} : KeepsScene s (t.tmrApply w) := by
  refine KeepsScene.gpioMsg (KeepsScene.tmrMsg (KeepsScene.gpioReview (KeepsScene.tmrReview (h.foldl fun h => ?_))))
  exact (h.modTimer.ite h).modTimer.ite (h.modTimer.ite h)

theorem KeepsScene.pinReview {t0} : KeepsScene s (t.pinReview t0) :=
  h.ite (h.same rfl rfl rfl)

end

end Sys2Proof.Machine
end

section
/-!
PROOF. The commit of a trick (O29): damage marks, timing sets and enables leave the scene as the trick made it.
-/

set_option Elab.async false  -- the joined text is large: no thread per declaration

namespace Sys2Proof.Machine

/-! ### Damage -/

theorem HeadSt.wrapWait_ungate (h : HeadSt) : h.ungate.wrapWait = h.wrapWait := by
  unfold HeadSt.ungate
  split <;> rfl

theorem HeadSt.wrapWait_mark (h : HeadSt) (b : Box) : (h.mark b).wrapWait = h.wrapWait := by
  unfold HeadSt.mark
  split <;> [rfl; exact HeadSt.wrapWait_ungate _]

theorem HeadSt.wrapWait_markAll (h : HeadSt) : h.markAll.wrapWait = h.wrapWait := HeadSt.wrapWait_ungate _

section
variable {s t : State} (h : KeepsScene s t)
include h

theorem KeepsScene.markAll {n} : KeepsScene s (t.markAll n) := h.modHead fun x => x.wrapWait_markAll.trans

theorem KeepsScene.markOpt {n b} : KeepsScene s (t.markOpt n b) := by
  cases b with
  | none => exact h
  | some b => exact h.modHead fun x => (x.wrapWait_mark b).trans

theorem KeepsScene.markEntry {n a} : KeepsScene s (t.markEntry n a) := by
  refine h.foldl fun h => ?_
  exact KeepsScene.ite (.ite h.markOpt (.ite h (h.modHead fun _ hx => (HeadSt.wrapWait_ungate _).trans hx))) h

theorem KeepsScene.markRegs {t0 n ws} : KeepsScene s (t.markRegs t0 n ws) :=
  h.foldl fun h => KeepsScene.ite h <| by
    split
    iterate 3 exact h.markOpt.markOpt
    iterate 6 exact h
    exact h.markAll

theorem KeepsScene.markMaps {n l} : KeepsScene s (t.markMaps n l) :=
  (h.foldl fun h => h.markOpt.ite h).foldl fun h => h.markEntry

theorem KeepsScene.markDecks {n l} : KeepsScene s (t.markDecks n l) :=
  h.markAll.ite (h.foldl fun h => h.markOpt.markOpt)

theorem KeepsScene.markRest {n l} : KeepsScene s (t.markRest n l) := h.markAll.ite h

theorem KeepsScene.markTrick {t0 k ws} : KeepsScene s (t.markTrick t0 k ws) :=
  (h.foldl fun h => h.markRegs.markMaps.markDecks.markRest).foldl fun h => h.markRest

/-! ### Blanking changes -/

theorem KeepsScene.auxSend {n} : KeepsScene s (t.auxSend n) := by
  unfold State.auxSend
  split <;> [exact h.ite h.emit; exact h]

theorem KeepsScene.endVideo {n} : KeepsScene s (t.endVideo n) := h.modSc.modDp

theorem KeepsScene.stopBeams {n} : KeepsScene s (t.stopBeams n) := h.seqIdleFor.modHead

theorem KeepsScene.endTraining {n} : KeepsScene s (t.endTraining n) := h.modDp.auxSend.ite h

theorem KeepsScene.wbPublish {n} : KeepsScene s (t.wbPublish n) := by
  have hstat := sceneAddr_headStatus .SINK_WB_STATUS (by decide) n
  simp only [State.wbPublish]
  split
  · exact ((h.setF (F.SINK_WB_STATUS_VALID n) hstat).setF (F.SINK_WB_STATUS_LAST n) hstat).setF
      (F.SINK_WB_STATUS_FRAME n) hstat
  · exact h.setF (F.SINK_WB_STATUS_VALID n) hstat

theorem KeepsScene.sinkAdopt {n} : KeepsScene s (t.sinkAdopt n) := by
  have hstat := sceneAddr_headStatus .SINK_STAT (by decide) n
  unfold State.sinkAdopt
  extract_lets c h0 u v
  have hv : KeepsScene s v := (h.modSk.raiseF (F.SINK_STAT_CFG n) hstat).ite h.modSk
  exact hv.ite hv.modSk.wbPublish

theorem KeepsScene.blankFrame {n} : KeepsScene s (t.blankFrame n) := by
  unfold State.blankFrame
  extract_lets pace u v
  have hu : KeepsScene s u := h.modHead fun _ _ => rfl
  have hv : KeepsScene s v := hu.sinkAdopt.modSc
  exact hv.modHead.modHead

theorem KeepsScene.startTraining {n} : KeepsScene s (t.startTraining n) := by
  have hstat := sceneAddr_headStatus .HEAD_STAT (by decide) n
  unfold State.startTraining
  extract_lets h0 r u
  have hu : KeepsScene s u := h.ite ((h.raiseF (F.HEAD_STAT_TS_ERR n) hstat).setF (F.HEAD_STAT_TS_REASON n) hstat)
  exact h.ite (hu.modDp.endTraining.ite hu.modDp.emit)

theorem KeepsScene.settleStep3 : KeepsScene s t.settleStep3 :=
  (h.foldl fun h => h.blankFrame).foldl fun h => h.startTraining.ite h

/-! ### Enables, timing sets and locks -/

theorem KeepsScene.dropOldPages {n} : KeepsScene s (t.dropOldPages n) := h.same rfl rfl rfl

theorem KeepsScene.headOff {n} : KeepsScene s (t.headOff n) :=
  have hstat := sceneAddr_headStatus .TRUMP_STAT (by decide) n
  have hout := (h.endVideo.stopBeams.emit (o := .aux n 0 0x600 [2])).dropOldPages.setF (F.TRUMP_STAT_FB n) (v := 0) hstat
  hout.modHead.modDp.endTraining.settleStep3.wakeStalled

theorem KeepsScene.reviewEnable {n} : KeepsScene s (t.reviewEnable n) := by
  have hstat := sceneAddr_headStatus .TRUMP_STAT (by decide) n
  unfold State.reviewEnable
  extract_lets h0 fbMode u v
  have hv : KeepsScene s v := h.modHead.modHead.modDp
  exact KeepsScene.ite (.ite (hv.modHead.raiseF (F.TRUMP_STAT_FB n) hstat) hv) h

theorem KeepsScene.tsRefuse {n r} : KeepsScene s (t.tsRefuse n r) :=
  have hstat := sceneAddr_headStatus .HEAD_STAT (by decide) n
  ((h.raiseF (F.HEAD_STAT_TS_ERR n) hstat).setF (F.HEAD_STAT_TS_REASON n) hstat).fault

theorem KeepsScene.reviewLocks {n} : KeepsScene s (t.reviewLocks n) :=
  h.foldl fun {t k} h => by
    have hstat := sceneAddr_headStatus .HEAD_STAT (by decide) k
    dsimp only
    split
    · exact KeepsScene.ite (.ite ((h.raiseF (F.HEAD_STAT_LOCK_LOST k) hstat).modHead)
        (.ite h.modHead h)) h
    · exact h

theorem KeepsScene.applyTiming {n w} : KeepsScene s (t.applyTiming n w) := by
  unfold State.applyTiming
  extract_lets c h0 again needT blanking u v
  refine h.ite ?_
  split
  · exact h.tsRefuse
  · have hu : KeepsScene s u := h.modHead
    have hv : KeepsScene s v := hu.modDp.ite hu
    exact h.ite (hv.ite (.ite hv.modHead (hv.endTraining.modHead).settleStep3))

theorem KeepsScene.applyDpAud {n} : KeepsScene s (t.applyDpAud n) := by
  unfold State.applyDpAud
  extract_lets w h0
  refine h.tsRefuse.ite ?_
  split
  · exact h.tsRefuse.ite (h.modDp.ite h.modDp)
  · exact h.modDp

theorem KeepsScene.applyEnable {n} : KeepsScene s (t.applyEnable n) :=
  KeepsScene.ite (.ite h.modHead h.reviewEnable) (.ite (.ite h.modHead h.headOff) h)

theorem KeepsScene.applyHeads {ws} : KeepsScene s (t.applyHeads ws) := by
  unfold State.applyHeads
  extract_lets aud u v w x
  have hu : KeepsScene s u := h.foldl fun h => h.applyTiming
  have hv : KeepsScene s v := hu.foldl fun h => h.applyDpAud
  have hw : KeepsScene s w := hv.foldl fun h => h.applyEnable
  have hx : KeepsScene s x := hw.foldl fun h => h.reviewEnable
  exact hx.foldl fun h => h.reviewLocks

/-! ### The end of an application -/

theorem KeepsScene.dropHeld {w} : KeepsScene s (t.dropHeld w) := by
  unfold State.dropHeld
  extract_lets drop
  have hdrop : ∀ axis, KeepsScene s (drop axis) := fun axis => by
    unfold drop
    split <;> [exact h.modHead; exact h]
  split <;> [exact hdrop 0; exact hdrop 0; exact hdrop 1; exact hdrop 1; exact h]

theorem KeepsScene.lastTrick {n o id} : KeepsScene s (t.lastTrick n o id) := by
  have hid := sceneAddr_headStatus .TRK_HD_LAST_ID (by decide) n
  have hinfo := sceneAddr_headStatus .TRK_HD_LAST_INFO (by decide) n
  unfold State.lastTrick
  split
  · exact (h.setReg .TRK_HD_LAST_ID n 0 hid).setReg .TRK_HD_LAST_INFO n 0 hinfo
  · exact h
  · exact (h.setReg .TRK_HD_LAST_ID n 0 hid).setReg .TRK_HD_LAST_INFO n 0 hinfo

theorem KeepsScene.startEval {n l d c o z} : KeepsScene s (t.startEval n l d c o z) := by
  unfold State.startEval
  exact h.modEv

theorem KeepsScene.startEval0 {n} : KeepsScene s (t.startEval0 n) := h.startEval.ite h.modEv

theorem KeepsScene.restartEval0 {m} : KeepsScene s (t.restartEval0 m) := h.foldl fun h => h.startEval0.ite h

theorem KeepsScene.setMode {m c} : KeepsScene s (t.setMode m c) :=
  have hg : ∀ g, KeepsScene s { t with glob := g } := fun _ => h.same rfl rfl rfl
  (hg _).counted (t.setMode_counted m c)

theorem KeepsScene.reviewMode : KeepsScene s t.reviewMode := by
  unfold State.reviewMode
  refine h.ite ?_
  split
  · exact h.setMode.ite (h.setMode.ite h)
  · exact h.setMode.ite (h.ite h.setMode)
  · exact h.setMode.ite h
  · exact h

end

end Sys2Proof.Machine
end

section
/-!
PROOF. The commit of a trick (O29): its pages and its writes, and the end of its application.
-/

set_option Elab.async false  -- the joined text is large: no thread per declaration

namespace Sys2Proof.Machine

/-! ### Shown tricks complete -/

/-- From `s` to `t` shown tricks moved on: beside them only the host interface, counts and messages changed. -/
def ShownOnly (s t : State) : Prop :=
  t = { s with regs := t.regs, pba := t.pba, pmc := t.pmc, out := t.out, hif := t.hif
               trk := { s.trk with shown := t.trk.shown } } ∧ RegsKept [RegId.addr .PMC_OVF 0 0] s t

section
variable {s t u : State}

theorem ShownOnly.refl : ShownOnly s s := ⟨rfl, .refl _ _⟩

theorem ShownOnly.trans (h : ShownOnly s t) (k : ShownOnly t u) : ShownOnly s u := by
  obtain ⟨h1, h2⟩ := h
  obtain ⟨k1, k2⟩ := k
  exact ⟨by rw [k1, h1], h2.trans k2⟩

theorem RingOnly.shownOnly {f : Fin 16} {r : Fin 64} (h : RingOnly [RegId.addr .PMC_OVF 0 0] s t f r) :
    ShownOnly s t := ⟨by rw [h.1], h.2.1⟩

theorem ShownOnly.endSlot (s : State) (id : Nat) (f : Fin 16) (r : Fin 64) (c : Cpl) :
    ShownOnly s (s.endSlot id f r c) := by
  unfold State.endSlot
  split
  · exact (s.writeCpl_only f r c).shownOnly.trans ⟨rfl, .refl _ _⟩
  · split <;> exact ⟨rfl, fun _ _ => rfl⟩

/-- A completion whose status spoils nothing leaves the tricks as they are (R92). -/
theorem ShownOnly.complete {st : Nat} (hst : spoils st = false) (s : State) (id : Nat) (d : Word) :
    ShownOnly s (s.complete id st d) := by
  cases hx : s.slot id with
  | none => rw [State.complete_of_none hx]; exact .refl
  | some x =>
    have hspoil : s.spoilBy x st d = s := by
      unfold State.spoilBy
      split <;> simp [hst]
    rw [State.complete_of_slot hx, hspoil]
    exact .endSlot _ _ _ _ _

theorem ShownOnly.shown (s : State) (l : List Shown) : ShownOnly s { s with trk := { s.trk with shown := l } } :=
  ⟨rfl, fun _ _ => rfl⟩

theorem ShownOnly.endShown (s : State) (x : Shown) : ShownOnly s (s.endShown x) := by
  simp only [State.endShown]
  split
  · split <;> exact (ShownOnly.shown s _).trans (.complete (by decide) _ _ _)
  · exact .shown s _

theorem ShownOnly.settleShown (s : State) : ShownOnly s s.settleShown := by
  unfold State.settleShown
  extract_lets on shown u
  refine List.foldlRecOn (motive := ShownOnly s) u.trk.shown _ (.shown s _) fun t ht x _ => ?_
  split
  · exact ht.trans (.endShown t x)
  · exact ht

theorem ShownOnly.keepsScene (h : ShownOnly s t) : KeepsScene s t :=
  KeepsScene.refl.step (by rw [h.1]; rfl) (by rw [h.1]) h.2
    fun a ha => sceneAddr_faultRegs a (by simp_all [faultRegs])

end

/-! ### Committing pages (R129, R146) -/

/-- Over one background the bytes of a replaced run are those of the image, and all others stay. -/
theorem DevMem.read_replace {m img : DevMem} (h : m.wf = true) (hi' : img.wf = true) (hbg : img.bg = m.bg)
    {lo hi : Nat} (hl : lo ≤ hi) (a : Nat) :
    (m.replace lo hi img).read a = if lo ≤ a ∧ a < hi then img.read a else m.read a := by
  obtain ⟨m1, -⟩ := m.wf_iff.1 h
  obtain ⟨i1, i2⟩ := img.wf_iff.1 hi'
  have hreplace : m.replace lo hi img = m.splice lo hi (img.cells.filter (fun c => lo ≤ c.1 && c.1 < hi)) := by
    simp only [DevMem.replace, hbg, if_true]
  have hrise : Rising (m.splice lo hi (img.cells.filter (fun c => lo ≤ c.1 && c.1 < hi))).cells :=
    DevMem.rising_splice m1 hl (i1.filter _) fun c hc => by simpa using (List.mem_filter.1 hc).2
  have hlist : ∀ v, (a, v) ∈ img.cells → (!(Decidable.decide (v = 0) && m.zeroAt a)) = true := fun v hv =>
    (listable_iff _ _).2 (by simpa [DevMem.listable, DevMem.zeroAt, hbg] using i2 _ hv)
  rw [hreplace]
  split
  · next hin =>
    have hcells : ∀ v, (a, v) ∈ (m.splice lo hi (img.cells.filter (fun c => lo ≤ c.1 && c.1 < hi))).cells ↔
        (a, v) ∈ img.cells := fun v => by
      have hlow : ¬ a < lo := by omega
      have hhigh : ¬ hi ≤ a := by omega
      simpa [DevMem.splice, hlow, hhigh, hin] using hlist v
    have hunlisted : img.unlisted a = m.unlisted a := by simp only [DevMem.unlisted, hbg]
    rw [DevMem.read, DevMem.read, cellFind_congr hrise i1 a hcells, hunlisted]
    rfl
  · next hout =>
    have hcells : ∀ v, (a, v) ∈ (m.splice lo hi (img.cells.filter (fun c => lo ≤ c.1 && c.1 < hi))).cells ↔
        (a, v) ∈ m.cells := fun v => by
      have hside : a < lo ∨ hi ≤ a := by omega
      have hin : ¬ (lo ≤ a ∧ a < hi) := by omega
      simp only [DevMem.splice, List.mem_append, List.mem_filter, Bool.and_eq_true, decide_eq_true_eq, hin, and_false,
        false_and, false_or, ← and_or_left, hside, and_true]
    rw [DevMem.read, DevMem.read, cellFind_congr hrise m1 a hcells]
    rfl

/-- Memory with the pages of a trick put in, one after the other. -/
def DevMem.withPages (m : DevMem) (l : List PageImg) : DevMem :=
  l.foldl (fun m p => m.replace (p.page * 4096) (p.page * 4096 + 4096) p.img) m

theorem DevMem.bg_replace {m img : DevMem} (hbg : img.bg = m.bg) (lo hi : Nat) : (m.replace lo hi img).bg = m.bg := by
  simp only [DevMem.replace, hbg, if_true]
  rfl

/-- Every page of the trick has the trick's content, and all other memory is unchanged. -/
theorem DevMem.read_withPages (a : Nat) : ∀ (l : List PageImg) (m : DevMem), m.wf = true → (l.map (·.page)).Nodup →
    (∀ p ∈ l, p.img.wf = true ∧ p.img.bg = m.bg) →
    (m.withPages l).read a = match l.find? (fun p => p.page = a / 4096) with
      | some p => p.img.read a | none => m.read a
  | [], _, _, _, _ => rfl
  | p :: l, m, h, hnd, hok => by
    obtain ⟨hp, hl⟩ := List.nodup_cons.1 (show (p.page :: l.map (·.page)).Nodup from hnd)
    obtain ⟨⟨hwf, hbg⟩, hrest⟩ := List.forall_mem_cons.1 hok
    have ih := DevMem.read_withPages a l (m.replace (p.page * 4096) (p.page * 4096 + 4096) p.img)
      (DevMem.wf_replace h hwf (by omega)) hl
      fun q hq => ⟨(hrest q hq).1, (hrest q hq).2.trans (DevMem.bg_replace hbg _ _).symm⟩
    refine ih.trans ?_
    rw [DevMem.read_replace h hwf hbg (by omega), List.find?_cons]
    by_cases e : p.page = a / 4096
    · have hnone : l.find? (fun q => q.page = a / 4096) = none :=
        List.find?_eq_none.2 fun q hq hqa => hp (List.mem_map.2 ⟨q, hq, by simp_all⟩)
      have hin : p.page * 4096 ≤ a ∧ a < p.page * 4096 + 4096 := by omega
      rw [hnone, decide_eq_true e]
      exact if_pos hin
    · have hout : ¬ (p.page * 4096 ≤ a ∧ a < p.page * 4096 + 4096) := by omega
      simp only [if_neg hout, e, decide_false]

theorem State.applyPages_mem (s : State) (k : Trick) : (s.applyPages k).mem = s.mem.withPages k.pages := by
  unfold State.applyPages
  exact (List.foldl_hom State.mem fun t p => by dsimp only; split <;> rfl).symm

theorem State.applyPages_frame (s : State) (k : Trick) :
    s.applyPages k = { s with mem := (s.applyPages k).mem, oldPages := (s.applyPages k).oldPages } := by
  unfold State.applyPages
  refine List.foldlRecOn (motive := fun t : State => t = { s with mem := t.mem, oldPages := t.oldPages }) k.pages _ rfl
    fun t ht p _ => ?_
  dsimp only
  split <;> rw [ht]

/-! ### Committing register writes (R110, R121) -/

/-- A write that a trick commits, on the value the register held. -/
def RegW.onto (w : RegW) (v : Word) : Word := (v &&& ~~~w.mask) ||| (w.value &&& w.mask)

/-- A write is dropped where its register is absent or its trump region refused; else the register takes it. -/
theorem State.commitReg_cases (s : State) (w : RegW) :
    (s.regPresent w.id w.i w.j = false ∧ s.commitReg w = s) ∨
    (w.id = .MEM_TRUMP_HD ∧ s.commitReg w = s.raiseF F.MEM_POOL_STATUS_TRUMP_ERR) ∨
    ∃ l, s.commitReg w = { s.setReg w.id w.i w.j
      (s.stored w (s.reg w.id w.i w.j) (w.onto (s.reg w.id w.i w.j))) with live := l } := by
  unfold State.commitReg
  extract_lets old new inUse s1 held
  split
  · next hp => exact .inl ⟨by simpa using hp, rfl⟩
  · split
    · next ht =>
      simp only [Bool.and_eq_true, decide_eq_true_eq] at ht
      exact .inr (.inl ⟨ht.1, rfl⟩)
    · exact .inr (.inr (by split <;> exact ⟨_, rfl⟩))

theorem State.commitReg_frame (s : State) (w : RegW) :
    s.commitReg w = { s with regs := (s.commitReg w).regs, live := (s.commitReg w).live } := by
  obtain ⟨-, h⟩ | ⟨-, h⟩ | ⟨l, h⟩ := s.commitReg_cases w <;> rw [h] <;> rfl

theorem State.regPresent_of_part {s t : State} (h : t.part = s.part) (r : RegId) (i j : Nat) :
    t.regPresent r i j = s.regPresent r i j := by
  simp only [State.regPresent, State.headPresent, State.absentWindow, h]

theorem State.commitReg_part (s : State) (w : RegW) : (s.commitReg w).part = s.part := by rw [s.commitReg_frame w]

section
variable {r : RegId} {i j : Nat}

/-- A present register takes a write to it, but for the three with a rule of their own (R151, R266, R468). -/
theorem State.commitReg_self {s : State} {w : RegW} (hp : s.regPresent w.id w.i w.j = true) (h1 : w.id ≠ .MEM_TRUMP_HD)
    (h2 : w.id ≠ .SINK_RING) (h3 : w.id ≠ .SEQ_CTL) :
    (s.commitReg w).reg w.id w.i w.j = w.onto (s.reg w.id w.i w.j) := by
  have hstored : ∀ old new, s.stored w old new = new := fun old new => by
    unfold State.stored
    split <;> simp_all
  obtain ⟨habsent, -⟩ | ⟨htrump, -⟩ | ⟨l, h⟩ := s.commitReg_cases w
  · simp [hp] at habsent
  · exact absurd htrump h1
  · rw [h, hstored]
    exact s.reg_setReg_self w.id w.i w.j _

/-- A write to another register leaves a register of the scene as it was. -/
theorem State.commitReg_ne {s : State} {w : RegW} (ha : sceneAddr (r.addr i j) = true)
    (hne : r.addr i j ≠ w.id.addr w.i w.j) : (s.commitReg w).reg r i j = s.reg r i j := by
  have hpool : r.addr i j ≠ RegId.addr .MEM_POOL_STATUS 0 0 := fun e => by
    rw [e, sceneAddr_deviceStatus .MEM_POOL_STATUS (by decide)] at ha
    cases ha
  obtain ⟨-, h⟩ | ⟨-, h⟩ | ⟨l, h⟩ := s.commitReg_cases w
  · rw [h]
  · rw [h]
    exact s.reg_setF_ne (f := F.MEM_POOL_STATUS_TRUMP_ERR) hpool 1
  · rw [h]
    exact s.reg_setReg_ne hne _

/-- A register of the scene holds the writes to it in their order. -/
theorem State.foldl_commitReg (hdec : decodeReg (r.addr i j) = some (r, i, j)) (ha : sceneAddr (r.addr i j) = true)
    (h1 : r ≠ .MEM_TRUMP_HD) (h2 : r ≠ .SINK_RING) (h3 : r ≠ .SEQ_CTL) : ∀ (ws : List RegW) (s : State),
    s.regPresent r i j = true → (∀ w ∈ ws, decodeReg (w.id.addr w.i w.j) = some (w.id, w.i, w.j)) →
    (ws.foldl State.commitReg s).reg r i j =
      (ws.filter (fun w => w.id = r && w.i = i && w.j = j)).foldl (fun v w => w.onto v) (s.reg r i j)
  | [], _, _, _ => rfl
  | w :: ws, s, hp, hws => by
    obtain ⟨hw, hrest⟩ := List.forall_mem_cons.1 hws
    have hp' : (s.commitReg w).regPresent r i j = true := by rwa [State.regPresent_of_part (s.commitReg_part w)]
    rw [List.foldl_cons, State.foldl_commitReg hdec ha h1 h2 h3 ws _ hp' hrest, List.filter_cons]
    by_cases e : w.id = r ∧ w.i = i ∧ w.j = j
    · obtain ⟨rfl, rfl, rfl⟩ := e
      simp [State.commitReg_self hp h1 h2 h3]
    · have hne : r.addr i j ≠ w.id.addr w.i w.j := fun h => e (by
        rw [← h, hdec] at hw
        simp_all)
      rw [State.commitReg_ne ha hne, if_neg (by simpa [and_assoc] using e)]

end

/-! ### The trick as a whole -/

/-- The pages and the writes of a trick are in force. -/
def State.written (s : State) (k : Trick) : State := k.writes.foldl State.commitReg (s.applyPages k)

/-- A trick and its place in the queue are gone. -/
def State.retire (s : State) (key : Nat) : State :=
  { s with trk := { s.trk with
    tricks := s.trk.tricks.filter (fun u => u.key ≠ key), queue := s.trk.queue.filter (· ≠ key) } }

theorem State.written_frame (s : State) (k : Trick) : s.written k =
    { s with regs := (s.written k).regs, live := (s.written k).live, mem := (s.applyPages k).mem
             oldPages := (s.applyPages k).oldPages } := by
  unfold State.written
  refine List.foldlRecOn (motive := fun t : State => t = { s with regs := t.regs, live := t.live
                                                                  mem := (s.applyPages k).mem
                                                                  oldPages := (s.applyPages k).oldPages })
    k.writes _ (by rw [s.applyPages_frame k]) fun t ht w _ => ?_
  rw [t.commitReg_frame w, ht]

theorem State.written_reg {s : State} {k : Trick} {r : RegId} {i j : Nat}
    (hdec : decodeReg (r.addr i j) = some (r, i, j)) (hc : r.row.cls = .trick ∨ r.row.cls = .line)
    (h1 : r ≠ .MEM_TRUMP_HD) (h2 : r ≠ .SINK_RING) (h3 : r ≠ .SEQ_CTL) (hp : s.regPresent r i j = true)
    (hws : ∀ w ∈ k.writes, decodeReg (w.id.addr w.i w.j) = some (w.id, w.i, w.j)) : (s.written k).reg r i j =
      (k.writes.filter (fun w => w.id = r && w.i = i && w.j = j)).foldl (fun v w => w.onto v) (s.reg r i j) := by
  have hpart : (s.applyPages k).part = s.part := by rw [s.applyPages_frame k]
  have hreg : (s.applyPages k).reg r i j = s.reg r i j := by rw [s.applyPages_frame k]; rfl
  rw [State.written, State.foldl_commitReg hdec (sceneAddr_of_decode hdec hc) h1 h2 h3 _ _
    (by rwa [State.regPresent_of_part hpart]) hws, hreg]

theorem KeepsScene.retire {s t : State} (h : KeepsScene s t) (key : Nat) : KeepsScene (s.retire key) (t.retire key) := by
  obtain ⟨hl, hw, hr⟩ := h
  simp only [State.ledger, Prod.mk.injEq] at hl
  obtain ⟨hpart, hmem, htricks, hqueue⟩ := hl
  exact ⟨by simp [State.ledger, State.retire, hpart, hmem, htricks, hqueue], hw, hr⟩

/-- What the end of an application does beside committing pages and writes leaves the scene as these made it. -/
theorem State.commitBody_keeps {s : State} {k : Trick} (hk : s.trick k.key = some k) (hw : k.owner ≠ .wall)
    (hb : k.owner ≠ .boot) : KeepsScene ((s.written k).retire k.key) (s.commitBody k.key) := by
  unfold State.commitBody
  split
  · next hnone => simp [hk] at hnone
  · next t hsome =>
    obtain rfl : k = t := Option.some.inj (hk.symm.trans hsome)
    extract_lets s0 atHand vw ws runs spans off ens pages regs held seqs aud heads pins boot marked wall counted dealt
      last frame x trk
    have hvw : vw = (s, k.writes) := if_neg hw
    have hregs : regs = s.written k := by
      unfold regs pages ws
      rw [hvw]
      rfl
    have hheld : KeepsScene regs held := KeepsScene.refl.foldl fun h => h.dropHeld
    have hseqs : KeepsScene regs seqs := hheld.foldl fun h => h.applySeq
    have hpins : KeepsScene regs pins := hseqs.audApply.applyHeads.tmrApply.pinReview
    have hboot : boot = pins := if_neg hb
    have hmarked : KeepsScene regs marked := (hboot ▸ hpins).markTrick
    have hcounted : KeepsScene regs counted := (hmarked.sendWallInfo.ite hmarked).count
    have hdealt : KeepsScene regs dealt :=
      (hcounted.incF F.CWY_WALL_SEQ_COUNT (sceneAddr_deviceStatus .CWY_WALL_SEQ (by decide))).modCwy.ite hcounted
    have hlast : KeepsScene regs last := hdealt.foldl fun h => h.lastTrick
    rw [← hregs]
    exact (hlast.retire k.key).same rfl rfl rfl

theorem State.commitTrick_keeps {s : State} {k : Trick} (hk : s.trick k.key = some k) (hw : k.owner ≠ .wall)
    (hb : k.owner ≠ .boot) : KeepsScene ((s.written k).retire k.key) (s.commitTrick k.key) :=
  (State.commitBody_keeps hk hw hb).trans (ShownOnly.settleShown _).keepsScene

/-! ### The two commands -/

/-- The end of an application, where no wrap waited for it. -/
theorem State.applicationEnd_keeps {s : State} {k : Trick} {rest : List Nat} (ha : s.alive = true)
    (hk : s.trick k.key = some k) (hw : k.owner ≠ .wall) (hb : k.owner ≠ .boot) (hq : s.trk.queue = k.key :: rest)
    (hwait : ∀ n, k.anchor = some n → (s.head n).wrapWait = false) :
    KeepsScene ((s.written k).retire k.key) s.applicationEnd := by
  have hheads : ((s.written k).retire k.key).heads = s.heads := by
    rw [State.retire, s.written_frame k]
  unfold State.applicationEnd
  rw [hq]
  simp only [ha, hk, Bool.not_true, Bool.false_eq_true, if_false, Option.bind_some, Option.map_some,
    Option.getD_some]
  have hend : KeepsScene ((s.written k).retire k.key)
      ((s.commitTrick k.key).restartEval0 (k.heads ||| maskOf k.anchor.toList)).reviewMode :=
    (State.commitTrick_keeps hk hw hb).restartEval0.reviewMode
  split
  · exact hend
  · next n hn =>
    have hno := hend.waits n (by rw [State.head_of_heads hheads]; exact hwait n hn)
    rw [hno]
    exact hend.ite hend

/-! ### The first of the staged tricks -/

/-- A trick goes in before the first that became staged later. -/
theorem insertByOrder_perm (t : Trick) : ∀ l : List Trick, (insertByOrder t l).Perm (t :: l)
  | [] => .refl _
  | u :: us => by
    unfold insertByOrder
    split
    · exact .refl _
    · exact ((insertByOrder_perm t us).cons u).trans (.swap t u us)

theorem insertByOrder_sorted {t : Trick} : ∀ {l : List Trick}, l.Pairwise (fun a b => a.order ≤ b.order) →
    (insertByOrder t l).Pairwise (fun a b => a.order ≤ b.order)
  | [], _ => by simp [insertByOrder]
  | u :: us, h => by
    obtain ⟨hu, hus⟩ := List.pairwise_cons.1 h
    unfold insertByOrder
    split
    · next hlt =>
      refine List.pairwise_cons.2 ⟨fun x hx => ?_, h⟩
      rcases List.mem_cons.1 hx with rfl | hx
      · exact hlt.le
      · exact hlt.le.trans (hu x hx)
    · next hge =>
      refine List.pairwise_cons.2 ⟨fun x hx => ?_, insertByOrder_sorted hus⟩
      rcases List.mem_cons.1 ((insertByOrder_perm t us).subset hx) with rfl | hx
      · exact not_lt.1 hge
      · exact hu x hx

theorem foldl_insertByOrder : ∀ l acc : List Trick, acc.Pairwise (fun a b => a.order ≤ b.order) →
    (l.foldl (fun acc t => insertByOrder t acc) acc).Pairwise (fun a b => a.order ≤ b.order) ∧
    (l.foldl (fun acc t => insertByOrder t acc) acc).Perm (l ++ acc)
  | [], _, h => ⟨h, .refl _⟩
  | t :: l, acc, h => by
    obtain ⟨hsorted, hperm⟩ := foldl_insertByOrder l (insertByOrder t acc) (insertByOrder_sorted h)
    exact ⟨hsorted, hperm.trans (((insertByOrder_perm t acc).append_left l).trans List.perm_middle)⟩

/-- Tricks by order are the same tricks, in the order in which they became staged. -/
theorem byOrder_sorted (l : List Trick) : (byOrder l).Pairwise (fun a b => a.order ≤ b.order) :=
  (foldl_insertByOrder l [] .nil).1

theorem byOrder_perm (l : List Trick) : (byOrder l).Perm l :=
  (foldl_insertByOrder l [] .nil).2.trans (by rw [List.append_nil])

/-- The trick that became staged before all others comes first. -/
theorem byOrder_first {l : List Trick} {k : Trick} (hk : k ∈ l) (hfirst : ∀ x ∈ l, x.order ≤ k.order → x = k) :
    ∃ xs, byOrder l = k :: xs := by
  have hmem : ∀ x, x ∈ byOrder l ↔ x ∈ l := fun x => (byOrder_perm l).mem_iff
  have hsorted := byOrder_sorted l
  cases hl : byOrder l with
  | nil => simp [← hmem, hl] at hk
  | cons x xs =>
    rw [hl] at hmem hsorted
    have hx : x = k := hfirst x ((hmem x).1 List.mem_cons_self) (by
      rcases List.mem_cons.1 ((hmem k).2 hk) with rfl | hin
      · exact le_rfl
      · exact (List.pairwise_cons.1 hsorted).1 k hin)
    exact ⟨xs, by rw [hx]⟩

theorem State.noHeadApply_keeps {s : State} {k : Trick} (ha : s.alive = true) (hk : s.trick k.key = some k)
    (hw : k.owner ≠ .wall) (hb : k.owner ≠ .boot) (hq : s.trk.queue = []) (hphase : k.phase = .staged)
    (hanchor : k.anchor = none) (hwall : k.wall = false)
    (hfirst : ∀ x ∈ s.trk.tricks, x.phase = .staged → x.anchor = none → x.order ≤ k.order → x = k) :
    KeepsScene ((s.written k).retire k.key) s.noHeadApply := by
  obtain ⟨xs, hdue⟩ := byOrder_first (k := k)
    (l := s.trk.tricks.filter (fun t => t.phase = .staged && t.anchor = none && (!t.wall || t.wallGo)))
    (List.mem_filter.2 ⟨List.mem_of_find?_eq_some hk, by simp [hphase, hanchor, hwall]⟩)
    fun x hx => by
      simp only [List.mem_filter, Bool.and_eq_true, decide_eq_true_eq] at hx
      obtain ⟨hin, ⟨hst, han⟩, -⟩ := hx
      exact hfirst x hin hst han
  have happly : s.noHeadApply = (s.commitTrick k.key).reviewMode := by
    simp only [State.noHeadApply, hdue, ha, hq, List.isEmpty_nil, Bool.and_self, if_true]
  rw [happly]
  exact (State.commitTrick_keeps hk hw hb).reviewMode

/-! ### The statement -/

/-- Settles O29: what an application's end does beside committing the pages and the writes of its trick leaves the
scene as these made it. -/
theorem trickCommits : Obligations.TrickCommits := by
  unfold Obligations.TrickCommits
  intro s k rest ha hk hw hb hrest hwf hnd himg hws committed
  have hqueue : (s.written k).trk.queue = s.trk.queue := by rw [s.written_frame k]
  have hcommitted : ∀ t, s.trk.queue.filter (· ≠ k.key) = rest → KeepsScene ((s.written k).retire k.key) t →
      committed t := by
    intro t hleft hkeeps
    have hledger := hkeeps.ledger
    simp only [State.ledger, Prod.mk.injEq] at hledger
    obtain ⟨-, hmem, htricks, hq⟩ := hledger
    refine ⟨fun r i j hdec hc hp h1 h2 h3 => ?_, fun a => ?_, ?_, ?_⟩
    · exact (hkeeps.reg (sceneAddr_of_decode hdec hc)).trans (State.written_reg hdec hc h1 h2 h3 hp hws)
    · have hpages : ((s.written k).retire k.key).mem = s.mem.withPages k.pages := by
        rw [State.retire, s.written_frame k]
        exact s.applyPages_mem k
      rw [hmem, hpages]
      exact DevMem.read_withPages a k.pages s.mem hwf hnd himg
    · rw [hq, ← hleft, ← hqueue]
      rfl
    · rw [State.trick, htricks]
      exact List.find?_eq_none.2 fun x hx => by simpa [State.retire] using (List.mem_filter.1 hx).2
  refine ⟨fun hq hwait => ⟨s.applicationEnd, rfl, hcommitted _ ?_ (State.applicationEnd_keeps ha hk hw hb hq hwait)⟩,
    fun hq hr hphase hanchor hwall hfirst => ⟨s.noHeadApply, rfl, hcommitted _ ?_
      (State.noHeadApply_keeps ha hk hw hb hq hphase hanchor hwall hfirst)⟩⟩
  · rw [hq, List.filter_cons_of_neg (by simp), List.filter_eq_self]
    exact fun x hx => by simpa using fun e : x = k.key => hrest (e ▸ hx)
  · rw [hq, hr]
    rfl

end Sys2Proof.Machine
end

section
/-!
PROOF. Cutoffs and wraps (O28): what a commit cutoff does to the queue, the tricks and the heads.
-/

set_option Elab.async false  -- the joined text is large: no thread per declaration

namespace Sys2Proof.Machine

/-! ### Tricks by their keys -/

theorem find?_key_of_mem {x : Trick} : ∀ {l : List Trick}, (l.map (·.key)).Nodup → x ∈ l →
    l.find? (fun t => t.key = x.key) = some x
  | y :: l, hnd, hx => by
    obtain ⟨hy, hl⟩ := List.nodup_cons.1 (show (y.key :: l.map (·.key)).Nodup from hnd)
    rw [List.find?_cons]
    by_cases e : y.key = x.key
    · rcases List.mem_cons.1 hx with rfl | hin
      · rw [decide_eq_true rfl]
      · exact absurd (List.mem_map_of_mem hin) (e ▸ hy)
    · rw [decide_eq_false e]
      exact find?_key_of_mem hl ((List.mem_cons.1 hx).resolve_left fun h => e (by rw [h]))

/-- A change of one trick that leaves its key shows under that key only. -/
theorem State.trick_modTrick (s : State) (k : Nat) {f : Trick → Trick} (hf : ∀ y, (f y).key = y.key) (key : Nat) :
    (s.modTrick k f).trick key = (s.trick key).map (fun y => if key = k then f y else y) := by
  have hsame : ((fun t : Trick => Decidable.decide (t.key = key)) ∘ fun t => if t.key = k then f t else t) =
      fun t => Decidable.decide (t.key = key) := by
    funext t
    by_cases e : t.key = k <;> simp [e, hf]
  simp only [State.trick, State.modTrick, List.find?_map, hsame]
  cases h : s.trk.tricks.find? (fun t => t.key = key) with
  | none => rfl
  | some y =>
    have hy : y.key = key := by simpa using List.find?_some h
    simp [hy]

/-! ### A trick joins the queue (R125, R127) -/

/-- The trick is applied later than at the cutoff of its target `f`, and is not noted so yet. -/
def Trick.lateAt (t : Trick) (f : Word) : Bool :=
  t.target ≠ f && !t.missed && t.owner ≠ .implicit && t.owner ≠ .boot

/-- The trick as it stands in the queue. -/
def Trick.joined (t : Trick) (f : Word) : Trick :=
  { t with phase := .applying, missed := t.missed || t.lateAt f }

theorem Trick.joined_eq (t : Trick) (f : Word) : t.joined f = { t with
    phase := .applying
    missed := t.missed || decide (t.target ≠ f ∧ t.owner ≠ .implicit ∧ t.owner ≠ .boot) } := by
  cases hm : t.missed <;> simp [Trick.joined, Trick.lateAt, hm, Bool.and_assoc]

/-- A due trick joins the queue of the frame `f`. -/
def State.joinQueue (f : Word) (s : State) (t : Trick) : State :=
  (if t.lateAt f then s.noteMissed t else s).enqueueTrick t.key

/-- What a late trick counts beside its own mark. -/
theorem State.noteMissed_eq (s : State) (t : Trick) : ∃ u : State, KeepsScene s u ∧ u.heads = s.heads ∧
    s.noteMissed t = u.modTrick t.key (fun t => { t with missed := true }) := by
  unfold State.noteMissed
  extract_lets v
  have hv : KeepsScene s v ∧ v.heads = s.heads := by
    unfold v
    split
    · exact ⟨(KeepsScene.refl.incF F.CWY_LATE_COUNT (sceneAddr_deviceStatus .CWY_LATE (by decide))).cwyEvent,
        State.heads_of_plant (by simp)⟩
    · exact ⟨.refl, rfl⟩
  refine ⟨_, (hv.1.incF F.TRK_MISSED_COUNT (sceneAddr_deviceStatus .TRK_MISSED (by decide))).count, ?_, rfl⟩
  rw [State.count_heads]
  exact hv.2

theorem State.trick_of_tricks {s t : State} (h : t.trk.tricks = s.trk.tricks) (key : Nat) : t.trick key = s.trick key := by
  simp only [State.trick, h]

theorem KeepsScene.tricks {s t : State} (h : KeepsScene s t) : t.trk.tricks = s.trk.tricks :=
  congrArg (·.2.2.1) h.ledger

theorem KeepsScene.queue {s t : State} (h : KeepsScene s t) : t.trk.queue = s.trk.queue := congrArg (·.2.2.2) h.ledger

/-- Joining appends the trick's key, changes the trick under it, and no head. -/
theorem State.joinQueue_spec (f : Word) (s : State) (t : Trick) (ht : s.trick t.key = some t) :
    (s.joinQueue f t).trk.queue = s.trk.queue ++ [t.key] ∧ (s.joinQueue f t).heads = s.heads ∧
    (s.joinQueue f t).trick t.key = some (t.joined f) ∧
    ∀ key, key ≠ t.key → (s.joinQueue f t).trick key = s.trick key := by
  have henq : ∀ (u : State) (key : Nat), (u.enqueueTrick t.key).trick key =
      (u.trick key).map (fun y => if key = t.key then { y with phase := .applying } else y) :=
    fun u key => u.trick_modTrick t.key (f := fun y => { y with phase := .applying }) (fun _ => rfl) key
  unfold State.joinQueue
  cases hl : t.lateAt f with
  | false =>
    refine ⟨rfl, rfl, ?_, fun key hk => ?_⟩
    · simp [henq, ht, Trick.joined, hl]
    · simp [henq, hk]
  | true =>
    obtain ⟨u, hu, hheads, he⟩ := s.noteMissed_eq t
    have hmiss : ∀ key, (s.noteMissed t).trick key =
        (s.trick key).map (fun y => if key = t.key then { y with missed := true } else y) := fun key => by
      rw [he, u.trick_modTrick t.key (f := fun y => { y with missed := true }) (fun _ => rfl), State.trick_of_tricks hu.tricks]
    refine ⟨?_, ?_, ?_, fun key hk => ?_⟩
    · simp only [if_true, he, State.enqueueTrick, State.modTrick, hu.queue]
    · simp only [if_true, he]
      exact hheads
    · simp [henq, hmiss, ht, Trick.joined, hl]
    · simp [henq, hmiss, hk]

/-- Tricks with keys of their own join in turn. -/
theorem State.foldl_joinQueue (f : Word) : ∀ (q : List Trick) (s : State), (q.map (·.key)).Nodup →
    (∀ x ∈ q, s.trick x.key = some x) →
    (q.foldl (State.joinQueue f) s).trk.queue = s.trk.queue ++ q.map (·.key) ∧
    (q.foldl (State.joinQueue f) s).heads = s.heads ∧
    (∀ x ∈ q, (q.foldl (State.joinQueue f) s).trick x.key = some (x.joined f)) ∧
    ∀ key, key ∉ q.map (·.key) → (q.foldl (State.joinQueue f) s).trick key = s.trick key
  | [], s, _, _ => ⟨(List.append_nil _).symm, rfl, by simp, fun _ _ => rfl⟩
  | t :: q, s, hnd, hin => by
    obtain ⟨ht, hq⟩ := List.nodup_cons.1 (show (t.key :: q.map (·.key)).Nodup from hnd)
    obtain ⟨hst, hsq⟩ := List.forall_mem_cons.1 hin
    obtain ⟨hqueue, hheads, hself, hother⟩ := s.joinQueue_spec f t hst
    have hne : ∀ x ∈ q, x.key ≠ t.key := fun x hx e => ht (e ▸ List.mem_map_of_mem hx)
    obtain ⟨iqueue, iheads, iself, iother⟩ := State.foldl_joinQueue f q (s.joinQueue f t) hq
      fun x hx => (hother _ (hne x hx)).trans (hsq x hx)
    refine ⟨?_, iheads.trans hheads, List.forall_mem_cons.2 ⟨(iother _ ht).trans hself, iself⟩, fun key hk => ?_⟩
    · rw [List.foldl_cons, iqueue, hqueue, List.append_assoc]
      rfl
    · obtain ⟨hkt, hkq⟩ := not_or.1 (mt List.mem_cons.2 hk)
      exact (iother key hkq).trans (hother key hkt)

/-! ### The cutoff (R124) -/

theorem State.startEval0_modEv (s : State) (n : Fin 6) : ∃ f, s.startEval0 n = s.modEv n f := by
  unfold State.startEval0
  split
  · exact ⟨_, by unfold State.startEval; rfl⟩
  · exact ⟨_, rfl⟩

/-- A trick is due at the cutoff of frame `f` of head `n`. -/
def Trick.dueAt (t : Trick) (n : Fin 6) (f : Word) : Bool :=
  t.phase = .staged && t.anchor = some n && (!t.wall || t.wallGo) && frameDiff t.target f ≤ 0

/-- The tricks due at the next cutoff of head `n`, in the order in which they became staged. -/
def State.dueTricks (s : State) (n : Fin 6) : List Trick :=
  byOrder (s.trk.tricks.filter (fun t => t.dueAt n ((s.head n).frame + 1)))

theorem State.mem_dueTricks {s : State} {n : Fin 6} {x : Trick} :
    x ∈ s.dueTricks n ↔ x ∈ s.trk.tricks ∧ x.dueAt n ((s.head n).frame + 1) = true := by
  rw [State.dueTricks, (byOrder_perm _).mem_iff, List.mem_filter]

/-- The compose beam of a head has reached the cutoff of its next frame. -/
def State.atCutoff (s : State) (n : Fin 6) : Prop :=
  (s.head n).lineOn = true ∧ (s.head n).vTotal - s.cutoffLines n ≤ (s.head n).line

section
variable {s : State} {n : Fin 6}

theorem State.commitCutoff_early (h : ¬ s.atCutoff n) : s.commitCutoff n = s := by
  simp only [State.atCutoff, not_and_or, Bool.not_eq_true, not_le] at h
  unfold State.commitCutoff
  extract_lets hd f u due v
  rw [if_pos]
  rcases h with h | h <;> simp [hd, h]

/-- At the cutoff the due tricks join, and line 0 of the coming frame is evaluated unless they hold it back. -/
theorem State.commitCutoff_reached (hrun : s.beamsRun n = true) (hwin : (s.head n).inWindow = false)
    (h : s.atCutoff n) : s.commitCutoff n =
      let u := (s.dueTricks n).foldl (State.joinQueue ((s.head n).frame + 1))
        (s.modHead n (fun h => { h with inWindow := true }))
      if u.anchorBusy n then u else u.startEval0 n := by
  obtain ⟨hon, hline⟩ := h
  unfold State.commitCutoff
  extract_lets hd f u due v
  rw [if_neg (by simp [hd, hrun, hwin, hon, hline])]
  rfl

/-- What a cutoff does: the due tricks stand in the queue, the window is open, and all else of tricks and heads stays. -/
theorem State.commitCutoff_spec (hrun : s.beamsRun n = true) (hwin : (s.head n).inWindow = false)
    (hkeys : (s.trk.tricks.map (·.key)).Nodup) (h : s.atCutoff n) :
    (s.commitCutoff n).trk.queue = s.trk.queue ++ (s.dueTricks n).map (·.key) ∧
    (∀ x ∈ s.dueTricks n, (s.commitCutoff n).trick x.key = some (x.joined ((s.head n).frame + 1))) ∧
    (∀ x ∈ s.trk.tricks, x ∉ s.dueTricks n → (s.commitCutoff n).trick x.key = some x) ∧
    (s.commitCutoff n).head n = { s.head n with inWindow := true, ev := ((s.commitCutoff n).head n).ev } ∧
    ∀ m, m ≠ n → (s.commitCutoff n).head m = s.head m := by
  have hin : ∀ x ∈ s.trk.tricks, s.trick x.key = some x := fun x hx => find?_key_of_mem hkeys hx
  have hdue : ∀ x ∈ s.dueTricks n, x ∈ s.trk.tricks := fun x hx => (State.mem_dueTricks.1 hx).1
  have hnodup : ((s.dueTricks n).map (·.key)).Nodup :=
    ((byOrder_perm _).map _).nodup_iff.2 ((List.filter_sublist.map _).nodup hkeys)
  obtain ⟨hqueue, hheads, hself, hother⟩ := State.foldl_joinQueue ((s.head n).frame + 1) (s.dueTricks n)
    (s.modHead n (fun h => { h with inWindow := true })) hnodup fun x hx => hin x (hdue x hx)
  have hout : ∀ x ∈ s.trk.tricks, x ∉ s.dueTricks n → x.key ∉ (s.dueTricks n).map (·.key) := fun x hx hnot hk => by
    obtain ⟨y, hy, e⟩ := List.mem_map.1 hk
    have hsame := hin y (hdue y hy)
    rw [e, hin x hx] at hsame
    exact hnot (Option.some.inj hsame ▸ hy)
  rw [State.commitCutoff_reached hrun hwin h]
  extract_lets u
  have hun : u.head n = { s.head n with inWindow := true } := by
    rw [State.head_of_heads hheads, State.head_modHead_self]
  have hum : ∀ m, m ≠ n → u.head m = s.head m := fun m hm => by
    rw [State.head_of_heads hheads, State.head_modHead_ne _ hm]
  have hrest : ∀ x ∈ s.trk.tricks, x ∉ s.dueTricks n → u.trick x.key = some x := fun x hx hnot =>
    (hother _ (hout x hx hnot)).trans (hin x hx)
  split
  · exact ⟨hqueue, hself, hrest, by rw [hun], hum⟩
  · obtain ⟨f, hf⟩ := u.startEval0_modEv n
    rw [hf]
    refine ⟨hqueue, hself, hrest, ?_, fun m hm => (u.head_modHead_ne hm _).trans (hum m hm)⟩
    rw [State.modEv, State.head_modHead_self, hun]

end

end Sys2Proof.Machine
end

section
/-!
PROOF. Cutoffs and wraps (O28): what the wrap of a head leaves as it was once its frame count has advanced.
-/

set_option Elab.async false  -- the joined text is large: no thread per declaration

namespace Sys2Proof.Machine

/-- Where the compose beam of a head stands. -/
def HeadSt.beam (h : HeadSt) := (h.frame, h.line, h.lineOn, h.inWindow, h.composing)

/-- What the scene is held in beside the committed registers: overrides, memory, replaced pages and tricks. -/
def State.stock (s : State) := (s.live, s.mem, s.oldPages, s.trk.tricks)

/-- From `s` to `t` the scene, the heads beside `n` and the compose beam of `n` stay. -/
structure Presents (n : Fin 6) (s t : State) : Prop where
  stock : t.stock = s.stock
  others : ∀ m, m ≠ n → t.head m = s.head m
  beam : (t.head n).beam = (s.head n).beam

/-- Moreover the committed tricks wait to be shown as they did. -/
structure Wraps (n : Fin 6) (s t : State) : Prop extends Presents n s t where
  shown : t.trk.shown = s.trk.shown

section
variable {n : Fin 6} {s t u : State}

theorem Presents.refl : Presents n s s := ⟨rfl, fun _ _ => rfl, rfl⟩

theorem Presents.trans (h : Presents n s t) (k : Presents n t u) : Presents n s u :=
  ⟨k.stock.trans h.stock, fun m hm => (k.others m hm).trans (h.others m hm), k.beam.trans h.beam⟩

theorem Presents.same (h : Presents n s t) (hs : u.stock = t.stock) (hh : u.heads = t.heads) : Presents n s u :=
  h.trans ⟨hs, fun m _ => State.head_of_heads hh m, by rw [State.head_of_heads hh]⟩

/-- The head itself changes, and its beam stands where it stood. -/
theorem Presents.modHead (h : Presents n s t) {f} (hf : ∀ x : HeadSt, (f x).beam = x.beam := by
    exact fun _ => rfl) : Presents n s (t.modHead n f) :=
  h.trans ⟨rfl, fun _ hm => t.head_modHead_ne hm f, by rw [State.head_modHead_self, hf]⟩

theorem Wraps.refl : Wraps n s s := ⟨.refl, rfl⟩

theorem Wraps.ite {c : Prop} [Decidable c] (h : Wraps n s t) (k : Wraps n s u) :
    Wraps n s (if c then t else u) := by
  split <;> [exact h; exact k]

theorem Wraps.foldl {α : Type} {f : State → α → State} (hf : ∀ {t a}, Wraps n s t → Wraps n s (f t a))
    {l : List α} (h : Wraps n s t) : Wraps n s (l.foldl f t) :=
  List.foldlRecOn (motive := Wraps n s) l f h fun _ ht _ _ => hf ht

/-- A step that changes nothing a wrap is judged by. -/
theorem Wraps.same (h : Wraps n s t) (hs : u.stock = t.stock) (hh : u.heads = t.heads)
    (hw : u.trk.shown = t.trk.shown) : Wraps n s u :=
  ⟨h.toPresents.same hs hh, hw.trans h.shown⟩

theorem Wraps.recorded (h : Wraps n s t) (c : Recorded t u) : Wraps n s u :=
  h.same (by simp only [State.stock, c.live, c.mem, c.oldPages, c.trk]) c.heads (by rw [c.trk])

end

section
variable {n : Fin 6} {s t : State} (h : Wraps n s t)
include h

theorem Wraps.setF {f v} : Wraps n s (t.setF f v) := h.same rfl rfl rfl
theorem Wraps.raiseF {f} : Wraps n s (t.raiseF f) := h.same rfl rfl rfl
theorem Wraps.incF {f k} : Wraps n s (t.incF f k) := h.same rfl rfl rfl
theorem Wraps.modSeq {q f} : Wraps n s (t.modSeq q f) := h.same rfl rfl rfl
theorem Wraps.count {c i k a} : Wraps n s (t.count c i k a) := h.recorded (t.count_counted _ _ _ _).recorded
theorem Wraps.faultHead {m c i l p d} : Wraps n s (t.faultHead m c i l p d) :=
  h.recorded (t.fault_recorded _ _ _ _ _ _ _)

/-- The head itself changes, and its beam stands where it stood. -/
theorem Wraps.modHead {f} (hf : ∀ x : HeadSt, (f x).beam = x.beam := by
    exact fun _ => rfl) : Wraps n s (t.modHead n f) := ⟨h.toPresents.modHead hf, h.shown⟩

theorem Wraps.modSc {f} : Wraps n s (t.modSc n f) := h.modHead
theorem Wraps.modSk {f} : Wraps n s (t.modSk n f) := h.modHead
theorem Wraps.modDp {f} : Wraps n s (t.modDp n f) := h.modHead
theorem Wraps.modEv {f} : Wraps n s (t.modEv n f) := h.modHead
theorem Wraps.modTot {f} : Wraps n s (t.modTot n f) := h.modHead

/-! ### What the new frame is made with -/

theorem Wraps.markAll : Wraps n s (t.markAll n) := by
  refine h.modHead fun x => ?_
  unfold HeadSt.markAll HeadSt.ungate
  split <;> rfl

theorem Wraps.wrapBench : Wraps n s (t.wrapBench n) := h.ite h.markAll.modHead

theorem Wraps.wrapTiming : Wraps n s (t.wrapTiming n) := by
  unfold State.wrapTiming
  extract_lets h0
  split <;> [exact h.modHead.ite h; exact h]

theorem Wraps.wrapInfo : Wraps n s (t.wrapInfo n) := by
  unfold State.wrapInfo
  exact h.modHead

theorem Wraps.seqIdleFor {m} : Wraps n s (t.seqIdleFor m) :=
  h.foldl fun h => by
    split
    · split <;> [exact h.modSeq; exact h.modSeq; exact h.modSeq; exact h.modSeq; exact h.modSeq; exact h]
    · exact h

theorem Wraps.oweStart {q f b} : Wraps n s (t.oweStart q f b) := h.same rfl rfl rfl

theorem Wraps.seqFreshStart {m f} : Wraps n s (t.seqFreshStart m f) :=
  h.foldl fun h => h.oweStart.ite h

theorem Wraps.enterFb : Wraps n s (t.enterFb n) := by
  unfold State.enterFb
  extract_lets u last v
  have hu : Wraps n s u := h.modHead
  have hv : Wraps n s v := hu.same rfl rfl rfl
  exact hv.raiseF.seqIdleFor

theorem Wraps.leaveFb : Wraps n s (t.leaveFb n) := h.modHead.setF

theorem Wraps.wrapFallback : Wraps n s (t.wrapFallback n) :=
  h.modHead.enterFb.ite (h.leaveFb.markAll.seqFreshStart.ite h)

theorem Wraps.closeDamage : Wraps n s (t.closeDamage n) := by
  unfold State.closeDamage
  extract_lets h0 dmg d run rects u v
  have hu : Wraps n s u := h.modHead
  have hv : Wraps n s v := hu.setF.setF.setF.setF
  exact hv.foldl fun h => h.setF.setF.setF.setF

/-! ### Sinks and write-back buffers -/

theorem Wraps.wbPublish : Wraps n s (t.wbPublish n) := by
  unfold State.wbPublish
  extract_lets h0
  split <;> [exact h.setF.setF.setF; exact h.setF]

theorem Wraps.sinkAdopt : Wraps n s (t.sinkAdopt n) := by
  unfold State.sinkAdopt
  extract_lets c h0 u v
  have hv : Wraps n s v := h.modSk.raiseF.ite h.modSk
  exact hv.ite hv.modSk.wbPublish

theorem Wraps.wrapActive {old} : Wraps n s (t.wrapActive n old) := by
  unfold State.wrapActive
  extract_lets coast held u v
  have hu : Wraps n s u := h.modHead
  have hv : Wraps n s v := hu.modHead.ite hu
  exact hv.count.ite hv

theorem Wraps.wbChoose : Wraps n s (t.wbChoose n) := by
  unfold State.wbChoose
  extract_lets h0 c hold cnt start free
  refine Wraps.ite (.ite h.modSk.wbPublish h.modSk) (.ite h.modSk ?_)
  split <;> [exact h.modSk.incF; exact h.modSk.wbPublish]

theorem Wraps.wrapSink : Wraps n s (t.wrapSink n) := by
  unfold State.wrapSink
  extract_lets h0 bad u v
  have hu : Wraps n s u := h.raiseF.ite h
  have hv : Wraps n s v := hu.faultHead.ite hu
  exact hv.modHead.wbChoose

/-! ### Line 0 and records -/

theorem Wraps.startEval {l d c o z} : Wraps n s (t.startEval n l d c o z) := by
  unfold State.startEval
  exact h.modEv

theorem Wraps.startEval0 : Wraps n s (t.startEval0 n) := h.startEval.ite h.modEv

theorem Wraps.recordEval {l r} : Wraps n s (t.recordEval n l r) := by
  unfold State.recordEval
  extract_lets dropped fr tot counted was ovf where_ rec total cfg fetch none' free first
  have hcounted : Wraps n s counted := h.modTot.count.count
  have hwhere : Wraps n s where_ := hcounted.incF.raiseF.ite hcounted.incF.raiseF.setF.setF
  have hrec : Wraps n s rec := hwhere.ite hwhere.modTot.faultHead
  have htotal : Wraps n s total := hcounted.ite hrec.modTot
  have hcfg : Wraps n s cfg := htotal.raiseF.ite htotal
  have hfetch : Wraps n s fetch := hcfg.raiseF.ite hcfg
  have hfree : Wraps n s free := Wraps.ite (hfetch.same rfl rfl rfl) hfetch
  clear_value first
  cases first with
  | some d => exact hfree.ite hfree.modTot.faultHead
  | none => exact hfree

theorem Wraps.wrapEval : Wraps n s (t.wrapEval n) := by
  unfold State.wrapEval
  extract_lets h0
  refine Wraps.ite h.modEv (.ite h.startEval0 ?_)
  split <;> [exact h.modEv.recordEval; exact h]

theorem Wraps.wrapRecords : Wraps n s (t.wrapRecords n) :=
  (h.wrapEval.foldl fun h => h.modSeq.ite h).count

theorem Wraps.scanAdopt : Wraps n s (t.scanAdopt n) := by
  unfold State.scanAdopt
  exact h.modHead

theorem Wraps.latchPush : Wraps n s (t.latchPush n) := by
  unfold State.latchPush
  exact h.modSc.modDp

theorem Wraps.lateWrap : Wraps n s (t.lateWrap n) := h.scanAdopt.latchPush.ite h

end

end Sys2Proof.Machine
end

section
/-!
PROOF. Cutoffs and wraps (O28): the new frame, what it shows, and the two statements together.
-/

set_option Elab.async false  -- the joined text is large: no thread per declaration

namespace Sys2Proof.Machine

/-! ### The new frame (R120, R130, R146) -/

/-- In `t` head `n` stands at line 0 of the frame after the one it made in `s`, with its registers as committed. -/
structure NewFrame (n : Fin 6) (s t : State) : Prop where
  beam : (t.head n).beam = ((s.head n).frame + 1, 0, false, false, false)
  others : ∀ m, m ≠ n → t.head m = s.head m
  mem : t.mem = s.mem
  tricks : t.trk.tricks = s.trk.tricks
  live : ∀ a, inHeadWin n a = true → SMap.find t.live a = none
  oldPages : ∀ o ∈ t.oldPages, o.heads.getLsbD n.val = false

section
variable {n : Fin 6} {s t u : State}

theorem NewFrame.presents (h : NewFrame n s t) (k : Presents n t u) : NewFrame n s u := by
  have hlive : u.live = t.live := congrArg (·.1) k.stock
  have hmem : u.mem = t.mem := congrArg (·.2.1) k.stock
  have hold : u.oldPages = t.oldPages := congrArg (·.2.2.1) k.stock
  have htricks : u.trk.tricks = t.trk.tricks := congrArg (·.2.2.2) k.stock
  exact ⟨k.beam.trans h.beam, fun m hm => (k.others m hm).trans (h.others m hm), hmem.trans h.mem,
    htricks.trans h.tricks, fun a ha => hlive ▸ h.live a ha, fun o ho => h.oldPages o (hold ▸ ho)⟩

/-- A register of the head's window is used as committed. -/
theorem NewFrame.useReg (h : NewFrame n s t) {r : RegId} {i j : Nat} (hlo : headWin n ≤ r.addr i j)
    (hhi : r.addr i j < headWin n + 0x20000) : t.useReg r i j = t.reg r i j := by
  rw [State.useReg, h.live _ (by simp [inHeadWin, hlo, hhi])]
  rfl

theorem State.totalsPrev_wraps (s : State) (n : Fin 6) : Wraps n s (s.totalsPrev n) := by
  unfold State.totalsPrev
  exact Wraps.refl.setF.setF.setF.setF.setF.setF.modTot

/-- A head whose bit was taken out is named no longer. -/
theorem State.heads_of_mem_dropOldPages {o : OldPage} (ho : o ∈ (s.dropOldPages n).oldPages) :
    o.heads.getLsbD n.val = false := by
  simp only [State.dropOldPages, List.mem_filter, List.mem_map] at ho
  obtain ⟨⟨p, -, rfl⟩, -⟩ := ho
  rw [BitVec.getLsbD_and, BitVec.getLsbD_not, BitVec.getLsbD_ofNat, Nat.testBit_two_pow_self]
  simp

theorem State.find_reloadHead_live (s : State) {a : Nat} (ha : inHeadWin n a = true) :
    SMap.find (s.reloadHead n).live a = none := by
  rw [State.reloadHead, SMap.find_filter (fun b => !inHeadWin n b && b ≠ RegId.addr .MEM_TRUMP_HD n 0)]
  simp [ha]

theorem State.beam_wrapCount (s : State) (n : Fin 6) :
    ((s.wrapCount n).head n).beam = ((s.head n).frame + 1, 0, false, false, false) := by
  rw [State.wrapCount, State.head_modHead_self]
  rfl

/-- The count advances, the overrides end and the replaced pages are let go. -/
theorem State.newFrame_start (s : State) (n : Fin 6) :
    NewFrame n s ((((s.totalsPrev n).wrapCount n).reloadHead n).dropOldPages n) := by
  obtain ⟨⟨hstock, hothers, hbeam⟩, -⟩ := s.totalsPrev_wraps n
  have hframe : ((s.totalsPrev n).head n).frame = (s.head n).frame := congrArg (·.1) hbeam
  generalize s.totalsPrev n = u at *
  have hmem : u.mem = s.mem := congrArg (·.2.1) hstock
  have htricks : u.trk.tricks = s.trk.tricks := congrArg (·.2.2.2) hstock
  have hhead : ∀ m, ((((u.wrapCount n).reloadHead n).dropOldPages n).head m) = (u.wrapCount n).head m :=
    State.head_of_heads rfl
  refine ⟨?_, fun m hm => ?_, hmem, htricks, fun a ha => (u.wrapCount n).find_reloadHead_live ha,
    fun o ho => State.heads_of_mem_dropOldPages ho⟩
  · rw [hhead, State.beam_wrapCount, hframe]
  · rw [hhead, ← hothers m hm]
    exact u.head_modHead_ne hm _

theorem State.wrapHead_wraps (s : State) (n : Fin 6) :
    Wraps n ((((s.totalsPrev n).wrapCount n).reloadHead n).dropOldPages n) (s.wrapHead n) := by
  unfold State.wrapHead
  exact Wraps.refl.wrapBench.wrapTiming.wrapInfo.wrapFallback.closeDamage.sinkAdopt.wrapActive.wrapSink.wrapRecords.lateWrap

theorem State.newFrame_wrapHead (s : State) (n : Fin 6) : NewFrame n s (s.wrapHead n) :=
  (s.newFrame_start n).presents (s.wrapHead_wraps n).toPresents

theorem State.wrapHead_shown (s : State) (n : Fin 6) : (s.wrapHead n).trk.shown = s.trk.shown := by
  have hstart : ∀ u : State, (((u.wrapCount n).reloadHead n).dropOldPages n).trk = u.trk := fun _ => rfl
  rw [(s.wrapHead_wraps n).shown, hstart, (s.totalsPrev_wraps n).shown]

/-! ### What the head shows (R132, R471) -/

theorem ShownOnly.presents (h : ShownOnly s t) : Presents n s t := by
  have hstock : t.stock = s.stock := by rw [h.1]; rfl
  have hheads : t.heads = s.heads := by rw [h.1]
  exact Presents.refl.same hstock hheads

theorem Presents.setReg (h : Presents n s t) {r i j w} : Presents n s (t.setReg r i j w) := h.same rfl rfl

theorem Presents.lastTrick (h : Presents n s t) {m o id} : Presents n s (t.lastTrick m o id) := by
  unfold State.lastTrick
  split <;> [exact h.setReg.setReg; exact h; exact h.setReg.setReg]

theorem State.shownAt_presents (s : State) (n : Fin 6) : Presents n s (s.shownAt n) := by
  unfold State.shownAt
  extract_lets now trk seen v
  split
  · exact .refl
  · have hv : Presents n s v := by
      refine List.foldlRecOn (motive := Presents n s) now _ (Presents.refl.same rfl rfl) fun t ht x _ => ?_
      dsimp only
      split <;> [exact ht.lastTrick.modHead; exact ht.lastTrick]
    exact hv.trans (ShownOnly.settleShown v).presents

/-- A review of the mode changes the mode, counts and messages. -/
theorem State.reviewMode_counted (s : State) : ∃ g, Counted { s with glob := g } s.reviewMode := by
  have hstay : ∃ g, Counted { s with glob := g } s := ⟨s.glob, .refl s⟩
  have hset : ∀ m c, ∃ g, Counted { s with glob := g } (s.setMode m c) := fun m c => ⟨_, s.setMode_counted m c⟩
  unfold State.reviewMode
  split
  · exact hstay
  split
  · split <;> [exact hset _ _; split <;> [exact hset _ _; exact hstay]]
  · split <;> [exact hset _ _; split <;> [exact hstay; exact hset _ _]]
  · split <;> [exact hset _ _; exact hstay]
  · exact hstay

theorem State.reviewMode_presents (s : State) (n : Fin 6) : Presents n s s.reviewMode := by
  obtain ⟨g, hg⟩ := s.reviewMode_counted
  exact Presents.refl.same (by simp only [State.stock, hg.live, hg.mem, hg.oldPages, hg.trk]) hg.heads

theorem lastId_apart : ∀ n : Fin 6, RegId.addr .TRK_HD_LAST_ID n 0 ≠ RegId.addr .TRK_HD_LAST_INFO n 0 ∧
    RegId.addr .TRK_HD_LAST_ID n 0 ∉ [RegId.addr .PMC_OVF 0 0] := by decide +kernel

theorem State.lastTrick_id (s : State) (n : Fin 6) (f : Fin 16) (id : Word) :
    (s.lastTrick n (.fn f) id).reg .TRK_HD_LAST_ID n 0 = id :=
  (State.reg_setReg_ne _ (lastId_apart n).1 _).trans (State.reg_setReg_self _ _ _ _ _)

/-- Outside FALLBACK the one trick that waits for the head is the last that it shows. -/
theorem State.shownAt_lastId {x : Shown} (hfb : (s.head n).fb = false) (hx : s.trk.shown = [x])
    (hp : x.pending.getLsbD n.val = true) {f : Fin 16} (ho : x.owner = .fn f) :
    (s.shownAt n).reg .TRK_HD_LAST_ID n 0 = x.id := by
  unfold State.shownAt
  extract_lets now trk seen v
  have hnow : now = [x] := by simp [now, hx, hp]
  have hv : v = seen.lastTrick n (.fn f) x.id := by simp [v, hnow, ho]
  have hset := ShownOnly.settleShown v
  rw [if_neg (by simp [hfb]), hset.2.reg (by rw [hset.1]) (lastId_apart n).2, hv]
  exact seen.lastTrick_id n f x.id

theorem State.shownAt_fallback (h : (s.head n).fb = true) : s.shownAt n = s := by
  rw [State.shownAt, if_pos h]

/-- The review of the mode after a wrap leaves heads and registers, so the trick just shown stands there named. -/
theorem State.reviewMode_lastId {x : Shown} (hx : s.trk.shown = [x]) (hp : x.pending.getLsbD n.val = true)
    {f : Fin 16} (ho : x.owner = .fn f) (hfb : ((s.shownAt n).reviewMode.head n).fb = false) :
    (s.shownAt n).reviewMode.reg .TRK_HD_LAST_ID n 0 = x.id := by
  rw [State.head_of_heads (State.reviewMode_heads _)] at hfb
  obtain ⟨g, hg⟩ := (s.shownAt n).reviewMode_counted
  rw [hg.2.1.reg hg.part (lastId_apart n).2]
  cases hs : (s.head n).fb with
  | true => simp [State.shownAt_fallback hs, hs] at hfb
  | false => exact State.shownAt_lastId hs hx hp ho

/-! ### The wrap (R130) -/

/-- A head alone in its lock group that is held back by an application waits, and counts once. -/
theorem State.frameWrap_busy (hg : s.lockGroup n = [n]) (hr : s.wrapReady n = true) (hw : (s.head n).inWindow = true)
    (hb : s.anchorBusy n = true) (hwait : (s.head n).wrapWait = false) : s.frameWrap n =
      (s.modHead n (fun h => { h with wrapWait := true })).incF (F.TRK_HD_LATE_COUNT n) := by
  simp [State.frameWrap, hg, hr, hw, hb, hwait]

theorem State.frameWrap_free (hg : s.lockGroup n = [n]) (hr : s.wrapReady n = true) (hw : (s.head n).inWindow = true)
    (hb : s.anchorBusy n = false) : s.frameWrap n = ((s.wrapHead n).shownAt n).reviewMode := by
  simp [State.frameWrap, State.wrapGroup, hg, hr, hw, hb]

theorem State.fld_lateCount (s : State) (n : Fin 6) :
    ((s.modHead n (fun h => { h with wrapWait := true })).incF (F.TRK_HD_LATE_COUNT n)).fld (F.TRK_HD_LATE_COUNT n) =
      min (s.fld (F.TRK_HD_LATE_COUNT n) + 1) (2 ^ 32 - 1) := by
  rw [State.incF, State.fld_setF_self _ _ (by simp)]
  exact Nat.mod_eq_of_lt (by simp)

end

theorem Trick.dueAt_iff (x : Trick) (n : Fin 6) (f : Word) : x.dueAt n f = true ↔
    x.phase = .staged ∧ x.anchor = some n ∧ (x.wall = true → x.wallGo = true) ∧ (x.target - f).toInt ≤ 0 := by
  have hgo : (!x.wall || x.wallGo) = true ↔ (x.wall = true → x.wallGo = true) := by
    cases x.wall <;> simp
  simp [Trick.dueAt, frameDiff, hgo, and_assoc]

/-- Settles O28: a cutoff adds the due tricks to the queue in their order, and a wrap stands at line 0 of the next
frame, by what each step of it leaves unchanged. -/
theorem cutoffsAndWraps : Obligations.CutoffsAndWraps := by
  unfold Obligations.CutoffsAndWraps
  refine ⟨fun s n hrun hwin hkeys => ?_, fun s n hg hr hw => ⟨fun hb hwait => ?_, fun hb => ?_⟩⟩
  · intro h f lines due
    refine ⟨fun hearly => ?_, fun hon hline => ?_⟩
    · have hnot : ¬ s.atCutoff n := fun ⟨hon, hline⟩ => hearly.elim
        (fun hoff => by simp [h, hon] at hoff) (fun hlt => Nat.not_le.2 hlt hline)
      exact congrArg (fun t => Host.Outcome.next (State.follow t)) (State.commitCutoff_early hnot)
    · obtain ⟨hqueue, hjoined, hrest, hself, hothers⟩ := State.commitCutoff_spec hrun hwin hkeys ⟨hon, hline⟩
      refine ⟨s.commitCutoff n, s.dueTricks n, rfl, hqueue, fun x => ?_, byOrder_sorted _, fun x hx => ?_, hrest,
        hself, hothers⟩
      · rw [State.mem_dueTricks, Trick.dueAt_iff]
      · rw [hjoined x hx, Trick.joined_eq]
  · refine ⟨_, rfl, ?_⟩
    rw [State.frameWrap_busy hg hr hw hb hwait]
    exact ⟨rfl, s.fld_lateCount n⟩
  · refine ⟨_, rfl, ?_⟩
    rw [State.frameWrap_free hg hr hw hb]
    have hshown := (s.wrapHead n).shownAt_presents n
    have hnew := (s.newFrame_wrapHead n).presents (hshown.trans (State.reviewMode_presents _ n))
    have hbeam := hnew.beam
    simp only [HeadSt.beam, Prod.mk.injEq] at hbeam
    obtain ⟨hframe, hline, hon, hwin, hcomp⟩ := hbeam
    refine ⟨hframe, hline, hon, hwin, hcomp, hnew.others, hnew.mem, hnew.tricks, fun r i j => hnew.useReg,
      hnew.oldPages, fun x hx hp ⟨f, ho⟩ hfb => ?_⟩
    exact State.reviewMode_lastId ((s.wrapHead_shown n).trans hx) hp ho hfb

end Sys2Proof.Machine
end

section
/-!
PROOF. The canonical form of memory through one operation (for O58): the rules of every kind. In the sections
after this one an operation over the state has the lemma of its name, `State.MemoryForm.<operation>`: it takes
the form from the state before to the state after. Its proof follows the operation: `h.f.g` says that `g` comes
after `f`, `.ite` and `split` take both ways, `.foldl` a loop, and `.same` ends what leaves memory and tricks.
-/

set_option Elab.async false  -- the joined text is large: no thread per declaration

namespace Sys2Proof.Machine

/-- Every page the trick holds is in canonical form. -/
def Trick.PagesForm (x : Trick) : Prop := ∀ p ∈ x.pages, p.img.wf = true

/-- A state that may be missing is in form where it is there. -/
def KeptForm (o : Option State) : Prop := ∀ t ∈ o, t.MemoryForm

/-! ### Steps of every kind -/

section
variable {s t : State}

theorem State.MemoryForm.pagesForm (h : s.MemoryForm) {x : Trick} (hx : x ∈ s.trk.tricks) : x.PagesForm := h.2 x hx

theorem State.MemoryForm.trickForm (h : s.MemoryForm) {key : Nat} {x : Trick} (hx : s.trick key = some x) :
    x.PagesForm := h.pagesForm (List.mem_of_find?_eq_some hx)

/-- A step that leaves memory and the tricks. -/
theorem State.MemoryForm.same (h : s.MemoryForm) (hm : t.mem = s.mem := by rfl)
    (hk : t.trk.tricks = s.trk.tricks := by rfl) : t.MemoryForm := by
  unfold State.MemoryForm
  rw [hm, hk]
  exact h

/-- A step that leaves the tricks, and memory in form. -/
theorem State.MemoryForm.withMem (h : s.MemoryForm) (hm : t.mem.wf = true)
    (hk : t.trk.tricks = s.trk.tricks := by rfl) : t.MemoryForm :=
  ⟨hm, fun _ hx => h.pagesForm (hk ▸ hx)⟩

/-- A step that leaves memory, and the pages of every trick in form. -/
theorem State.MemoryForm.withTricks (h : s.MemoryForm) (hk : ∀ x ∈ t.trk.tricks, x.PagesForm)
    (hm : t.mem = s.mem := by rfl) : t.MemoryForm :=
  ⟨hm ▸ h.1, hk⟩

theorem State.MemoryForm.ite {c : Prop} [Decidable c] (h : s.MemoryForm) (k : t.MemoryForm) :
    (if c then s else t).MemoryForm := by
  split <;> [exact h; exact k]

theorem State.MemoryForm.foldl {α : Type} {f : State → α → State} {l : List α} (h : s.MemoryForm)
    (hf : ∀ {t a}, t.MemoryForm → (f t a).MemoryForm) : (l.foldl f s).MemoryForm :=
  List.foldlRecOn (motive := State.MemoryForm) l f h fun _ ht _ _ => hf ht

/-- A loop that carries a value beside the state. -/
theorem State.MemoryForm.foldlFst {α β : Type} {f : State × β → α → State × β} {l : List α} {b : β}
    (h : s.MemoryForm) (hf : ∀ {p a}, p.1.MemoryForm → (f p a).1.MemoryForm) : (l.foldl f (s, b)).1.MemoryForm :=
  List.foldlRecOn (motive := fun p : State × β => p.1.MemoryForm) l f h fun _ ht _ _ => hf ht

/-- The state of an answer that was taken apart. -/
theorem State.MemoryForm.ofFst {β : Type} {p : State × β} {b : β} (h : p.1.MemoryForm) (e : p = (t, b)) :
    t.MemoryForm := by
  rwa [e] at h

theorem State.MemoryForm.counted (h : s.MemoryForm) (c : Counted s t) : t.MemoryForm := by
  rw [c.1]
  exact h

theorem State.MemoryForm.recorded (h : s.MemoryForm) (c : Recorded s t) : t.MemoryForm := by
  rw [c.1]
  exact h

theorem State.MemoryForm.keeps (h : s.MemoryForm) (k : KeepsScene s t) : t.MemoryForm :=
  h.same (congrArg (·.2.1) k.ledger) k.tricks

theorem KeptForm.some (h : s.MemoryForm) : KeptForm (Option.some s) := by
  rintro t ⟨⟩
  exact h

theorem KeptForm.none : KeptForm Option.none := fun _ ht => absurd ht (Option.not_mem_none _)

end

/-! ### Pages and pixels -/

theorem Trick.PagesForm.append {x : Trick} (hx : x.PagesForm) {q : PageImg} (hq : q.img.wf = true) :
    ∀ p ∈ x.pages ++ [q], p.img.wf = true := by
  intro p hp
  rcases List.mem_append.1 hp with hp | hp
  · exact hx p hp
  · exact List.mem_singleton.1 hp ▸ hq

theorem wf_putCut {ps : List PageImg} (h : ∀ p ∈ ps, p.img.wf = true) (c : Nat × List Byte) :
    ∀ p ∈ putCut ps c, p.img.wf = true := by
  intro p hp
  obtain ⟨q, hq, rfl⟩ := List.mem_map.1 hp
  split <;> [exact DevMem.wf_writeBytes (h q hq) _ _; exact h q hq]

/-- Bytes staged into the pages of a trick keep them in form. -/
theorem Trick.PagesForm.putBytes {x : Trick} (hx : x.PagesForm) (a : Nat) (bs : List Byte) :
    ∀ p ∈ putBytes x.pages a bs, p.img.wf = true :=
  List.foldlRecOn (motive := fun ps : List PageImg => ∀ p ∈ ps, p.img.wf = true) _ putCut hx
    fun _ hps c _ => wf_putCut hps c

theorem DevMem.wf_putPixel {m : DevMem} (h : m.wf = true) (fmt row x v : Nat) :
    (m.putPixel fmt row x v).wf = true := by
  unfold DevMem.putPixel
  split <;> [exact DevMem.wf_writeBytes h _ _; exact DevMem.wf_write h _ _]

end Sys2Proof.Machine
end

section
/-!
PROOF. The canonical form of memory (for O58): the operations over the state, and records of faults.
-/

set_option Elab.async false  -- the joined text is large: no thread per declaration

namespace Sys2Proof.Machine

section
variable {s : State} (h : s.MemoryForm)
include h

/-! ### Registers, counters and memory -/

theorem State.MemoryForm.setReg {r i j w} : (s.setReg r i j w).MemoryForm := h.same

theorem State.MemoryForm.setLive {r i j w} : (s.setLive r i j w).MemoryForm := h.same

theorem State.MemoryForm.dropLive {r i j} : (s.dropLive r i j).MemoryForm := h.same

theorem State.MemoryForm.setF {f v} : (s.setF f v).MemoryForm := h.setReg

theorem State.MemoryForm.raiseF {f} : (s.raiseF f).MemoryForm := h.setF

theorem State.MemoryForm.incF {f n} : (s.incF f n).MemoryForm := h.setF

theorem State.MemoryForm.reloadHead {n} : (s.reloadHead n).MemoryForm := h.same

theorem State.MemoryForm.poke {a bs} : (s.poke a bs).MemoryForm := h.withMem (State.wf_poke h.1 a bs)

theorem State.MemoryForm.scramble {lo hi} : (s.scramble lo hi).MemoryForm := h.withMem (State.wf_scramble h.1 lo hi)

theorem State.MemoryForm.modHead {n f} : (s.modHead n f).MemoryForm := h.same

theorem State.MemoryForm.modSc {n f} : (s.modSc n f).MemoryForm := h.modHead

theorem State.MemoryForm.modSk {n f} : (s.modSk n f).MemoryForm := h.modHead

theorem State.MemoryForm.modDp {n f} : (s.modDp n f).MemoryForm := h.modHead

theorem State.MemoryForm.modEv {n f} : (s.modEv n f).MemoryForm := h.modHead

theorem State.MemoryForm.modTot {n f} : (s.modTot n f).MemoryForm := h.modHead

theorem State.MemoryForm.modSeq {q f} : (s.modSeq q f).MemoryForm := h.same

theorem State.MemoryForm.tickOut {k} : (s.tickOut k).MemoryForm := h.same

theorem State.MemoryForm.emit {o} : (s.emit o).MemoryForm := h.same

theorem State.MemoryForm.modRing {f r g} : (s.modRing f r g).MemoryForm := h.same

theorem State.MemoryForm.msixSend {f v} : (s.msixSend f v).MemoryForm := h.same.ite h.emit

theorem State.MemoryForm.pmcBump {n k x} : (s.pmcBump n k x).MemoryForm := h.counted (.pmcBump n s k x)

theorem State.MemoryForm.count {c i n a} : (s.count c i n a).MemoryForm := h.counted (s.count_counted c i n a)

theorem State.MemoryForm.sendVec {f v} : (s.sendVec f v).MemoryForm := h.counted (.sendVec s f v)

theorem State.MemoryForm.signal {w} : (s.signal w).MemoryForm := h.counted (.signal s w)

/-! ### Messages and fault records -/

theorem State.MemoryForm.fault {c u i f l p d} : (s.fault c u i f l p d).MemoryForm :=
  h.recorded (s.fault_recorded c u i f l p d)

theorem State.MemoryForm.faultDev {c u i d} : (s.faultDev c u i d).MemoryForm := h.fault

theorem State.MemoryForm.faultHead {n c i l p d} : (s.faultHead n c i l p d).MemoryForm := h.fault

theorem State.MemoryForm.fltFlush : s.fltFlush.MemoryForm := h.same

theorem State.MemoryForm.hostWrite {f a b} : (s.hostWrite f a b).MemoryForm := h.emit.count

theorem State.MemoryForm.freeDetail : s.freeDetail.1.MemoryForm := h.same

theorem State.MemoryForm.logEntry {f r t c d} : (s.logEntry f r t c d).MemoryForm := h.keeps KeepsScene.refl.logEntry

theorem State.MemoryForm.writeDevFlags {f r} : (s.writeDevFlags f r).MemoryForm := h.hostWrite

theorem State.MemoryForm.violate {f r t c d} : (s.violate f r t c d).MemoryForm := by
  unfold State.violate
  extract_lets _ u
  have hu : u.MemoryForm := h.logEntry.modRing
  exact .ite (.ite hu.modRing.writeDevFlags.logEntry hu) h.logEntry

theorem State.MemoryForm.violateFree {f r t c} : (s.violateFree f r t c).MemoryForm := h.freeDetail.violate

theorem State.MemoryForm.violateOnce {f r c d} : (s.violateOnce f r c d).MemoryForm := h.ite h.modRing.violate

theorem State.MemoryForm.ringMsg {f r} : (s.ringMsg f r).MemoryForm := by
  unfold State.ringMsg
  extract_lets _ _ _ u
  have hu : u.MemoryForm := h.emit.msixSend.count.ite h
  exact h.ite (h.modRing.ite (.ite hu hu.modRing))

theorem State.MemoryForm.writeCpl {f r c} : (s.writeCpl f r c).MemoryForm := by
  unfold State.writeCpl
  extract_lets _ _ _ _ u
  have hu : u.MemoryForm := h.hostWrite.modRing.count
  exact .ite hu.ringMsg hu

theorem State.MemoryForm.modSlot {i f} : (s.modSlot i f).MemoryForm := h.same

theorem State.MemoryForm.dropSlot {i} : (s.dropSlot i).MemoryForm := h.same

/-- A trick changes, and what was in form of its pages stays so. -/
theorem State.MemoryForm.modTrick {k f}
    (hf : ∀ x : Trick, x.PagesForm → (f x).PagesForm := by exact fun _ hx => hx) :
    (s.modTrick k f).MemoryForm := by
  refine h.withTricks fun y hy => ?_
  obtain ⟨x, hx, rfl⟩ := List.mem_map.1 hy
  split <;> [exact hf x (h.pagesForm hx); exact h.pagesForm hx]

theorem State.MemoryForm.spoil {k st d} : (s.spoil k st d).MemoryForm :=
  h.modTrick fun x hx => by split <;> exact hx

theorem State.MemoryForm.complete {i st d} : (s.complete i st d).MemoryForm := by
  unfold State.complete
  split
  · exact h
  · extract_lets u
    have hu : u.MemoryForm := by
      unfold u
      split <;> [exact h.spoil.ite h; exact h]
    exact .ite hu.writeCpl.dropSlot (.ite hu.dropSlot hu.modRing.modSlot)

theorem State.MemoryForm.completeViol {i st c d} : (s.completeViol i st c d).MemoryForm := by
  unfold State.completeViol
  split <;> [exact h; exact h.violate.complete]

theorem State.MemoryForm.completeReadFail {i st a} : (s.completeReadFail i st a).MemoryForm := by
  unfold State.completeReadFail
  split <;> [exact h; exact h.emit.violate.complete]

omit h in
theorem State.MemoryForm.writeHeld {f r} : ∀ {n : Nat} {s : State}, s.MemoryForm → (s.writeHeld f r n).MemoryForm
  | 0, _, h => h
  | n + 1, s, h => by
    unfold State.writeHeld
    extract_lets
    split
    · exact h.modRing.ite h
    · refine .ite ?_ h
      exact State.MemoryForm.writeHeld h.modRing.writeCpl.dropSlot

end

end Sys2Proof.Machine
end

section
/-!
PROOF. The canonical form of memory (for O58): mix programs, damage, sequencer programs and the modes.
-/

set_option Elab.async false  -- the joined text is large: no thread per declaration

namespace Sys2Proof.Machine

section
variable {s : State} (h : s.MemoryForm)
include h

/-! ### Mix programs -/

theorem State.MemoryForm.modDom {d f} : (s.modDom d f).MemoryForm := h.same

theorem State.MemoryForm.stamp : s.stamp.MemoryForm := h.same

theorem State.MemoryForm.setS {d k x} : (s.setS d k x).MemoryForm := h.modDom

theorem State.MemoryForm.setA {d x} : (s.setA d x).MemoryForm := .ite h.modDom h.modDom.raiseF

theorem State.MemoryForm.mixClr {d} : (s.mixClr d).MemoryForm := h.setA

theorem State.MemoryForm.mixLd {d x} : (s.mixLd d x).MemoryForm := h.setA

theorem State.MemoryForm.mixSt {d x} : (s.mixSt d x).MemoryForm := h.setS

theorem State.MemoryForm.mixAdd {d x} : (s.mixAdd d x).MemoryForm := h.setA

theorem State.MemoryForm.mixSub {d x} : (s.mixSub d x).MemoryForm := h.setA

theorem State.MemoryForm.mixMul {d x y} : (s.mixMul d x y).MemoryForm := h.setA

theorem State.MemoryForm.mixMac {d x y} : (s.mixMac d x y).MemoryForm := h.setA

theorem State.MemoryForm.mixMulr {d x y} : (s.mixMulr d x y).MemoryForm := h.setA

theorem State.MemoryForm.mixMacr {d x y} : (s.mixMacr d x y).MemoryForm := h.setA

theorem State.MemoryForm.mixIn {d x} : (s.mixIn d x).MemoryForm := h.setA

theorem State.MemoryForm.mixOut {d x} : (s.mixOut d x).MemoryForm := h.modDom

theorem State.MemoryForm.mixBiq {d x y} : (s.mixBiq d x y).MemoryForm := h.setS.setS.setA

theorem State.MemoryForm.mixDwr {d x} : (s.mixDwr d x).MemoryForm := by
  unfold State.mixDwr
  extract_lets
  split <;> [exact h; exact h.poke.modDom]

theorem State.MemoryForm.mixDrd {d x y} : (s.mixDrd d x y).MemoryForm := by
  unfold State.mixDrd
  split <;> exact h.setA

theorem State.MemoryForm.mixLim {d x} : (s.mixLim d x).MemoryForm := by
  unfold State.mixLim
  extract_lets
  split <;> [exact h; (split; exact h.stamp.modDom.setA)]

theorem State.MemoryForm.mixShr {d n} : (s.mixShr d n).MemoryForm := h.setA

theorem State.MemoryForm.mixSat {d} : (s.mixSat d).MemoryForm := h.setA

theorem State.MemoryForm.endSample {d} : (s.endSample d).MemoryForm := h.modDom

theorem State.MemoryForm.trySwap {d} : (s.trySwap d).MemoryForm := by
  unfold State.trySwap
  extract_lets
  split <;> [exact h; exact h.ite (h.modDom.ite h.modDom.raiseF.setF.faultDev)]

theorem State.MemoryForm.checkRamps {d} : (s.checkRamps d).MemoryForm := (h.foldl fun h => h.incF).modDom

theorem State.MemoryForm.beginSample {d} : (s.beginSample d).MemoryForm := by
  unfold State.beginSample
  extract_lets
  split
  · exact h
  · extract_lets u
    have hu : u.MemoryForm := h.trySwap.checkRamps.stamp.modDom
    exact .ite hu.endSample hu

theorem State.MemoryForm.mixNext {d p w} : (s.mixNext d p w).MemoryForm :=
  .ite h.count.endSample.beginSample h.count.modDom

theorem State.MemoryForm.mixDo {d w} : (s.mixDo d w).MemoryForm := by
  unfold State.mixDo
  split
  · exact h.mixClr
  · exact h.mixLd
  · exact h.mixSt
  · exact h.mixAdd
  · exact h.mixSub
  · exact h.mixMul
  · exact h.mixMac
  · exact h.mixMulr
  · exact h.mixMacr
  · exact h.mixIn
  · exact h.mixOut
  · exact h.mixBiq
  · exact h.mixDwr
  · exact h.mixDrd
  · exact h.mixLim
  · exact h.mixShr
  · exact h.mixSat
  · exact h

omit h in
theorem State.MemoryForm.mixRun {d} : ∀ {n : Nat} {s : State}, s.MemoryForm → (s.mixRun d n).MemoryForm
  | 0, _, h => h
  | n + 1, s, h => by
    unfold State.mixRun
    split
    · exact h
    · split <;> [exact h.endSample; exact State.MemoryForm.mixRun h.mixDo.mixNext]

theorem State.MemoryForm.mixExec {d w f} (hf : ∀ {t}, t.MemoryForm → (f t).MemoryForm) :
    (s.mixExec d w f).MemoryForm := by
  unfold State.mixExec
  split <;> [exact (hf h).mixNext.ite h; exact h]

/-! ### Damage -/

theorem State.MemoryForm.markAll {n} : (s.markAll n).MemoryForm := h.keeps KeepsScene.refl.markAll

theorem State.MemoryForm.markBox {n b} : (s.markBox n b).MemoryForm := h.modHead

/-! ### Sequencer programs -/

theorem State.MemoryForm.seqFault {q c p} : (s.seqFault q c p).MemoryForm := by
  unfold State.seqFault
  extract_lets _ _ _ u
  have hu : u.MemoryForm := h.modSeq.fault
  exact .ite hu hu.raiseF.signal

theorem State.MemoryForm.seqNext {q} : (s.seqNext q).MemoryForm := h.seqFault.ite h.modSeq

theorem State.MemoryForm.seqExec {q w f} (hf : ∀ {t}, t.MemoryForm → (f t).MemoryForm) :
    (s.seqExec q w f).MemoryForm := .ite (h.seqFault.ite (hf h).count) h

theorem State.MemoryForm.seqAlu {q g v f} : (s.seqAlu q g v f).MemoryForm := h.modSeq.seqNext

theorem State.MemoryForm.seqSet {q g v} : (s.seqSet q g v).MemoryForm := h.modSeq.seqNext

theorem State.MemoryForm.wakeStalled : s.wakeStalled.MemoryForm := h.foldl fun h => h.modSeq.ite h

theorem State.MemoryForm.dropTagged {q f} : (s.dropTagged q f).MemoryForm :=
  (h.modSeq.foldl fun h => h.modHead).wakeStalled

theorem State.MemoryForm.programStart {q f b} : (s.programStart q f b).MemoryForm := h.modSeq

theorem State.MemoryForm.oweStart {q f b} : (s.oweStart q f b).MemoryForm := h.modSeq

theorem State.MemoryForm.seqIdleFor {n} : (s.seqIdleFor n).MemoryForm := h.foldl fun h => by
  refine .ite ?_ h
  split
  · exact h.modSeq
  · exact h.modSeq
  · exact h.modSeq
  · exact h.modSeq
  · exact h.modSeq
  · exact h

theorem State.MemoryForm.seqFreshStart {n f} : (s.seqFreshStart n f).MemoryForm := h.foldl fun h => h.oweStart.ite h

theorem State.MemoryForm.seqFreeStart : s.seqFreeStart.MemoryForm := h.foldl fun h => h.oweStart.ite h

theorem State.MemoryForm.timerEvent {c e} : (s.timerEvent c e).MemoryForm :=
  h.foldl fun h => by split <;> [exact h.modSeq.seqNext.ite h.modSeq; exact h.modSeq]

theorem State.MemoryForm.landWrite {n a v} : (s.landWrite n a v).MemoryForm := by
  unfold State.landWrite
  split
  · exact h
  · extract_lets _ _ hold u take
    have hu : u.MemoryForm := h.setLive
    have htake {axis lo} : (take axis lo).MemoryForm := by
      unfold take
      split <;> [exact hu.setLive.modHead; exact hu]
    split
    · exact h.modHead
    · exact h.modHead
    · exact htake
    · exact htake
    · exact hu

theorem State.MemoryForm.landMark {n} : (s.landMark n).MemoryForm := h.markBox.ite h

theorem State.MemoryForm.landAt {n c} : (s.landAt n c).MemoryForm := by
  unfold State.landAt
  extract_lets _ _ _ u
  have hu : u.MemoryForm := h.modHead.foldl fun h => h.landWrite.landMark
  exact .ite hu hu.wakeStalled

theorem State.MemoryForm.issueAll {q w a} : (s.issueAll q w a).MemoryForm := h.modSeq.ite (h.foldl fun h => by
    split <;> [exact h.modSeq.count; exact h.modSeq.count; exact h.incF; exact h]).modSeq.seqNext

theorem State.MemoryForm.seqLate {q t l p} : (s.seqLate q t l p).MemoryForm := by
  unfold State.seqLate
  extract_lets _ u
  have hu : u.MemoryForm := h.incF.raiseF.count
  exact .ite hu hu.modSeq.fault

theorem State.MemoryForm.beamWait {q n p ha} : (s.beamWait q n p ha).MemoryForm :=
  .ite (.ite h.incF.modSeq h.incF.modSeq.seqNext) h.incF.modSeq

theorem State.MemoryForm.beamWaitOn {q t} : (s.beamWaitOn q t).MemoryForm := by
  unfold State.beamWaitOn
  split <;> [exact h.seqFault; (split <;> [exact h.seqFault; exact h.beamWait])]

theorem State.MemoryForm.issueKey {q a i p} : (s.issueKey q a i p).MemoryForm := by
  unfold State.issueKey
  extract_lets
  split
  · exact (State.MemoryForm.ite h.same.seqLate h.same).seqNext
  · exact h.same.seqNext

theorem State.MemoryForm.seqStopDue {q} : (s.seqStopDue q).MemoryForm := by
  unfold State.seqStopDue
  split
  · refine .ite (.modSeq ?_) h
    split <;> [exact h.dropTagged; exact h]
  · exact h

theorem State.MemoryForm.seqStartDue {q} : (s.seqStartDue q).MemoryForm := by
  unfold State.seqStartDue
  split
  · exact h
  · refine .ite (.programStart ?_) h
    split <;> [exact h.dropTagged; exact h]

theorem State.MemoryForm.seqTurn {q} : (s.seqTurn q).MemoryForm := h.ite (.ite h.seqStopDue h.seqStopDue.seqStartDue)

theorem State.MemoryForm.cmdHalt {q} : (s.cmdHalt q).MemoryForm := by
  unfold State.cmdHalt
  split <;> [exact h; exact h.modSeq]

theorem State.MemoryForm.cmdRestart {q} : (s.cmdRestart q).MemoryForm := h.oweStart

/-! ### Modes -/

theorem State.MemoryForm.ltrFrom {o} : (s.ltrFrom o).MemoryForm := h.ite h.emit

theorem State.MemoryForm.setMode {m c} : (s.setMode m c).MemoryForm := h.same.ltrFrom.count

theorem State.MemoryForm.reviewMode : s.reviewMode.MemoryForm := by
  unfold State.reviewMode
  refine h.ite ?_
  split
  · exact h.setMode.ite (h.setMode.ite h)
  · exact h.setMode.ite (h.ite h.setMode)
  · exact h.setMode.ite h
  · exact h

theorem State.MemoryForm.enterFb {n} : (s.enterFb n).MemoryForm := h.same.raiseF.seqIdleFor

theorem State.MemoryForm.leaveFb {n} : (s.leaveFb n).MemoryForm := h.modHead.setF

/-! ### Timing -/

theorem State.MemoryForm.wrapTiming {n} : (s.wrapTiming n).MemoryForm := by
  unfold State.wrapTiming
  extract_lets
  split <;> [exact h.modHead.ite h; exact h]

/-! ### Wakes -/

theorem State.MemoryForm.noteWake {sr} : (s.noteWake sr).MemoryForm :=
  h.ite ((h.ite h.same.setF.count).ite (h.same.setF.count.ite h))

theorem State.MemoryForm.barWrite {o f} (hf : ∀ {t}, t.MemoryForm → (f t).MemoryForm) :
    (s.barWrite o f).MemoryForm :=
  h.ite (.ite (h.setReg.ite h).setReg (hf h.noteWake))

end

end Sys2Proof.Machine
end

section
/-!
PROOF. The canonical form of memory (for O58): audio.
-/

set_option Elab.async false  -- the joined text is large: no thread per declaration

namespace Sys2Proof.Machine

section
variable {s : State} (h : s.MemoryForm)
include h

theorem State.MemoryForm.modPlay {p f} : (s.modPlay p f).MemoryForm := h.same

theorem State.MemoryForm.modBridge {b f} : (s.modBridge b f).MemoryForm := h.same

theorem State.MemoryForm.modSink {k f} : (s.modSink k f).MemoryForm := h.same

theorem State.MemoryForm.modHs {f} : (s.modHs f).MemoryForm := h.same

theorem State.MemoryForm.bridgesRefill {d} : (s.bridgesRefill d).MemoryForm := h.foldl fun h => h.modBridge.setF

theorem State.MemoryForm.sinkFadeIn {k m n d} : (s.sinkFadeIn k m n d).MemoryForm := h.modSink

theorem State.MemoryForm.sinksFadeIn {d m n de} : (s.sinksFadeIn d m n de).MemoryForm :=
  h.foldl fun h => h.sinkFadeIn.ite h

theorem State.MemoryForm.domRescale {d n de} : (s.domRescale d n de).MemoryForm := by
  unfold State.domRescale
  extract_lets _ u
  have hu : u.MemoryForm := h.modDom
  exact h.ite (.ite hu.same hu)

theorem State.MemoryForm.domStart {d n de} : (s.domStart d n de).MemoryForm :=
  h.domRescale.modDom.bridgesRefill.sinksFadeIn

theorem State.MemoryForm.domStop {d} : (s.domStop d).MemoryForm := h.modDom.foldl fun h => by
  extract_lets
  refine .ite ?_ h
  split <;> [exact h.modBridge; exact h]

theorem State.MemoryForm.domChange {d n de} : (s.domChange d n de).MemoryForm :=
  h.domRescale.modDom.bridgesRefill.sinksFadeIn

theorem State.MemoryForm.domReview : s.domReview.MemoryForm :=
  h.foldl fun h => by split <;> [exact h.domStop; exact h.domStart; exact h.ite h.domChange; exact h]

theorem State.MemoryForm.modVoice {v f} : (s.modVoice v f).MemoryForm := by
  unfold State.modVoice
  extract_lets
  split <;> [exact h.same; exact h]

theorem State.MemoryForm.voiceOn {v p} : (s.voiceOn v p).MemoryForm := (h.ite h.setLive).modVoice

theorem State.MemoryForm.voiceOff {v} : (s.voiceOff v).MemoryForm := h.ite h.modVoice

theorem State.MemoryForm.rampEvent {d sl t} : (s.rampEvent d sl t).MemoryForm := by
  unfold State.rampEvent
  split <;> [exact h.modDom; exact h.incF]

theorem State.MemoryForm.applyKey {k} : (s.applyKey k).MemoryForm := by
  unfold State.applyKey
  split
  · exact h.voiceOn
  · exact h.voiceOff
  · exact h.rampEvent
  · exact h.rampEvent
  · split <;> [exact h.setLive; exact h]

theorem State.MemoryForm.applyKeys {d} : (s.applyKeys d).MemoryForm := h.same.foldl fun h => h.applyKey

theorem State.MemoryForm.envStep {v} : (s.envStep v).MemoryForm := by
  unfold State.envStep
  extract_lets
  refine h.modVoice.ite ?_
  split <;> exact h.modVoice

theorem State.MemoryForm.voiceSample {v} : (s.voiceSample v).1.MemoryForm := by
  unfold State.voiceSample
  extract_lets _ _ _ _ _ _ u
  have hu : u.MemoryForm := h.modVoice.envStep
  split <;> [exact hu.raiseF; exact hu]

theorem State.MemoryForm.voices : ∀ {n : Nat}, (s.voices n).1.MemoryForm
  | 0 => h
  | n + 1 => (State.MemoryForm.voices (n := n)).voiceSample

theorem State.MemoryForm.voicesIdle : s.voicesIdle.MemoryForm := h.same

theorem State.MemoryForm.playAsk {p} : (s.playAsk p).MemoryForm := by
  unfold State.playAsk
  extract_lets
  refine h.ite ?_
  split
  · exact h
  · extract_lets _ _ u
    have hu : u.MemoryForm := h.modPlay.emit
    split <;> [exact hu.count; exact hu]

theorem State.MemoryForm.playStart {i} : (s.playStart i).MemoryForm := by
  unfold State.playStart
  extract_lets
  split <;> [exact h; exact h.modSlot.ite h.modSlot.modPlay.playAsk]

theorem State.MemoryForm.playerRead {p r} : (s.playerRead p r).MemoryForm := by
  unfold State.playerRead
  split
  · exact h
  · split
    · exact h.ite h.modPlay.playAsk
    · exact h.modPlay.completeReadFail.playAsk
    · exact h.modPlay.completeReadFail.playAsk

theorem State.MemoryForm.takeFrame {p} : (s.takeFrame p).1.MemoryForm := by
  unfold State.takeFrame
  extract_lets
  split
  · exact h
  · extract_lets
    split
    · exact h
    · split
      · split <;> [exact h.modPlay; exact h]
      · split <;> [exact h.modPlay.complete.playAsk; exact h.modPlay.playAsk]

theorem State.MemoryForm.playFrame {p n d} : (s.playFrame p n d).MemoryForm := by
  unfold State.playFrame
  extract_lets
  refine h.ite ?_
  split
  next u fr e =>
  have hu : u.MemoryForm := h.takeFrame.ofFst e
  split
  · exact hu
  · exact hu.modPlay
  · exact hu.modPlay
  · exact hu.modPlay.incF
  · exact hu.modPlay
  · exact hu

omit h in
theorem State.MemoryForm.playFrames {p n d} : ∀ {k : Nat} {s : State}, s.MemoryForm → (s.playFrames p n d
    k).MemoryForm
  | 0, _, h => h
  | k + 1, s, h => by
    unfold State.playFrames
    exact State.MemoryForm.playFrames h.playFrame

theorem State.MemoryForm.playIdle {p} : (s.playIdle p).MemoryForm := h.modPlay

theorem State.MemoryForm.playTick {p n d} : (s.playTick p n d).1.MemoryForm := by
  unfold State.playTick
  extract_lets _ _ _ w _ v u
  have hw : w.MemoryForm := .ite h.modPlay.playFrames h.modPlay
  have hv : v.MemoryForm := .ite hw.modPlay hw
  have hu : u.MemoryForm := hv.modPlay
  split <;> [exact h; (split <;> exact (.ite hu.playIdle hu))]

theorem State.MemoryForm.playReview : s.playReview.MemoryForm := h.foldl fun h => h.raiseF.playIdle.ite h

theorem State.MemoryForm.playQuit {m} : (s.playQuit m).MemoryForm := h.foldl fun h => h.modPlay.ite h

theorem State.MemoryForm.playAbandon {k} : (s.playAbandon k).MemoryForm := h.foldl fun h => h.modPlay.ite h

theorem State.MemoryForm.bridgeIn {b v n d} : (s.bridgeIn b v n d).MemoryForm := by
  unfold State.bridgeIn
  extract_lets _ _ _ v u
  have hv : v.MemoryForm := (h.ite h.incF).modBridge
  have hu : u.MemoryForm := hv.raiseF
  refine h.modBridge.setF.ite ?_
  refine .ite ?_ hv
  split <;> [exact hu.modBridge; exact hu]

theorem State.MemoryForm.bridgeOut {b} : (s.bridgeOut b).1.MemoryForm := by
  unfold State.bridgeOut
  extract_lets
  split <;> [exact h; exact h.modBridge]

theorem State.MemoryForm.sinkDetect {k x} : (s.sinkDetect k x).MemoryForm := h.modSink.setF.ite h.modSink

theorem State.MemoryForm.sinkLimit {k x n d} : (s.sinkLimit k x n d).1.MemoryForm := by
  unfold State.sinkLimit
  extract_lets
  split <;> [exact h; (split; exact (.ite h.modSink.raiseF.count h.modSink))]

theorem State.MemoryForm.dpSinkReview : s.dpSinkReview.MemoryForm :=
  h.foldl fun h => by split <;> [exact h.raiseF.ite h; exact h]

theorem State.MemoryForm.audReview : s.audReview.MemoryForm := h.ite h.domReview.playReview.dpSinkReview.ltrFrom

theorem State.MemoryForm.captureFrame {r y} : (s.captureFrame r y).MemoryForm := by
  unfold State.captureFrame
  extract_lets _ _ _ u
  have hu : u.MemoryForm := h.foldl fun h => by split; exact h.hostWrite
  exact hu.same

omit h in
theorem State.MemoryForm.sinkEmit {k e ys} : ∀ {n : Nat} {s : State},
    s.MemoryForm → (s.sinkEmit k e ys n).MemoryForm
  | 0, _, h => h
  | n + 1, s, h => by
    unfold State.sinkEmit
    extract_lets _ u on v
    have hu : u.MemoryForm := h.ite h.stamp
    have hv : v.MemoryForm := by
      refine .ite ?_ (hu.emit.ite (.ite (hu.ite hu.emit) ?_))
      · split <;> [exact hu.emit.ite hu; exact hu]
      · split <;> [exact hu.captureFrame; exact hu]
    exact State.MemoryForm.sinkEmit hv

theorem State.MemoryForm.sinkFade {k y n d} : (s.sinkFade k y n d).1.MemoryForm := by
  unfold State.sinkFade
  extract_lets
  split <;> [exact h.sinkFadeIn; (split <;> exact h.modSink)]

theorem State.MemoryForm.sinkSend {k y n d} : (s.sinkSend k y n d).MemoryForm := h.raiseF.ite h.modSink.sinkEmit

theorem State.MemoryForm.fbStep {n d} : (s.fbStep n d).MemoryForm := (h.raiseF.ite h).modHs

theorem State.MemoryForm.sinkTick {k o f n d} : (s.sinkTick k o f n d).1.MemoryForm := by
  unfold State.sinkTick
  split
  exact h.sinkDetect.sinkLimit.sinkFade.sinkSend

theorem State.MemoryForm.sinksTick {d o} : (s.sinksTick d o).MemoryForm := by
  unfold State.sinksTick
  extract_lets _ u
  have hu : u.MemoryForm := h.fbStep.ite h
  split
  next v ys e =>
  have hv : v.MemoryForm := .ofFst (by split <;> [exact hu.sinkTick; exact hu]) e
  exact hv.foldl fun h => h.sinkTick

theorem State.MemoryForm.sinksRepeat {d} : (s.sinksRepeat d).MemoryForm := h.foldl fun h => h.sinkSend.ite h

theorem State.MemoryForm.audUnder {d} : (s.audUnder d).MemoryForm := by
  unfold State.audUnder
  extract_lets u
  have hu : u.MemoryForm := h.incF.raiseF.count
  exact .ite hu hu.modDom.faultDev

theorem State.MemoryForm.consume {d k} : (s.consume d k).MemoryForm := by
  unfold State.consume
  extract_lets
  split
  · exact h.modDom.audUnder.sinksRepeat
  · exact (h.modDom.modDom.foldl fun h => h.bridgeIn.ite h).sinksTick

theorem State.MemoryForm.micStep {n d} : (s.micStep n d).MemoryForm := h.modHs

theorem State.MemoryForm.gatherIns {d ext} : (s.gatherIns d ext).1.MemoryForm := by
  unfold State.gatherIns
  extract_lets m
  split
  next u vs eu =>
  have hu : u.MemoryForm := .ofFst (by split <;> [exact h.voices; exact h]) eu
  split
  next v ps ev =>
  have hv : v.MemoryForm := .ofFst (hu.foldlFst fun h => by split <;> [exact h.playTick; exact h]) ev
  split
  next w bs ew =>
  have hw : w.MemoryForm := .ofFst (hv.foldlFst fun h => by split <;> [exact h.bridgeOut; exact h]) ew
  exact State.MemoryForm.stamp (hw.micStep.ite hw)

theorem State.MemoryForm.sampleTick {d b e} : (s.sampleTick d b e).MemoryForm := by
  unfold State.sampleTick
  extract_lets _ u _ v w
  have hu : u.MemoryForm := h.ite h.mixRun
  have hv : v.MemoryForm := .ite hu.consume hu
  refine h.ite ?_
  split
  next x ins e =>
  extract_lets y
  have hy : y.MemoryForm := State.MemoryForm.modDom (hv.stamp.applyKeys.gatherIns.ofFst e)
  exact hy.beginSample.ite hy

theorem State.MemoryForm.audTick {d b e} : (s.audTick d b e).MemoryForm := h.sampleTick.ltrFrom

theorem State.MemoryForm.rampSet {w} : (s.rampSet w).MemoryForm := h.rampEvent.ite h

theorem State.MemoryForm.coefSet {w} : (s.coefSet w).MemoryForm := by
  unfold State.coefSet
  split <;> [exact h.modDom.ite h; exact h]

theorem State.MemoryForm.sinkSilent {k} : (s.sinkSilent k).MemoryForm := h.modSink.raiseF.ite h

theorem State.MemoryForm.capturePeriod {r} : (s.capturePeriod r).MemoryForm := h.hostWrite.sendVec.ite h

theorem State.MemoryForm.hsEvent {k} : (s.hsEvent k).MemoryForm := h.setF.signal

theorem State.MemoryForm.hsPlug : s.hsPlug.MemoryForm := h.noteWake.raiseF.modHs.hsEvent.ite h

theorem State.MemoryForm.hsTyped {c o} : (s.hsTyped c o).MemoryForm := by
  unfold State.hsTyped
  refine .ite ?_ h
  split
  exact h.setF.setF.modHs.modSink.hsEvent

theorem State.MemoryForm.hsUnplug : s.hsUnplug.MemoryForm := .ite h.noteWake.setF.setF.setF.setF.modHs.hsEvent h

theorem State.MemoryForm.hsReading {o m} : (s.hsReading o m).MemoryForm := by
  unfold State.hsReading
  extract_lets _ _ u
  have hu : u.MemoryForm := h.ite h.setF.modHs.hsEvent
  exact .ite (.ite hu hu.setF.hsEvent) h

theorem State.MemoryForm.audLoseFlight : s.audLoseFlight.MemoryForm :=
  h.same.foldl fun h => .ite h.modDom.bridgesRefill.sinksFadeIn h.modDom

theorem State.MemoryForm.audEmpty : s.audEmpty.MemoryForm := h.audLoseFlight.foldl fun h => h.modDom

theorem State.MemoryForm.audApply {k} : (s.audApply k).MemoryForm := h.keeps KeepsScene.refl.audApply

theorem State.MemoryForm.audDiscard {k} : (s.audDiscard k).MemoryForm :=
  h.foldl fun h => by split <;> [exact h.modDom.ite h; exact h]

theorem State.MemoryForm.audStage {k i} : (s.audStage k i).MemoryForm := by
  unfold State.audStage
  split <;> [exact h.modDom; exact h]

theorem State.MemoryForm.audRestore {d i} : (s.audRestore d i).MemoryForm := h.modDom

end

end Sys2Proof.Machine
end

section
/-!
PROOF. The canonical form of memory (for O58): beams and displays.
-/

set_option Elab.async false  -- the joined text is large: no thread per declaration

namespace Sys2Proof.Machine

section
variable {s : State} (h : s.MemoryForm)
include h

/-! ### Compose and scan beams -/

theorem State.MemoryForm.startEval {n l d c o si} : (s.startEval n l d c o si).MemoryForm :=
  h.keeps KeepsScene.refl.startEval

theorem State.MemoryForm.noEval {n o} : (s.noEval n o).MemoryForm := h.modEv

theorem State.MemoryForm.startEval0 {n} : (s.startEval0 n).MemoryForm := h.keeps KeepsScene.refl.startEval0

theorem State.MemoryForm.recordEval {n l r} : (s.recordEval n l r).MemoryForm := by
  unfold State.recordEval
  extract_lets _ _ u v _ w x y z a b _ c first
  have hv : v.MemoryForm := h.modTot.count.count
  have hw : w.MemoryForm := hv.incF.raiseF
  have hx : x.MemoryForm := hw.ite hw.setF.setF
  have hy : y.MemoryForm := hx.ite hx.modTot.faultHead
  have hz : z.MemoryForm := hv.ite hy.modTot
  have ha : a.MemoryForm := hz.raiseF.ite hz
  have hb : b.MemoryForm := ha.raiseF.ite ha
  have hc : c.MemoryForm := .ite hb.same hb
  clear_value first
  split
  · exact hc.ite hc.modTot.faultHead
  · exact hc

theorem State.MemoryForm.evaluationEnd {n} : (s.evaluationEnd n).MemoryForm := by
  unfold State.evaluationEnd
  extract_lets
  split <;> [exact h; exact .ite h.modEv.recordEval h.modEv]

theorem State.MemoryForm.ringWrite {c w l ch p} : (s.ringWrite c w l ch p).MemoryForm := h.poke.poke

theorem State.MemoryForm.wbWrite {c k w v l ch p} : (s.wbWrite c k w v l ch p).MemoryForm := h.poke.poke

theorem State.MemoryForm.planeFault {n p l k} : (s.planeFault n p l k).MemoryForm := h.ite h.modTot.faultHead

theorem State.MemoryForm.breachChecks {n l m} : (s.breachChecks n l m).MemoryForm :=
  h.ite (h.foldl fun h => h.modHead.setF.planeFault)

theorem State.MemoryForm.meldCheck {n l} : (s.meldCheck n l).MemoryForm := by
  unfold State.meldCheck
  extract_lets
  refine h.ite ?_
  split <;> [exact .ite h.raiseF h.raiseF.modTot.faultHead; exact h]

theorem State.MemoryForm.lineChecks {n l} : (s.lineChecks n l).MemoryForm := by
  unfold State.lineChecks
  extract_lets u
  have hu : u.MemoryForm := h.modHead.breachChecks
  exact .ite hu.raiseF hu

theorem State.MemoryForm.judgeLine {n l a p} : (s.judgeLine n l a p).MemoryForm := by
  unfold State.judgeLine
  extract_lets _ _ _ _ x w v u
  have hx : x.MemoryForm := h.modHead.modTot
  have hw : w.MemoryForm := .ite hx.incF.count hx
  have hv : v.MemoryForm := .ite hw.incF.raiseF.count hw
  have hu : u.MemoryForm := hv.incF.raiseF
  exact .ite (.ite hu hu.modTot.faultHead) hv

theorem State.MemoryForm.startLine {n y l p} : (s.startLine n y l p).MemoryForm := by
  unfold State.startLine
  extract_lets _ _ _ _ y x w v u
  have hy : y.MemoryForm := h.setF.modHead.modTot
  have hx : x.MemoryForm := .ite hy.modEv hy
  have hw : w.MemoryForm := hx.landAt.meldCheck
  have hv : v.MemoryForm := .ite hw.judgeLine.count hw
  have hu : u.MemoryForm := .ite hv.lineChecks hv
  exact .ite (.ite hu.startEval hu.noEval) hu.modEv

theorem State.MemoryForm.composeLineStart {n sc} : (s.composeLineStart n sc).MemoryForm :=
  h.ite (.ite h.modHead h.modHead.startLine)

theorem State.MemoryForm.fenErrors {n l x e} : (s.fenErrors n l x e).MemoryForm := h.foldl fun h => by
  extract_lets _ _ u
  have hu : u.MemoryForm := h.incF.modTot
  exact h.ite (.ite hu hu.faultHead)

theorem State.MemoryForm.sinkChunk {n l c p} : (s.sinkChunk n l c p).MemoryForm := by
  unfold State.sinkChunk
  extract_lets _ _ _ _ u
  have hu : u.MemoryForm := by
    unfold u
    split <;> [exact h.ringWrite; exact h.modSk; exact h]
  refine h.ite ?_
  split <;> [exact hu.wbWrite; exact hu]

theorem State.MemoryForm.keepHeaders {n b} : (s.keepHeaders n b).MemoryForm := h.foldl fun h => h.ite h.modTot

theorem State.MemoryForm.composeChunk {n} : (s.composeChunk n).MemoryForm := by
  unfold State.composeChunk
  extract_lets _ _ _ _ _ _ _ _ _ _ _ _ _ u
  have hu : u.MemoryForm := (h.keepHeaders.sinkChunk.count.foldl fun h => h.setF.planeFault).fenErrors.modHead
  exact h.ite (.ite hu hu.landAt.meldCheck.breachChecks)

theorem State.MemoryForm.underrunRecord {n l x} : (s.underrunRecord n l x).MemoryForm := by
  unfold State.underrunRecord
  extract_lets _ _ w v u
  have hw : w.MemoryForm := h.incF.raiseF.count
  have hv : v.MemoryForm := .ite hw hw.setF.setF
  have hu : u.MemoryForm := hv.modTot
  exact .ite hu hu.modSc.fault

theorem State.MemoryForm.scanChunk {n} : (s.scanChunk n).MemoryForm := by
  unfold State.scanChunk
  extract_lets _ _ _ _ _ _ got
  clear_value got
  refine h.ite ?_
  split
  next u ps miss e =>
  have hu : u.MemoryForm := by
    refine .ofFst ?_ e
    split <;> [exact h; (split <;> [exact h; (split <;> [exact h.underrunRecord; exact h])])]
  extract_lets v
  have hv : v.MemoryForm := hu.ite (.ite (hu.foldl fun h => h.emit) hu.emit)
  exact hv.modSc

theorem State.MemoryForm.trumpCheck {n} : (s.trumpCheck n).MemoryForm := by
  unfold State.trumpCheck
  extract_lets _ _ _ _ w _ _ _ v _ u
  have hw : w.MemoryForm := h.modSc.setF
  have hv : v.MemoryForm := hw.incF.setF.setF.modHead
  have hu : u.MemoryForm := hv.raiseF.setF.fault
  exact h.ite (.ite h.modSc.setF.setF (.ite h.modSc (.ite hw.setF.setF (.ite (.ite hu.modHead hu) hv))))

theorem State.MemoryForm.wbPublish {n} : (s.wbPublish n).MemoryForm := h.keeps KeepsScene.refl.wbPublish

theorem State.MemoryForm.wbChoose {n} : (s.wbChoose n).MemoryForm := by
  unfold State.wbChoose
  extract_lets
  refine (h.modSk.wbPublish.ite h.modSk).ite ?_
  refine h.modSk.ite ?_
  split <;> [exact h.modSk.incF; exact h.modSk.wbPublish]

theorem State.MemoryForm.wbComplete {n k} : (s.wbComplete n k).MemoryForm := h.ite h.modSk.wbPublish

theorem State.MemoryForm.wbHeld {n} : (s.wbHeld n).MemoryForm := by
  unfold State.wbHeld
  extract_lets
  split <;> [exact h.modSk.incF.ite h; exact h]

theorem State.MemoryForm.holdReg {n v} : (s.holdReg n v).MemoryForm := by
  unfold State.holdReg
  refine .ite ?_ h.setF.wbHeld
  split <;> [exact h.setF.wbHeld; exact h]

theorem State.MemoryForm.sinkAdopt {n} : (s.sinkAdopt n).MemoryForm := h.keeps KeepsScene.refl.sinkAdopt

theorem State.MemoryForm.totalsPrev {n} : (s.totalsPrev n).MemoryForm := h.setF.setF.setF.setF.setF.setF.modTot

theorem State.MemoryForm.closeDamage {n} : (s.closeDamage n).MemoryForm :=
  h.modHead.setF.setF.setF.setF.foldl fun h => h.setF.setF.setF.setF

theorem State.MemoryForm.wrapFallback {n} : (s.wrapFallback n).MemoryForm :=
  h.modHead.enterFb.ite (h.leaveFb.markAll.seqFreshStart.ite h)

theorem State.MemoryForm.latchPush {n} : (s.latchPush n).MemoryForm := h.modSc.modDp

theorem State.MemoryForm.scanAdopt {n} : (s.scanAdopt n).MemoryForm := h.modHead

theorem State.MemoryForm.lateWrap {n} : (s.lateWrap n).MemoryForm := h.scanAdopt.latchPush.ite h

theorem State.MemoryForm.dropOldPages {n} : (s.dropOldPages n).MemoryForm := h.keeps KeepsScene.refl.dropOldPages

theorem State.MemoryForm.wrapCount {n} : (s.wrapCount n).MemoryForm := h.modHead

theorem State.MemoryForm.wrapBench {n} : (s.wrapBench n).MemoryForm := h.ite h.markAll.modHead

theorem State.MemoryForm.wrapInfo {n} : (s.wrapInfo n).MemoryForm := h.modHead

theorem State.MemoryForm.wrapActive {n o} : (s.wrapActive n o).MemoryForm := by
  unfold State.wrapActive
  extract_lets _ _ _ u
  have hu : u.MemoryForm := .ite h.modHead.modHead h.modHead
  exact .ite hu.count hu

theorem State.MemoryForm.wrapSink {n} : (s.wrapSink n).MemoryForm := by
  unfold State.wrapSink
  extract_lets _ _ v u
  have hv : v.MemoryForm := h.raiseF.ite h
  have hu : u.MemoryForm := .ite hv.faultHead hv
  exact hu.modHead.wbChoose

theorem State.MemoryForm.wrapEval {n} : (s.wrapEval n).MemoryForm := by
  unfold State.wrapEval
  extract_lets
  refine h.noEval.ite ?_
  refine h.startEval0.ite ?_
  split <;> [exact h.modEv.recordEval; exact h]

theorem State.MemoryForm.wrapRecords {n} : (s.wrapRecords n).MemoryForm :=
  (h.wrapEval.foldl fun h => h.modSeq.ite h).count

theorem State.MemoryForm.wrapHead {n} : (s.wrapHead n).MemoryForm :=
    h.totalsPrev.wrapCount.reloadHead.dropOldPages.wrapBench.wrapTiming.wrapInfo.wrapFallback.closeDamage
      |>.sinkAdopt.wrapActive.wrapSink.wrapRecords.lateWrap

theorem State.MemoryForm.dmgAdd {n a r} : (s.dmgAdd n a r).MemoryForm := by
  unfold State.dmgAdd
  extract_lets u
  have hu : u.MemoryForm := h.markBox.ite h
  exact .ite hu.markAll hu

/-! ### Heads, sinks and writeback -/

theorem State.MemoryForm.dpViolation {n k} : (s.dpViolation n k).MemoryForm := h.ite h.modDp.fault

theorem State.MemoryForm.endVideo {n} : (s.endVideo n).MemoryForm := h.modSc.modDp

theorem State.MemoryForm.auxSend {n} : (s.auxSend n).MemoryForm := by
  unfold State.auxSend
  extract_lets
  split <;> [exact h.ite h.emit; exact h]

theorem State.MemoryForm.endTraining {n} : (s.endTraining n).MemoryForm := h.modDp.auxSend.ite h

theorem State.MemoryForm.startTraining {n} : (s.startTraining n).MemoryForm := by
  unfold State.startTraining
  extract_lets _ _ u
  have hu : u.MemoryForm := h.ite h.raiseF.setF
  exact h.ite (.ite hu.modDp.endTraining hu.modDp.emit)

theorem State.MemoryForm.linkLoss {n} : (s.linkLoss n).MemoryForm := h.incF.dpViolation.endVideo.modDp.startTraining

theorem State.MemoryForm.stopBeams {n} : (s.stopBeams n).MemoryForm := h.seqIdleFor.modHead

theorem State.MemoryForm.blankStart {n} : (s.blankStart n).MemoryForm := h.endVideo.stopBeams.modHead

theorem State.MemoryForm.blankFrame {n} : (s.blankFrame n).MemoryForm := h.modHead.sinkAdopt.modSc.modHead.scanAdopt

theorem State.MemoryForm.settleStep3 : s.settleStep3.MemoryForm := h.keeps KeepsScene.refl.settleStep3

theorem State.MemoryForm.relock {n} : (s.relock n).MemoryForm := .ite h.modHead.modDp.startTraining h.modHead

theorem State.MemoryForm.blankingStart {n} : (s.blankingStart n).MemoryForm :=
  h.ite (h.foldl fun h => h.blankStart.ite h)

theorem State.MemoryForm.pgclkRelock {n} : (s.pgclkRelock n).MemoryForm :=
  .ite ((h.foldl fun h => h.relock).settleStep3) h

theorem State.MemoryForm.freshWrap {n} : (s.freshWrap n).MemoryForm := by
  unfold State.freshWrap
  extract_lets _ u
  have hu : u.MemoryForm := by
    unfold u
    split
    · refine .ite h.modHead ?_
      split <;> [exact h.modHead.modHead; exact h.modHead]
    · exact h.modHead
  exact hu.wrapHead.seqFreshStart

theorem State.MemoryForm.restartHead {n} : (s.restartHead n).MemoryForm := h.modHead.freshWrap

theorem State.MemoryForm.compositionRestart {n b} : (s.compositionRestart n b).MemoryForm :=
  h.ite (h.foldl fun h => h.restartHead)

theorem State.MemoryForm.trainingDone {n o} : (s.trainingDone n o).MemoryForm := by
  unfold State.trainingDone
  extract_lets _ _ w v _ u
  have hw : w.MemoryForm := h.modDp.endTraining
  have hv : v.MemoryForm := hw.modDp
  have hu : u.MemoryForm := hw.incF.dpViolation.modDp
  exact h.ite (.ite (.ite hv.settleStep3 hv.markAll) (.ite hu.settleStep3 (.ite hu.startTraining hu.modDp)))

theorem State.MemoryForm.trainingRetry {n} : (s.trainingRetry n).MemoryForm := h.startTraining.ite h

theorem State.MemoryForm.retrainHead {n} : (s.retrainHead n).MemoryForm := h.endVideo.modDp.startTraining

theorem State.MemoryForm.blankFromRelock {n} : (s.blankFromRelock n).MemoryForm := h.modHead

theorem State.MemoryForm.headOff {n} : (s.headOff n).MemoryForm := h.keeps KeepsScene.refl.headOff

theorem State.MemoryForm.reviewEnable {n} : (s.reviewEnable n).MemoryForm := h.keeps KeepsScene.refl.reviewEnable

theorem State.MemoryForm.tsRefuse {n r} : (s.tsRefuse n r).MemoryForm := h.keeps KeepsScene.refl.tsRefuse

theorem State.MemoryForm.reviewLocks {m} : (s.reviewLocks m).MemoryForm := h.keeps KeepsScene.refl.reviewLocks

theorem State.MemoryForm.applyTiming {n a} : (s.applyTiming n a).MemoryForm := h.keeps KeepsScene.refl.applyTiming

theorem State.MemoryForm.slip {n} : (s.slip n).MemoryForm := h.incF.raiseF.faultHead.modHead

theorem State.MemoryForm.tickScan {n} : (s.tickScan n).MemoryForm := h.modHead.modSc.scanAdopt

theorem State.MemoryForm.sendAudioInfo {n} : (s.sendAudioInfo n).MemoryForm := h.emit.ite h

theorem State.MemoryForm.tickVideo {n} : (s.tickVideo n).MemoryForm := by
  unfold State.tickVideo
  extract_lets _ _ _ _ _ u
  have hu : u.MemoryForm := h.modHead.modSc.modDp
  exact (State.MemoryForm.ite hu.latchPush hu).sendAudioInfo

theorem State.MemoryForm.tickHead {n} : (s.tickHead n).MemoryForm := by
  unfold State.tickHead
  extract_lets _ w v _ u
  have hw : w.MemoryForm := .ite h.tickOut.slip h.tickOut
  have hv : v.MemoryForm := hw.tickScan
  have hu : u.MemoryForm := .ite hv.modHead hv
  exact .ite hv.headOff.reviewLocks.reviewEnable hu.tickVideo

theorem State.MemoryForm.frameTick {n} : (s.frameTick n).MemoryForm :=
  .ite ((h.foldl fun h => h.tickHead).reviewMode) h

theorem State.MemoryForm.hpdPlug {n c} : (s.hpdPlug n c).MemoryForm := by
  unfold State.hpdPlug
  extract_lets _ _ _ v u
  have hv : v.MemoryForm := h.noteWake.modDp
  have hu : u.MemoryForm := .ite hv.dpViolation hv
  exact h.ite (.ite hv.incF.dpViolation.modDp hu.modDp.startTraining)

theorem State.MemoryForm.hpdUnplug {n} : (s.hpdUnplug n).MemoryForm :=
  h.ite h.noteWake.endVideo.modDp.endTraining.settleStep3

theorem State.MemoryForm.irqHpd {n l} : (s.irqHpd n l).MemoryForm := h.linkLoss.ite h

theorem State.MemoryForm.linkLost {n} : (s.linkLost n).MemoryForm := h.linkLoss.ite h

theorem State.MemoryForm.auxEnd {n r nb} : (s.auxEnd n r nb).MemoryForm := h.setF.setF.setF.modDp

theorem State.MemoryForm.auxFail {n r} : (s.auxFail n r).MemoryForm :=
  .ite h.auxEnd.modDp.incF.dpViolation.modDp h.auxEnd.modDp

theorem State.MemoryForm.auxStart {n r l a} : (s.auxStart n r l a).MemoryForm :=
  h.ite (h.auxEnd.ite (h.auxEnd.ite (h.auxEnd.ite h.raiseF.modDp.auxSend)))

theorem State.MemoryForm.auxReply {n r} : (s.auxReply n r).MemoryForm := by
  unfold State.auxReply
  extract_lets
  split
  · exact h
  · extract_lets
    refine h.ite ?_
    split
    · exact .ite (h.foldl fun h => h.setReg).auxEnd h.auxEnd
    · exact h.auxFail
    · exact h.modDp.ite h.auxFail
    · exact h.modDp.ite h.auxFail

theorem State.MemoryForm.auxRetry {n} : (s.auxRetry n).MemoryForm := by
  unfold State.auxRetry
  split <;> [exact h.modDp.auxSend.ite h; exact h]

theorem State.MemoryForm.bounceEnd {n} : (s.bounceEnd n).MemoryForm := h.modDp.ite h

theorem State.MemoryForm.stormEnd {n} : (s.stormEnd n).MemoryForm := h.modDp.ite h

end

end Sys2Proof.Machine
end

section
/-!
PROOF. The canonical form of memory (for O58): timers, staging and tricks.
-/

set_option Elab.async false  -- the joined text is large: no thread per declaration

namespace Sys2Proof.Machine

section
variable {s : State} (h : s.MemoryForm)
include h

/-! ### Timers -/

theorem State.MemoryForm.modTimer {n f} : (s.modTimer n f).MemoryForm := h.same

theorem State.MemoryForm.pinSwitch {s0 p} : (s.pinSwitch s0 p).MemoryForm := h.same

theorem State.MemoryForm.pinReview {s0} : (s.pinReview s0).MemoryForm := h.keeps KeepsScene.refl.pinReview

theorem State.MemoryForm.gpioReview : s.gpioReview.MemoryForm := h.keeps KeepsScene.refl.gpioReview

theorem State.MemoryForm.gpioOut {f} : (s.gpioOut f).MemoryForm := by
  unfold State.gpioOut
  extract_lets live u
  have hu : u.MemoryForm := h.setReg
  clear_value live
  split <;> [exact hu.setLive; exact hu]

theorem State.MemoryForm.gpioMsg : s.gpioMsg.MemoryForm := .ite h.same.signal h.same

theorem State.MemoryForm.patternMatch {u l} : (s.patternMatch u l).MemoryForm :=
  h.ite (.ite h.same.setF.gpioMsg h.same)

theorem State.MemoryForm.tmrReview : s.tmrReview.MemoryForm := h.foldl fun h => h.raiseF.ite h

theorem State.MemoryForm.tmrMsg : s.tmrMsg.MemoryForm := .ite h.same.signal h.same

theorem State.MemoryForm.tmrEvent {n e f} : (s.tmrEvent n e f).MemoryForm := h.raiseF.timerEvent.noteWake

theorem State.MemoryForm.tmrPre {n} : (s.tmrPre n).MemoryForm := h.modTimer

theorem State.MemoryForm.tmrCapture {n} : (s.tmrCapture n).MemoryForm := h.ite (h.raiseF.ite h.modTimer.tmrEvent)

theorem State.MemoryForm.tmrZero {n} : (s.tmrZero n).MemoryForm := h.modTimer

theorem State.MemoryForm.tmrActs {n a} : (s.tmrActs n a).MemoryForm :=
  h.setF.ite (h.tmrZero.raiseF.tmrPre.ite (h.tmrZero.ite (h.raiseF.tmrPre.ite h)))

theorem State.MemoryForm.tmrCount {n c} : (s.tmrCount n c).1.MemoryForm := by
  unfold State.tmrCount
  extract_lets _ _ _ _ _ _ u
  have hu : u.MemoryForm := .ite h.modTimer.tmrEvent h.modTimer
  exact (.ite hu.tmrEvent hu)

omit h in
theorem State.MemoryForm.tmrChannel {t c n} {p : State × TmrCycle} (h : p.1.MemoryForm) :
    (State.tmrChannel t c p n).1.MemoryForm := by
  unfold State.tmrChannel
  extract_lets s c0 _ _ r v
  have hr : r.1.MemoryForm := by
    unfold r
    split <;> [exact State.MemoryForm.tmrCount h; exact h]
  exact (hr.tmrCapture.ite hr).tmrActs

theorem State.MemoryForm.tmrCycle {t c p} : (s.tmrCycle t c p).MemoryForm := by
  unfold State.tmrCycle
  extract_lets _ u _ r
  have hu : u.MemoryForm := h.same
  have hr : r.1.MemoryForm := hu.foldlFst fun h => h.tmrChannel
  exact h.ite (State.MemoryForm.same hr).tmrMsg

theorem State.MemoryForm.tmrStart {m} : (s.tmrStart m).MemoryForm := h.foldl fun h => (h.ite h.raiseF.tmrPre).ite h

theorem State.MemoryForm.tmrStop {m} : (s.tmrStop m).MemoryForm := h.foldl fun h => h.setF.ite h

theorem State.MemoryForm.tmrReset {m} : (s.tmrReset m).MemoryForm := h.foldl fun h => h.tmrZero.modTimer.ite h

theorem State.MemoryForm.countWrite {n v} : (s.countWrite n v).MemoryForm := h.modTimer

theorem State.MemoryForm.capRead {n} : (s.capRead n).1.MemoryForm := by
  unfold State.capRead
  split <;> [exact h; exact h.modTimer]

theorem State.MemoryForm.tmrApply {w} : (s.tmrApply w).MemoryForm := h.keeps KeepsScene.refl.tmrApply

theorem State.MemoryForm.gpioSleep {o} : (s.gpioSleep o).MemoryForm := h.same.ite h.same

theorem State.MemoryForm.gpioMove {o} : (s.gpioMove o).MemoryForm := h.gpioSleep.pinSwitch

/-! ### Staging -/

theorem State.MemoryForm.clashPage {k g} : (s.clashPage k g).MemoryForm := by
  unfold State.clashPage
  split
  · exact h
  · refine h.ite (h.incF.count.withTricks fun y hy => ?_)
    obtain ⟨x, hx, rfl⟩ := List.mem_map.1 hy
    have hp := h.incF.count.pagesForm hx
    split <;> exact hp

theorem State.MemoryForm.takePages {k gs} : (s.takePages k gs).MemoryForm := by
  refine h.foldl fun ht => State.MemoryForm.count (ht.clashPage.modTrick fun x hx => ?_)
  exact hx.append (DevMem.wf_slice ht.1 _ _)

theorem State.MemoryForm.stagePlan {k p mk} : (s.stagePlan k p mk).MemoryForm := by
  unfold State.stagePlan
  split
  · exact h
  · exact h.takePages.foldl fun h => by split <;> [exact h; exact h.modTrick fun _ hx => hx.putBytes _ _]

theorem State.MemoryForm.stageSeq {k q d c f w} : (s.stageSeq k q d c f w).MemoryForm := h.modSeq

theorem State.MemoryForm.stageRegs {k ws} : KeptForm (s.stageRegs k ws) := by
  unfold State.stageRegs
  split
  · exact .some h
  · split <;> [exact .none; exact .some h.modTrick]

theorem State.MemoryForm.openTrick {o i hs w} : (s.openTrick o i hs w).1.MemoryForm := by
  refine h.withTricks fun x hx => ?_
  rcases List.mem_append.1 hx with hx | hx
  · exact h.pagesForm hx
  · obtain rfl := List.mem_singleton.1 hx
    exact fun _ => nofun

theorem State.MemoryForm.dropTrick {k} : (s.dropTrick k).MemoryForm := by
  unfold State.dropTrick
  extract_lets u v
  have hu : u.MemoryForm := h.audDiscard
  have hv : v.MemoryForm := hu.foldl fun h => by split <;> [exact h.modSeq.ite h; exact h]
  clear_value v
  exact hv.withTricks fun x hx => hv.pagesForm (List.mem_filter.1 hx).1

/-! ### Causeway tokens -/

theorem State.MemoryForm.modPort {p f} : (s.modPort p f).MemoryForm := h.same

theorem State.MemoryForm.modCwy {f} : (s.modCwy f).MemoryForm := h.same

theorem State.MemoryForm.transmit {p k} : (s.transmit p k).MemoryForm := h.modPort.emit.count

theorem State.MemoryForm.pushPkt {p k} : (s.pushPkt p k).MemoryForm := h.ite (h.transmit.ite h.modPort)

omit h in
theorem State.MemoryForm.drainPort {p} : ∀ {n : Nat} {s : State}, s.MemoryForm → (s.drainPort p n).MemoryForm
  | 0, _, h => h
  | n + 1, s, h => by
    unfold State.drainPort
    extract_lets
    split
    · exact h
    · refine .ite ?_ h
      exact State.MemoryForm.drainPort h.modPort.transmit

theorem State.MemoryForm.sendTok {p t} : (s.sendTok p t).MemoryForm := h.emit.ite h

theorem State.MemoryForm.cwyEvent {c p} : (s.cwyEvent c p).MemoryForm := by
  unfold State.cwyEvent
  extract_lets _ _ _ u
  have hu : u.MemoryForm := h.modCwy.faultDev
  exact h.ite (.ite hu.logEntry hu.pushPkt)

theorem State.MemoryForm.benchRecord {i r f} : (s.benchRecord i r f).MemoryForm := h.keeps KeepsScene.refl.benchRecord

theorem State.MemoryForm.reportBenched {i r ha} : (s.reportBenched i r ha).MemoryForm :=
  h.benchRecord.modCwy.ite h.pushPkt

theorem State.MemoryForm.benchChild {p r} : (s.benchChild p r).MemoryForm :=
  h.ite h.modPort.pushPkt.reportBenched.cwyEvent

theorem State.MemoryForm.sendDown {p k} : (s.sendDown p k).MemoryForm := h.incF.cwyEvent.benchChild.ite h.pushPkt

theorem State.MemoryForm.castDown {k} : (s.castDown k).MemoryForm := h.foldl fun h => h.sendDown.ite h

theorem State.MemoryForm.castAll {k} : (s.castAll k).MemoryForm := h.foldl fun h => h.sendDown.ite h

theorem State.MemoryForm.tokDown {t} : (s.tokDown t).MemoryForm := h.foldl fun h => h.sendTok

theorem State.MemoryForm.sendWallInfo : s.sendWallInfo.MemoryForm := h.castAll.ite h

theorem State.MemoryForm.castWall {t k} : (s.castWall t k).MemoryForm := h.castAll.ite h.castDown

theorem State.MemoryForm.wallFlush {t} : (s.wallFlush t).MemoryForm := by
  unfold State.wallFlush
  split <;> [exact h; exact h.ite (h.modCwy.foldl fun h => h.castWall)]

theorem State.MemoryForm.wallForward {k t a p sr} : (s.wallForward k t a p sr).MemoryForm := by
  unfold State.wallForward
  extract_lets
  split
  · exact h
  · extract_lets _ _ u
    have hu : u.MemoryForm := h.modTrick.modCwy
    refine h.ite ?_
    split <;> [exact hu.wallFlush; exact hu]

theorem State.MemoryForm.wallStaged {k} : (s.wallStaged k).MemoryForm := by
  unfold State.wallStaged
  extract_lets
  split
  · exact h
  · extract_lets _ _ _ u
    have hu : u.MemoryForm :=
      .ite (((h.castDown.ite h).modCwy.foldl fun h => h.castAll).foldl fun h => h.modPort.ite h) h
    exact h.ite (hu.modTrick.wallFlush.castWall.castWall.foldl fun h => h.wallFlush.ite h)

theorem State.MemoryForm.wallDropped {k} : (s.wallDropped k).MemoryForm := by
  unfold State.wallDropped
  split
  · exact h
  · extract_lets _ _ u
    have hu : u.MemoryForm := (h.castWall.ite h).modCwy
    exact h.ite (.ite ((hu.foldl fun h => h.modPort).modCwy) hu)

theorem State.MemoryForm.discardTrick {k} : (s.discardTrick k).MemoryForm := h.wallDropped.dropTrick

/-! ### Tricks and their commit -/

theorem State.MemoryForm.becomeStaged {k} : (s.becomeStaged k).MemoryForm := by
  unfold State.becomeStaged
  split
  · exact h
  · extract_lets _ _ _ u
    have hu : u.MemoryForm := h.modTrick
    exact State.MemoryForm.wallStaged hu.same

theorem State.MemoryForm.takePlace {k} : (s.takePlace k).MemoryForm := h.becomeStaged.ite h.modTrick

theorem State.MemoryForm.endSpoiled {t st d} : (s.endSpoiled t st d).MemoryForm := by
  unfold State.endSpoiled
  extract_lets
  split <;> [exact h.discardTrick.complete; exact h.discardTrick]

theorem State.MemoryForm.settleTrick {k} : (s.settleTrick k).MemoryForm := by
  unfold State.settleTrick
  split
  · exact h
  · split
    · refine h.ite ?_
      split <;> [exact h.endSpoiled; exact h.endSpoiled.ite h.takePlace]
    · exact h.becomeStaged.ite h
    · exact h

theorem State.MemoryForm.reanchor {k} : (s.reanchor k).MemoryForm := by
  unfold State.reanchor
  split <;> [exact h; exact h.modTrick.ite h]

theorem State.MemoryForm.settleTricks : s.settleTricks.MemoryForm :=
  (h.foldl fun h => h.settleTrick).foldl fun h => h.reanchor

theorem State.MemoryForm.implicitTrick {w} : (s.implicitTrick w).MemoryForm := h.openTrick.modTrick.becomeStaged

theorem State.MemoryForm.markTrick {s0 t w} : (s.markTrick s0 t w).MemoryForm := h.keeps KeepsScene.refl.markTrick

theorem State.MemoryForm.commitReg {w} : (s.commitReg w).MemoryForm :=
  h.ite (h.raiseF.ite (.ite h.setReg.setLive h.setReg.dropLive))

theorem State.MemoryForm.viewWrite {n w} : (s.viewWrite n w).1.MemoryForm := by
  unfold State.viewWrite
  extract_lets
  split <;> [exact h; exact h; exact h.raiseF.ite h; exact h; exact h; exact h; exact h]

theorem State.MemoryForm.viewWrites {ws} : (s.viewWrites ws).1.MemoryForm :=
  h.foldlFst fun h => by
    split
    · split <;> [exact h.modCwy; exact h.viewWrite]
    · exact h

/-- The pages of a trick replace what memory holds. -/
theorem State.MemoryForm.applyPages {x : Trick} (hx : x.PagesForm) : (s.applyPages x).MemoryForm := by
  unfold State.applyPages
  refine List.foldlRecOn (motive := State.MemoryForm) _ _ h fun t ht p hp => ?_
  have hold (o : OldPage) : { t with oldPages := t.oldPages ++ [o] }.MemoryForm := ht
  exact (State.MemoryForm.ite (hold _) ht).withMem
    (DevMem.wf_replace (State.MemoryForm.ite (hold _) ht).1 (hx p hp) (by omega))

theorem State.MemoryForm.applySeq {k q e b} : (s.applySeq k q e b).MemoryForm := h.keeps KeepsScene.refl.applySeq

theorem State.MemoryForm.dropHeld {w} : (s.dropHeld w).MemoryForm := h.keeps KeepsScene.refl.dropHeld

theorem State.MemoryForm.applyHeads {w} : (s.applyHeads w).MemoryForm := h.keeps KeepsScene.refl.applyHeads

theorem State.MemoryForm.bootScene {sc} : (s.bootScene sc).MemoryForm :=
  ((h.foldl fun h => h.poke).foldl fun h => h.modSeq).foldl fun h => h.audRestore

theorem State.MemoryForm.lastTrick {n o i} : (s.lastTrick n o i).MemoryForm := h.keeps KeepsScene.refl.lastTrick

theorem State.MemoryForm.endShown {x} : (s.endShown x).MemoryForm := by
  unfold State.endShown
  extract_lets
  split
  · exact .ite h.same.complete h.same.complete
  · exact h.same

theorem State.MemoryForm.settleShown : s.settleShown.MemoryForm := h.same.foldl fun h => h.endShown.ite h

theorem State.MemoryForm.shownAt {n} : (s.shownAt n).MemoryForm :=
  h.ite (h.same.foldl fun h => .ite h.lastTrick.modHead h.lastTrick).settleShown

theorem State.MemoryForm.commitBody {k} : (s.commitBody k).MemoryForm := by
  unfold State.commitBody
  split
  · exact h
  next x hx =>
    extract_lets s0 atHand vw ws runs spans off ens pages regs held seqs aud heads pins boot marked info counted dealt
      last frame shown
    have hvw : vw.1.MemoryForm := by
      unfold vw
      split <;> [exact h.viewWrites; exact h]
    have hpages : pages.MemoryForm := hvw.applyPages (h.trickForm hx)
    have hregs : regs.MemoryForm := hpages.foldl fun h => h.commitReg
    have hseqs : seqs.MemoryForm := (hregs.foldl fun h => h.dropHeld).foldl fun h => h.applySeq
    have hpins : pins.MemoryForm := hseqs.audApply.applyHeads.tmrApply.pinReview
    have hboot : boot.MemoryForm := by
      refine .ite ?_ hpins
      split <;> [exact hpins.bootScene; exact hpins]
    have hmarked : marked.MemoryForm := hboot.markTrick
    have hcounted : counted.MemoryForm := State.MemoryForm.count (hmarked.sendWallInfo.ite hmarked)
    have hdealt : dealt.MemoryForm := .ite hcounted.incF.modCwy hcounted
    have hlast : last.MemoryForm := hdealt.foldl fun h => h.lastTrick
    clear_value last
    exact hlast.withTricks fun y hy => hlast.pagesForm (List.mem_filter.1 hy).1

theorem State.MemoryForm.commitTrick {k} : (s.commitTrick k).MemoryForm := h.commitBody.settleShown

theorem State.MemoryForm.noteMissed {t} : (s.noteMissed t).MemoryForm := (h.incF.cwyEvent.ite h).incF.count.modTrick

theorem State.MemoryForm.enqueueTrick {k} : (s.enqueueTrick k).MemoryForm := by
  unfold State.enqueueTrick
  extract_lets u
  have hu : u.MemoryForm := h.modTrick
  exact hu.same

theorem State.MemoryForm.commitCutoff {n} : (s.commitCutoff n).MemoryForm := by
  unfold State.commitCutoff
  extract_lets _ _ _ _ u
  have hu : u.MemoryForm := h.modHead.foldl fun h => (h.noteMissed.ite h).enqueueTrick
  exact h.ite (.ite hu hu.startEval0)

theorem State.MemoryForm.wrapGroup {g} : (s.wrapGroup g).MemoryForm :=
  (h.foldl fun h => h.wrapHead.shownAt).reviewMode

theorem State.MemoryForm.frameWrap {n} : (s.frameWrap n).MemoryForm :=
  h.ite ((h.foldl fun h => h.ite h.modHead.incF).ite h.wrapGroup)

theorem State.MemoryForm.restartEval0 {he} : (s.restartEval0 he).MemoryForm := h.keeps KeepsScene.refl.restartEval0

theorem State.MemoryForm.applicationEnd : s.applicationEnd.MemoryForm := by
  unfold State.applicationEnd
  split
  · exact h
  · extract_lets anchor _ u
    have hu : u.MemoryForm := h.commitTrick.restartEval0.reviewMode
    clear_value anchor
    refine h.ite ?_
    split
    · exact hu
    · exact hu.ite (hu.wrapGroup.ite hu)

theorem State.MemoryForm.noHeadApply : s.noHeadApply.MemoryForm := by
  unfold State.noHeadApply
  extract_lets due
  clear_value due
  split <;> [exact .ite h.commitTrick.reviewMode h; exact h]

theorem State.MemoryForm.finishApplication : s.finishApplication.MemoryForm := by
  unfold State.finishApplication
  split
  · exact h
  · extract_lets u v
    have hv : v.MemoryForm := h.commitBody.foldl fun h => h.modTrick
    exact hv.same

end

end Sys2Proof.Machine
end

section
/-!
PROOF. The canonical form of memory (for O58): links, blitter and sluice.
-/

set_option Elab.async false  -- the joined text is large: no thread per declaration

namespace Sys2Proof.Machine

section
variable {s : State} (h : s.MemoryForm)
include h

/-! ### DisplayPort links -/

theorem State.MemoryForm.portStart {p} : (s.portStart p).MemoryForm := h.modPort.ite h

theorem State.MemoryForm.portsStart : s.portsStart.MemoryForm := h.foldl fun h => h.portStart

theorem State.MemoryForm.takeWallLock : s.takeWallLock.MemoryForm :=
  h.ite (h.foldl fun h => by split <;> [exact h.ite (h.tsRefuse.ite h.modHead); exact h])

theorem State.MemoryForm.loseWallLock : s.loseWallLock.MemoryForm :=
  h.ite (h.foldl fun h => by split <;> [exact h.raiseF.modHead.ite h; exact h])

theorem State.MemoryForm.startTracking : s.startTracking.MemoryForm := h.same.setF.takeWallLock

theorem State.MemoryForm.stopTracking : s.stopTracking.MemoryForm := h.ite h.same.raiseF.loseWallLock

theorem State.MemoryForm.handDiscard : s.handDiscard.MemoryForm := (h.foldl fun h => h.dropTrick).modCwy

theorem State.MemoryForm.benchBelow : s.benchBelow.MemoryForm := h.foldl fun h => h.modPort.pushPkt.ite h

theorem State.MemoryForm.standalone : s.standalone.MemoryForm := by
  unfold State.standalone
  extract_lets u
  have hu : u.MemoryForm := h.stopTracking.handDiscard.benchBelow
  clear_value u
  exact hu.setF.modCwy

theorem State.MemoryForm.childGone {p} : (s.childGone p).MemoryForm := .ite h.benchChild.modCwy h.benchChild

theorem State.MemoryForm.portLeave {p} : (s.portLeave p).MemoryForm := by
  unfold State.portLeave
  extract_lets _ _ _ _ w v u
  have hw : w.MemoryForm := h.modPort.cwyEvent
  have hv : v.MemoryForm := .ite hw.incF.cwyEvent hw
  have hu : u.MemoryForm := .ite hv.standalone hv.childGone
  exact h.modPort.ite hu.modPort

theorem State.MemoryForm.portFail {p} : (s.portFail p).MemoryForm := .ite h.modPort.modCwy h.modPort

theorem State.MemoryForm.portsReview {w} : (s.portsReview w).MemoryForm :=
  h.foldl fun h => .ite h.portLeave.modPort (h.portStart.ite h)

theorem State.MemoryForm.sendNak {p} : (s.sendNak p).MemoryForm :=
  .ite h.emit.modPort.incF.cwyEvent.portLeave h.emit.modPort

theorem State.MemoryForm.badToken {p} : (s.badToken p).MemoryForm := by
  unfold State.badToken
  extract_lets _ _ u
  have hu : u.MemoryForm := h.modPort.incF.cwyEvent
  exact .ite hu.modPort.cwyEvent.portLeave hu

theorem State.MemoryForm.receive {p l f} (hf : ∀ {t}, t.MemoryForm → (f t).MemoryForm) : (s.receive p l
    f).MemoryForm :=
  h.ite (.ite (hf h.modPort) ((h.ite h.sendNak).ite h))

theorem State.MemoryForm.receiveUp {l f} (hf : ∀ {t}, t.MemoryForm → (f t).MemoryForm) : (s.receiveUp l
    f).MemoryForm :=
  h.receive fun h => .ite (hf h) h.badToken

theorem State.MemoryForm.receiveDown {p l f} (hf : ∀ {t}, t.MemoryForm → (f t).MemoryForm) :
    (s.receiveDown p l f).MemoryForm := h.receive fun h => .ite (hf h) h.badToken

theorem State.MemoryForm.packetCrc {p} : (s.packetCrc p).MemoryForm := h.sendNak.ite h

theorem State.MemoryForm.ackPort {p l} : (s.ackPort p l).MemoryForm := h.ite (.ite h.modPort.drainPort h.modPort)

theorem State.MemoryForm.replayPort {p} : (s.replayPort p).MemoryForm := h.ite (h.foldl fun h => h.emit.count)

theorem State.MemoryForm.nakPort {p l} : (s.nakPort p l).MemoryForm := h.ite h.ackPort.count.replayPort

theorem State.MemoryForm.replayTimeout {p} : (s.replayTimeout p).MemoryForm := h.replayPort.ite h

theorem State.MemoryForm.ackInterval {p} : (s.ackInterval p).MemoryForm := h.emit.ite h

theorem State.MemoryForm.sendHello {p st} : (s.sendHello p st).MemoryForm := h.pushPkt

theorem State.MemoryForm.blockLock {p} : (s.blockLock p).MemoryForm := h.noteWake.modPort.sendHello.ite h

theorem State.MemoryForm.startMeasure {p pe} : (s.startMeasure p pe).MemoryForm := h.modPort.emit

theorem State.MemoryForm.helloUp {d i p st} : (s.helloUp d i p st).MemoryForm :=
  h.portFail.ite h.setF.modCwy.startMeasure

theorem State.MemoryForm.recordHand {i p} : (s.recordHand i p).MemoryForm := h.ite h.modCwy

theorem State.MemoryForm.helloDown {p d i} : (s.helloDown p d i).MemoryForm :=
  h.portFail.ite (h.cwyEvent.modPort.ite (h.cwyEvent.sendHello.startMeasure.ite h.startMeasure))

theorem State.MemoryForm.helloBelow {p i pa st} : (s.helloBelow p i pa st).MemoryForm :=
  h.pushPkt.ite (h.cwyEvent.pushPkt.sendWallInfo.ite h.recordHand.sendWallInfo)

theorem State.MemoryForm.helloAbove {p st} : (s.helloAbove p st).MemoryForm :=
  (h.modCwy.ite h).ite (h.foldl fun h => h.pushPkt.ite h)

theorem State.MemoryForm.hello {p d i pa st} : (s.hello p d i pa st).MemoryForm :=
  (h.helloUp.ite h.helloDown).ite (h.modCwy.ite ((h.helloAbove.ite h.helloBelow).ite h))

theorem State.MemoryForm.probe {p t tu} : (s.probe p t tu).MemoryForm := h.emit.ite h

theorem State.MemoryForm.echo {p t r} : (s.echo p t r).MemoryForm := h.ite (.ite h.modPort.emit h.modPort)

theorem State.MemoryForm.admitChild {p} : (s.admitChild p).MemoryForm := by
  unfold State.admitChild
  extract_lets _ _ v u
  have hv : v.MemoryForm := h.ite h.modPort
  have hu : u.MemoryForm := by
    unfold u
    split <;> [exact hv.pushPkt; exact hv]
  exact .ite hv.recordHand.sendWallInfo hu.pushPkt

theorem State.MemoryForm.measureDone {p f} : (s.measureDone p f).MemoryForm := by
  unfold State.measureDone
  extract_lets _ _ u
  have hu : u.MemoryForm := h.setF.stamp.modPort
  exact h.ite (.ite (.ite hu.startTracking hu.raiseF) hu.admitChild)

theorem State.MemoryForm.trainingFailure {p} : (s.trainingFailure p).MemoryForm := h.portFail.ite h

theorem State.MemoryForm.blockLockLoss {p} : (s.blockLockLoss p).MemoryForm := h.portLeave.ite h

theorem State.MemoryForm.flapHoldEnd {p} : (s.flapHoldEnd p).MemoryForm := h.modPort.portStart.ite h

theorem State.MemoryForm.ageChildren : s.ageChildren.MemoryForm := h.foldl fun h => h.modPort.ite h

theorem State.MemoryForm.sendAlive : s.sendAlive.MemoryForm := h.pushPkt.ite h

theorem State.MemoryForm.dealerTick {n} : (s.dealerTick n).MemoryForm :=
  .ite h.modCwy.ageChildren.tickOut.tokDown.stamp h

theorem State.MemoryForm.cwyTick {w r d} : (s.cwyTick w r d).MemoryForm := h.ite h.modCwy.tokDown

theorem State.MemoryForm.wallTick {d} : (s.wallTick d).MemoryForm := by
  unfold State.wallTick
  split
  · exact h
  · extract_lets _ v u
    have hv : v.MemoryForm := h.tickOut.modCwy.ageChildren.sendAlive
    have hu : u.MemoryForm := .ite hv.cwyEvent hv
    exact h.ite (.ite hu.takeWallLock hu)

theorem State.MemoryForm.sendFreeze {t} : (s.sendFreeze t).MemoryForm := h.tokDown.ite (h.sendTok.ite h)

theorem State.MemoryForm.freezeReview : s.freezeReview.MemoryForm := by
  unfold State.freezeReview
  extract_lets _ v _ u
  have hv : v.MemoryForm := h.modCwy
  have hu : u.MemoryForm := .ite hv.same hv
  exact h.modCwy.sendFreeze.ite (.ite hu.sendFreeze h)

theorem State.MemoryForm.freezeRepeat : s.freezeRepeat.MemoryForm := h.ite (h.sendFreeze.ite (h.sendFreeze.ite h))

theorem State.MemoryForm.cwyFreeze {p i} : (s.cwyFreeze p i).MemoryForm := by
  unfold State.cwyFreeze
  extract_lets v _ u
  have hv : v.MemoryForm := h.ite h.cwyEvent
  have hu : u.MemoryForm := h.ite h.cwyEvent
  exact h.ite ((h.ite hv.same.tokDown).ite (.ite hu.same.modCwy.freezeReview h.sendTok))

theorem State.MemoryForm.cwyThaw {p i} : (s.cwyThaw p i).MemoryForm :=
  h.ite ((h.ite h.same.tokDown).ite (h.modCwy.freezeReview.ite h.sendTok))

/-! ### Blitter -/

theorem State.MemoryForm.modBctx {c f} : (s.modBctx c f).MemoryForm := h.same

theorem State.MemoryForm.bltStart {i} : (s.bltStart i).MemoryForm := by
  unfold State.bltStart
  split
  · exact h
  · extract_lets _ _ u
    have hu : u.MemoryForm := h.modBctx.modSlot
    exact h.modSlot.ite (.ite hu.emit hu)

theorem State.MemoryForm.bltFree {c} : (s.bltFree c).MemoryForm := h.modBctx

theorem State.MemoryForm.listReadDone {c r} : (s.listReadDone c r).MemoryForm := by
  unfold State.listReadDone
  extract_lets
  split
  · exact h
  · split
    · exact h
    · extract_lets _ got u
      have hu : u.MemoryForm := h.count.ite h
      clear_value got
      refine h.ite ?_
      split
      · exact h.bltFree.completeReadFail
      · exact h.bltFree.completeReadFail
      · extract_lets
        refine h.ite ?_
        split
        · exact hu.bltFree.completeViol
        · exact hu.bltFree.complete
        · exact hu.setF.modBctx

theorem State.MemoryForm.cmdRow {c hd j} : (s.cmdRow c hd j).MemoryForm := by
  unfold State.cmdRow
  refine h.withMem (List.foldlRecOn (motive := fun m : DevMem => m.wf = true) _ _ h.1 fun m hm e _ => ?_)
  split <;> [exact DevMem.wf_putPixel hm _ _ _ _; exact hm]

theorem State.MemoryForm.bltFenErr {c b} : (s.bltFenErr c b).MemoryForm := h.incF.raiseF.faultDev

theorem State.MemoryForm.raceRecord {c cm j} : (s.raceRecord c cm j).MemoryForm :=
  .ite h.incF.raiseF h.incF.raiseF.modBctx.faultDev

theorem State.MemoryForm.cmdEnd {c} : (s.cmdEnd c).MemoryForm := h.modBctx

theorem State.MemoryForm.cmdOneRow {c x cm j} : (s.cmdOneRow c x cm j).MemoryForm :=
  (h.raceRecord.ite h).cmdRow.count.count.modBctx

omit h in
theorem State.MemoryForm.cmdRows {c x cmd} : ∀ {n : Nat} {s : State},
    s.MemoryForm → (s.cmdRows c x cmd n).MemoryForm
  | 0, _, h => h
  | _ + 1, _, h => .ite h.cmdEnd (h.modBctx.ite (State.MemoryForm.cmdRows h.cmdOneRow))

theorem State.MemoryForm.cmdRun {c o} : (s.cmdRun c o).MemoryForm := by
  unfold State.cmdRun
  extract_lets
  split
  · exact h
  · extract_lets _ _ _ w v u
    have hw : w.MemoryForm := h.setF.modBctx.bltFenErr
    have hv : v.MemoryForm := .ite hw.violate hw
    have hu : u.MemoryForm := .ite hv.modBctx hv
    refine h.ite ?_
    refine .ite ?_ h.setF.modBctx.cmdRows
    split
    · exact hu.cmdEnd
    · exact (h.setF.modBctx.foldl fun h => h.bltFenErr).modBctx.cmdRows

theorem State.MemoryForm.raceRelease {c} : (s.raceRelease c).MemoryForm := by
  unfold State.raceRelease
  extract_lets
  split <;> [exact h; exact h.ite h.cmdOneRow.cmdRows]

theorem State.MemoryForm.watermark {c} : (s.watermark c).MemoryForm := by
  unfold State.watermark
  extract_lets
  split <;> [exact h.ite h.modBctx.setReg.setF.setF.setF.setF.raiseF.signal; exact h]

theorem State.MemoryForm.listComplete {c} : (s.listComplete c).MemoryForm := by
  unfold State.listComplete
  extract_lets
  split <;> [exact h.bltFree.complete.ite h; exact h]

theorem State.MemoryForm.bltAbort {i} : (s.bltAbort i).MemoryForm :=
  h.foldl fun h => .ite (h.foldl fun h => h.scramble).bltFree h

/-! ### Sluice -/

theorem State.MemoryForm.modChan {c f} : (s.modChan c f).MemoryForm := h.same

theorem State.MemoryForm.emitReads {a n} : (s.emitReads a n).MemoryForm := h.foldl fun h => h.emit

theorem State.MemoryForm.sluRead {c} : (s.sluRead c).MemoryForm := by
  unfold State.sluRead
  extract_lets
  split <;> [exact h.ite h.emitReads.modChan; exact h]

theorem State.MemoryForm.sluFillRead {c i} : (s.sluFillRead c i).MemoryForm := by
  unfold State.sluFillRead
  split <;> [(split <;> [exact h.emitReads.modChan; exact h.modChan.sluRead]); exact h]

theorem State.MemoryForm.chanStart {c i} : (s.chanStart c i).MemoryForm := by
  unfold State.chanStart
  split
  · exact h
  · extract_lets _ _ _ u
    have hu : u.MemoryForm := h.modChan.setF.setReg.modSlot
    exact .ite hu.same hu.sluRead

theorem State.MemoryForm.sluStart {i} : (s.sluStart i).MemoryForm := by
  unfold State.sluStart
  split <;> [exact h; (split <;> [exact h.chanStart; exact h.modSlot])]

theorem State.MemoryForm.channelGrant {c} : (s.channelGrant c).MemoryForm := by
  unfold State.channelGrant
  refine h.ite ?_
  split <;> [exact h.chanStart; exact h]

theorem State.MemoryForm.stagingGrant {c} : (s.stagingGrant c).MemoryForm := by
  unfold State.stagingGrant
  extract_lets
  refine h.ite ?_
  split
  · extract_lets _ _ _ _ _ _ u
    have hu : u.MemoryForm := h.same.modChan.count
    exact .ite hu hu.sluFillRead
  · exact h

theorem State.MemoryForm.chanFree {c} : (s.chanFree c).MemoryForm := h.same

theorem State.MemoryForm.emitWrites {f a b} : (s.emitWrites f a b).MemoryForm := h.foldl fun h => h.hostWrite

omit h in
theorem State.MemoryForm.sluWrite {p f} :
    ∀ {n i : Nat} {bs : List Byte} {s : State}, s.MemoryForm → (s.sluWrite p f n i bs).MemoryForm
  | 0, _, _, _, h => h
  | _ + 1, _, [], _, h => h
  | n + 1, i, _ :: _, s, h => by
    unfold State.sluWrite
    exact State.MemoryForm.sluWrite (h.poke.ite h.emitWrites)

theorem State.MemoryForm.sluMove {c x d} : (s.sluMove c x d).MemoryForm := by
  unfold State.sluMove
  extract_lets _ _ _ _ _ u v _ w _ y z
  have hu : u.MemoryForm := h.count.ite h
  have hv : v.MemoryForm := hu.sluWrite.count
  clear_value v
  have hz : z.MemoryForm := hv.same
  exact .ite hz.sluRead (hz.ite hz.emit.modChan)

theorem State.MemoryForm.sluFill {c x i d} : (s.sluFill c x i d).MemoryForm := by
  unfold State.sluFill
  split <;> [exact h.ite h.count.modChan.sluFillRead; exact h]

theorem State.MemoryForm.sluBurst {c d} : (s.sluBurst c d).MemoryForm := by
  unfold State.sluBurst
  extract_lets
  split
  · exact h
  · extract_lets
    refine h.ite ?_
    split <;> [exact h.sluFill; exact h.ite h.sluMove]

theorem State.MemoryForm.sluDone {c} : (s.sluDone c).MemoryForm := by
  unfold State.sluDone
  extract_lets
  split <;> [exact h.chanFree.complete.ite h; exact h]

theorem State.MemoryForm.sluSpoilDst {x} : (s.sluSpoilDst x).MemoryForm := h.scramble.ite h

theorem State.MemoryForm.sluFail {c f} : (s.sluFail c f).MemoryForm := by
  unfold State.sluFail
  extract_lets _ rec_
  have hrec {t : State} {a : Nat} (h : t.MemoryForm) : (rec_ t a).MemoryForm := h.setReg.setReg.raiseF
  split
  · exact h
  · refine h.ite ?_
    split
    · exact h.ite (hrec h).sluSpoilDst.chanFree.completeReadFail
    · exact h.ite (hrec h).sluSpoilDst.chanFree.emit.violate.complete
    · exact h.ite (hrec h).sluSpoilDst.chanFree.faultDev.complete

theorem State.MemoryForm.sluAbort {i} : (s.sluAbort i).MemoryForm := h.foldl fun h => by
  refine .ite ?_ h
  split <;> [exact h.sluSpoilDst.chanFree; exact h.chanFree]

theorem State.MemoryForm.chanLease {c} : (s.chanLease c).MemoryForm := by
  unfold State.chanLease
  extract_lets
  split
  · exact h
  · extract_lets _ _ _ _ _ u _ _ _ v w
    have hu : u.MemoryForm := h.sluAbort.violate
    clear_value u
    have hv : v.MemoryForm := hu.same
    have hw : w.MemoryForm := by
      unfold w
      split <;> [exact hv.spoil; exact hv]
    exact h.ite (.ite hv.complete hw.dropSlot)

end

end Sys2Proof.Machine
end

section
/-!
PROOF. The canonical form of memory (for O58): rings and the trump path.
-/

set_option Elab.async false  -- the joined text is large: no thread per declaration

namespace Sys2Proof.Machine

section
variable {s : State} (h : s.MemoryForm)
include h

/-! ### Rings and descriptors -/

theorem State.MemoryForm.readRecord {f r} : (s.readRecord f r).MemoryForm := h.ite h.emit.modRing.count

theorem State.MemoryForm.ringStart {f r} : (s.ringStart f r).MemoryForm := by
  unfold State.ringStart
  extract_lets _ _ _ u
  have hu : u.MemoryForm := .ite h.setF.modRing.writeDevFlags h.setF.modRing
  exact h.setF.modRing.ite hu.readRecord

theorem State.MemoryForm.takeRecord {f r d} : (s.takeRecord f r d).MemoryForm :=
  .ite (h.ite h.violateOnce).modRing (h.modRing.ite h.modRing)

theorem State.MemoryForm.recordRead {f r d} : (s.recordRead f r d).MemoryForm := by
  unfold State.recordRead
  extract_lets _ _ u
  have hu : u.MemoryForm := .ite h.modRing h.modRing.violateOnce
  refine h.ite ?_
  split <;> [exact hu.modRing.emit; exact h.modRing.count.modRing.takeRecord]

theorem State.MemoryForm.staleReread {f r} : (s.staleReread f r).MemoryForm := h.modRing.readRecord.ite h

theorem State.MemoryForm.pollRecords : s.pollRecords.MemoryForm := h.foldl fun h => h.modRing.readRecord.ite h

theorem State.MemoryForm.doorbellPoll : s.doorbellPoll.MemoryForm := h.pollRecords.ite h

theorem State.MemoryForm.serveKnocks : s.serveKnocks.MemoryForm := h.foldl fun h => h.modRing.readRecord.ite h

theorem State.MemoryForm.knockRing {f r k} : (s.knockRing f r k).MemoryForm := by
  unfold State.knockRing
  extract_lets _ _ _ _ u
  have hu : u.MemoryForm := h.modRing.modRing
  exact .ite h.modRing.freeDetail.violateOnce.modRing (.ite hu.readRecord hu.modRing.noteWake)

theorem State.MemoryForm.knock {f v} : (s.knock f v).MemoryForm :=
  h.ite (.ite h.count (.ite h.count.violateFree (.ite h.count h.count.knockRing)))

theorem State.MemoryForm.knockStormEnd {f r} : (s.knockStormEnd f r).MemoryForm := h.modRing.ite h

theorem State.MemoryForm.cqFull {f r} : (s.cqFull f r).MemoryForm := .ite h.freeDetail.violateOnce.modRing h

theorem State.MemoryForm.holdoffEnd {f r} : (s.holdoffEnd f r).MemoryForm := .ite (.ite h.modRing.ringMsg h.modRing) h

theorem State.MemoryForm.unitAbort {x} : (s.unitAbort x).MemoryForm := by
  unfold State.unitAbort
  extract_lets
  split
  · exact h.bltAbort
  · exact h.sluAbort
  · exact h.playAbandon
  · exact h.same
  · exact h

theorem State.MemoryForm.loseCommit {x} : (s.loseCommit x).MemoryForm := (h.foldl fun h => h.discardTrick).ite h

theorem State.MemoryForm.endEarly {x st d} : (s.endEarly x st d).1.MemoryForm := by
  unfold State.endEarly
  extract_lets _ v u
  have hv : v.MemoryForm := by
    unfold v
    split <;> [exact .ite h.unitAbort h.unitAbort.spoil; exact h.unitAbort]
  have hu : u.MemoryForm := hv.loseCommit
  split <;> [exact hu.writeCpl.dropSlot; exact hu.dropSlot]

theorem State.MemoryForm.endSlots {xs st d} : (s.endSlots xs st d).1.MemoryForm :=
  State.MemoryForm.foldlFst (h.foldl fun h => h.modRing) fun h => h.endEarly

theorem State.MemoryForm.ringDrained {f r} : (s.ringDrained f r).MemoryForm := h.setF.modRing.ite h

theorem State.MemoryForm.ringStop {f r} : (s.ringStop f r).MemoryForm := h.modRing.endSlots.ringDrained

theorem State.MemoryForm.ringCtlWrite {f r v} : (s.ringCtlWrite f r v).MemoryForm :=
  .ite (.ite h.setReg.ringStart h.setReg) (.ite h.setReg.ringStop h.setReg)

theorem State.MemoryForm.ringEnable {f r v} : (s.ringEnable f r v).MemoryForm := h.ringCtlWrite.ite h

theorem State.MemoryForm.ringDisable {f r v} : (s.ringDisable f r v).MemoryForm := h.ringCtlWrite.ite h

theorem State.MemoryForm.leaseExpired {f} : (s.leaseExpired f).MemoryForm :=
  h.ite ((h.same.foldl fun h => h.writeDevFlags).endSlots.foldl fun h => h.spoil).logEntry

theorem State.MemoryForm.rereg {f} : (s.rereg f).MemoryForm :=
  h.same.foldl fun h => .ite h.ringStart.writeDevFlags h.ringStart

theorem State.MemoryForm.fnRereg {f v} : (s.fnRereg f v).MemoryForm := h.rereg.ite h

theorem State.MemoryForm.abandonSlots {p} : (s.abandonSlots p).MemoryForm := by
  unfold State.abandonSlots
  extract_lets xs gone u
  have hu : u.MemoryForm := h.foldl fun h => h.unitAbort.dropSlot
  refine hu.withTricks fun y hy => ?_
  obtain ⟨x, hx, rfl⟩ := List.mem_map.1 hy
  have hp := hu.pagesForm hx
  split <;> exact hp

theorem State.MemoryForm.discardTricks {p} : (s.discardTricks p).MemoryForm := h.foldl fun h => h.discardTrick

theorem State.MemoryForm.dropRings {p} : (s.dropRings p).MemoryForm := h.same

theorem State.MemoryForm.pageReset {f} : (s.pageReset f).MemoryForm := h.same

theorem State.MemoryForm.vfFlr {f} : (s.vfFlr f).MemoryForm := h.ite (h.same.ite (h.ite
    (h.pageReset.abandonSlots.discardTricks.foldl fun h => h.setF).dropRings.rereg.setReg.playQuit))

theorem State.MemoryForm.hifRegs : s.hifRegs.MemoryForm := h.same

theorem State.MemoryForm.hifReset : s.hifReset.MemoryForm := by
  unfold State.hifReset
  extract_lets _ _ v _ u
  have hv : v.MemoryForm := h.abandonSlots.discardTricks.hifRegs
  have hu : u.MemoryForm := hv.same
  exact hu.same

/-! ### Trump keys and the SMBus -/

theorem State.MemoryForm.closeSession : s.closeSession.MemoryForm := h.same

theorem State.MemoryForm.checkKey {k v} : (s.checkKey k v).1.MemoryForm := by
  unfold State.checkKey
  split
  · split <;> [exact h; exact State.MemoryForm.faultDev h.same]
  · split
    · exact h.setF
    · extract_lets _ u
      have hu : u.MemoryForm := h.setF.faultDev
      split <;> [exact State.MemoryForm.same hu; exact hu]

theorem State.MemoryForm.setKey {k} : (s.setKey k).MemoryForm := h.same

theorem State.MemoryForm.presentKey {hi} : (s.presentKey hi).MemoryForm := by
  unfold State.presentKey
  extract_lets
  refine h.setKey.ite ?_
  split
  · exact h.checkKey.raiseF
  · exact h.checkKey.closeSession
  · exact h.checkKey

theorem State.MemoryForm.keyLoWrite {v} : (s.keyLoWrite v).MemoryForm := h.same

theorem State.MemoryForm.armRekey : s.armRekey.MemoryForm := h.same.ite h

theorem State.MemoryForm.sessionWrite {v} : (s.sessionWrite v).MemoryForm := by
  unfold State.sessionWrite
  extract_lets _ u
  have hu : u.MemoryForm := .ite h.setF.closeSession h.setF
  exact .ite hu.armRekey hu

theorem State.MemoryForm.lockoutEnd : s.lockoutEnd.MemoryForm := h.setF.setF.ite h

theorem State.MemoryForm.sessionTimeout : s.sessionTimeout.MemoryForm := h.closeSession.ite h

theorem State.MemoryForm.trumpCmd {n v} : (s.trumpCmd n v).MemoryForm := by
  unfold State.trumpCmd
  extract_lets u
  have hu : u.MemoryForm := h.setF.ite h
  exact .ite hu.modHead hu

theorem State.MemoryForm.tpResult {r} : (s.tpResult r).MemoryForm := h.same

theorem State.MemoryForm.tpOpenResult : s.tpOpenResult.MemoryForm := h.same.tpResult

theorem State.MemoryForm.tpRun {p f} (hf : ∀ {t}, t.MemoryForm → (f t).MemoryForm) : (s.tpRun p f).MemoryForm :=
  h.ite (h.same.ite (h.tpResult.ite (hf h.noteWake)))

theorem State.MemoryForm.tpHeld {f} (hf : ∀ {t n}, t.MemoryForm → (f t n).MemoryForm) :
    (s.tpHeld f).MemoryForm := by
  unfold State.tpHeld
  split <;> [exact hf h; exact h.tpResult]

theorem State.MemoryForm.tpDiscard : s.tpDiscard.MemoryForm := by
  unfold State.tpDiscard
  extract_lets u
  have hu : u.MemoryForm := by
    unfold u
    split <;> [exact h.dropTrick; exact h]
  exact hu.same

theorem State.MemoryForm.tpBatch {n} : (s.tpBatch n).1.MemoryForm := by
  unfold State.tpBatch
  extract_lets _ u
  have hu : u.MemoryForm := h.openTrick
  split <;> [exact h; exact hu.same]

theorem State.MemoryForm.tpOpen {k he} : (s.tpOpen k he).MemoryForm := by
  unfold State.tpOpen
  extract_lets _ u
  have hu : u.MemoryForm := h.checkKey.tpDiscard
  refine .ite h.checkKey.tpResult ?_
  split
  · exact .ite hu.same.tpResult h.checkKey.tpResult
  · exact h.checkKey.tpResult

theorem State.MemoryForm.tpData {n o d} : (s.tpData n o d).MemoryForm := by
  unfold State.tpData
  extract_lets
  refine h.tpResult.ite ?_
  split
  · exact h
  · split <;> [exact h.tpBatch.stagePlan.tpResult; exact h.tpBatch.tpOpenResult]

theorem State.MemoryForm.tpStage {n r v} : (s.tpStage n r v).MemoryForm := by
  unfold State.tpStage
  extract_lets b
  split
  next t e => exact (h.tpBatch.stageRegs t e).tpResult
  next => exact h.tpBatch.tpOpenResult

theorem State.MemoryForm.tpReg {n i v} : (s.tpReg n i v).MemoryForm := by
  unfold State.tpReg
  extract_lets u
  have hu : u.MemoryForm := h.tpStage
  split
  · exact h.tpStage
  · exact h.tpStage
  · exact h.tpStage
  · exact h.tpStage
  · exact h.tpResult.ite h.trumpCmd.tpResult
  · exact h.tpStage
  · exact h.tpResult.ite hu.same
  · exact h.tpResult

theorem State.MemoryForm.tpCommit : s.tpCommit.MemoryForm := by
  unfold State.tpCommit
  split
  · exact h.tpResult
  · extract_lets u
    have hu : u.MemoryForm := h.becomeStaged
    exact .ite hu.same.tpResult h.tpResult

theorem State.MemoryForm.tpStatus : s.tpStatus.MemoryForm := h.same

theorem State.MemoryForm.tpLease : s.tpLease.MemoryForm := by
  unfold State.tpLease
  split
  · exact h
  · extract_lets u
    have hu : u.MemoryForm := h.tpDiscard.faultDev
    exact h.ite hu.same

end

end Sys2Proof.Machine
end

section
/-!
PROOF. The canonical form of memory (for O58): resets, journal, power and freeze.
-/

set_option Elab.async false  -- the joined text is large: no thread per declaration

namespace Sys2Proof.Machine

section
variable {s : State} (h : s.MemoryForm)
include h

/-! ### Resets and clocks -/

theorem State.MemoryForm.sampleStraps {x} : (s.sampleStraps x).MemoryForm := by
  unfold State.sampleStraps
  extract_lets _ _ _ _ u
  have hu : u.MemoryForm := h.same.setF.setF.setF.setF.setF.setF
  exact hu.same

omit h in
/-- A reset leaves memory unknown, no byte listed, and no trick, whatever it found. -/
theorem State.MemoryForm.bare (_ : s.MemoryForm) {m} : (s.bare m).MemoryForm := ⟨rfl, fun _ => nofun⟩

theorem State.MemoryForm.powerUp {x r} : (s.powerUp x r).MemoryForm :=
  h.ite (.ite (State.MemoryForm.same (h.bare (m := .bringUp))) h.bare.sampleStraps)

theorem State.MemoryForm.powerDown : s.powerDown.MemoryForm := h.ite h.bare

theorem State.MemoryForm.warmReset : s.warmReset.MemoryForm := by
  unfold State.warmReset
  extract_lets _ v _ _ _ _ _ _ u
  have hv : v.MemoryForm := h.bare
  have hu : u.MemoryForm := hv.same.setF.setF.setReg.setReg.setReg.setF.raiseF
  exact .ite hu.raiseF hu

theorem State.MemoryForm.warmFrom {c x} : (s.warmFrom c x).MemoryForm := by
  unfold State.warmFrom
  extract_lets x w v u
  have hx : x.MemoryForm := h.warmReset.raiseF
  have hw : w.MemoryForm := .ite hx.raiseF hx
  have hv : v.MemoryForm := .ite hw.raiseF hw
  have hu : u.MemoryForm := .ite hv.raiseF hv
  exact hu.sampleStraps

theorem State.MemoryForm.resetPulse {n x} : (s.resetPulse n x).MemoryForm :=
  h.ite (h.same.sampleStraps.ite (h.warmFrom.ite (h.ite (.ite h.same.warmFrom h.same))))

theorem State.MemoryForm.resetWrite {v x} : (s.resetWrite v x).MemoryForm := h.warmFrom.ite h

theorem State.MemoryForm.pllLock {p} : (s.pllLock p).MemoryForm := by
  unfold State.pllLock
  extract_lets v _ u
  have hv : v.MemoryForm := h.raiseF.raiseF
  have hu : u.MemoryForm := .ite hv.same hv
  refine h.ite ?_
  split <;> [exact hu.portsStart; exact h.raiseF; exact h.raiseF]

theorem State.MemoryForm.pllLoss {u} : (s.pllLoss u).MemoryForm := by
  unfold State.pllLoss
  extract_lets lose
  have hlose {f unit} : (lose f unit).MemoryForm := h.setF.faultDev.ite h
  split
  · exact hlose
  · exact hlose
  · exact hlose
  · exact h.faultDev.ite h
  · exact h.faultDev.ite h

theorem State.MemoryForm.refRecord {l} : (s.refRecord l).MemoryForm := h.faultDev

theorem State.MemoryForm.setRef {r} : (s.setRef r).MemoryForm := h.same

theorem State.MemoryForm.refLost : s.refLost.MemoryForm := by
  unfold State.refLost
  extract_lets _ v _ u
  have hv : v.MemoryForm := h.same.raiseF
  have hu : u.MemoryForm := .ite hv hv.same.raiseF
  exact h.ite hu.refRecord

theorem State.MemoryForm.holdoverEnd : s.holdoverEnd.MemoryForm := h.setRef.ite h

theorem State.MemoryForm.slewEnd : s.slewEnd.MemoryForm := by
  unfold State.slewEnd
  extract_lets
  refine h.ite ?_
  split
  · exact .ite h.setRef.setF.setF h.setRef.setF
  · exact h.setRef.setF.setF
  · exact h

theorem State.MemoryForm.refReturn : s.refReturn.MemoryForm := by
  unfold State.refReturn
  extract_lets _ _ u
  have hu : u.MemoryForm := .ite h.same h.same.setRef
  exact h.ite hu.refRecord

theorem State.MemoryForm.tempMeasure {r} : (s.tempMeasure r).MemoryForm := by
  unfold State.tempMeasure
  extract_lets _ _ _ _ _ _ _ x w v u
  have hx : x.MemoryForm := .ite h.setF.setF.raiseF h.setF.setF
  have hw : w.MemoryForm := .ite hx.raiseF hx
  have hv : v.MemoryForm := .ite hw.faultDev hw
  have hu : u.MemoryForm := .ite hv.faultDev hv
  exact h.ite hu.same

theorem State.MemoryForm.hostFallbackHeads : s.hostFallbackHeads.MemoryForm :=
  h.foldl fun h => h.ite (.ite h.modHead.modHead h.modHead.enterFb)

theorem State.MemoryForm.hostFallback : s.hostFallback.MemoryForm := by
  unfold State.hostFallback
  extract_lets u
  have hu : u.MemoryForm := h.hostFallbackHeads
  split
  · exact .ite hu.setMode hu.reviewMode
  · exact .ite hu.setMode hu.reviewMode
  · exact hu

theorem State.MemoryForm.hostLossReview : s.hostLossReview.MemoryForm := .ite (.ite h.same.hostFallback h.same) h

theorem State.MemoryForm.hostLossSleep : s.hostLossSleep.MemoryForm := h.same.noteWake

theorem State.MemoryForm.hostLossAwake : s.hostLossAwake.MemoryForm := .ite (.ite h.same.setMode h.same) h

theorem State.MemoryForm.hostLossExpiry : s.hostLossExpiry.MemoryForm := by
  unfold State.hostLossExpiry
  extract_lets
  refine h.ite ?_
  split
  · exact h.hostFallbackHeads.hostLossSleep.ite h.hostFallback
  · exact h.hostFallbackHeads.hostLossSleep.ite h.hostFallback
  · exact h.hostFallbackHeads.hostLossSleep.ite h.hostFallback
  · exact h.hostFallbackHeads.hostLossSleep
  · exact h.hostFallbackHeads.hostLossSleep
  · exact h.same

theorem State.MemoryForm.hifResetAll : s.hifResetAll.MemoryForm :=
  (h.hifReset.closeSession.playQuit.audLoseFlight.foldl fun h => h.setF).raiseF.ltrFrom

theorem State.MemoryForm.hifCause : s.hifCause.MemoryForm := h.ite (h.same.ite h.hifResetAll)

theorem State.MemoryForm.perstAssert : s.perstAssert.MemoryForm := h.same.hifCause

theorem State.MemoryForm.linkDown : s.linkDown.MemoryForm := h.same.hifCause

theorem State.MemoryForm.linkUp : s.linkUp.MemoryForm := h.same.ite h

theorem State.MemoryForm.poisoned {f a} : (s.poisoned f a).MemoryForm := h.ite (.ite h.emit.noteWake.logEntry h.emit)

theorem State.MemoryForm.writeFailed {w a} : (s.writeFailed w a).MemoryForm := by
  unfold State.writeFailed
  split
  · exact h.poisoned
  · exact h.violate.ite h
  · exact h.logEntry.ite h
  · exact h.incF.ite h

theorem State.MemoryForm.numVfsWrite {n e} : (s.numVfsWrite n e).MemoryForm := h.ite h.same

/-! ### Journal and boot -/

theorem State.MemoryForm.modJ {f} : (s.modJ f).MemoryForm := h.same

theorem State.MemoryForm.storeStep {k} : (s.storeStep k).MemoryForm := by
  unfold State.storeStep
  extract_lets
  split <;> exact h.modJ.emit

theorem State.MemoryForm.storeStart {sl} : (s.storeStart sl).MemoryForm := h.raiseF.setF.setF.modJ

theorem State.MemoryForm.storeNext : s.storeNext.MemoryForm := by
  unfold State.storeNext
  split <;> [exact h.modJ.storeStart; exact h]

theorem State.MemoryForm.storeAsk {sl} : (s.storeAsk sl).MemoryForm := h.ite h.modJ.storeNext

theorem State.MemoryForm.dropSnaps : s.dropSnaps.MemoryForm := h.same

theorem State.MemoryForm.storeOver : s.storeOver.MemoryForm := h.dropSnaps.setF.modJ.storeNext

theorem State.MemoryForm.storeFail {st sta o} : (s.storeFail st sta o).MemoryForm := by
  unfold State.storeFail
  extract_lets _ u
  have hu : u.MemoryForm := by
    unfold u
    split <;> [exact h.raiseF.setF.complete; exact h.raiseF.setF]
  exact hu.storeOver

theorem State.MemoryForm.journalSnapshot : s.journalSnapshot.MemoryForm := by
  unfold State.journalSnapshot
  extract_lets _ v
  have hv : v.MemoryForm := h.foldl fun h => h.faultDev
  split
  · exact h
  · extract_lets u
    have hu : u.MemoryForm := by
      unfold u
      split <;> [exact hv.freeDetail.completeViol; exact hv]
    exact h.ite (.ite hu.storeOver hv.modJ)

theorem State.MemoryForm.snapshotCopyEnd : s.snapshotCopyEnd.MemoryForm := by
  unfold State.snapshotCopyEnd
  extract_lets
  split
  · exact h
  · split <;> [exact h; exact h.ite h.same.modJ.dropSnaps.storeStep]

theorem State.MemoryForm.storeDone {st} : (s.storeDone st).MemoryForm := by
  unfold State.storeDone
  extract_lets _ _ _ v u
  have hv : v.MemoryForm := h.modJ.raiseF.setF.setF
  have hu : u.MemoryForm := by
    unfold u
    split <;> [exact hv.complete; exact hv]
  exact hu.storeOver

theorem State.MemoryForm.flashOpDone {o of} : (s.flashOpDone o of).MemoryForm := by
  unfold State.flashOpDone
  extract_lets
  split
  · exact h
  · extract_lets
    refine h.ite ?_
    refine h.storeFail.ite ?_
    split
    · exact h.modJ.storeStep
    · exact h.modJ.storeStep
    · exact h.modJ.storeStep
    · exact h.storeStep
    · exact .ite h.setF.storeStep h.setF.storeStep
    · exact h.modJ.storeStep
    · exact h.storeDone

theorem State.MemoryForm.flashTimeout {o} : (s.flashTimeout o).MemoryForm := by
  unfold State.flashTimeout
  split <;> [exact h; exact h.storeFail.ite h]

theorem State.MemoryForm.storeAbandon : s.storeAbandon.MemoryForm := by
  unfold State.storeAbandon
  extract_lets
  split <;> [exact h; exact h.modJ.dropSnaps.setF.raiseF.setF]

theorem State.MemoryForm.journalStatus {f} : (s.journalStatus f).MemoryForm := by
  unfold State.journalStatus
  extract_lets _ u c _ v
  have hu : u.MemoryForm := h.setF.setF
  have hv : v.MemoryForm := by
    unfold v
    clear_value c
    split <;> [exact hu.raiseF.setF.setF; exact hu]
  refine .ite hu ?_
  split
  · exact hv.raiseF.setF
  · exact hv.raiseF.setF
  · exact hv

theorem State.MemoryForm.bootOver : s.bootOver.MemoryForm := by
  unfold State.bootOver
  extract_lets u v w x
  have hw : w.MemoryForm := State.MemoryForm.audReview (h.modJ.faultDev)
  clear_value w
  have hx : x.MemoryForm := hw.foldl fun h => .ite h.sinksFadeIn h
  clear_value x
  exact hx.portsStart.pollRecords.hostLossReview.reviewMode

theorem State.MemoryForm.bootNoSlot {c} : (s.bootNoSlot c).MemoryForm := by
  unfold State.bootNoSlot
  extract_lets v u
  have hv : v.MemoryForm := h.foldl fun h => h.headOff
  have hu : u.MemoryForm := hv.same
  exact hu.same.modJ.setKey.setF.setMode.bootOver

theorem State.MemoryForm.slotChoice {f} : (s.slotChoice f).MemoryForm := by
  unfold State.slotChoice
  extract_lets
  refine h.ite ?_
  refine .ite h.journalStatus.bootNoSlot ?_
  refine .ite h.journalStatus.bootNoSlot ?_
  split <;> [exact h.journalStatus.bootNoSlot; exact h.journalStatus.setF.modJ]

theorem State.MemoryForm.restoreRegs {m p} : (s.restoreRegs m p).MemoryForm := h.foldl fun h => h.setReg

theorem State.MemoryForm.lightHeads {c} : (s.lightHeads c).MemoryForm :=
  ((h.restoreRegs.foldl fun h => h.applyTiming.ite h).foldl fun h => h.reviewEnable).foldl fun h => h.modHead

theorem State.MemoryForm.earlyLoaded {e t} : (s.earlyLoaded e t).MemoryForm := by
  unfold State.earlyLoaded
  split
  · exact h
  · extract_lets x w v u
    have hx : x.MemoryForm := by
      unfold x
      split <;> [exact h.setReg; exact h]
    have hw : w.MemoryForm := .ite (hx.restoreRegs.foldl fun h => h.poke) hx
    have hv : v.MemoryForm := by
      unfold v
      split <;> [exact .ite hw.poke hw; exact hw]
    have hu : u.MemoryForm := .ite hv.lightHeads hv
    exact h.ite hu.modJ

theorem State.MemoryForm.sceneFails : s.sceneFails.MemoryForm := by
  unfold State.sceneFails
  extract_lets u v
  have hv : v.MemoryForm := State.MemoryForm.foldl h.modJ fun h => .ite h.modHead.modHead h.modHead.enterFb
  clear_value v
  exact hv.setF.setMode.bootOver

theorem State.MemoryForm.sceneRestore {c sc} : (s.sceneRestore c sc).MemoryForm := by
  unfold State.sceneRestore
  extract_lets
  split
  · exact h
  · extract_lets v u
    have hv : v.MemoryForm := h.restoreRegs.setKey.portsReview
    have hu : u.MemoryForm := .ite hv.lightHeads hv
    exact h.ite (h.setF.setF.bootNoSlot.ite (.ite hu.sceneFails hu.openTrick.modTrick.becomeStaged.modJ))

theorem State.MemoryForm.bootEnd : s.bootEnd.MemoryForm :=
  h.ite (h.foldl fun h => h.tmrZero.modTimer.ite h).modJ.setMode.bootOver

/-! ### Power states -/

theorem State.MemoryForm.sleepHeads : s.sleepHeads.MemoryForm := by
  unfold State.sleepHeads
  extract_lets _ u
  have hu : u.MemoryForm := h.foldl fun h => h.stopBeams.modDp.ite h.endVideo.stopBeams
  exact hu.same

theorem State.MemoryForm.resumeHeads : s.resumeHeads.MemoryForm := h.same.foldl fun h => h.blankFrame.ite h

theorem State.MemoryForm.darkenHeads : s.darkenHeads.MemoryForm := h.foldl fun h => h.endVideo.modDp.endTraining

theorem State.MemoryForm.relightHeads : s.relightHeads.MemoryForm := h.same.foldl fun h => h.modDp.blankFromRelock

theorem State.MemoryForm.setPwr {e st} : (s.setPwr e st).MemoryForm := h.same

theorem State.MemoryForm.pollWakePins : s.pollWakePins.MemoryForm := h.noteWake.ite h

theorem State.MemoryForm.noteAbort {p} : (s.noteAbort p).MemoryForm := h.same

theorem State.MemoryForm.awake : s.awake.MemoryForm := h.setPwr.serveKnocks.hostLossAwake.reviewMode.audReview

theorem State.MemoryForm.abortPoint {k} : (s.abortPoint k).MemoryForm := by
  unfold State.abortPoint
  extract_lets _ _ _ v _ u
  have hv : v.MemoryForm := h.pollWakePins.noteAbort
  have hu : u.MemoryForm := hv.same
  exact .ite (.ite hv.resumeHeads.awake (.ite hu.setPwr hu.setPwr)) h.pollWakePins.setPwr

theorem State.MemoryForm.dozeStart : s.dozeStart.MemoryForm := by
  unfold State.dozeStart
  extract_lets u
  have hu : u.MemoryForm := h.setPwr.abortPoint
  exact .ite (.ite hu.pollRecords hu) h

theorem State.MemoryForm.slumberStart : s.slumberStart.MemoryForm := h.setPwr.abortPoint.ite h

theorem State.MemoryForm.entered {d} : (s.entered d).MemoryForm := by
  unfold State.entered
  extract_lets _ _ u
  have hu : u.MemoryForm := .ite h.same h.setPwr
  exact hu.audReview

theorem State.MemoryForm.enterDoze : s.enterDoze.MemoryForm := h.gpioMove.incF.setMode.voicesIdle.entered

theorem State.MemoryForm.enterSlumber : s.enterSlumber.MemoryForm := h.darkenHeads.incF.setMode.entered

theorem State.MemoryForm.entryStepEnd : s.entryStepEnd.MemoryForm := by
  unfold State.entryStepEnd
  extract_lets _ v u
  have hv : v.MemoryForm := h.sleepHeads.ite h
  have hu : u.MemoryForm := h.fltFlush.ite h
  refine h.ite ?_
  split
  · exact .ite hv.abortPoint hv.enterDoze
  · exact .ite hu.abortPoint hu.enterSlumber
  · exact h

theorem State.MemoryForm.wakeEvent {sr} : (s.wakeEvent sr).MemoryForm := h.ite h.noteWake

theorem State.MemoryForm.peatFail : s.peatFail.MemoryForm := h.same.raiseF.faultDev.warmReset.sampleStraps

theorem State.MemoryForm.exitDone {d} : (s.exitDone d).MemoryForm := by
  unfold State.exitDone
  extract_lets _ _ _ v u
  have hv : v.MemoryForm := h.same.setMode
  have hu : u.MemoryForm := .ite hv.relightHeads hv.resumeHeads
  exact hu.seqFreeStart.audReview.pollRecords.hostLossReview.hostLossAwake.reviewMode

theorem State.MemoryForm.exitStep {c} : (s.exitStep c).MemoryForm := by
  unfold State.exitStep
  extract_lets _ _ _ _ u
  have hu : u.MemoryForm := (h.fltFlush.ite h).setPwr
  exact h.ite (h.peatFail.ite (.ite hu hu.gpioMove.exitDone))

/-! ### Freeze -/

theorem State.MemoryForm.frzChanged : s.frzChanged.MemoryForm := h.same.freezeReview

theorem State.MemoryForm.frzAssert {n} : (s.frzAssert n).MemoryForm := h.same.frzChanged.ite h

theorem State.MemoryForm.frzUnpin : s.frzUnpin.MemoryForm := h.same.frzChanged.ite h

theorem State.MemoryForm.frzCtl {v} : (s.frzCtl v).MemoryForm := by
  unfold State.frzCtl
  extract_lets u
  have hu : u.MemoryForm := h.ite h.noteWake
  exact h.ite (.ite hu (.ite hu.same.frzChanged (.ite hu.same.frzChanged hu)))

theorem State.MemoryForm.freezeStop : s.freezeStop.MemoryForm := by
  unfold State.freezeStop
  extract_lets _ _ _ u
  have hu : u.MemoryForm := h.finishApplication.storeAbandon.closeSession.setReg.setReg.setMode
  exact hu.same

theorem State.MemoryForm.freezeEntry : s.freezeEntry.MemoryForm := h.ite (h.same.ite h.freezeStop)

theorem State.MemoryForm.freezeReleased : s.freezeReleased.MemoryForm := h.same.ite h

theorem State.MemoryForm.freezeSlots : s.freezeSlots.MemoryForm := by
  unfold State.freezeSlots
  extract_lets _ u
  have hu : u.MemoryForm := h.foldl fun h => h.unitAbort.loseCommit.complete
  exact hu.same

theorem State.MemoryForm.freezeTricks : s.freezeTricks.MemoryForm := h.discardTricks

theorem State.MemoryForm.freezeHeads : s.freezeHeads.MemoryForm :=
  h.foldl fun h => h.headOff.ite h.endVideo.stopBeams.modDp.endTraining.blankFromRelock

theorem State.MemoryForm.freezeSleep : s.freezeSleep.MemoryForm := by
  unfold State.freezeSleep
  extract_lets _ v u
  have hv : v.MemoryForm := by
    unfold v
    split
    · exact h.incF.voicesIdle.ite h.noteAbort
    · exact h.incF.ite h.noteAbort
    · exact h
  have hu : u.MemoryForm := hv.gpioSleep
  exact hu.same

theorem State.MemoryForm.flrDue : s.flrDue.MemoryForm := h.same.foldl fun h => h.vfFlr

theorem State.MemoryForm.thawEnter : s.thawEnter.MemoryForm := by
  unfold State.thawEnter
  extract_lets _ _ u
  have hu : u.MemoryForm := h.setMode
  exact hu.same.freezeSleep.pinSwitch.fltFlush.faultDev

theorem State.MemoryForm.thaw : s.thaw.MemoryForm := by
  unfold State.thaw
  extract_lets _ _ y x _ w v u
  have hy : y.MemoryForm := h.thawEnter.flrDue
  have hx : x.MemoryForm := .ite hy.hifResetAll hy.freezeSlots
  have hw : w.MemoryForm := hx.freezeTricks.freezeHeads.seqFreeStart.audReview.audEmpty
  have hv : v.MemoryForm := .ite hw.pollRecords hw
  have hu : u.MemoryForm := .ite hv hv.hostLossReview.hostLossAwake
  exact hu.storeNext

theorem State.MemoryForm.freezeDone : s.freezeDone.MemoryForm :=
  h.ite (.ite (.ite h.same.peatFail h.same.thaw) h.thaw)

end

end Sys2Proof.Machine
end

section
/-!
PROOF. The canonical form of memory (for O58): register accesses and the host.
-/

set_option Elab.async false  -- the joined text is large: no thread per declaration

namespace Sys2Proof.Machine

section
variable {s : State} (h : s.MemoryForm)
include h

/-! ### Readout -/

theorem State.MemoryForm.latchCtr {k} : (s.latchCtr k).MemoryForm := h.same

theorem State.MemoryForm.latchBeams {n} : (s.latchBeams n).MemoryForm := h.modSc

theorem State.MemoryForm.readEffect {r i j} : (s.readEffect r i j).MemoryForm := by
  unfold State.readEffect
  extract_lets
  refine h.ite ?_
  split
  · split <;> [exact h.latchBeams; exact h]
  · split <;> [exact h.capRead; exact h]
  · split <;> [exact h.latchCtr; exact h]
  · exact h.same
  · exact h

theorem State.MemoryForm.bar0Read {a} : (s.bar0Read a).MemoryForm := by
  unfold State.bar0Read
  extract_lets _ _ u
  have hu : u.MemoryForm := by
    unfold u
    split <;> [exact h.noteWake.readEffect; exact h.noteWake]
  exact h.ite hu.emit

theorem State.MemoryForm.userCtr {f k hi} : (s.userCtr f k hi).1.MemoryForm := by
  unfold State.userCtr
  extract_lets
  split <;> [exact h; (split <;> [exact h; exact h.ite h.same])]

theorem State.MemoryForm.readoutStep {se} : (s.readoutStep se).1.MemoryForm := h.same

theorem State.MemoryForm.rdData : s.rdData.MemoryForm := h.ite (h.noteWake.emit.ite h.readoutStep.setReg.emit)

theorem State.MemoryForm.jtagData : s.jtagData.MemoryForm := by
  unfold State.jtagData
  extract_lets _ _ u
  have hu : u.MemoryForm := h.readoutStep
  exact h.ite (h.emit.ite hu.same.emit)

theorem State.MemoryForm.jtagSel {v} : (s.jtagSel v).MemoryForm := h.ite h.same

theorem State.MemoryForm.smbRun {p f} (hf : ∀ {t}, t.MemoryForm → (f t).MemoryForm) : (s.smbRun p f).MemoryForm :=
  h.ite (h.same.ite (hf h.noteWake))

theorem State.MemoryForm.smbSel {v} : (s.smbSel v).MemoryForm := h.same

omit h in
theorem State.MemoryForm.smbWords : ∀ {n : Nat} {s : State}, s.MemoryForm → (s.smbWords n).1.MemoryForm
  | 0, _, h => h
  | n + 1, s, h => by
    unfold State.smbWords
    extract_lets sel r u t
    have hr : r.1.MemoryForm := h.readoutStep
    exact State.MemoryForm.smbWords hr.same

theorem State.MemoryForm.smbRead {w} : (s.smbRead w).MemoryForm := .ite h.smbWords.emit h.emit

theorem State.MemoryForm.smbStat : s.smbStat.MemoryForm := h.emit

theorem State.MemoryForm.userCtrRead {f k hi} : (s.userCtrRead f k hi).MemoryForm := h.ite h.userCtr.emit

/-! ### Checks of writes -/

theorem State.MemoryForm.endVerdict {i v} : (s.endVerdict i v).MemoryForm := by
  unfold State.endVerdict
  extract_lets
  split <;> [exact h.complete; exact h.completeViol; exact h.freeDetail.completeViol]

/-! ### Register writes -/

theorem State.MemoryForm.quotaWrite {f n} : (s.quotaWrite f n).MemoryForm := by
  unfold State.quotaWrite
  exact h.raiseF.ite h.setReg

theorem State.MemoryForm.fnCtlWrite {f n} : (s.fnCtlWrite f n).MemoryForm := by
  unfold State.fnCtlWrite
  exact h.setReg.raiseF.ite h.setReg

theorem State.MemoryForm.limitWrite {f n} : (s.limitWrite f n).MemoryForm := by
  unfold State.limitWrite
  exact h.raiseF.ite h.setReg

theorem State.MemoryForm.poolWrite {n} : (s.poolWrite n).MemoryForm := by
  unfold State.poolWrite
  extract_lets u top ok was v
  have hv : v.MemoryForm := h.setF
  exact h.raiseF.ite (hv.scramble.ite (.ite (hv.withMem (DevMem.wf_fill hv.1 _ _ _)) hv))

theorem State.MemoryForm.sendSetId {p i} : (s.sendSetId p i).MemoryForm := by
  unfold State.sendSetId
  extract_lets
  refine h.ite ?_
  split
  · exact h
  · extract_lets _ _ u
    have hu : u.MemoryForm := h.sendDown.modPort
    exact h.ite (.ite h.sendDown (.ite (.ite hu.modCwy hu) hu.admitChild))

theorem State.MemoryForm.setIdWrite {v} : (s.setIdWrite v).MemoryForm := h.sendSetId.ite h

theorem State.MemoryForm.rejoinWrite {v} : (s.rejoinWrite v).MemoryForm := h.modCwy.ite h

theorem State.MemoryForm.pmcRun {m o} : (s.pmcRun m o).MemoryForm := h.foldl fun h => h.setF.ite h

theorem State.MemoryForm.pmcWrite {r i n} : (s.pmcWrite r i n).MemoryForm := .ite h.setReg.signal h.setReg

theorem State.MemoryForm.pmcValue {k hi v m} : (s.pmcValue k hi v m).MemoryForm := h.ite h.same

theorem State.MemoryForm.onIdx {m i f} (hf : ∀ n, (f n).MemoryForm) : (onIdx m i s f).MemoryForm := by
  unfold Sys2Proof.Machine.onIdx
  split <;> [exact hf _; exact h]

theorem State.MemoryForm.writeA {r i j v n} : KeptForm (s.writeA r i j v n) := by
  unfold State.writeA
  split
  · exact .some h.resetWrite
  · exact .some h.keyLoWrite
  · exact .some h.presentKey
  · exact .some h.sessionWrite
  · exact .some h.setReg
  · exact .some (h.onIdx fun _ => h.quotaWrite)
  · exact .some (h.onIdx fun _ => h.fnCtlWrite)
  · exact .some (h.onIdx fun _ => h.onIdx fun _ => h.ringCtlWrite)
  · exact .some (h.onIdx fun _ => h.limitWrite)
  · exact .some h.poolWrite
  · exact .none

theorem State.MemoryForm.writeB {r i j v n} : KeptForm (s.writeB r i j v n) := by
  unfold State.writeB
  extract_lets
  split
  · exact .some (h.onIdx fun _ => h.holdReg)
  · exact .some (h.onIdx fun _ => h.ite h.trumpCmd)
  · exact .some (h.onIdx fun _ => h.dmgAdd)
  · exact .some (h.onIdx fun _ => .ite h.setReg.retrainHead h.setReg)
  · exact .some (h.onIdx fun _ => h.auxStart.ite h)
  · exact .some (h.onIdx fun _ => by
      extract_lets u
      have hu : u.MemoryForm := h.cmdHalt.ite h
      exact .ite hu.cmdRestart hu)
  · exact .some h.setReg
  · exact .none

theorem State.MemoryForm.writeC {r i j v m n} : KeptForm (s.writeC r i j v m n) := by
  unfold State.writeC
  extract_lets _ _ u
  have hu : u.MemoryForm := h.setReg.ltrFrom
  split
  · exact .some h.rampSet
  · exact .some h.coefSet
  · exact .some (h.onIdx fun _ => .ite hu.same hu)
  · exact .some h.setReg.portsReview
  · exact .some h.setReg.portsReview
  · exact .some h.setIdWrite
  · exact .some h.rejoinWrite
  · exact .some (h.onIdx fun _ => h.countWrite)
  · exact .some h.setReg.tmrReview.tmrMsg
  · exact .some h.tmrStart
  · exact .some h.tmrStop
  · exact .some h.tmrReset
  · exact .some h.gpioOut
  · exact .some h.gpioOut
  · exact .some h.setReg.gpioReview
  · exact .some h.setReg.gpioMsg
  · exact .some h.pmcRun
  · exact .some h.pmcRun
  · exact .some h.pmcWrite
  · exact .some h.pmcWrite
  · exact .some (h.onIdx fun _ => h.pmcValue)
  · exact .some (h.onIdx fun _ => h.pmcValue)
  · exact .some h.frzCtl
  · exact .none

theorem State.MemoryForm.writeReg {r i j v m} : (s.writeReg r i j v m).MemoryForm := by
  unfold State.writeReg
  refine h.ite ?_
  extract_lets vm new
  split
  next t e => exact h.writeA t e
  next =>
  split
  next t e => exact h.writeB t e
  next =>
  split
  next t e => exact h.writeC t e
  next => exact h.setReg

theorem State.MemoryForm.bar0Write {a v} : (s.bar0Write a v).MemoryForm := by
  unfold State.bar0Write
  split <;> [exact h; exact h.ite (h.implicitTrick.ite h.writeReg)]

theorem State.MemoryForm.registerWrite {a v b} : (s.registerWrite a v b).MemoryForm :=
  h.bar0Write.ite (h.barWrite fun h => h.bar0Write.ite (h.ite h.freeDetail.logEntry))

/-! ### Host interface -/

theorem State.MemoryForm.stageTarn {k p m} : (s.stageTarn k p m).1.MemoryForm := by
  unfold State.stageTarn
  split
  · exact h
  · split <;> [exact h; (split <;> [exact h.stagePlan; exact h; exact h])]

theorem State.MemoryForm.stageLoad {k q p d} : (s.stageLoad k q p d).1.MemoryForm := by
  unfold State.stageLoad
  split
  · exact h
  · split <;> [exact h; (split <;> [exact h.stageSeq; exact h; exact h])]

theorem State.MemoryForm.stageImage {k d} : (s.stageImage k d).1.MemoryForm := by
  unfold State.stageImage
  extract_lets
  split
  · exact h
  · split <;> [exact h; (split <;> [exact h; (split <;> [exact h.ite h.audStage; exact h])])]

theorem State.MemoryForm.stageSource {x k d} : (s.stageSource x k d).1.MemoryForm := by
  unfold State.stageSource
  split
  · split <;> [exact h.stageLoad; exact h]
  · exact h.stageImage
  · split <;> [exact h.stageTarn; exact h]

theorem State.MemoryForm.tryStage {i} : (s.tryStage i).MemoryForm := by
  unfold State.tryStage
  split
  · exact h
  extract_lets data
  split
  · refine h.ite ?_
    split
    · exact h.endVerdict
    · split
      next t e => exact (h.stageSource.ofFst e).wallForward.complete
      next t e => exact h.stageSource.ofFst e
      next t v e => exact (h.stageSource.ofFst e).endVerdict
  · exact h.complete
  · exact h

theorem State.MemoryForm.startSource {x} : (s.startSource x).MemoryForm := h.emit.modSlot.ite h.modSlot.tryStage

theorem State.MemoryForm.writePairs {x} : (s.writePairs x).MemoryForm :=
  h.foldl fun h => by split <;> [exact h.ite h.writeReg; exact h]

theorem State.MemoryForm.startRegs {x} : (s.startRegs x).MemoryForm := by
  unfold State.startRegs
  extract_lets _ v u
  have hv : v.MemoryForm := by
    unfold v
    split <;> [exact h.ite h.modTrick; exact h]
  have hu : u.MemoryForm := by
    unfold u
    split <;> [exact hv.wallForward; exact hv]
  exact hu.writePairs.complete

theorem State.MemoryForm.startBegin {x} : (s.startBegin x).MemoryForm := h.openTrick.wallForward.complete

theorem State.MemoryForm.startFence {x} : (s.startFence x).MemoryForm := h.modSlot

theorem State.MemoryForm.startQuery {x} : (s.startQuery x).MemoryForm := by
  unfold State.startQuery
  extract_lets _ _ u
  have hu : u.MemoryForm := by
    unfold u
    split <;> [exact h.readEffect; exact h]
  split
  · exact hu.complete
  · exact h.complete
  · exact h.complete
  · exact h.complete
  · exact h.complete

theorem State.MemoryForm.runSlot {x} : (s.runSlot x).MemoryForm := by
  unfold State.runSlot
  split
  · exact h.complete
  · exact h.startBegin
  · exact h.modSlot
  · exact h.startRegs
  · exact h.bltStart
  · exact h.sluStart
  · exact h.playStart
  · exact h.startFence
  · exact h.startQuery
  · exact h.setReg.complete
  · exact h.modSlot.storeAsk
  · exact h.startSource

theorem State.MemoryForm.failCommit {x} : (s.failCommit x).MemoryForm := by
  unfold State.failCommit
  refine .ite ?_ h
  split <;> [exact h.discardTrick; exact h]

theorem State.MemoryForm.closeTrick {x} : (s.closeTrick x).MemoryForm := by
  unfold State.closeTrick
  extract_lets
  split <;> [exact h; exact h.ite h.modTrick]

theorem State.MemoryForm.joinTrick {x} : (s.joinTrick x).1.MemoryForm := by
  unfold State.joinTrick
  extract_lets
  split <;> [(split <;> [exact h.modSlot; exact h.modSlot.closeTrick]); exact h]

theorem State.MemoryForm.startSlot {i} : (s.startSlot i).MemoryForm := by
  unfold State.startSlot
  split
  · exact h
  · extract_lets
    refine h.ite ?_
    split
    · exact h.joinTrick.endVerdict.settleTricks
    · split
      · exact h.joinTrick.endVerdict.settleTricks
      · split
        · exact h.joinTrick.failCommit.endVerdict.settleTricks
        · exact h.joinTrick.runSlot.settleTricks

theorem State.MemoryForm.tryUnit {i} : (s.tryUnit i).MemoryForm := by
  unfold State.tryUnit
  split
  · exact h
  · refine h.ite ?_
    split <;> [exact h.bltStart; exact h.playStart; exact h]

theorem State.MemoryForm.tryFence {i} : (s.tryFence i).MemoryForm := by
  unfold State.tryFence
  split
  · exact h
  · extract_lets
    split <;> [exact h.ite h.complete; exact h]

theorem State.MemoryForm.settleRings : s.settleRings.MemoryForm := h.foldl fun h => (h.ite h.writeHeld).ringDrained

theorem State.MemoryForm.settleRound : s.settleRound.MemoryForm := ((((h.settleTricks.foldl fun h =>
    h.startSlot).foldl fun h => h.tryUnit).foldl fun h => h.tryStage).foldl fun h =>
    h.tryFence).settleTricks.settleShown.settleRings

omit h in
theorem State.MemoryForm.settleRounds : ∀ {n : Nat} {s : State}, s.MemoryForm → (s.settleRounds n).MemoryForm
  | 0, _, h => h
  | n + 1, s, h => by
    unfold State.settleRounds
    exact State.MemoryForm.settleRounds h.settleRound

theorem State.MemoryForm.settle : s.settle.MemoryForm := h.ite h.settleRounds

theorem State.MemoryForm.tookTurn {f r} : (s.tookTurn f r).MemoryForm := h.same

theorem State.MemoryForm.takeFetch {f r} : (s.takeFetch f r).MemoryForm := h.tookTurn.emit.count.modRing.hostWrite

theorem State.MemoryForm.newSlot {t a p} : (s.newSlot t a p).1.MemoryForm := h.same

theorem State.MemoryForm.fetch {t a p} : (s.fetch t a p).MemoryForm := by
  unfold State.fetch
  extract_lets _ u
  have hu : u.1.MemoryForm := h.takeFetch.count.newSlot
  refine h.ite ?_
  split <;> [exact hu.modSlot.settle; exact hu.closeTrick.settle]

theorem State.MemoryForm.fetchFail {f r st a} : (s.fetchFail f r st a).MemoryForm := by
  unfold State.fetchFail
  extract_lets _ u
  have hu : u.MemoryForm := h.takeFetch
  exact h.ite hu.same.newSlot.completeReadFail.settle

theorem State.MemoryForm.hostReadDone {t r} : (s.hostReadDone t r).MemoryForm := by
  unfold State.hostReadDone
  split
  · split <;> [exact h; exact h.fetchFail; exact h.fetchFail]
  · split
    · exact h
    · refine h.ite ?_
      split
      · exact h.ite h.modSlot.count.settle
      · exact h.completeReadFail.settle
      · exact h.completeReadFail.settle

end

end Sys2Proof.Machine
end

section
/-!
PROOF. The canonical form of memory (for O58): the wall.
-/

set_option Elab.async false  -- the joined text is large: no thread per declaration

namespace Sys2Proof.Machine

section
variable {s : State} (h : s.MemoryForm)
include h

omit h in
theorem State.MemoryForm.rxHeads {t d} : ∀ {l : List (Fin 6)} {s : State}, s.MemoryForm → (s.rxHeads t d
    l).1.MemoryForm
  | [], _, h => h
  | n :: l, s, h => by
    unfold State.rxHeads
    extract_lets x
    split
    · exact h
    · split
      next u e => exact State.MemoryForm.rxHeads (h.stageSource.ofFst e)
      next => exact h.stageSource

theorem State.MemoryForm.rxView {n k q} : (s.rxView n k q).MemoryForm := h.stageSeq

omit h in
theorem State.MemoryForm.rxLoads {t d} : ∀ {l : List (Fin 8 × Option (Fin 6))} {s : State}, s.MemoryForm →
    (s.rxLoads t d l).1.MemoryForm
  | [], _, h => h
  | (q, n) :: l, s, h => by
    unfold State.rxLoads
    split
    next u e =>
      have hu : u.MemoryForm := h.stageLoad.ofFst e
      refine State.MemoryForm.rxLoads ?_
      split <;> [exact hu.rxView; exact hu]
    next => exact h.stageLoad

theorem State.MemoryForm.rxRegs {t d} : (s.rxRegs t d).1.MemoryForm := by
  unfold State.rxRegs
  extract_lets ws later
  split
  next => exact h
  next u e => exact (h.stageRegs u e).foldl fun h => h.writeReg

theorem State.MemoryForm.rxStage {t d} : (s.rxStage t d).1.MemoryForm := by
  unfold State.rxStage
  split
  · exact h.rxRegs
  · exact h.rxHeads
  · exact h.rxHeads
  · exact h.rxHeads
  · split <;> [exact h; exact h.stageSource]
  · exact h.rxLoads
  · split
    next u v e => exact h.stageImage.ofFst e
    next => exact h.stageImage
  · exact h

theorem State.MemoryForm.passScene {i k} : (s.passScene i k).MemoryForm := h.castAll.ite h.castDown

theorem State.MemoryForm.modRx {i f} : (s.modRx i f).MemoryForm := h.modCwy

theorem State.MemoryForm.sendReady {i c f} : (s.sendReady i c f).MemoryForm := h.pushPkt

theorem State.MemoryForm.rxReady {i} : (s.rxReady i).MemoryForm := by
  unfold State.rxReady
  split
  · exact h
  · extract_lets u
    have hu : u.MemoryForm := by
      unfold u
      split <;> [exact h.takePlace.ite h; exact h]
    exact h.ite (h.modRx.sendReady.ite (h.ite (.ite hu.modRx.sendReady hu)))

omit h in
theorem State.MemoryForm.rxAdvance {i} : ∀ {n : Nat} {s : State}, s.MemoryForm → (s.rxAdvance i n).MemoryForm
  | 0, _, h => h
  | n + 1, s, h => by
    unfold State.rxAdvance
    split
    · exact h
    split
    · exact h
    refine h.ite ?_
    split
    next u e => exact State.MemoryForm.rxAdvance (h.rxStage.ofFst e).modRx
    next u e => exact h.rxStage.ofFst e
    next u v e => exact (h.rxStage.ofFst e).modRx

theorem State.MemoryForm.rxSettle : s.rxSettle.MemoryForm := h.foldl fun h => h.rxAdvance.rxReady

theorem State.MemoryForm.settleAll : s.settleAll.MemoryForm := .ite h.settle h.settle.rxSettle.settle

theorem State.MemoryForm.rxOpen {i he} : (s.rxOpen i he).1.MemoryForm := by
  unfold State.rxOpen
  extract_lets
  split <;> [exact h.same; exact h.openTrick]

theorem State.MemoryForm.rxDesc {i ind t a p} : (s.rxDesc i ind t a p).MemoryForm := by
  unfold State.rxDesc
  extract_lets
  split <;> [exact h.ite h.rxOpen.modCwy; exact h.modRx]

theorem State.MemoryForm.cwyItem {i x} : (s.cwyItem i x).MemoryForm := by
  unfold State.cwyItem
  extract_lets _ u
  have hu : u.MemoryForm := by
    unfold u
    split <;> [exact h.passScene.rxDesc; exact h.passScene.modRx]
  exact .ite h.passScene hu.settleAll

theorem State.MemoryForm.cwyEnd {i c cr} : (s.cwyEnd i c cr).MemoryForm :=
  .ite h.passScene h.passScene.modRx.settleAll

theorem State.MemoryForm.cwyPrepare {i w} : (s.cwyPrepare i w).MemoryForm := by
  unfold State.cwyPrepare
  extract_lets
  split <;> [exact h.passScene.modTrick; exact h.passScene]

theorem State.MemoryForm.cwyDefer {i w n} : (s.cwyDefer i w n).MemoryForm := by
  unfold State.cwyDefer
  extract_lets
  split <;> [exact h.passScene.modTrick; exact h.passScene]

theorem State.MemoryForm.joinChildren {i} : (s.joinChildren i).MemoryForm := h.foldl fun h => h.modPort

theorem State.MemoryForm.endThrough {i} : (s.endThrough i).MemoryForm := h.modCwy

theorem State.MemoryForm.bumpSeq : s.bumpSeq.MemoryForm := h.modCwy

theorem State.MemoryForm.cwyCommit {i w} : (s.cwyCommit i w).MemoryForm := by
  unfold State.cwyCommit
  extract_lets _ _ w v
  have hw : w.MemoryForm := .ite h.passScene.modCwy h.passScene
  have hv : v.MemoryForm := hw.joinChildren.endThrough.bumpSeq
  split
  · exact hv
  · extract_lets u
    have hu : u.MemoryForm := hv.modCwy.modTrick
    exact .ite hv (.ite hu.commitTrick.reviewMode.settleAll hu.settleAll)

theorem State.MemoryForm.cwyDiscard {i} : (s.cwyDiscard i).MemoryForm := by
  unfold State.cwyDiscard
  extract_lets _ v u
  have hv : v.MemoryForm := h.passScene.foldl fun h => h.modPort
  have hu : u.MemoryForm := by
    unfold u
    split <;> [exact hv.dropTrick.modCwy; exact hv]
  exact hu.endThrough.settleAll

theorem State.MemoryForm.sweepChildren {i} : (s.sweepChildren i).MemoryForm :=
  h.foldl fun h => h.ite (h.benchChild.ite (h.benchChild.ite h))

theorem State.MemoryForm.cwySweep {i} : (s.cwySweep i).MemoryForm := h.passScene.sweepChildren.settleAll

theorem State.MemoryForm.cwyBench {r f} : (s.cwyBench r f).MemoryForm := by
  unfold State.cwyBench
  extract_lets u v
  have hv : v.MemoryForm := State.MemoryForm.modCwy (h.handDiscard.setReg)
  clear_value v
  exact hv.benchBelow.settleAll

theorem State.MemoryForm.cwyRejoin {i t} : (s.cwyRejoin i t).MemoryForm :=
  .ite (h.modCwy.foldl fun h => h.modPort.sendDown.ite h) (h.modCwy.foldl fun h => h.modPort.ite h).castAll

theorem State.MemoryForm.cwyWallInfo {w} : (s.cwyWallInfo w).MemoryForm := by
  unfold State.cwyWallInfo
  extract_lets _ u
  have hu : u.MemoryForm := .ite h.modCwy (.ite h.modCwy.modCwy h.modCwy.modCwy.setReg)
  exact hu.castAll

theorem State.MemoryForm.cwySetId {p i} : (s.cwySetId p i).MemoryForm := .ite h.setF.modCwy.storeAsk h.sendSetId

theorem State.MemoryForm.cwyReady {p i c f} : (s.cwyReady p i c f).MemoryForm := by
  unfold State.cwyReady
  extract_lets
  refine h.ite ?_
  split
  · exact h.benchChild.settleAll
  · exact .ite h.modPort.sendReady h.modPort.settleAll

theorem State.MemoryForm.cwyAlive {p i st j b} : (s.cwyAlive p i st j b).MemoryForm :=
  .ite h.modPort.modPort.admitChild h.modPort

theorem State.MemoryForm.cwyBenched {i r ha} : (s.cwyBenched i r ha).MemoryForm := h.reportBenched

theorem State.MemoryForm.cwyEventIn {i c p f} : (s.cwyEventIn i c p f).MemoryForm := h.logEntry.ite h.pushPkt

theorem State.MemoryForm.childSilent {p} : (s.childSilent p).MemoryForm := h.benchChild.settleAll.ite h

theorem State.MemoryForm.wallCommit {t w} : (s.wallCommit t w).MemoryForm := by
  unfold State.wallCommit
  extract_lets _ w v u
  have hw : w.MemoryForm := h.castWall.joinChildren
  have hv : v.MemoryForm := .ite hw.modCwy hw
  have hu : u.MemoryForm := .ite hv.noteMissed hv
  exact hu.modTrick

theorem State.MemoryForm.wallSweep {t} : (s.wallSweep t).MemoryForm :=
  h.foldl fun h => h.ite ((h.benchChild.ite h).ite (h.benchChild.ite h))

theorem State.MemoryForm.wallDefer {t w} : (s.wallDefer t w).MemoryForm := by
  unfold State.wallDefer
  extract_lets _ _ v _ u
  have hv : v.MemoryForm := .ite h.incF.count h.incF.count.noteMissed
  have hu : u.MemoryForm := hv.modTrick.castWall
  exact .ite hu.castWall.wallSweep hu

omit h in
theorem State.MemoryForm.decide {w} : ∀ {ts : List Trick} {b : Bool} {s : State}, s.MemoryForm → (s.decide w ts
    b).MemoryForm
  | [], _, _, h => h
  | _ :: _, _, _, h =>
    .ite h.decide (.ite h.modTrick.decide (h.wallCommit.decide.ite h.wallDefer.decide))

theorem State.MemoryForm.decisionPoint : s.decisionPoint.MemoryForm := by
  unfold State.decisionPoint
  extract_lets
  split <;> [exact h; exact h.ite h.modCwy.decide.settleAll]

end

end Sys2Proof.Machine
end

section
/-!
PROOF. The canonical form of memory (for O58): what starts units, and the end of a command.
-/

set_option Elab.async false  -- the joined text is large: no thread per declaration

namespace Sys2Proof.Machine

section
variable {s : State} (h : s.MemoryForm)
include h

/-! ### Host commands -/

theorem State.MemoryForm.follow : s.follow.MemoryForm := h.settleAll.audReview

theorem State.MemoryForm.fetchIf {f t a p} : (s.fetchIf f t a p).MemoryForm := h.fetch.follow.ite h

theorem State.MemoryForm.msixWrite {f o v b} : (s.msixWrite f o v b).MemoryForm := by
  unfold State.msixWrite
  extract_lets _ _ _ _ _ u
  have hu : u.MemoryForm := h.same
  exact h.ite (.ite hu.same.msixSend hu)

theorem State.MemoryForm.pageWrite {f o v b} : (s.pageWrite f o v b).MemoryForm :=
  h.ite ((h.knock.ite h).ite ((h.barWrite fun h => h).ite ((h.fnRereg.ite h).ite (h.msixWrite.ite h))))

theorem State.MemoryForm.powerWrite {f v} : (s.powerWrite f v).MemoryForm := by
  unfold State.powerWrite
  extract_lets
  refine h.ite ?_
  split <;> [exact h.same; exact h.same; exact h]

theorem State.MemoryForm.tarnBad {a} : (s.tarnBad a).MemoryForm := h.scramble.incF.faultDev

theorem State.MemoryForm.scrub {c u} : (s.scrub c u).MemoryForm := by
  unfold State.scrub
  extract_lets u
  have hu : u.MemoryForm := h.foldl fun h => h.incF.count.ite h
  split
  · exact hu.foldl fun h => h.tarnBad.ite h
  · exact hu.foldl fun h => h.tarnBad.ite h
  · exact h

theorem State.MemoryForm.bar4Read {o n} : (s.bar4Read o n).MemoryForm := h.ite h.noteWake.emit

theorem State.MemoryForm.bar4Put {w} : (s.bar4Put w).MemoryForm := by
  unfold State.bar4Put
  split <;> [exact h.logEntry; exact h.foldl fun h => h.poke.ite h]

/-! ### Head commands -/

theorem State.MemoryForm.hostSet {r i v m} : (s.hostSet r i v m).MemoryForm := h.barWrite fun h => h.writeReg

theorem State.MemoryForm.wallTicks {n} : (s.wallTicks n).MemoryForm := by
  unfold State.wallTicks
  extract_lets
  split
  · exact h.frameTick
  · extract_lets u
    have hu : u.MemoryForm := .ite h.frameTick h.frameTick.dealerTick
    exact .ite hu.sendWallInfo hu

theorem State.MemoryForm.trumpVia {v n a} : (s.trumpVia v n a).MemoryForm := by
  unfold State.trumpVia
  split
  · exact h.fetch.follow
  · exact (h.tpRun fun h => h.tpHeld fun h => h.tpReg.ite h).follow

theorem State.MemoryForm.tpCloseRun : s.tpCloseRun.MemoryForm := by
  unfold State.tpCloseRun
  extract_lets u
  have hu : u.MemoryForm := h.tpDiscard
  exact hu.same.tpResult

theorem State.MemoryForm.restartWrap {n} : (s.restartWrap n).MemoryForm := by
  unfold State.restartWrap
  extract_lets _ u
  have hu : u.MemoryForm := h.compositionRestart
  exact .ite ((hu.foldl fun h => h.shownAt).reviewMode) hu

theorem State.MemoryForm.auxWrite {n r l a} : (s.auxWrite n r l a).MemoryForm := h.hostSet

/-! ### Commands of the ports -/

theorem State.MemoryForm.counterAdd {k n} : (s.counterAdd k n).MemoryForm := h.pmcBump.ite h

/-! ### The end of a command -/

theorem State.MemoryForm.cycleCounts : s.cycleCounts.MemoryForm := by
  unfold State.cycleCounts
  extract_lets applying u v w
  have hv : v.MemoryForm := h.count.foldl fun h => h.count
  have hw : w.MemoryForm := by
    unfold w
    clear_value applying
    split <;> [exact hv.count; exact hv]
  exact (hw.foldl fun h => h.count.ite h).foldl fun h => h.count.ite h

theorem State.MemoryForm.idle : s.idle.MemoryForm := by
  unfold State.idle
  extract_lets u
  have hu : u.MemoryForm := h.same
  exact .ite hu.same.cycleCounts hu

end

end Sys2Proof.Machine
end

section
/-!
PROOF. The canonical form of memory through every command, and the settlements of O57 and O58.
-/

set_option Elab.async false  -- the joined text is large: no thread per declaration

namespace Sys2Proof.Machine

/-- What a command or a cycle of the block leaves is in canonical form, where it leaves a state at all. -/
def KeepsForm (o : Host.Outcome State Fault Refusal) : Prop := ∀ t, o = .next t → t.MemoryForm

section
variable {s : State} (h : s.MemoryForm)
include h

theorem KeepsForm.next : KeepsForm (.next s) := fun _ e => by
  cases e
  exact h

theorem KeepsForm.follow : KeepsForm (.next s.follow) := .next h.follow

theorem State.MemoryForm.execBeamWaitRelease {q} : KeepsForm (execBeamWaitRelease q s) := by
  refine .next (h.ite ?_)
  split <;> [exact (h.modSeq.ite h.modSeq.seqNext).ite h; exact h]

theorem State.MemoryForm.execSeqHalt {q} : KeepsForm (execSeqHalt q s) :=
  .next (h.seqExec fun h => by split <;> [(split <;> [exact h.beamWait; exact h.modSeq]); exact h.modSeq])

theorem State.MemoryForm.execLandingQueueEntry {q} : KeepsForm (execLandingQueueEntry q s) := by
  refine .next (h.ite ?_)
  split
  · exact h
  · extract_lets v
    have hv : v.MemoryForm := h.modSeq
    clear_value v
    split
    · split <;> [exact .ite hv.same hv.setLive; exact hv]
    · extract_lets _ _ _ u
      have hu : u.MemoryForm := hv.modHead
      split
      · exact .ite (.ite hu.seqLate hu.seqLate) hu
      · exact hu

theorem State.MemoryForm.execSeqRaise {q c} : KeepsForm (execSeqRaise q c s) :=
  .next (h.seqExec fun {u} hu => by
    have hv : ((u.setF (F.SEQ_RAISE_CODE q) c.toNat).incF (F.SEQ_RAISE_COUNT q)).raiseF (F.SEQ_RAISE_PEND q)
        |>.MemoryForm := hu.setF.incF.raiseF
    exact State.MemoryForm.seqNext (.ite hv hv.signal))

theorem State.MemoryForm.exec (c : Instr) : KeepsForm (exec c s) := by
  cases c with
  | pwrOkRise => exact .next h.powerUp
  | pwrOkFall => exact .next h.powerDown
  | resetNPulse => exact .next h.resetPulse
  | glbResetWarm => exact .next (h.barWrite fun h => h.resetWrite)
  | watchdogExpiry => exact .next (h.warmFrom.ite h)
  | pllLock => exact .follow h.pllLock
  | refLost => exact .next h.refLost
  | holdoverExpiry => exact .next h.holdoverEnd
  | slewEnd => exact .next h.slewEnd
  | refReturn => exact .next h.refReturn
  | tempMeasurement => exact .next h.tempMeasure
  | freezeNAssert => exact .next h.frzAssert
  | freezeNRelease => exact .next h.frzUnpin
  | hostLossExpiry => exact .follow h.hostLossExpiry
  | perstNAssert => exact .follow h.perstAssert
  | pcieLinkDown => exact .follow h.linkDown
  | pfFlr => exact .follow h.hifCause
  | vfFlr => exact .follow h.vfFlr
  | poisonedWrite => exact .next h.writeFailed
  | registerWrite dest v be =>
    cases dest with
    | bar0 => exact .follow h.registerWrite
    | page => exact .follow h.pageWrite
    | power => exact .next h.powerWrite
  | frameRead | capRead | ctrLoRead => exact .next h.bar0Read
  | quotaWrite | vecCountWrite | limitWrite | memPoolWrite => exact .follow (h.barWrite fun h => h.writeReg)
  | ringEnable => exact .follow (h.barWrite fun h => h.ringEnable)
  | ringDisable => exact .follow (h.barWrite fun h => h.ringDisable)
  | knock => exact .next h.knock
  | knockStormEnd => exact .next h.knockStormEnd
  | doorbellPoll => exact .next h.doorbellPoll
  | doorbellRecordRead => exact .follow h.recordRead
  | staleRecordReread => exact .next h.staleReread
  | cqFull => exact .next h.cqFull
  | holdoffExpiry => exact .next h.holdoffEnd
  | leaseExpired => exact .follow h.leaseExpired
  | fnRereg => exact .follow h.pageWrite
  | unknownType | nop | trickBegin | trickCommitNext | trickCommitAt | trickCommitDiscard | regWrite | mapUpdate |
  deckUpdate | patternLoad | paletteLoad | seqLoad | blitList | sluice | audioStream | graphLoad | fence |
  queryRegister | queryMode | querySlots | queryFnStatus | queryLastTrick | latTol | journalStore =>
    exact .next h.fetchIf
  | commitCutoff => exact .follow h.commitCutoff
  | applicationEnd => exact .follow h.applicationEnd
  | noHeadApply => exact .follow h.noHeadApply
  | frameWrap => exact .follow h.frameWrap
  | tarnScrub => exact .next h.scrub
  | bar4Read => exact .next h.bar4Read
  | bar4Write => exact .next (h.barWrite fun h => h.bar4Put)
  | composeLineStart => exact .next h.composeLineStart
  | composeChunk => exact .next h.composeChunk
  | evaluationEnd => exact .next (h.evaluationEnd.ite h)
  | scanChunk => exact .next h.scanChunk
  | frameTick => exact .next (h.wallTicks.follow.ite h)
  | trumpSignatureCheck => exact .next h.trumpCheck
  | wbBufferComplete => exact .next h.wbComplete
  | holdLast | holdWrite | dmgAddRect | dmgAddAll | cmdHalt | cmdRestart | retrain | rampSet | coefSet | countWrite
  | tmrStart | tmrStop | tmrReset | gpioOutSet | gpioOutClr | pmcStart | pmcStop => exact .next h.hostSet
  | trumpKeyLoWrite => exact .next (h.barWrite fun h => h.keyLoWrite)
  | keyPresentation => exact .next (h.barWrite fun h => h.presentKey)
  | sessionClose => exact .next (h.barWrite fun h => h.closeSession)
  | rekey => exact .next (h.barWrite fun h => h.armRekey)
  | sessionTimeout => exact .next h.sessionTimeout
  | lockoutEnd => exact .next h.lockoutEnd
  | trumpAck | trumpRelease => exact .next h.trumpVia
  | tpOpen => exact .follow (h.tpRun fun h => h.tpOpen)
  | tpData => exact .follow (h.tpRun fun h => h.tpHeld fun h => h.tpData)
  | tpReg => exact .follow (h.tpRun fun h => h.tpHeld fun h => h.tpReg)
  | tpCommit => exact .follow (h.tpRun fun h => h.tpHeld fun h => h.tpCommit)
  | tpAbort => exact .follow (h.tpRun fun h => h.tpHeld fun h => h.tpDiscard.tpResult)
  | tpClose => exact .follow (h.tpRun fun h => h.tpHeld fun h => h.tpCloseRun)
  | tpStatus => exact .next (h.ite (h.same.ite h.noteWake.tpStatus))
  | tpLeaseExpiry => exact .follow h.tpLease
  | seqHalt => exact h.execSeqHalt
  | seqAdd | seqSub | seqAnd | seqOr | seqXor | seqShl | seqShr | seqSar | seqMul | seqMulf | seqAddi | seqAndi |
  seqOri | seqShli | seqShri | seqSari => exact .next (h.seqExec fun h => h.seqAlu)
  | seqCmp | seqCmpi | seqSt | seqSta => exact .next (h.seqExec fun h => h.modSeq.seqNext)
  | seqMov | seqLdi | seqLui | seqLd | seqLda | seqBeam => exact .next (h.seqExec fun h => h.seqSet)
  | seqBr => exact .next (h.seqExec fun h => h.modSeq.ite h.seqNext)
  | seqDbnz => exact .next (h.seqExec fun h => .ite h.modSeq.modSeq h.modSeq.seqNext)
  | seqCall => exact .next (h.seqExec fun h => h.seqFault.ite h.modSeq)
  | seqRet => exact .next (h.seqExec fun h => by split <;> [exact h.seqFault; exact h.modSeq])
  | seqWaitl | seqWaitlc | seqWaitc | seqWaitn => exact .next (h.seqExec fun h => h.beamWaitOn)
  | beamWaitRelease => exact h.execBeamWaitRelease
  | seqWaitt => exact .next (h.seqExec fun h => .ite h.modSeq.modSeq.seqNext h.modSeq.modSeq)
  | seqSync => exact .next (h.seqExec fun h => h.modSeq.seqNext.ite h.modSeq)
  | seqSig => exact .next (h.seqExec fun h => (h.modSeq.seqNext.ite h.modSeq).seqNext)
  | seqMove | seqMovex | seqMoveb | seqMovebx => exact .next (h.seqExec fun h => h.issueAll)
  | landingQueueEntry q => exact h.execLandingQueueEntry (q := q)
  | voiceOn | voiceOff | rampStart | rampStop => exact .next (h.seqExec fun h => h.issueKey)
  | seqRaise => exact h.execSeqRaise
  | reservedOpcode => exact .next (h.seqFault.ite h)
  | programStart => exact .follow h.seqTurn
  | blankingChangeStart => exact .follow h.blankingStart
  | pgclkRelock => exact .follow h.pgclkRelock
  | linkTrainingDone => exact .follow h.trainingDone
  | trainingRetry => exact .next h.trainingRetry
  | compositionRestart => exact .follow h.restartWrap
  | hpdPlug => exact .follow h.hpdPlug
  | hpdUnplug => exact .follow h.hpdUnplug
  | irqHpd => exact .next h.irqHpd
  | hpdBounceEnd => exact .next h.bounceEnd
  | auxNativeWrite | auxNativeRead | auxI2cWrite | auxI2cRead => exact .next h.auxWrite
  | auxReply => exact .next h.auxReply
  | auxRetry => exact .next h.auxRetry
  | auxStormEnd => exact .next h.stormEnd
  | listReadDone => exact .follow h.listReadDone
  | bltFill | bltCopy | bltCopyKey | bltBlend | bltExpand => exact .next h.cmdRun
  | raceRowRelease => exact .next h.raceRelease
  | bltWatermark => exact .next h.watermark
  | blitListComplete => exact .follow h.listComplete
  | channelGrant => exact .next h.channelGrant
  | stagingBufferGrant => exact .next h.stagingGrant
  | sluiceBurst => exact .next h.sluBurst
  | sluiceDrainDone => exact .follow h.sluDone
  | sluiceAccessFail => exact .follow h.sluFail
  | channelLeaseExpiry => exact .follow h.chanLease
  | audioSampleTick => exact .next (h.audTick.follow.ite h)
  | playerReadDone => exact .next (h.playerRead.follow.ite h)
  | mixEnd => exact .next (h.mixExec fun h => h)
  | mixClr => exact .next (h.mixExec fun h => h.mixClr)
  | mixLd => exact .next (h.mixExec fun h => h.mixLd)
  | mixSt => exact .next (h.mixExec fun h => h.mixSt)
  | mixAdd => exact .next (h.mixExec fun h => h.mixAdd)
  | mixSub => exact .next (h.mixExec fun h => h.mixSub)
  | mixMul => exact .next (h.mixExec fun h => h.mixMul)
  | mixMac => exact .next (h.mixExec fun h => h.mixMac)
  | mixMulr => exact .next (h.mixExec fun h => h.mixMulr)
  | mixMacr => exact .next (h.mixExec fun h => h.mixMacr)
  | mixIn => exact .next (h.mixExec fun h => h.mixIn)
  | mixOut => exact .next (h.mixExec fun h => h.mixOut)
  | mixBiq => exact .next (h.mixExec fun h => h.mixBiq)
  | mixDwr => exact .next (h.mixExec fun h => h.mixDwr)
  | mixDrd => exact .next (h.mixExec fun h => h.mixDrd)
  | mixLim => exact .next (h.mixExec fun h => h.mixLim)
  | mixShr => exact .next (h.mixExec fun h => h.mixShr)
  | mixSat => exact .next (h.mixExec fun h => h.mixSat)
  | sinkSilent => exact .next (h.sinkSilent.ite h)
  | capturePeriod => exact .next (h.capturePeriod.ite h)
  | headsetPlug => exact .next h.hsPlug
  | typeDone => exact .next h.hsTyped
  | headsetUnplug => exact .next h.hsUnplug
  | button => exact .next h.hsReading
  | portBlockLock => exact .next h.blockLock
  | measureDone => exact .next h.measureDone
  | trainingFailure => exact .next h.trainingFailure
  | portRetrain => exact .next h.portStart
  | blockLockLoss => exact .follow h.blockLockLoss
  | replayTimeout => exact .next h.replayTimeout
  | ackInterval => exact .next h.ackInterval
  | freezeRepeat => exact .next h.freezeRepeat
  | cwyTick => exact .next h.cwyTick
  | wallTick => exact .next h.wallTick
  | cwyAck => exact .next h.ackPort
  | cwyNak => exact .next h.nakPort
  | cwyProbe => exact .next h.probe
  | cwyEcho => exact .next h.echo
  | cwyFreeze => exact .next h.cwyFreeze
  | cwyThaw => exact .next h.cwyThaw
  | cwyHello => exact .follow (h.receive fun h => h.hello)
  | cwyWallInfo => exact .follow (h.receiveUp fun h => h.cwyWallInfo)
  | cwyAlive => exact .follow (h.receiveDown fun h => h.cwyAlive)
  | cwyDesc | cwyData => exact .follow (h.receiveUp fun h => h.cwyItem)
  | cwyEnd => exact .follow (h.receiveUp fun h => h.cwyEnd)
  | cwyPrepare => exact .follow (h.receiveUp fun h => h.cwyPrepare)
  | cwyReady => exact .follow (h.receiveDown fun h => h.cwyReady)
  | cwyCommit => exact .follow (h.receiveUp fun h => h.cwyCommit)
  | cwyDefer => exact .follow (h.receiveUp fun h => h.cwyDefer)
  | cwyDiscard => exact .follow (h.receiveUp fun h => h.cwyDiscard)
  | cwySweep => exact .follow (h.receiveUp fun h => h.cwySweep)
  | cwyBench => exact .follow (h.receiveUp fun h => h.cwyBench)
  | cwyBenched => exact .follow (h.receiveDown fun h => h.cwyBenched)
  | cwyRejoin => exact .follow (h.receiveUp fun h => h.cwyRejoin)
  | cwySetId => exact .follow (h.receiveUp fun h => h.cwySetId)
  | cwyEvent => exact .follow (h.receiveDown fun h => h.cwyEventIn)
  | badToken => exact .follow (h.receive fun h => h.badToken)
  | decisionPoint => exact .follow h.decisionPoint
  | childSilent => exact .follow h.childSilent
  | flapHoldEnd => exact .next h.flapHoldEnd
  | cwySetidWrite | cwyRejoinWrite => exact .follow h.hostSet
  | dozeIdleExpiry => exact .next (h.dozeStart.ite h)
  | slumberIdleExpiry => exact .next h.slumberStart
  | entryStepEnd => exact .follow h.entryStepEnd
  | wakeEvent => exact .next h.wakeEvent
  | exitStep => exact .follow h.exitStep
  | journalSnapshot => exact .next h.journalSnapshot
  | snapshotCopyEnd => exact .follow h.snapshotCopyEnd
  | flashOpDone => exact .follow h.flashOpDone
  | flashTimeout => exact .follow h.flashTimeout
  | slotChoice => exact .follow h.slotChoice
  | earlyLoaded => exact .follow h.earlyLoaded
  | sceneRestore => exact .follow h.sceneRestore
  | bootEnd => exact .follow h.bootEnd
  | timerTick | timerCapture => exact .next h.tmrCycle
  | patternMatchEvent => exact .next h.patternMatch
  | counterOverflow => exact .next h.counterAdd
  | userCtrRead => exact .next h.userCtrRead
  | frzSet | frzRelease => exact .next h.frzCtl
  | freezeEntry => exact .next h.freezeEntry
  | freezeReleased => exact .next h.freezeReleased
  | freezeRestartDone => exact .follow h.freezeDone
  | rdDataRead => exact .next h.rdData
  | jtagFrzSel => exact .next h.jtagSel
  | frzData => exact .next h.jtagData
  | frzSel => exact .next (h.smbRun fun h => h.smbSel)
  | frzRead => exact .next (h.smbRun fun h => h.smbRead)
  | frzStat => exact .next (h.smbRun fun h => h.smbStat)
  | pcieLinkUp => exact .next h.linkUp
  | packetCrcFailure => exact .follow h.packetCrc
  | linkLoss => exact .next h.linkLost
  | pllLockLoss => exact .follow h.pllLoss
  | hostReadCompletion => exact .follow h.hostReadDone
  | numvfsWrite => exact .next h.numVfsWrite

end

theorem State.MemoryForm.step {s : State} (h : s.MemoryForm) : KeepsForm (step s) := by
  unfold Machine.step
  split
  · exact .next h.idle
  · exact State.MemoryForm.exec (State.MemoryForm.same h) _

theorem State.reset_tricks : State.reset.trk.tricks = [] := rfl

/-- Settles O57: no memory block is written at reset, and no trick is open. -/
theorem memoryFormAtReset : Obligations.MemoryFormAtReset :=
  ⟨DevMem.wf_reset, fun _ hk => absurd (State.reset_tricks ▸ hk) List.not_mem_nil⟩

/-- Settles O58: what writes the image or a trick's pages, writes through the operations of `DevMem`, which keep the
canonical form. -/
theorem stepKeepsMemoryForm : Obligations.StepKeepsMemoryForm := fun _ _ h => h.step _

end Sys2Proof.Machine
end

section
/-!
PROOF. BAR4 and the scrubber of Tarn (for O30): the bytes of a write and where they land.
-/

set_option Elab.async false  -- the joined text is large: no thread per declaration

namespace Sys2Proof.Machine

/-! ### The window and its bytes (R154) -/

theorem State.apAddr_fst (s : State) (o : Nat) : (s.apAddr o).1 =
    (if s.flag (F.MEM_AP_CTL_TARGET (o / 0x1000000)) then dramBase else 0) +
      s.fld (F.MEM_AP_CTL_BASE (o / 0x1000000)) * 0x10000 + o % 0x1000000 := by
  unfold State.apAddr
  split <;> simp [*, Nat.add_assoc]

/-- Offsets of one window show consecutive addresses. -/
theorem State.apAddr_add (s : State) {o k n : Nat} (h : o % 0x1000000 + n ≤ 0x1000000) (hk : k < n) :
    (s.apAddr (o + k)).1 = (s.apAddr o).1 + k := by
  have hw : (o + k) / 0x1000000 = o / 0x1000000 := by omega
  have ho : (o + k) % 0x1000000 = o % 0x1000000 + k := by omega
  rw [s.apAddr_fst, s.apAddr_fst, hw, ho, Nat.add_assoc _ _ k]

theorem State.frozen_of_attends {s : State} (h : s.attends = true) : s.frozen = false := by
  have halive := State.alive_of_attends h
  simp only [State.alive, Bool.and_eq_true, Bool.not_eq_true'] at halive
  exact halive.2

theorem State.bar4Read_attends {s : State} (h : s.attends = true) (o n : Nat) :
    s.bar4Read o n = s.emit (.bar4Data ((List.range n).map (fun k =>
      if s.present (s.apAddr (o + k)).1 1 then s.mem.read (s.apAddr (o + k)).1 else 0))) := by
  have hlive := State.not_off_of_linked (State.linked_of_alive (State.alive_of_attends h))
  simp [State.bar4Read, State.apRead, hlive, State.noteWake_attends h, State.frozen_of_attends h]

/-! ### The enabled bytes of a write -/

theorem mem_apBytes {o x : Nat} {b : Byte} {bs : List (Option Byte)} :
    (x, b) ∈ apBytes o bs ↔ ∃ k, x = o + k ∧ bs[k]? = some (some b) := by
  simp only [apBytes, List.mem_filterMap, Option.map_eq_some_iff, Prod.mk.injEq]
  constructor
  · rintro ⟨⟨c, k⟩, hc, b', rfl, rfl, rfl⟩
    exact ⟨k, rfl, by simpa using List.mem_zipIdx_iff_getElem?.1 hc⟩
  · rintro ⟨k, rfl, hk⟩
    exact ⟨(some b, k), List.mem_zipIdx_iff_getElem?.2 hk, b, rfl, rfl, rfl⟩

theorem apBytes_cons (o : Nat) (b : Option Byte) (bs : List (Option Byte)) :
    apBytes o (b :: bs) = (b.map (fun v => (o, v))).toList ++ apBytes (o + 1) bs := by
  have hshift : (bs.zipIdx 1).filterMap (fun e => e.1.map (fun v => (o + e.2, v))) = apBytes (o + 1) bs := by
    rw [apBytes, List.zipIdx_succ, List.filterMap_map]
    exact List.filterMap_congr fun e _ => by simp [Nat.add_assoc, Nat.add_comm 1]
  rw [← hshift]
  cases b <;> rfl

/-- Renaming offsets that stay consecutive. -/
theorem map_apBytes (g : Nat → Nat) {o a : Nat} {bs : List (Option Byte)}
    (hg : ∀ k < bs.length, g (o + k) = a + k) :
    (apBytes o bs).map (fun w => (g w.1, w.2)) = apBytes a bs := by
  induction bs generalizing o a with
  | nil => rfl
  | cons b bs ih =>
    have hrest := ih (o := o + 1) (a := a + 1) fun k hk => by
      rw [Nat.add_right_comm, Nat.add_assoc, hg (k + 1) (by simpa using hk), Nat.add_right_comm, Nat.add_assoc]
    have hfirst : g o = a := hg 0 (by simp)
    rw [apBytes_cons, apBytes_cons, List.map_append, hrest]
    cases b <;> simp [hfirst]

/-! ### Bytes that land in memory (R155) -/

/-- Memory after the bytes of `ws` at the addresses that `p` admits. -/
def DevMem.land (p : Nat → Bool) (m : DevMem) (ws : List (Nat × Byte)) : DevMem :=
  ws.foldl (fun m w => if p w.1 then m.write w.1 w.2 else m) m

theorem DevMem.read_write {m : DevMem} (h : m.wf = true) (a : Nat) (b : Byte) (x : Nat) :
    (m.write a b).read x = if x = a then b else m.read x := by
  rw [DevMem.write, DevMem.read_writeBytes h]
  by_cases hx : x = a
  · simp [hx]
  · rw [if_neg hx, if_neg (by simp; omega)]

theorem DevMem.wf_land {p : Nat → Bool} {m : DevMem} (h : m.wf = true) (ws : List (Nat × Byte)) :
    (m.land p ws).wf = true :=
  List.foldlRecOn (motive := fun m : DevMem => m.wf = true) ws _ h fun _ hm w _ => by
    split <;> [exact DevMem.wf_write hm _ _; exact hm]

theorem DevMem.land_append (p : Nat → Bool) (m : DevMem) (vs ws : List (Nat × Byte)) :
    m.land p (vs ++ ws) = (m.land p vs).land p ws := List.foldl_append

/-- A byte reads as the write gives it where one is enabled and admitted, and as before elsewhere. -/
theorem DevMem.read_land {p : Nat → Bool} {bs : List (Option Byte)} {a : Nat} {m : DevMem} (h : m.wf = true)
    (x : Nat) : (m.land p (apBytes a bs)).read x = (if a ≤ x ∧ x < a + bs.length ∧ p x = true
      then (bs[x - a]?).join else none).getD (m.read x) := by
  induction bs generalizing a m with
  | nil => rw [if_neg (by simp; omega)]; rfl
  | cons b bs ih =>
    have hfirst : (m.land p (b.map (fun v => (a, v))).toList).read x =
        (if x = a ∧ p a = true then b else none).getD (m.read x) := by
      cases b with
      | none => simp [DevMem.land]
      | some v => by_cases hp : p a = true <;> by_cases hx : x = a <;> simp [DevMem.land, DevMem.read_write h, hp, hx]
    rw [apBytes_cons, DevMem.land_append, ih (DevMem.wf_land h _), hfirst]
    rcases Nat.lt_trichotomy x a with hx | rfl | hx
    · rw [if_neg (by omega), if_neg (by omega), if_neg (by omega)]
      rfl
    · rw [if_neg (by omega)]
      simp
    · have hnext : (b :: bs)[x - a]? = bs[x - (a + 1)]? := by
        rw [show x - a = x - (a + 1) + 1 by omega, List.getElem?_cons_succ]
      have hin : (a ≤ x ∧ x < a + (b :: bs).length ∧ p x = true) ↔
          (a + 1 ≤ x ∧ x < a + 1 + bs.length ∧ p x = true) := by
        rw [List.length_cons]
        exact ⟨fun ⟨_, _, hp⟩ => ⟨hx, by omega, hp⟩, fun ⟨_, _, hp⟩ => ⟨by omega, by omega, hp⟩⟩
      simp only [hnext, hin, Nat.ne_of_gt hx, false_and, if_false, Option.getD_none]

/-- The stores of a BAR4 write change memory alone. -/
theorem State.bar4_stores (s : State) (ws : List (Nat × Byte)) :
    ws.foldl (fun s w => if s.present (s.apAddr w.1).1 1 then s.poke (s.apAddr w.1).1 [w.2] else s) s =
      { s with mem := s.mem.land (fun a => s.present a 1) (ws.map (fun w => ((s.apAddr w.1).1, w.2))) } := by
  induction ws generalizing s with
  | nil => rfl
  | cons w ws ih =>
    rw [List.foldl_cons, ih]
    by_cases hp : s.present (s.apAddr w.1).1 1 = true
    · simp only [hp, if_true, List.map_cons, DevMem.land, List.foldl_cons]
      rfl
    · simp only [hp, List.map_cons, DevMem.land, List.foldl_cons]
      rfl

theorem State.bar4Put_stored {s : State} {o : Nat} {bs : List (Option Byte)}
    (hw : o % 0x1000000 + bs.length ≤ 0x1000000)
    (hno : ∀ k b, bs[k]? = some (some b) → s.touchesTrump (s.apAddr (o + k)).1 1 = false) :
    s.bar4Put (apBytes o bs) =
      { s with mem := s.mem.land (fun a => s.present a 1) (apBytes (s.apAddr o).1 bs) } := by
  have hfind : (apBytes o bs).find? (fun w => s.touchesTrump (s.apAddr w.1).1 1) = none := by
    refine List.find?_eq_none.2 fun w hm => ?_
    obtain ⟨k, hk, hb⟩ := mem_apBytes.1 hm
    simp [hk, hno k _ hb]
  rw [State.bar4Put, hfind]
  simp only [s.bar4_stores, map_apBytes (fun o => (s.apAddr o).1) fun k hk => s.apAddr_add hw hk]

/-- A write that touches a trump region is dropped and logged. -/
theorem State.bar4Put_dropped {s : State} {o k : Nat} {b : Byte} {bs : List (Option Byte)}
    (hb : bs[k]? = some (some b)) (ht : s.touchesTrump (s.apAddr (o + k)).1 1 = true) :
    ∃ a, s.bar4Put (apBytes o bs) = s.logEntry 0 0xFF 0 0x0D a := by
  have hmem : (o + k, b) ∈ apBytes o bs := mem_apBytes.2 ⟨k, rfl, hb⟩
  obtain ⟨w, hw⟩ := Option.isSome_iff_exists.1 (List.find?_isSome (p := fun w : Nat × Byte =>
    s.touchesTrump (s.apAddr w.1).1 1).2 ⟨_, hmem, ht⟩)
  exact ⟨(s.apAddr w.1).1, by rw [State.bar4Put, hw]⟩

/-! ### The scrubber (R143) -/

theorem State.scrub_working {s : State} (hw : s.working = true) (hf : s.glob.mode ≠ .fallback) (l m : List Nat) :
    s.scrub l m = m.foldl (fun s a => if a < 0x4000000 then s.tarnBad a else s)
      (l.foldl (fun s a => if a < 0x4000000
        then (s.incF F.MEM_ECC_CORR).count 0x45 0 1 { addr := some a } else s) s) := by
  unfold State.working at hw
  unfold State.scrub
  split at hw <;> simp_all

theorem State.scrubbed_corr (s : State) (x : Attr) :
    let t := (s.incF F.MEM_ECC_CORR).count 0x45 0 1 x
    t = { s with regs := t.regs, pba := t.pba, pmc := t.pmc, out := t.out } ∧
      t.fld F.MEM_ECC_CORR = min (s.fld F.MEM_ECC_CORR + 1) 0xFFFF := by
  intro t
  have hc : Counted (s.incF F.MEM_ECC_CORR) t := State.count_counted _ _ _ _ _
  refine ⟨by rw [hc.1]; rfl, ?_⟩
  rw [hc.fld (by decide), State.incF, State.fld_setF_self _ _ (by simp)]
  exact Nat.mod_eq_of_lt (by simp)

theorem State.tarnBad_spec {s : State} (hm : s.mem.wf = true) (a : Nat) :
    let t := s.tarnBad a
    t = { s with regs := t.regs, pba := t.pba, pmc := t.pmc, mem := t.mem, dbg := t.dbg, out := t.out
                 free := t.free } ∧
      (∀ x, x < a / 8 * 8 ∨ a / 8 * 8 + 8 ≤ x → t.mem.read x = s.mem.read x) ∧
      t.fld F.MEM_ECC_UNCORR = min (s.fld F.MEM_ECC_UNCORR + 1) 0xFFFF := by
  intro t
  have hr : Recorded ((s.scramble (a / 8 * 8) (a / 8 * 8 + 8)).incF F.MEM_ECC_UNCORR) t :=
    State.faultDev_recorded _ _ _ _ _
  refine ⟨by rw [hr.1]; rfl, fun x hx => ?_, ?_⟩
  · rw [hr.mem]
    exact DevMem.read_fill_outside hm hx _
  · rw [hr.fld (by decide), State.incF, State.fld_setF_self _ _ (by simp)]
    exact Nat.mod_eq_of_lt (by simp)

theorem State.scrub_corrected {s : State} (hw : s.working = true) (hf : s.glob.mode ≠ .fallback) {a : Nat}
    (ha : a < 0x4000000) :
    s.scrub [a] [] = (s.incF F.MEM_ECC_CORR).count 0x45 0 1 { addr := some a } := by
  simp only [State.scrub_working hw hf, List.foldl_cons, List.foldl_nil, ha, if_true]

theorem State.scrub_uncorrectable {s : State} (hw : s.working = true) (hf : s.glob.mode ≠ .fallback) {a : Nat}
    (ha : a < 0x4000000) : s.scrub [] [a] = s.tarnBad a := by
  simp only [State.scrub_working hw hf, List.foldl_cons, List.foldl_nil, ha, if_true]

/-- Settles O30: a write is the list of its enabled bytes, which land at consecutive addresses. -/
theorem tarnAperture : Obligations.TarnAperture := by
  intro s o n bs a h hm at_
  have hat : at_ = fun o => (s.apAddr o).1 := funext fun o => (s.apAddr_fst o).symm
  clear_value at_
  subst hat
  have hput : exec (.bar4Write o bs) s = .next (s.bar4Put (apBytes o.toNat bs)) :=
    congrArg Host.Outcome.next (State.barWrite_attends h _ _)
  refine ⟨congrArg Host.Outcome.next (State.bar4Read_attends h _ n),
    fun hw => ⟨fun hno => ?_, fun k b hb ht => ?_⟩, fun hwork hfb ha => ⟨?_, ?_⟩⟩
  · exact ⟨_, hput.trans (congrArg _ (State.bar4Put_stored hw hno)), rfl, DevMem.wf_land hm _,
      DevMem.read_land hm⟩
  · obtain ⟨detail, hdrop⟩ := State.bar4Put_dropped hb ht
    exact ⟨_, hput.trans (congrArg _ hdrop), (s.logEntry_frame 0 _ _ _ _).1, s.logEntry_total 0 _ _ _ _⟩
  · exact ⟨_, congrArg Host.Outcome.next (State.scrub_corrected hwork hfb ha), s.scrubbed_corr _⟩
  · exact ⟨_, congrArg Host.Outcome.next (State.scrub_uncorrectable hwork hfb ha), State.tarnBad_spec hm a⟩

end Sys2Proof.Machine
end

section
/-!
PROOF. Runs of bytes and arrays of 24-bit words (for O31 and O32): a run reads byte by byte, a part of it is the run
of the part, and a run that was written reads as written.
-/

set_option Elab.async false  -- the joined text is large: no thread per declaration

namespace Sys2Proof.Machine

/-! ### Reading a run -/

theorem walkBytes_eq (d : Nat → Byte) : ∀ (n : Nat) (cs : List Host.Cell) (a : Nat), Rising cs →
    (∀ c ∈ cs, a ≤ c.1) →
    walkBytes d n cs a = (List.range n).map (fun k => (cellFind cs (a + k)).getD (d (a + k)))
  | 0, _, _, _, _ => rfl
  | n + 1, [], a, _, _ => by
    rw [walkBytes, walkBytes_eq d n [] (a + 1) .nil (by simp), List.range_succ_eq_map]
    simp [cellFind, Nat.add_assoc, Nat.add_comm 1]
  | n + 1, c :: cs, a, hr, hlo => by
    obtain ⟨hc, hrest⟩ := List.pairwise_cons.1 hr
    have ha : a ≤ c.1 := hlo c (by simp)
    rw [walkBytes, List.range_succ_eq_map]
    split
    next e =>
      rw [walkBytes_eq d n cs (a + 1) hrest (fun x hx => e ▸ hc x hx)]
      simp [cellFind, e, Nat.add_assoc, Nat.add_comm 1]
    next e =>
      have hfirst : cellFind (c :: cs) a = none := by rw [cellFind, if_neg (by omega), if_pos (by omega)]
      have hnext : ∀ x ∈ c :: cs, a + 1 ≤ x.1 := fun x hx => by
        rcases List.mem_cons.1 hx with rfl | hx
        · omega
        · have := hc x hx; omega
      rw [walkBytes_eq d n (c :: cs) (a + 1) hr hnext]
      simp [hfirst, Nat.add_assoc, Nat.add_comm 1]

theorem DevMem.cellFind_slice {m : DevMem} (h : m.wf = true) {lo hi x : Nat} (hx : lo ≤ x ∧ x < hi) :
    cellFind (m.slice lo hi).cells x = cellFind m.cells x :=
  cellFind_congr ((DevMem.wf_iff _).1 (DevMem.wf_slice h lo hi)).1 (m.wf_iff.1 h).1 x fun v => by
    simp [DevMem.slice, hx]

theorem DevMem.readBytes_eq {m : DevMem} (h : m.wf = true) (a n : Nat) :
    m.readBytes a n = (List.range n).map (fun k => m.read (a + k)) := by
  have hs := ((DevMem.wf_iff _).1 (DevMem.wf_slice h a (a + n))).1
  rw [DevMem.readBytes, walkBytes_eq _ _ _ _ hs fun c hc => ?_]
  · refine List.map_congr_left fun k hk => ?_
    have := List.mem_range.1 hk
    rw [DevMem.cellFind_slice h (by omega), DevMem.read]
  · have hrange := (List.mem_filter.1 hc).2
    simp only [Bool.and_eq_true, decide_eq_true_eq] at hrange
    exact hrange.1

/-- A part of a run is the run of the part. -/
theorem DevMem.readBytes_part {m : DevMem} (h : m.wf = true) (a : Nat) {n i j : Nat} (hij : i + j ≤ n) :
    ((m.readBytes a n).drop i).take j = m.readBytes (a + i) j := by
  simp only [DevMem.readBytes_eq h]
  refine List.ext_getElem (by simp; omega) fun k _ _ => by simp [Nat.add_assoc]

/-- A run reads as the bytes that stand there. -/
theorem DevMem.readBytes_of_reads {m : DevMem} (h : m.wf = true) {a : Nat} {bs : List Byte}
    (hr : ∀ k < bs.length, m.read (a + k) = bs.getD k 0) : m.readBytes a bs.length = bs := by
  rw [DevMem.readBytes_eq h]
  refine List.ext_getElem (by simp) fun k hk _ => ?_
  simp only [List.length_map, List.length_range] at hk
  simp [hr k hk, hk]

/-! ### 24-bit words -/

theorem ofLe_leBytes : ∀ n v : Nat, ofLe (leBytes n v) = v % 256 ^ n
  | 0, v => by simp [leBytes, ofLe, Nat.mod_one]
  | n + 1, v => by
    rw [leBytes, ofLe, ofLe_leBytes n, Nat.pow_succ', Nat.mod_mul]
    simp

theorem length_leBytes : ∀ n v : Nat, (leBytes n v).length = n
  | 0, _ => rfl
  | n + 1, v => by rw [leBytes, List.length_cons, length_leBytes n]

/-- A word spelt out in its three bytes reads as that word (R18, R165). -/
theorem DevMem.word24_of_reads {m : DevMem} (h : m.wf = true) {base k : Nat} {v : W24}
    (hr : ∀ j < 3, m.read (base + 3 * k + j) = (leBytes 3 v.toNat).getD j 0) : m.word24 base k = v := by
  have hlen := length_leBytes 3 v.toNat
  have hrun : m.readBytes (base + 3 * k) 3 = leBytes 3 v.toNat := by
    conv_lhs => rw [← hlen]
    exact DevMem.readBytes_of_reads h (by rwa [hlen])
  apply BitVec.eq_of_toNat_eq
  rw [DevMem.word24, hrun, ofLe_leBytes, BitVec.toNat_ofNat]
  have := v.isLt
  omega

end Sys2Proof.Machine
end

section
/-!
PROOF. Records of the compose beam (for O31 and O32): what the checks, counts and fault records made while a line is
started or composed leave as it was.
-/

set_option Elab.async false  -- the joined text is large: no thread per declaration

namespace Sys2Proof.Machine

/-! ### The relation -/

/-- Registers that the beam's records of head `n` are made in, OBJ_STAT aside. -/
def lineRegs (n : Fin 6) : List Nat :=
  [RegId.addr .PACE_STAT n 0, RegId.addr .PACE_LATE n 0, RegId.addr .PACE_SHED_TOTAL n 0,
   RegId.addr .PACE_LOW_TOTAL n 0, RegId.addr .PLANE_STAT n 0, RegId.addr .MELD_STAT n 0, RegId.addr .TRUMP_STAT n 0,
   RegId.addr .OBJ_OVF_TOTAL n 0, RegId.addr .OBJ_OVF_FIRST n 0, RegId.addr .MEM_FEN_ERR 0 0] ++ faultRegs

/-- Registers that an evaluation on head `n` is made with (R206, R213). -/
def evalRegs (n : Fin 6) : List Nat :=
  [RegId.addr .OBJ_CTL n 0, RegId.addr .OBJ_DECK n 0, RegId.addr .OBJ_COUNT n 0, RegId.addr .OBJ_OFS n 0,
   RegId.addr .MEM_POOL 0 0]

theorem objStat_notMem_lineRegs : ∀ n : Fin 6, RegId.addr .OBJ_STAT n 0 ∉ lineRegs n := by decide +kernel

theorem evalRegs_notMem_lineRegs :
    ∀ n : Fin 6, ∀ a ∈ evalRegs n, a ∉ RegId.addr .OBJ_STAT n 0 :: lineRegs n := by decide +kernel

/-- A head but for its totals, the planes found in breach and the mark of a shed line. -/
def HeadSt.core (h : HeadSt) : HeadSt := { h with tot := {}, badPl := 0, marked := false }

theorem HeadSt.filterQueue_nil {h : HeadSt} (hq : h.queue = []) (p : Landing → Bool) :
    { h with queue := h.queue.filter p } = h := by
  cases h
  cases hq
  rfl

/-- What an evaluation reads beside its registers, and the tricks. -/
def State.lineView (s : State) := (s.part, s.live, s.mem, s.oldPages, s.trk)

theorem State.lineView_eq_iff {s t : State} : t.lineView = s.lineView ↔
    t.part = s.part ∧ t.live = s.live ∧ t.mem = s.mem ∧ t.oldPages = s.oldPages ∧ t.trk = s.trk := by
  simp only [State.lineView, Prod.mk.injEq]

/-- From `s` to `t` records of head `n` were made: the view, the other heads, and the head but for its totals and marks
stay, and no overflow that shows goes away. -/
structure LineNoted (n : Fin 6) (s t : State) : Prop where
  view : t.lineView = s.lineView
  regs : RegsKept (RegId.addr .OBJ_STAT n 0 :: lineRegs n) s t
  others : ∀ m, m ≠ n → t.head m = s.head m
  self : (t.head n).core = (s.head n).core
  ovf : s.flag (F.OBJ_STAT_OVF n) = true → t.flag (F.OBJ_STAT_OVF n) = true

section
variable {n : Fin 6} {s t u : State}

theorem LineNoted.refl : LineNoted n s s := ⟨rfl, .refl _ _, fun _ _ => rfl, rfl, id⟩

theorem LineNoted.trans (h : LineNoted n s t) (k : LineNoted n t u) : LineNoted n s u :=
  ⟨k.view.trans h.view, h.regs.trans k.regs, fun m hm => (k.others m hm).trans (h.others m hm),
    k.self.trans h.self, fun ho => k.ovf (h.ovf ho)⟩

theorem LineNoted.ite {c : Prop} [Decidable c] (h : LineNoted n s t) (k : LineNoted n s u) :
    LineNoted n s (if c then t else u) := by
  split <;> [exact h; exact k]

theorem LineNoted.foldl {α : Type} {f : State → α → State}
    (hf : ∀ {t a}, LineNoted n s t → LineNoted n s (f t a)) {l : List α} (h : LineNoted n s t) :
    LineNoted n s (l.foldl f t) :=
  List.foldlRecOn (motive := LineNoted n s) l f h fun _ ht _ _ => hf ht

/-- A step that changes only registers for records. -/
theorem LineNoted.step (h : LineNoted n s t) (hv : u.lineView = t.lineView) (hh : u.heads = t.heads)
    (hr : RegsKept (lineRegs n) t u) : LineNoted n s u := by
  have hpart : u.part = t.part := congrArg Prod.fst hv
  have hstat : u.flag (F.OBJ_STAT_OVF n) = t.flag (F.OBJ_STAT_OVF n) := State.flag_of_fld (by
    simp only [State.fld, hr.reg hpart (objStat_notMem_lineRegs n)])
  exact h.trans ⟨hv, hr.mono fun _ ha => .tail _ ha, fun m _ => State.head_of_heads hh m,
    congrArg HeadSt.core (State.head_of_heads hh n), fun ho => hstat.trans ho⟩

theorem LineNoted.recorded (h : LineNoted n s t) (c : Recorded t u) : LineNoted n s u :=
  h.step (by simp only [State.lineView, c.part, c.live, c.mem, c.oldPages, c.trk]) c.heads
    (c.2.1.mono fun _ ha => List.mem_append_right _ ha)

/-- The same run of memory is written on both sides. -/
theorem LineNoted.poke (h : LineNoted n s t) (a : Nat) (bs : List Byte) : LineNoted n (s.poke a bs) (t.poke a bs) := by
  obtain ⟨hpart, hlive, hmem, hpages, htrk⟩ := State.lineView_eq_iff.1 h.view
  refine ⟨State.lineView_eq_iff.2 ⟨hpart, hlive, ?_, hpages, htrk⟩, h.regs, h.others, h.self, h.ovf⟩
  exact congrArg (fun m : DevMem => m.writeBytes a bs) hmem

/-- The head changes on both sides, but for its totals and marks to the same. -/
theorem LineNoted.modHead_both (h : LineNoted n s t) {f g : HeadSt → HeadSt}
    (hfg : (g (t.head n)).core = (f (s.head n)).core) : LineNoted n (s.modHead n f) (t.modHead n g) :=
  ⟨h.view, h.regs, fun m hm => by rw [State.head_modHead_ne _ hm, State.head_modHead_ne _ hm, h.others m hm],
    by rw [State.head_modHead_self, State.head_modHead_self, hfg], h.ovf⟩

end

section
variable {n : Fin 6} {s t : State} (h : LineNoted n s t)
include h

theorem LineNoted.setF {f : Fld} {v : Nat} (hf : f.id.addr f.i f.j ∈ lineRegs n := by simp [lineRegs]) :
    LineNoted n s (t.setF f v) := h.step rfl rfl (.setReg t _ _ _ _ hf)

theorem LineNoted.raiseF {f : Fld} (hf : f.id.addr f.i f.j ∈ lineRegs n := by simp [lineRegs]) :
    LineNoted n s (t.raiseF f) := h.setF hf

theorem LineNoted.incF {f : Fld} {k : Nat} (hf : f.id.addr f.i f.j ∈ lineRegs n := by simp [lineRegs]) :
    LineNoted n s (t.incF f k) := h.setF hf

/-- A flag of OBJ_STAT is raised. -/
theorem LineNoted.raiseObj {f : Fld} (hid : f.id = .OBJ_STAT) (hi : f.i = n) (hj : f.j = 0)
    (ho : t.flag (F.OBJ_STAT_OVF n) = true → (t.raiseF f).flag (F.OBJ_STAT_OVF n) = true) :
    LineNoted n s (t.raiseF f) :=
  h.trans ⟨rfl, .setReg t _ _ _ _ (by simp [hid, hi, hj]), fun _ _ => rfl, rfl, ho⟩

theorem LineNoted.raiseOvf : LineNoted n s (t.raiseF (F.OBJ_STAT_OVF n)) :=
  h.raiseObj rfl rfl rfl fun _ => t.flag_raiseF_self (by simp) rfl

theorem LineNoted.raiseBesideOvf {f : Fld} (hf : f.Apart (F.OBJ_STAT_OVF n)) : LineNoted n s (t.raiseF f) := by
  obtain ⟨-, hid, hi, hj, -⟩ := id hf
  exact h.raiseObj hid.symm hi.symm hj.symm fun ho => (t.flag_setF_apart hf 1).trans ho

/-- The totals and marks of the head change. -/
theorem LineNoted.modHead {f} (hf : ∀ x : HeadSt, (f x).core = x.core := by exact fun _ => rfl) :
    LineNoted n s (t.modHead n f) :=
  h.trans ⟨rfl, .refl _ _, fun _ hm => t.head_modHead_ne hm f, by rw [State.head_modHead_self, hf], id⟩

theorem LineNoted.modTot {f} : LineNoted n s (t.modTot n f) := h.modHead

theorem LineNoted.count {c i k a} : LineNoted n s (t.count c i k a) := h.recorded (t.count_counted _ _ _ _).recorded

theorem LineNoted.faultHead {m c i l p d} : LineNoted n s (t.faultHead m c i l p d) :=
  h.recorded (t.fault_recorded _ _ _ _ _ _ _)

/-! ### What stays -/

theorem LineNoted.part : t.part = s.part := congrArg Prod.fst h.view
theorem LineNoted.live : t.live = s.live := congrArg (·.2.1) h.view
theorem LineNoted.mem : t.mem = s.mem := congrArg (·.2.2.1) h.view
theorem LineNoted.oldPages : t.oldPages = s.oldPages := congrArg (·.2.2.2.1) h.view
theorem LineNoted.trk : t.trk = s.trk := congrArg (·.2.2.2.2) h.view

theorem LineNoted.reg {r : RegId} {i j : Nat} (ha : r.addr i j ∈ evalRegs n) : t.reg r i j = s.reg r i j :=
  h.regs.reg h.part (evalRegs_notMem_lineRegs n _ ha)

theorem LineNoted.useReg {r : RegId} {i j : Nat} (ha : r.addr i j ∈ evalRegs n) :
    t.useReg r i j = s.useReg r i j := by
  rw [State.useReg, State.useReg, h.reg ha, h.live]

theorem LineNoted.tarnTop : t.tarnTop = s.tarnTop := by
  simp only [State.tarnTop, State.poolUnits, State.fld, h.reg (r := .MEM_POOL) (i := 0) (j := 0) (by simp [evalRegs])]

theorem LineNoted.evaluates : t.evaluates n = s.evaluates n := by
  have huse : t.use (F.OBJ_CTL_EN n) = s.use (F.OBJ_CTL_EN n) := by
    simp only [State.use, h.useReg (r := .OBJ_CTL) (i := n) (j := 0) (by simp [evalRegs])]
  have hfb : (t.head n).fb = (s.head n).fb := (congrArg HeadSt.fb h.self :)
  have hcoast : (t.head n).coast = (s.head n).coast := (congrArg HeadSt.coast h.self :)
  have hearly : (t.head n).early = (s.head n).early := (congrArg HeadSt.early h.self :)
  simp only [State.evaluates, huse, hfb, hcoast, hearly]

/-! ### Checks of a line -/

theorem LineNoted.landAt (hq : (s.head n).queue = []) (col : Nat) : LineNoted n s (t.landAt n col) := by
  have hnone : (t.head n).queue = [] := (congrArg HeadSt.queue h.self).trans hq
  unfold State.landAt
  simp only [hnone, List.filter_nil, List.foldl_nil, List.isEmpty_nil, if_true]
  exact h.trans ⟨rfl, .refl _ _, fun _ hm => t.head_modHead_ne hm _, by
    rw [State.head_modHead_self]; exact congrArg HeadSt.core (HeadSt.filterQueue_nil hnone _), id⟩

theorem LineNoted.planeFault {p l k} : LineNoted n s (t.planeFault n p l k) := h.ite h.modTot.faultHead

theorem LineNoted.breachChecks {l mid} : LineNoted n s (t.breachChecks n l mid) :=
  h.ite (h.foldl fun h => h.modHead.setF.planeFault)

theorem LineNoted.meldCheck {l} : LineNoted n s (t.meldCheck n l) := by
  unfold State.meldCheck
  extract_lets
  refine h.ite ?_
  split <;> [exact .ite h.raiseF h.raiseF.modTot.faultHead; exact h]

theorem LineNoted.lineChecks {l} : LineNoted n s (t.lineChecks n l) := by
  unfold State.lineChecks
  extract_lets checked
  have hchecked : LineNoted n s checked := h.modHead.breachChecks
  exact .ite hchecked.raiseF hchecked

theorem LineNoted.judgeLine {y l past} : LineNoted n s (t.judgeLine n y l past) := by
  unfold State.judgeLine
  extract_lets h0 direct marked noted total late shed low
  have htotal : LineNoted n s total := h.modHead.modTot
  have hlate : LineNoted n s late := .ite htotal.incF.count htotal
  have hshed : LineNoted n s shed := .ite hlate.incF.raiseF.count hlate
  have hlow : LineNoted n s low := hshed.incF.raiseF
  exact .ite (.ite hlow hlow.modTot.faultHead) hshed

theorem LineNoted.fenErrors {l x es} : LineNoted n s (t.fenErrors n l x es) := h.foldl fun h => by
  extract_lets counted first noted
  have hnoted : LineNoted n s noted := h.incF.modTot
  exact h.ite (.ite hnoted hnoted.faultHead)

theorem LineNoted.keepHeaders {bs} : LineNoted n s (t.keepHeaders n bs) := h.foldl fun h => h.ite h.modTot

end

end Sys2Proof.Machine
end

section
/-!
PROOF. Line starts and object lists (for O31): the deck as an evaluation reads it, the order of the list, and what the
start of a line and the end of an evaluation come to.
-/

set_option Elab.async false  -- the joined text is large: no thread per declaration

namespace Sys2Proof.Machine

/-! ### Front-to-back order (R198) -/

theorem ObjSel.prio_lt (o : ObjSel) : o.prio < 4 := Nat.mod_lt _ (by decide)

theorem mem_frontFirst {l : List ObjSel} {o : ObjSel} : o ∈ frontFirst l ↔ o ∈ l := by
  have := o.prio_lt
  simp only [frontFirst, List.mem_flatMap, List.mem_filter, decide_eq_true_eq]
  exact ⟨fun ⟨_, _, ho, _⟩ => ho, fun ho => ⟨o.prio, by simp; omega, ho, rfl⟩⟩

theorem length_frontFirst (l : List ObjSel) : (frontFirst l).length = l.length := by
  induction l with
  | nil => rfl
  | cons o l ih =>
    have hprio : o.prio = 3 ∨ o.prio = 2 ∨ o.prio = 1 ∨ o.prio = 0 := by have := o.prio_lt; omega
    simp only [frontFirst, List.flatMap_cons, List.flatMap_nil, List.length_append, List.length_nil,
      List.length_cons, List.filter_cons] at ih ⊢
    rcases hprio with e | e | e | e <;> simp only [e] <;> simp <;> omega

/-- Of a list in deck order the higher PRIO comes in front, and among equals the lower deck index. -/
theorem frontFirst_ordered {l : List ObjSel} (h : l.Pairwise (fun a b => a.idx < b.idx)) :
    (frontFirst l).Pairwise (fun a b => b.prio < a.prio ∨ (a.prio = b.prio ∧ a.idx < b.idx)) := by
  have hsame : ∀ p, ∀ a ∈ l.filter (fun o => o.prio = p), a.prio = p := fun p a ha => by
    simpa using (List.mem_filter.1 ha).2
  refine List.pairwise_flatMap.2 ⟨fun p _ => ?_, ?_⟩
  · refine (h.filter _).imp_of_mem fun ha hb hab => .inr ⟨?_, hab⟩
    rw [hsame p _ ha, hsame p _ hb]
  · have hdown : [3, 2, 1, 0].Pairwise (fun p q : Nat => q < p) := by decide
    exact hdown.imp fun hqp a ha b hb => .inl (by rwa [hsame _ a ha, hsame _ b hb])

/-! ### The deck (R196, R203) -/

/-- Entry `i` of the deck at the 64-byte unit `base` of Tarn. -/
def DevMem.entryAt (m : DevMem) (base i : Nat) : ObjSel :=
  let w (k : Nat) : W24 := m.word24 (base * 64) (4 * i + k)
  ⟨i, w 0, w 1, w 2, w 3⟩

/-- Entry `i` off a byte string that begins with it. -/
def entryOf (i : Nat) (bs : List Byte) : ObjSel :=
  let w (k : Nat) : W24 := BitVec.ofNat 24 (ofLe ((bs.drop (3 * k)).take 3))
  ⟨i, w 0, w 1, w 2, w 3⟩

theorem deckEntries_eq : ∀ (n i : Nat) (bs : List Byte),
    deckEntries n i bs = (List.range n).map (fun k => entryOf (i + k) (bs.drop (12 * k)))
  | 0, _, _ => rfl
  | n + 1, i, bs => by
    rw [deckEntries, deckEntries_eq n, List.range_succ_eq_map]
    simp [entryOf, Nat.add_assoc, Nat.add_comm 1, Nat.mul_add, Nat.add_comm 12]

theorem DevMem.entryOf_readBytes {m : DevMem} (h : m.wf = true) (base : Nat) {count i : Nat} (hi : i < count) :
    entryOf i ((m.readBytes (base * 64) (12 * count)).drop (12 * i)) = m.entryAt base i := by
  have hword : ∀ k < 4, (((m.readBytes (base * 64) (12 * count)).drop (12 * i)).drop (3 * k)).take 3 =
      m.readBytes (base * 64 + 3 * (4 * i + k)) 3 := fun k hk => by
    rw [List.drop_drop, DevMem.readBytes_part h _ (by omega)]
    congr 1
    omega
  simp only [entryOf, DevMem.entryAt, DevMem.word24, hword 0 (by decide), hword 1 (by decide), hword 2 (by decide),
    hword 3 (by decide)]

/-- Entries of a deck that meet a line, in deck order. -/
def DevMem.deckMeets (m : DevMem) (base count : Nat) (ofs : Word) (size : Nat × Nat) (y : Nat) : List ObjSel :=
  ((List.range count).map (m.entryAt base)).filter (fun o => o.meets ofs size.1 size.2 y)

theorem DevMem.mem_deckMeets {m : DevMem} {base count : Nat} {ofs : Word} {size : Nat × Nat} {y : Nat} {o : ObjSel} :
    o ∈ m.deckMeets base count ofs size y ↔
      ∃ i < count, o = m.entryAt base i ∧ o.meets ofs size.1 size.2 y = true := by
  simp only [DevMem.deckMeets, List.mem_filter, List.mem_map, List.mem_range]
  constructor
  · rintro ⟨⟨i, hi, rfl⟩, hm⟩
    exact ⟨i, hi, rfl, hm⟩
  · rintro ⟨i, hi, rfl, hm⟩
    exact ⟨⟨i, hi, rfl⟩, hm⟩

theorem DevMem.deckMeets_ordered (m : DevMem) (base count : Nat) (ofs : Word) (size : Nat × Nat) (y : Nat) :
    (m.deckMeets base count ofs size y).Pairwise (fun a b => a.idx < b.idx) := by
  have hdeck : ((List.range count).map (m.entryAt base)).Pairwise (fun a b => a.idx < b.idx) :=
    List.pairwise_map.2 List.pairwise_lt_range
  exact hdeck.filter _

theorem State.headBytes_current {s : State} (h : s.oldPages = []) (n : Fin 6) : s.headBytes n = s.mem.readBytes := by
  funext a len
  simp [State.headBytes, h]

/-- A deck that lies in Tarn is read whole. -/
theorem State.deckHits_inTarn {s : State} (hm : s.mem.wf = true) {deck count ofs : Word} {size : Nat × Nat} {y : Nat}
    (hb : bits deck 19 0 % 3 = 0)
    (ht : bits deck 19 0 * 64 + 12 * min (bits count 16 0) 65536 ≤ s.tarnTop) :
    (s.deckHits s.mem.readBytes deck count ofs size y).1 =
      s.mem.deckMeets (bits deck 19 0) (min (bits count 16 0) 65536) ofs size y := by
  have havail : min (min (bits count 16 0) 65536) ((s.tarnTop - bits deck 19 0 * 64) / 12) =
      min (bits count 16 0) 65536 := by omega
  simp only [State.deckHits, hb, ne_eq, not_true_eq_false, if_false, havail, DevMem.deckMeets, deckEntries_eq]
  congr 1
  refine List.map_congr_left fun i hi => ?_
  rw [Nat.zero_add]
  exact DevMem.entryOf_readBytes hm _ (List.mem_range.1 hi)

/-! ### The end of an evaluation (R207 to R210) -/

theorem objCfg_apart (n : Nat) : (F.OBJ_STAT_CFG n).Apart (F.OBJ_STAT_OVF n) := ⟨by simp, rfl, rfl, rfl, by simp⟩

theorem objFetch_apart (n : Nat) : (F.OBJ_STAT_FETCH n).Apart (F.OBJ_STAT_OVF n) :=
  ⟨by simp, rfl, rfl, rfl, by simp⟩

/-- The records of a line are records, and where there were too many objects OVF shows it. -/
theorem State.recordEval_noted (s : State) (n : Fin 6) (line : Nat) (r : EvalRec) :
    LineNoted n s (s.recordEval n line r) ∧
      (1024 < r.hits → (s.recordEval n line r).flag (F.OBJ_STAT_OVF n) = true) := by
  unfold State.recordEval
  extract_lets dropped fr demand counted was raised place record total cfg fetch none' free first
  have hcounted : LineNoted n s counted := LineNoted.refl.modTot.count.count
  have hraised : LineNoted n s raised := hcounted.incF.raiseOvf
  have hovf : raised.flag (F.OBJ_STAT_OVF n) = true := State.flag_raiseF_self _ (by simp) rfl
  have hplace : LineNoted n raised place := .ite .refl LineNoted.refl.setF.setF
  have hrecord : LineNoted n raised record := .ite hplace hplace.modTot.faultHead
  have htotal : LineNoted n s total ∧ (1024 < r.hits → total.flag (F.OBJ_STAT_OVF n) = true) := by
    unfold total
    split
    next e => exact ⟨hcounted, fun hd => absurd e (by omega)⟩
    next => exact ⟨(hraised.trans hrecord).modTot, fun _ => hrecord.modTot.ovf hovf⟩
  have hcfg : LineNoted n total cfg := .ite (LineNoted.refl.raiseBesideOvf (objCfg_apart n)) .refl
  have hfetch : LineNoted n total fetch := .ite (hcfg.raiseBesideOvf (objFetch_apart n)) hcfg
  have hfree : LineNoted n total free := .ite (hfetch.step rfl rfl (.refl _ _)) hfetch
  have hend : ∀ {u}, LineNoted n total u →
      LineNoted n s u ∧ (1024 < r.hits → u.flag (F.OBJ_STAT_OVF n) = true) := fun hu =>
    ⟨htotal.1.trans hu, fun hd => hu.ovf (htotal.2 hd)⟩
  clear_value first
  cases first with
  | some d => exact hend (.ite hfree hfree.modTot.faultHead)
  | none => exact hend hfree

/-- The list of a line of the frame in work is complete. -/
theorem State.evaluationEnd_inFrame {s : State} {n : Fin 6} {y : Nat} (he : (s.head n).ev.evalLine = some y)
    (hy : y ≠ 0 ∨ ((s.head n).line = 0 ∧ (s.head n).lineOn = false)) :
    s.evaluationEnd n =
      (s.modEv n (fun e => { e with evalLine := none })).recordEval n y (s.head n).ev.found := by
  have hwrapped :
      (!(Decidable.decide (y = 0)) || (Decidable.decide ((s.head n).line = 0) && !(s.head n).lineOn)) = true := by
    rcases hy with h | ⟨h, k⟩ <;> simp [*]
  simp only [State.evaluationEnd, he, hwrapped, if_true]

/-! ### The start of a line (R244, R245) -/

/-- What a head takes up with a new line. -/
def HeadSt.beginLine (y : Nat) (h : HeadSt) : HeadSt :=
  { h with line := y, lineOn := true, chunk := 0, composing := h.composes y
           ev := if h.composes y then { h.ev with objs := h.ev.evalObjs, objOfs := h.ev.evalOfs } else h.ev }

theorem HeadSt.beginLine_composed {h : HeadSt} {y : Nat} (hc : h.composes y = true) : h.beginLine y =
    { h with line := y, lineOn := true, chunk := 0, composing := h.composes y
             ev := { h.ev with objs := h.ev.evalObjs, objOfs := h.ev.evalOfs } } := by
  rw [HeadSt.beginLine, if_pos hc]

theorem HeadSt.beginLine_uncomposed {h : HeadSt} {y : Nat} (hc : h.composes y = false) : h.beginLine y =
    { h with line := y, lineOn := true, chunk := 0, composing := h.composes y } := by
  rw [HeadSt.beginLine, if_neg (by simp [hc])]

/-- The evaluation that starts with line `y`: that of the line after (R206, R213). -/
def State.evalAfter (s : State) (n : Fin 6) (y : Nat) : State :=
  if (s.head n).composes (y + 1) then
    if s.evaluates n then
      s.startEval n (y + 1) (s.useReg .OBJ_DECK n 0) (s.useReg .OBJ_COUNT n 0) (s.useReg .OBJ_OFS n 0)
        ((s.head n).info.w, (s.head n).info.h)
    else s.noEval n (s.useReg .OBJ_OFS n 0)
  else s.modEv n (fun e => { e with evalFor := if e.evalFor = some y then none else e.evalFor })

/-- A line starts, records are made, and the next evaluation starts. -/
theorem State.startLine_noted {s : State} {n : Fin 6} (hq : (s.head n).queue = []) (y : Nat) (l : Int) (past : Bool) :
    ∃ u, LineNoted n (s.modHead n (HeadSt.beginLine y)) u ∧ s.startLine n y l past = u.evalAfter n y := by
  unfold State.startLine
  extract_lets h0 composed lead stood low begun checked judged ready
  have hbegun : LineNoted n (s.modHead n (HeadSt.beginLine y)) begun := by
    have hlead : LineNoted n s lead := LineNoted.refl.setF
    unfold begun
    split
    next hc =>
      simp only [low, stood, State.modTot, State.modEv, State.modHead_modHead]
      exact hlead.modHead_both (by rw [HeadSt.beginLine_composed hc]; rfl)
    next hc =>
      simp only [low, stood, State.modTot, State.modHead_modHead]
      exact hlead.modHead_both (by rw [HeadSt.beginLine_uncomposed (by simpa using hc)]; rfl)
  have hchecked : LineNoted n (s.modHead n (HeadSt.beginLine y)) checked :=
    (hbegun.landAt (by rw [State.head_modHead_self]; exact hq) 0).meldCheck
  have hjudged : LineNoted n (s.modHead n (HeadSt.beginLine y)) judged := .ite hchecked.judgeLine.count hchecked
  exact ⟨ready, .ite hjudged.lineChecks hjudged, rfl⟩

theorem HeadSt.scanTo_eq (h : HeadSt) (scan : Nat) : ∃ c, h.scanTo scan = { h with sc := c } := by
  unfold HeadSt.scanTo
  extract_lets
  split <;> exact ⟨_, rfl⟩

/-- The line that the compose beam is to start next. -/
def HeadSt.nextLine (h : HeadSt) : Nat := if h.lineOn then h.line + 1 else h.line

/-- The next line may start: the work on the last one has ended, the scan beam is within T′ and the list is whole. -/
def HeadSt.mayStart (h : HeadSt) (scan : Nat) : Prop :=
  h.composing = false ∧ h.nextLine < h.vTotal ∧ h.lead h.nextLine (h.scanNow scan) ≤ h.paceT ∧
    ¬ (h.composes h.nextLine = true ∧ h.ev.evalLine = some h.nextLine)

theorem HeadSt.not_mayStart_iff (h : HeadSt) (scan : Nat) :
    (h.composing || decide (h.vTotal ≤ h.nextLine) || decide ((h.paceT : Int) < h.lead h.nextLine (h.scanNow scan)) ||
      (h.composes h.nextLine && decide (h.ev.evalLine = some h.nextLine))) = true ↔ ¬ h.mayStart scan := by
  simp only [HeadSt.mayStart, Bool.or_eq_true, Bool.and_eq_true, decide_eq_true_eq, Classical.not_and_iff_not_or_not,
    Classical.not_not, not_or, Bool.not_eq_false, Nat.not_lt, Int.not_le, or_assoc]

/-- COMPOSE_LINE_START sees the scan beam, and starts the next line where it may. -/
theorem State.composeLineStart_eq {s : State} {n : Fin 6} (hb : s.beamsRun n = true) (scan : Nat) :
    let h := (s.head n).scanTo scan
    (¬ h.mayStart scan → s.composeLineStart n scan = s.modHead n (fun _ => h)) ∧
    (h.mayStart scan → ∃ l past,
      s.composeLineStart n scan = (s.modHead n (fun h => h.scanTo scan)).startLine n h.nextLine l past) := by
  intro h
  unfold State.composeLineStart
  simp only [hb, Bool.not_true, Bool.false_eq_true, if_false, State.head_modHead_self]
  exact ⟨fun hm => if_pos ((h.not_mayStart_iff scan).2 hm),
    fun hm => ⟨_, _, if_neg (mt (h.not_mayStart_iff scan).1 (not_not_intro hm))⟩⟩

/-- From `s` to `u` head `n`, its scan beam seen on line `scan`, began its next line, and records were made. -/
theorem State.composeLineStart_noted {s : State} {n : Fin 6} {scan : Nat} (hb : s.beamsRun n = true)
    (hq : (s.head n).queue = []) (hm : ((s.head n).scanTo scan).mayStart scan) :
    let h := (s.head n).scanTo scan
    ∃ u, LineNoted n (s.modHead n (fun _ => h.beginLine h.nextLine)) u ∧
      s.composeLineStart n scan = u.evalAfter n h.nextLine := by
  intro h
  obtain ⟨l, past, hstart⟩ := (State.composeLineStart_eq hb scan).2 hm
  have hqueue : ((s.modHead n (fun h => h.scanTo scan)).head n).queue = [] := by
    obtain ⟨c, hc⟩ := (s.head n).scanTo_eq scan
    rw [State.head_modHead_self, hc]
    exact hq
  obtain ⟨u, hu, hline⟩ := State.startLine_noted hqueue h.nextLine l past
  rw [State.modHead_modHead] at hu
  exact ⟨u, hu, hstart.trans hline⟩

/-! ### The evaluation of the line after (R203, R206, R213) -/

theorem State.evaluates_modHead (s : State) {n : Fin 6} {f : HeadSt → HeadSt}
    (hfb : (f (s.head n)).fb = (s.head n).fb) (hcoast : (f (s.head n)).coast = (s.head n).coast)
    (hearly : (f (s.head n)).early = (s.head n).early) :
    (s.modHead n f).evaluates n = s.evaluates n := by
  have huse : (s.modHead n f).use (F.OBJ_CTL_EN n) = s.use (F.OBJ_CTL_EN n) := rfl
  simp only [State.evaluates, State.head_modHead_self, huse, hfb, hcoast, hearly]

theorem State.evalAfter_modEv (s : State) (n : Fin 6) (y : Nat) :
    ∃ f, s.evalAfter n y = s.modEv n f ∧ ∀ e, (f e).objs = e.objs := by
  unfold State.evalAfter
  split
  · split
    · unfold State.startEval
      refine ⟨_, rfl, ?_⟩
      exact fun _ => rfl
    · refine ⟨_, rfl, ?_⟩
      exact fun _ => rfl
  · refine ⟨_, rfl, ?_⟩
    exact fun _ => rfl

theorem State.evalAfter_startEval {s : State} {n : Fin 6} {y : Nat} (hc : (s.head n).composes (y + 1) = true)
    (he : s.evaluates n = true) : s.evalAfter n y =
      s.startEval n (y + 1) (s.useReg .OBJ_DECK n 0) (s.useReg .OBJ_COUNT n 0) (s.useReg .OBJ_OFS n 0)
        ((s.head n).info.w, (s.head n).info.h) := by
  rw [State.evalAfter, if_pos hc, if_pos he]

theorem State.startEval_line (s : State) (n : Fin 6) (y : Nat) (deck count ofs : Word) (size : Nat × Nat) :
    ((s.startEval n y deck count ofs size).head n).ev.evalLine = some y := by
  rw [State.startEval, State.modEv, State.head_modHead_self]

/-- The evaluation of a line but the first takes the deck in memory as it stands. -/
theorem State.startEval_list {s : State} {n : Fin 6} {y : Nat} {deck count ofs : Word} {size : Nat × Nat}
    (hy : y ≠ 0) (hold : s.oldPages = []) (hm : s.mem.wf = true) (hb : bits deck 19 0 % 3 = 0)
    (ht : bits deck 19 0 * 64 + 12 * min (bits count 16 0) 65536 ≤ s.tarnTop) :
    let hits := s.mem.deckMeets (bits deck 19 0) (min (bits count 16 0) 65536) ofs size y
    ((s.startEval n y deck count ofs size).head n).ev.evalObjs = (frontFirst hits).take 1024 ∧
      ((s.startEval n y deck count ofs size).head n).ev.found.hits = (frontFirst hits).length := by
  intro hits
  have hhits : (s.deckHits (s.headBytes n) deck count ofs size y).1 = hits := by
    rw [State.headBytes_current hold]
    exact State.deckHits_inTarn hm hb ht
  simp only [State.startEval, State.modEv, State.head_modHead_self, hy, ne_eq, not_false_eq_true, decide_true,
    Bool.true_or, if_true, hhits, length_frontFirst, and_self]

section
variable {n : Fin 6} {s u : State} {h : HeadSt} {y : Nat} (hu : LineNoted n (s.modHead n (fun _ => h.beginLine y)) u)
include hu

theorem LineNoted.begun_self : (u.head n).core = (h.beginLine y).core := by
  rw [hu.self, State.head_modHead_self]

theorem LineNoted.begun_composes (k : Nat) : (u.head n).composes k = h.composes k :=
  (congrArg (fun x : HeadSt => x.composes k) hu.begun_self :)

theorem LineNoted.begun_frame : (u.head n).frame = h.frame := (congrArg HeadSt.frame hu.begun_self :)

theorem LineNoted.begun_info : (u.head n).info = h.info := (congrArg HeadSt.info hu.begun_self :)

theorem LineNoted.begun_evaluates {c : ScanSt} (hc : h = { s.head n with sc := c }) :
    u.evaluates n = s.evaluates n := by
  subst hc
  exact hu.evaluates.trans (s.evaluates_modHead rfl rfl rfl)

end

/-- What the start of a line does to its head, and what it leaves (R204, R206, R244, R245). -/
theorem State.composeLineStart_spec {s : State} {n : Fin 6} {scan : Nat} (hb : s.beamsRun n = true)
    (hq : (s.head n).queue = []) (hm : ((s.head n).scanTo scan).mayStart scan) :
    let h := (s.head n).scanTo scan
    let t := s.composeLineStart n scan
    t.mem = s.mem ∧ t.trk = s.trk ∧ (∀ m, m ≠ n → t.head m = s.head m) ∧ (t.head n).frame = h.frame ∧
      (t.head n).line = h.nextLine ∧ (t.head n).lineOn = true ∧ (t.head n).chunk = 0 ∧
      (t.head n).composing = h.composes h.nextLine ∧
      (h.composes h.nextLine = true → (t.head n).ev.objs = h.ev.evalObjs) ∧
      (h.composes (h.nextLine + 1) = true → s.evaluates n = true →
        (t.head n).ev.evalLine = some (h.nextLine + 1)) := by
  intro h t
  obtain ⟨c, hc⟩ := (s.head n).scanTo_eq scan
  obtain ⟨u, hu, ht⟩ := State.composeLineStart_noted hb hq hm
  obtain ⟨f, hf, hobjs⟩ := u.evalAfter_modEv n h.nextLine
  have ht' : t = u.modEv n f := ht.trans hf
  have hself := hu.begun_self
  have hhead : t.head n = { u.head n with ev := f (u.head n).ev } := by
    rw [ht', State.modEv, State.head_modHead_self]
  refine ⟨?_, ?_, fun m hmn => ?_, ?_, ?_, ?_, ?_, ?_, fun hcomp => ?_, fun hcomp heval => ?_⟩
  · rw [ht']; exact hu.mem
  · rw [ht']; exact hu.trk
  · rw [ht', State.modEv, State.head_modHead_ne _ hmn, hu.others m hmn, State.head_modHead_ne _ hmn]
  · rw [hhead]; exact hu.begun_frame
  · rw [hhead]; exact (congrArg HeadSt.line hself :)
  · rw [hhead]; exact (congrArg HeadSt.lineOn hself :)
  · rw [hhead]; exact (congrArg HeadSt.chunk hself :)
  · rw [hhead]; exact (congrArg HeadSt.composing hself :)
  · rw [hhead, hobjs]
    rw [HeadSt.beginLine_composed hcomp] at hself
    exact (congrArg (fun x : HeadSt => x.ev.objs) hself :)
  · have hstart := State.evalAfter_startEval ((hu.begun_composes _).trans hcomp) ((hu.begun_evaluates hc).trans heval)
    rw [show t = _ from ht.trans hstart]
    exact State.startEval_line ..

/-- The list of the line after is made of the deck as it stands when the line starts (R198, R203, R213). -/
theorem State.composeLineStart_list {s : State} {n : Fin 6} {scan : Nat} (hb : s.beamsRun n = true)
    (hq : (s.head n).queue = []) (hm : ((s.head n).scanTo scan).mayStart scan) (hold : s.oldPages = [])
    (hwf : s.mem.wf = true) (he : s.evaluates n = true) :
    let h := (s.head n).scanTo scan
    let base := bits (s.useReg .OBJ_DECK n 0) 19 0
    let count := min (bits (s.useReg .OBJ_COUNT n 0) 16 0) 65536
    let hits := s.mem.deckMeets base count (s.useReg .OBJ_OFS n 0) (h.info.w, h.info.h) (h.nextLine + 1)
    let t := s.composeLineStart n scan
    h.composes (h.nextLine + 1) = true → base % 3 = 0 → base * 64 + 12 * count ≤ s.tarnTop →
      (t.head n).ev.evalObjs = (frontFirst hits).take 1024 ∧ (t.head n).ev.found.hits = (frontFirst hits).length := by
  intro h base count hits t hcomp hbase htop
  obtain ⟨c, hc⟩ := (s.head n).scanTo_eq scan
  obtain ⟨u, hu, ht⟩ := State.composeLineStart_noted hb hq hm
  have hstart := State.evalAfter_startEval ((hu.begun_composes _).trans hcomp) ((hu.begun_evaluates hc).trans he)
  rw [hu.useReg (r := .OBJ_DECK) (by simp [evalRegs]), hu.useReg (r := .OBJ_COUNT) (by simp [evalRegs]),
    hu.useReg (r := .OBJ_OFS) (by simp [evalRegs]), hu.begun_info] at hstart
  have hmem : u.mem = s.mem := hu.mem
  have hlists := State.startEval_list (s := u) (n := n) (deck := s.useReg .OBJ_DECK n 0)
    (count := s.useReg .OBJ_COUNT n 0) (ofs := s.useReg .OBJ_OFS n 0) (size := (h.info.w, h.info.h))
    (Nat.succ_ne_zero h.nextLine) (hu.oldPages.trans hold) (by rw [hmem]; exact hwf) hbase
    (by rw [hu.tarnTop]; exact htop)
  rw [hmem] at hlists
  rw [show t = _ from ht.trans hstart]
  exact hlists

/-- The end of an evaluation (R205, R207). -/
theorem State.evaluationEnd_spec {s : State} {n : Fin 6} {y : Nat} (he : (s.head n).ev.evalLine = some y)
    (hy : y ≠ 0 ∨ ((s.head n).line = 0 ∧ (s.head n).lineOn = false)) :
    (s.evaluationEnd n).mem = s.mem ∧ (∀ m, m ≠ n → (s.evaluationEnd n).head m = s.head m) ∧
      ((s.evaluationEnd n).head n).ev = { (s.head n).ev with evalLine := none } ∧
      (1024 < (s.head n).ev.found.hits → (s.evaluationEnd n).flag (F.OBJ_STAT_OVF n) = true) := by
  rw [State.evaluationEnd_inFrame he hy]
  obtain ⟨hnoted, hovf⟩ :=
    (s.modEv n (fun e => { e with evalLine := none })).recordEval_noted n y (s.head n).ev.found
  refine ⟨hnoted.mem, fun m hmn => ?_, ?_, hovf⟩
  · rw [hnoted.others m hmn, State.modEv, State.head_modHead_ne _ hmn]
  · have hself := hnoted.self
    rw [State.modEv, State.head_modHead_self] at hself
    exact (congrArg HeadSt.ev hself :)

/-- Settles O31: a line starts with records made and the next evaluation started, and that evaluation takes the entries
of the deck that meet its line, sorted stably by PRIO. -/
theorem linesAndObjects : Obligations.LinesAndObjects := by
  refine ⟨fun s n scan hb hq => ?_, fun s n scan y => ?_⟩
  · intro h next lead may
    by_cases hm : may
    · obtain ⟨hmem, htrk, hother, hframe, hline, hon, hchunk, hcomp, hobjs, heval⟩ :=
        State.composeLineStart_spec hb hq hm
      exact ⟨_, rfl, hmem, htrk, hother, hframe,
        fun _ => ⟨hline, hon, hchunk, hcomp, hobjs, heval⟩, fun hno => absurd hm hno⟩
    · have hwait : s.composeLineStart n scan = s.modHead n (fun _ => h) := (State.composeLineStart_eq hb scan).1 hm
      exact ⟨_, congrArg Host.Outcome.next hwait, rfl, rfl, fun m hmn => s.head_modHead_ne hmn _,
        by rw [State.head_modHead_self], fun hyes => absurd hyes hm, fun _ => rfl⟩
  · intro h next base count entry
    obtain ⟨c, hc⟩ := (s.head n).scanTo_eq scan
    refine ⟨fun hb hq hold hwf hidle hlast hlead hlist hcomp heval hbase htop => ?_, fun halive he hy => ?_⟩
    · have hqueue : (s.head n).queue = [] := (congrArg HeadSt.queue hc).symm.trans hq
      have hmay : h.mayStart scan := ⟨hidle, hlast, hlead, hlist⟩
      obtain ⟨hobjs, hhits⟩ := State.composeLineStart_list hb hqueue hmay hold hwf heval hcomp hbase htop
      obtain ⟨-, -, -, -, -, -, -, -, -, hline⟩ := State.composeLineStart_spec hb hqueue hmay
      have hsorted := frontFirst_ordered (s.mem.deckMeets_ordered base count (s.useReg .OBJ_OFS n 0)
        (h.info.w, h.info.h) (h.nextLine + 1))
      refine ⟨_, _, rfl, fun o => ?_, hsorted, hobjs, hhits, hline hcomp heval⟩
      exact mem_frontFirst.trans DevMem.mem_deckMeets
    · exact ⟨_, congrArg Host.Outcome.next (if_pos halive), State.evaluationEnd_spec he hy⟩

end Sys2Proof.Machine
end

section
/-!
PROOF. Composed chunks (for O32): the bytes of a chunk in its slot of the strip ring, and what composing one changes.
-/

set_option Elab.async false  -- the joined text is large: no thread per declaration

namespace Sys2Proof.Machine

/-! ### The bytes of a chunk (R241) -/

theorem length_pxBytes (ps : List (W24 × Bool)) : (pxBytes ps).length = 3 * ps.length := by
  induction ps with
  | nil => rfl
  | cons p ps ih =>
    simp only [pxBytes, List.flatMap_cons, List.length_append, length_leBytes, List.length_cons] at ih ⊢
    omega

theorem length_maskBytes (ps : List (W24 × Bool)) : (maskBytes ps).length = cdiv ps.length 8 := by simp [maskBytes]

theorem getD_pxBytes {j : Nat} (hj : j < 3) : ∀ {ps : List (W24 × Bool)} {k : Nat} (hk : k < ps.length),
    (pxBytes ps).getD (3 * k + j) 0 = (leBytes 3 ps[k].1.toNat).getD j 0
  | p :: ps, 0, _ => by
    rw [pxBytes, List.flatMap_cons, List.getD_append _ _ _ _ (by rw [length_leBytes]; omega)]
    simp
  | p :: ps, k + 1, hk => by
    rw [pxBytes, List.flatMap_cons, List.getD_append_right _ _ _ _ (by rw [length_leBytes]; omega), length_leBytes,
      show 3 * (k + 1) + j - 3 = 3 * k + j by omega]
    exact getD_pxBytes hj (by simpa using hk)

theorem sum_maskBits (ps : List (W24 × Bool)) (k : Nat) :
    ((ps.zipIdx k).map (fun e => if e.1.2 then 2 ^ e.2 else 0)).sum =
      2 ^ k * ps.foldr (fun p m => Nat.bit p.2 m) 0 := by
  induction ps generalizing k with
  | nil => simp
  | cons p ps ih =>
    rw [List.zipIdx_cons, List.map_cons, List.sum_cons, ih, List.foldr_cons, Nat.bit_val]
    cases p.2 <;> simp [Nat.pow_succ] <;> ring

theorem testBit_maskBits (ps : List (W24 × Bool)) (i : Nat) :
    (ps.foldr (fun p m => Nat.bit p.2 m) 0).testBit i = (ps[i]?.map (·.2)).getD false := by
  induction ps generalizing i with
  | nil => simp
  | cons p ps ih =>
    cases i with
    | zero => simp
    | succ i => rw [List.foldr_cons, Nat.testBit_bit_succ, ih, List.getElem?_cons_succ]

/-- Bit `k` of the mask bytes is the mask bit of pixel `k`. -/
theorem getLsbD_maskBytes {ps : List (W24 × Bool)} {k : Nat} (hk : k < ps.length) :
    ((maskBytes ps).getD (k / 8) 0).getLsbD (k % 8) = ps[k].2 := by
  have hbyte : k / 8 < cdiv ps.length 8 := by unfold cdiv; omega
  have hpick : ((ps.drop (8 * (k / 8))).take 8)[k % 8]? = some ps[k] := by
    rw [List.getElem?_take_of_lt (by omega), List.getElem?_drop, Nat.div_add_mod, List.getElem?_eq_getElem hk]
  have hget : (maskBytes ps).getD (k / 8) 0 =
      BitVec.ofNat 8 (((ps.drop (8 * (k / 8))).take 8).foldr (fun p m => Nat.bit p.2 m) 0) := by
    simp only [maskBytes, sum_maskBits, Nat.pow_zero, Nat.one_mul]
    rw [List.getD_eq_getElem _ _ (by simpa using hbyte)]
    simp
  rw [hget, BitVec.getLsbD_ofNat, testBit_maskBits, hpick]
  simp [Nat.mod_lt]

/-! ### A chunk in the ring -/

section
variable {s : State} (hm : s.mem.wf = true) {c : SinkCfg} {w line chunk : Nat} {ps : List (W24 × Bool)}
include hm

/-- A byte of the slot reads as its chunk has it, pixels and behind them mask bits. -/
theorem State.read_ringWrite (a : Nat) :
    let px := c.slotAt w line + 48 * chunk
    let mask := c.slotAt w line + cdiv (3 * w) 64 * 64 + 2 * chunk
    (s.ringWrite c w line chunk ps).mem.read a =
      if mask ≤ a ∧ a < mask + cdiv ps.length 8 then (maskBytes ps).getD (a - mask) 0
      else if px ≤ a ∧ a < px + 3 * ps.length then (pxBytes ps).getD (a - px) 0 else s.mem.read a := by
  intro px mask
  simp only [State.ringWrite, State.poke]
  rw [DevMem.read_writeBytes (DevMem.wf_writeBytes hm _ _), DevMem.read_writeBytes hm, length_maskBytes,
    length_pxBytes]

/-- Memory outside the chunk and its mask bits keeps its content. -/
theorem State.read_ringWrite_outside {a : Nat}
    (hpx : ¬ (c.slotAt w line + 48 * chunk ≤ a ∧ a < c.slotAt w line + 48 * chunk + 3 * ps.length))
    (hmask : ¬ (c.slotAt w line + cdiv (3 * w) 64 * 64 + 2 * chunk ≤ a ∧
      a < c.slotAt w line + cdiv (3 * w) 64 * 64 + 2 * chunk + cdiv ps.length 8)) :
    (s.ringWrite c w line chunk ps).mem.read a = s.mem.read a := by
  rw [State.read_ringWrite hm, if_neg hmask, if_neg hpx]

theorem State.wf_ringWrite : (s.ringWrite c w line chunk ps).mem.wf = true := State.wf_poke (State.wf_poke hm _ _) _ _

/-- Pixels read as written: those of a slot end before its mask bits begin. -/
theorem State.word24_ringWrite {k : Nat} (hk : k < ps.length) (hfit : chunk * 16 + ps.length ≤ w) :
    (s.ringWrite c w line chunk ps).mem.word24 (c.slotAt w line) (chunk * 16 + k) = ps[k].1 := by
  have hbefore : 48 * chunk + 3 * ps.length ≤ cdiv (3 * w) 64 * 64 := by unfold cdiv; omega
  refine DevMem.word24_of_reads (State.wf_ringWrite hm) fun j hj => ?_
  rw [State.read_ringWrite hm, if_neg (by omega), if_pos (by omega), ← getD_pxBytes hj hk]
  congr 1
  omega

theorem State.maskBit_ringWrite {k : Nat} (hk : k < ps.length) :
    ((s.ringWrite c w line chunk ps).mem.read
      (c.slotAt w line + cdiv (3 * w) 64 * 64 + 2 * chunk + k / 8)).getLsbD (k % 8) = ps[k].2 := by
  have hbyte : k / 8 < cdiv ps.length 8 := by unfold cdiv; omega
  rw [State.read_ringWrite hm, if_pos (by omega), Nat.add_sub_cancel_left]
  exact getLsbD_maskBytes hk

end

/-! ### What composing a chunk changes (R199, R247) -/

/-- The pixels of the chunk that head `n` composes next, with their mask bits. -/
def State.chunkPixels (s : State) (n : Fin 6) : List (W24 × Bool) :=
  ((List.range (min 16 ((s.head n).info.w - (s.head n).chunk * 16))).map (fun k =>
    s.composePx n ((s.head n).chunk * 16 + k) (s.head n).line)).map (fun c => (c.out, c.mask))

/-- The beam goes on to the next chunk, or its line is done. -/
def HeadSt.chunkDone (last : Bool) (h : HeadSt) : HeadSt := { h with chunk := h.chunk + 1, composing := !last }

/-- A chunk is given to the strip ring alone. -/
theorem State.sinkChunk_ring {s : State} {n : Fin 6} (hbad : (s.head n).sk.sinkBad = false)
    (hp : (s.head n).path (s.head n).sk.sinkC = 0) (hwb : (s.head n).sk.wbCur = none) (line chunk : Nat)
    (ps : List (W24 × Bool)) :
    s.sinkChunk n line chunk ps = s.ringWrite (s.head n).sk.sinkC (s.head n).info.w line chunk ps := by
  simp only [State.sinkChunk, hbad, hp, hwb, Bool.false_eq_true, if_false]

section
variable {n : Fin 6} {s t : State} (h : LineNoted n s t)
include h

theorem LineNoted.sinkChunk (hbad : (s.head n).sk.sinkBad = false) (hp : (s.head n).path (s.head n).sk.sinkC = 0)
    (hwb : (s.head n).sk.wbCur = none) (line chunk : Nat) (ps : List (W24 × Bool)) :
    LineNoted n (s.ringWrite (s.head n).sk.sinkC (s.head n).info.w line chunk ps) (t.sinkChunk n line chunk ps) := by
  have hsk : (t.head n).sk = (s.head n).sk := (congrArg HeadSt.sk h.self :)
  have hinfo : (t.head n).info = (s.head n).info := (congrArg HeadSt.info h.self :)
  have hpath : ∀ c, (t.head n).path c = (s.head n).path c := fun c => (congrArg (fun x : HeadSt => x.path c) h.self :)
  rw [State.sinkChunk_ring (by rw [hsk, hbad]) (by rw [hpath, hsk, hp]) (by rw [hsk, hwb]), hsk, hinfo]
  exact (h.poke _ _).poke _ _

theorem LineNoted.chunkDone (last : Bool) :
    LineNoted n (s.modHead n (HeadSt.chunkDone last)) (t.modHead n (HeadSt.chunkDone last)) :=
  h.modHead_both (congrArg (HeadSt.chunkDone last) h.self :)

end

/-- A chunk goes into the ring, the beam moves on, and records are made. -/
theorem State.composeChunk_noted {s : State} {n : Fin 6} (hb : s.beamsRun n = true) (hc : (s.head n).composing = true)
    (hq : (s.head n).queue = []) (hslot : s.slotUnread n = false) (hbad : (s.head n).sk.sinkBad = false)
    (hp : (s.head n).path (s.head n).sk.sinkC = 0) (hwb : (s.head n).sk.wbCur = none) :
    let h := s.head n
    LineNoted n ((s.ringWrite h.sk.sinkC h.info.w h.line h.chunk (s.chunkPixels n)).modHead n
      (HeadSt.chunkDone (h.info.w ≤ h.chunk * 16 + 16))) (s.composeChunk n) := by
  unfold State.composeChunk
  extract_lets h w x cs ps beyond fen ops kept sunk marked noted last done
  rw [if_neg (by simp [h, hb, hc, hslot])]
  have hsunk : LineNoted n (s.ringWrite h.sk.sinkC w h.line h.chunk (s.chunkPixels n)) sunk :=
    (LineNoted.refl.keepHeaders.sinkChunk hbad hp hwb h.line h.chunk ps).count
  have hnoted : LineNoted n (s.ringWrite h.sk.sinkC w h.line h.chunk (s.chunkPixels n)) noted :=
    (hsunk.foldl fun h => h.setF.planeFault).fenErrors
  have hdone := hnoted.chunkDone last
  exact .ite hdone (hdone.landAt (by rw [State.head_modHead_self]; exact hq) _).meldCheck.breachChecks

theorem State.length_chunkPixels (s : State) (n : Fin 6) :
    (s.chunkPixels n).length = min 16 ((s.head n).info.w - (s.head n).chunk * 16) := by
  simp [State.chunkPixels]

theorem State.getElem_chunkPixels (s : State) (n : Fin 6) {k : Nat} (hk : k < (s.chunkPixels n).length) :
    (s.chunkPixels n)[k] = ((s.composePx n ((s.head n).chunk * 16 + k) (s.head n).line).out,
      (s.composePx n ((s.head n).chunk * 16 + k) (s.head n).line).mask) := by
  simp [State.chunkPixels]

/-- Settles O32: composing a chunk writes its pixels and its mask bits into the ring, and makes records beside. -/
theorem composeChunks : Obligations.ComposeChunks := by
  intro s n hb hc hq h c w x cnt slot mask hslot hbad hp hwb hx hm
  have hlen : (s.chunkPixels n).length = cnt := s.length_chunkPixels n
  have hfit : h.chunk * 16 + (s.chunkPixels n).length ≤ w := by omega
  have hdone := State.composeChunk_noted hb hc hq hslot hbad hp hwb
  have hmem : (s.composeChunk n).mem = (s.ringWrite c w h.line h.chunk (s.chunkPixels n)).mem := hdone.mem
  have hself := hdone.self
  rw [State.head_modHead_self] at hself
  refine ⟨_, rfl, fun m hmn => ?_, (congrArg HeadSt.chunk hself :), ?_, (congrArg HeadSt.line hself :),
    (congrArg HeadSt.frame hself :), fun k hk => ?_, fun a hpx hmask => ?_⟩
  · rw [hdone.others m hmn, State.head_modHead_ne _ hmn]
    rfl
  · have hcomp : ((s.composeChunk n).head n).composing = !decide (w ≤ x + 16) := (congrArg HeadSt.composing hself :)
    rw [hcomp, ← decide_not]
    exact decide_eq_decide.2 Nat.not_le
  · have hk' : k < (s.chunkPixels n).length := hlen.symm ▸ hk
    have hword := State.word24_ringWrite (c := c) (line := h.line) hm hk' hfit
    have hbit := State.maskBit_ringWrite (c := c) (w := w) (line := h.line) (chunk := h.chunk) hm hk'
    rw [s.getElem_chunkPixels n hk', ← hmem] at hword hbit
    exact ⟨hword, hbit⟩
  · rw [hmem, State.read_ringWrite_outside hm (fun hin => ?_) (by rw [hlen]; exact hmask)]
    have hin : slot + 48 * h.chunk ≤ a ∧ a < slot + 48 * h.chunk + 3 * (s.chunkPixels n).length := hin
    exact hpx (by omega)

end Sys2Proof.Machine
end
